-- ==== Sys2Proof/Word.lean ====
section
/-! DEFINITION. The machine's word and byte, and their plainest arithmetic. -/

namespace Sys2Proof

/-- A register: every register is 32 bits wide (R3). -/
abbrev Word := BitVec 32

/-- The smallest unit of the Pantry, the Attic and of packet payloads. -/
abbrev Byte := BitVec 8

/-- A word from a number, modulo 2^32. -/
abbrev word (n : Nat) : Word := BitVec.ofNat 32 n

end Sys2Proof
end

