-- ==== Sys2Proof/Machine/Bits.lean ====
section
/-! DEFINITION. Bit fields, byte order, saturation and signed readings, as the spec writes them: bit
ranges are [msb:lsb] (spec/00_scope.md), integer arithmetic is exact unless a width is stated. -/

namespace Sys2Proof.Machine

/-- Bits [hi:lo] of a natural number. -/
def bits (n hi lo : Nat) : Nat := n / 2 ^ lo % 2 ^ (hi + 1 - lo)

/-- Bit i of a natural number, as a truth value. -/
def bit (n i : Nat) : Bool := n / 2 ^ i % 2 == 1

/-- 1 for true, 0 for false. -/
def b2n (b : Bool) : Nat := if b then 1 else 0

/-- The field [hi:lo] of a word. -/
def wget (w : Word) (hi lo : Nat) : Nat := bits w.toNat hi lo

/-- The word with its field [hi:lo] replaced by the low bits of v. -/
def wset (w : Word) (hi lo v : Nat) : Word :=
  word (w.toNat - bits w.toNat hi lo * 2 ^ lo + v % 2 ^ (hi + 1 - lo) * 2 ^ lo)

/-- The number with bit i set. -/
def setBit (n i : Nat) : Nat := if bit n i then n else n + 2 ^ i

/-- The number with bit i cleared. -/
def clrBit (n i : Nat) : Nat := if bit n i then n - 2 ^ i else n

/-- The number with bit i set to b. -/
def putBit (n i : Nat) (b : Bool) : Nat := if b then setBit n i else clrBit n i

/-- The two's complement reading of the low w bits. -/
def signed (w n : Nat) : Int :=
  let m := n % 2 ^ w
  if m < 2 ^ (w - 1) then (m : Int) else (m : Int) - (2 ^ w : Nat)

/-- The two's complement code of an integer in w bits. -/
def unsigned (w : Nat) (i : Int) : Nat := (i % (2 ^ w : Nat)).toNat

/-- A value kept inside a closed range (R504: the nearest legal value). -/
def clampN (lo hi n : Nat) : Nat := if n < lo then lo else if hi < n then hi else n

/-- An integer kept inside a closed range. -/
def clampI (lo hi n : Int) : Int := if n < lo then lo else if hi < n then hi else n

/-- Addition that saturates at the largest value of w bits. -/
def satAdd (w a b : Nat) : Nat := min (a + b) (2 ^ w - 1)

/-- Division rounded up. -/
def divUp (a b : Nat) : Nat := (a + b - 1) / b

/-- The number whose bytes, least significant first, are given. -/
def leNat : List Byte → Nat
  | [] => 0
  | b :: bs => b.toNat + 256 * leNat bs

/-- The n bytes of a number, least significant first. -/
def leBytes : Nat → Nat → List Byte
  | 0, _ => []
  | n + 1, v => BitVec.ofNat 8 v :: leBytes n (v / 256)

/-- The numbers from a, n of them. -/
def rangeFrom (a n : Nat) : List Nat := (List.range n).map (· + a)

/-! ### Checks (R135, R138) -/

/-- One bit of the CRC-8 of R135. -/
def crc8Bit (r b : Nat) : Nat := Nat.xor (r * 2 % 256) (if r / 128 % 2 = b then 0 else 7)

/-- The CRC-8 of R135 over bytes, each most significant bit first. -/
def crc8 (bs : List Byte) : Nat :=
  bs.foldl (fun r b => [7, 6, 5, 4, 3, 2, 1, 0].foldl (fun r i => crc8Bit r (b2n (bit b.toNat i))) r) 0

/-- One bit of the CRC-32 of R138, reflected: 0xEDB88320 is the polynomial 0x04C11DB7 with its bits reversed. -/
def crcBit (v : Nat) : Nat := if v % 2 = 1 then Nat.xor (v / 2) 0xEDB88320 else v / 2

/-- The CRC register after one byte. -/
def crcByte (v : Nat) (b : Byte) : Nat := (List.range 8).foldl (fun v _ => crcBit v) (Nat.xor v b.toNat)

/-- The CRC-32 of R138. -/
def crc32 (bs : List Byte) : Nat := Nat.xor (bs.foldl crcByte 0xFFFFFFFF) 0xFFFFFFFF

end Sys2Proof.Machine
end

