-- ==== Sys2Proof/Machine/Types.lean ====
section
/-! DEFINITION. What the commands carry and the queues hold: packets, their sources and destinations,
fault messages, and who makes an access. -/

namespace Sys2Proof.Machine

/-- Who makes a register access: the host of partition n (0 to 31), the BMC (32), the debug port (33)
or Ecseric on its own behalf (R12, R13, R31, R585). -/
inductive Who where
  | part (p : Fin 32)
  | bmc
  | debug
  | fw
  deriving DecidableEq, Repr, Inhabited

/-- Master codes of an access (Table 11.2). -/
inductive Master where
  | host | card | flacon | engine | fabric | firmware | debug
  deriving DecidableEq, Repr, Inhabited

/-- The code of a master (Table 11.2). -/
def Master.code : Master → Nat
  | .host => 0 | .card => 1 | .flacon => 2 | .engine => 3 | .fabric => 4 | .firmware => 5 | .debug => 6

/-- Privileged masters (R390). -/
def Master.privileged : Master → Bool
  | .firmware | .debug => true
  | _ => false

/-- The kinds of a transaction layer packet that the spec tells apart. -/
inductive PktKind where
  | memWr | memRd | memRdLk | ioWr | ioRd | cfgWr | cfgRd | atomic | dmWr | msg | cpl
  deriving DecidableEq, Repr, Inhabited

/-- The ordering class of a packet (R188, R205). -/
inductive Cat where
  | posted | nonPosted | completion
  deriving DecidableEq, Repr, Inhabited

/-- Completion status codes of PCI Express. -/
inductive CplStatus where
  | sc | ur | rrs | ca
  deriving DecidableEq, Repr, Inhabited

/-- Where a packet enters the header lookup (Table 5.4, R23, R25, R423), or the device itself for the
completions and messages that it makes. -/
inductive Src where
  | port (n : Nat)
  | engine (e : Nat)
  | firmware
  | segment
  | tim
  | device
  deriving DecidableEq, Repr, Inhabited

/-- A source that is a port. -/
def Src.isPort : Src → Bool
  | .port _ => true
  | _ => false

/-- A destination resolved at step 4 of Table 5.1 (R176), or the requester inside the device to which a completion returns
(R184, R193). -/
inductive Dest where
  | port (n : Nat)
  | pantry (t : Nat)
  | legacy
  | mgmt
  | requester (s : Src)
  deriving DecidableEq, Repr, Inhabited

/-- The body of a DISC packet (Table 6.4). -/
structure DiscBody where
  op : Nat := 1
  status : Nat := 0
  hopCnt : Nat := 0
  hopIdx : Nat := 0
  tag : Nat := 0
  addr : Nat := 0
  hops : List Nat := []
  data : Word := 0
  deriving DecidableEq, Repr, Inhabited

/-- The two words of the body of an EVENT packet (R338). -/
structure EventBody where
  w0 : Nat := 0
  w1 : Nat := 0
  deriving DecidableEq, Repr, Inhabited

/-- The fabric header (Table 6.1), with the encapsulation word of a TYPE 0x1 packet (Table 6.2) and the
body of a DISC or EVENT packet. -/
structure FabHdr where
  typ : Nat := 1
  hops : Nat := 16
  lenWords : Nat := 1
  dstChip : Nat := 0
  srcChip : Nat := 0
  dstDomain : Nat := 0
  srcDomain : Nat := 0
  vh : Nat := 0
  colour : Nat := 0
  spread : Nat := 0
  disc : DiscBody := {}
  event : EventBody := {}
  deriving DecidableEq, Repr, Inhabited

/-- A packet: a TLP, or the TLP inside a fabric packet with its header. -/
structure Packet where
  kind : PktKind := .memWr
  cls : Nat := 0
  addr : Nat := 0
  len : Nat := 0
  hdrBytes : Nat := 16
  data : List Byte := []
  rid : Nat := 0
  tag : Nat := 0
  pasid : Option Nat := none
  /-- The Execute and Privileged bits beside the PASID (R262). -/
  exec : Bool := false
  priv : Bool := false
  /-- The byte enables of a write, byte by byte; bytes past the list are enabled. -/
  lanes : List Bool := []
  poisoned : Bool := false
  malformed : Bool := false
  /-- The AT field: 0 untranslated, 1 Translation Request, 2 translated (R84). -/
  addrType : Fin 4 := 0
  ide : Bool := false
  /-- The attributes Relaxed Ordering and ID-based Ordering (R206). -/
  relaxed : Bool := false
  idOrder : Bool := false
  /-- Message code and routing of a `msg` (0 to the Root Complex, 1 by address, 2 by ID, 3 broadcast from the Root
  Complex, 4 local), and the Vendor ID of a vendor-defined one. -/
  msgCode : Nat := 0
  msgRoute : Nat := 0
  vendor : Nat := 0
  /-- The vendor-defined header bytes of a vendor-defined message (Table 9.6). -/
  vdh : Nat := 0
  /-- The bus, device and function that a configuration request or a message by ID names. -/
  idRoute : Nat := 0
  /-- The root port for which the home chip forwards a configuration request to a remote downstream port function (R267, R268);
  how the request names it, the spec does not say (DESIGN CHOICE, log entry 49). -/
  rootPort : Option Nat := none
  status : CplStatus := .sc
  /-- Completer ID and byte count of a completion. -/
  cid : Nat := 0
  byteCount : Nat := 0
  /-- Bytes still owed after this completion. -/
  lastCpl : Bool := true
  /-- The completion of an MRdLk: CplLk, or CplDLk with data (Table 12.2). -/
  locked : Bool := false
  fab : Option FabHdr := none
  deriving DecidableEq, Repr, Inhabited

/-- What tells one TLP from another, as numbers. -/
def Packet.code (p : Packet) : List Nat :=
  [222, p.kind.ctorIdx, p.cls, p.addr, p.len, p.hdrBytes, p.rid, p.tag, p.pasid.getD (2 ^ 20), b2n p.exec, b2n p.priv, b2n p.poisoned, p.addrType.val,
   b2n p.ide, b2n p.relaxed, b2n p.idOrder, p.msgCode, p.msgRoute, p.vendor, p.vdh, p.idRoute, p.status.ctorIdx, p.cid,
   p.byteCount, b2n p.lastCpl, b2n p.locked, p.data.length] ++ p.data.map (·.toNat) ++ p.lanes.map b2n

/-- AT = Translated. -/
def Packet.translated (p : Packet) : Bool := p.addrType == 2

/-- Byte i of a write is enabled. -/
def Packet.laneOn (p : Packet) (i : Nat) : Bool := p.lanes.getD i true

/-- Posted, non-posted or completion (step 2 of Table 5.1). -/
def Packet.cat (p : Packet) : Cat :=
  match p.kind with
  | .memWr | .msg => .posted
  | .cpl => .completion
  | _ => .nonPosted

/-- A fault message (Table 14.3) with the marks that the collector's meta word takes (Table 14.9). -/
structure FaultMsg where
  source : Nat
  kind : Nat
  sev : Nat
  part : Option Nat := none
  handle : Nat := 0
  time : Nat := 0
  forced : Bool := false
  /-- The source's queue was full: the actions are carried out and nothing is logged (R470). -/
  unlogged : Bool := false
  deriving DecidableEq, Repr, Inhabited

/-- What makes the requester colour and the master of an access (R390). -/
structure Standing where
  master : Master := .host
  colour : Nat := 0
  deriving DecidableEq, Repr, Inhabited

/-- A register access as it reaches the management interconnect: who makes it, whether Ecseric makes it for
a Letterbox command (R398, R500), the Requester ID as received and the byte enables (R4). -/
structure Access where
  who : Who
  viaFw : Bool := false
  /-- The master and colour of an access that is not the host's own: a card's, an engine's, a DISC request's. -/
  st : Option Standing := none
  rid : Nat := 0
  be : Nat := 15
  deriving DecidableEq, Repr, Inhabited

/-- All four byte enables are set (R4). -/
def Access.full (a : Access) : Bool := a.be % 16 == 15

/-- What a buffer account a copy's cells are charged to (Table 5.2). -/
inductive Charge where
  | guarantee | slots | shared | mgmt | none
  deriving DecidableEq, Repr, Inhabited

/-- One copy of a packet and its descriptor (R182), in the Cellar or waiting at step 8. -/
structure Copy where
  id : Nat
  /-- The packet's number: the copies of one multicast packet share it. -/
  pid : Nat
  pkt : Packet
  src : Src
  part : Option Nat
  dest : Dest
  stamp : Nat
  /-- Cells of its own (R178); 0 for a copy in parcel cells, whose cells are those of `touch`. -/
  cells : Nat
  /-- Receive slots of a Fleren port that hold part of the packet (R179, R191). -/
  touch : List Nat := []
  charge : Charge
  /-- The Cellar cells of its own that the allocator gave it, in order (R180, R182). -/
  at_ : List Nat := []
  /-- Where it begins in the first of its parcel cells, and its length, in bytes (R179). -/
  off : Nat := 0
  len : Nat := 0
  /-- The number of the received packet that it is a copy of, by which its credits return (R187) and the parcels that
  complete it find it (R150). -/
  rx : Option Nat := none
  first : Bool := true
  deferred : Bool := false
  /-- The last cell has been written and every check has finished (R194, R196). -/
  whole : Bool := true
  started : Bool := false
  resend : Bool := false
  /-- A parcel that holds part of it failed its CRC: it stays until the good copy commits (Table 5.6, R150); `again`: its
  transmission had started and was marked at its tail. -/
  held : Bool := false
  again : Bool := false
  /-- Master and colour under which the gate of its target judged it (R388, R401). -/
  st : Standing := {}
  /-- Chassis time in ns at which it passed the lookup (Table 10.2). -/
  seen : Nat := 0
  /-- Requester ID and tag as received, before a Flacon changed them (R262, R263). -/
  oRid : Nat := 0
  oTag : Nat := 0
  /-- The hierarchy in which its Requester ID and tag stand as it is sent: a partition, 32 for the internal root,
  64 + VH for a packet in transit. -/
  hier : Nat := 32
  /-- The fabric header with which the request was received (R224, R230). -/
  inFab : Option FabHdr := none
  /-- The Flacon through which the request goes. -/
  flc : Option Nat := none
  /-- B_PATH of the route entry that routed the request (R236). -/
  bPath : Nat := 0
  /-- The link-down event of this port made this completion (R479, R117). -/
  synthFor : Option Nat := none
  /-- Partner credit for the copy is lacking at egress (R205). -/
  blocked : Bool := false
  /-- The piece size of an all-ones completion (R480). -/
  pieces : Option Nat := none
  deriving DecidableEq, Repr, Inhabited

/-- A function whose Bus Master Enable is written (R118 to R122). -/
inductive BmeFn where
  | port (n : Fin 96)
  | mgmt (p : Fin 32)
  deriving DecidableEq, Repr, Inhabited

/-- A write of Secondary Bus Reset (Table 3.4), and whether the internal root or an Ecseric command from the Owner makes it
(R107). -/
structure SbrWrite where
  on : Bool
  root : Bool := false
  deriving DecidableEq, Repr, Inhabited

/-- Where a packet enters the device: a port, an engine's window, or the management port on behalf of a partition or of the
internal root (R23, R25). -/
inductive Entry where
  | port (n : Fin 96)
  | engine (e : Fin 1536) (w : Fin 64)
  | firmware (part : Option (Fin 32))
  deriving DecidableEq, Repr, Inhabited

/-- What a control block brings beside the fields that its command names (Table 4.1): TRAIL_CRC and TRAIL_BAD, the body bits
that Table 4.3 does not name, CHECK, and whether its FEC frame could not be corrected (R133). -/
structure BlockRest where
  trailCrc : Word := 0
  trailBad : Bool := false
  spare : Nat := 0
  check : Fin 256 := 0
  damaged : Bool := false
  deriving DecidableEq, Repr, Inhabited

/-- The payload of a parcel as it arrives: its 32 words, the first in data block 0 (R139); how many come before the pad with
which a sender that ran out of data ends a parcel in the middle of a packet (R197); and, as the PCI Express Base
Specification reads them, the TLPs of the TYPE 0x1 packets that begin in it, in order (R222). -/
structure ParcelBody where
  words : List (BitVec 64) := []
  used : Nat := 32
  tlps : List Packet := []
  deriving DecidableEq, Repr, Inhabited

/-- Where an uncorrectable ECC error of the Accord memories lies, if there is one, and where errors have been corrected since
the last report (R346). -/
structure EccAt where
  addr : Option (Fin 2097152)
  corr : List (Fin 2097152) := []
  deriving DecidableEq, Repr, Inhabited

/-- A fault that a source of Tables 14.1 and 14.2 reports and that no other command brings: an error in one of the memories,
a PLL that loses lock, an exception of a management core with its program counter, the watchdog, a message of the firmware,
an error of the flash interface with its address. -/
inductive OwnFault where
  | ecc (source : Fin 480) (corrected : Bool) (addr : Word)
  | pllUnlock (pll : Fin 3)
  | fwException (core : Fin 4) (pc : Word)
  | watchdog
  | fwRaised (sev : Fin 4) (handle : BitVec 64)
  | qspiErr (addr : Word)
  deriving DecidableEq, Repr, Inhabited

/-- Sync headers that a lane tests, in the order received (R155). -/
structure LaneHeaders where
  lane : Fin 16
  headers : List (Fin 4)
  deriving DecidableEq, Repr, Inhabited

/-- What the link layer says of a packet: accepted, a flow control protocol error, or a receiver overflow (Table 3.9). -/
inductive RxState where
  | accepted | flowControl | overflow
  deriving DecidableEq, Repr, Inhabited

/-- How the sending of a copy ends (R196 to R198): every check passed; data ran out; the packet was found bad by a link
check or because its sender said so, or by its length or format. -/
inductive Ending where
  | good | underrun | bad | malformed
  deriving DecidableEq, Repr, Inhabited

/-- What a Fuse Box channel converts at a sample (R456): the codes of VSNS and ISNS. -/
structure FuseReading where
  chan : Fin 24
  v : Fin 65536
  i : Fin 65536
  deriving DecidableEq, Repr, Inhabited

/-- How the far side ends a transaction of the segment (Table 12.2): bytes transferred (all of them, or up to a
disconnect), Retry, a master abort, a target abort, or a parity error on the data. -/
inductive SegOutcome where
  | transfer | retry | masterAbort | targetAbort | parity
  deriving DecidableEq, Repr, Inhabited

/-- Where a target stops a transaction of the bridge: its slot, and the bytes read, or written, before (R419). -/
structure SegStop where
  slot : Fin 16 := 15
  bs : List Byte := []
  n : Nat := 0
  deriving DecidableEq, Repr, Inhabited

/-- The address phase of a segment master (R422, Table 12.4): its address, the slot of the master (0xF when none is known), and
whether the parity of the address, and of the data that it writes, is right. -/
structure SegAddr where
  at_ : Word
  slot : Fin 16 := 15
  parityOk : Bool := true
  dataOk : Bool := true
  deriving DecidableEq, Repr, Inhabited

/-- A step of Ecseric's discovery (spec/06, Procedure): a DISC request sent by a port, a FAB register of this chip written,
the end with the number of chips found, or the end because a request of it completed unsuccessfully or timed out
(R502). -/
inductive DiscoverStep where
  | send (port : Fin 96) (h : FabHdr)
  | store (off : Nat) (v : Word)
  | finish (found : Nat)
  | fail
  deriving DecidableEq, Repr, Inhabited

end Sys2Proof.Machine
end

