-- ==== Sys2Proof/Syntax.lean ====
section
/-! DEFINITION. The commands of the block: one constructor per row of spec/opcode_table.json, in the
table's order, with the row's operands. What a command needs to know of the world outside the device (a
measured value, a received packet, who makes an access) is an operand. -/

namespace Sys2Proof

open Machine

/-- A command. -/
inductive Instr where
  /-- A write to a register that has no row of its own sets, clears or ignores each field by its access code, with
    clamping, locks and drops counted (R8). -/
  | registerWrite (a : Access) (off : Fin 0x10000000) (v : Word)
  /-- A read of an RC field by a requester allowed to clear it returns the value and clears the field (R8). -/
  | readClear (a : Access) (off : Fin 0x10000000)
  /-- A read of the LO half of a 64-bit pair copies HI, and FRAC for TIM_NOW, into the shared snapshot (R5). -/
  | pairLoRead (a : Access) (off : Fin 0x10000000)
  /-- A LO write of a 64-bit pair is held until the HI write (R6). -/
  | pairLoWrite (a : Access) (off : Fin 0x10000000) (v : Word)
  /-- A HI write updates both halves of the pair in one cycle, or discards the held LO value when the write is
    dropped (R6). -/
  | pairHiWrite (a : Access) (off : Fin 0x10000000) (v : Word)
  /-- A write to GLB_MODE.REQ_MODE is clamped and then accepted, refused or dropped under Table 1.7 (R38). -/
  | modeRequest (a : Access) (v : Word)
  /-- When the Cellar is empty, every completion owed has returned and every engine has stopped, MODE takes the
    next mode with LAST_RESULT OK (R42). -/
  | quiesceComplete
  /-- When QUIESCE_LIMIT is reached, stored copies are discarded, engines are reset and the mode changes with
    QUIESCE_FORCED (R42). -/
  | quiesceLimitExpiry
  /-- After a wake event in mode 0xB, the transition to PREV_MODE starts as soon as BUSY is 0 (R43). -/
  | standbyWakeResume
  /-- A write to GLB_TILE_EN in mode 0x9 or 0xA stops or starts the clocks and lanes of each tile (R37). -/
  | tileEnableWrite (a : Access) (v : Word)
  /-- When no REFCLK edge arrives within 64 always-on cycles, the tile stops its lanes, takes its links down and
    raises REF_LOST (R53). -/
  | refLost (t : Fin 12)
  /-- After 1 ms of reference without a gap, REF_OK sets and the lanes relock (R54). -/
  | refRestore (t : Fin 12)
  /-- A Fleren lane that measures a frequency offset above 300 ppm clears CDR_LOCK (R52). -/
  | freqOffsetLoss (l : Fin 192) (ofs : Fin 1024)
  /-- A request for the deep lane state starts entry to DEEP, or places the lane in STANDBY when DEEP_EN is 0
    (R55). -/
  | deepEntry (l : Fin 192)
  /-- The lane reaches DEEP and starts any exit request held during ENTERING (R56). -/
  | deepEntryDone (l : Fin 192)
  /-- A local request or activity at the signal detector starts an exit from DEEP, or sets EXIT_FAIL when no
    reference runs (R57). -/
  | deepExit (l : Fin 192) (activity : Bool)
  /-- The lane reaches ACTIVE and records the exit time in SDS_LN_EXIT_LAST (R57). -/
  | deepExitDone (l : Fin 192) (ns : Fin 65536)
  /-- A lane returns from STANDBY to ACTIVE within 2 µs (R60). -/
  | standbyExit (l : Fin 192)
  /-- A write to SDS_LN_TXEQ is clamped to a legal coefficient set, which takes effect within 500 ns or is held
    during an equalisation phase (R67). -/
  | txeqWrite (a : Access) (l : Fin 192) (v : Word) (inEq : Bool)
  /-- A coefficient set held during a PCI Express equalisation phase takes effect when the phase ends (R68). -/
  | txeqHeldApply (l : Fin 192)
  /-- A partner's coefficient or preset request is accepted when it meets R62 and MODE is 0, and is otherwise
    rejected and counted (R64). -/
  | partnerCoeffRequest (l : Fin 192) (isPreset : Bool) (preset : Fin 16) (pre main post : Fin 1024)
  /-- A write of 1 to SDS_LN_RXCTL.RESTART clears the stored values and starts the coarse search (R69). -/
  | adaptRestart (a : Access) (l : Fin 192) (v : Word)
  /-- A write of FREEZE holds or resumes every equaliser value and the adaptation timeout (R71). -/
  | adaptFreeze (a : Access) (l : Fin 192) (v : Word)
  /-- The equaliser and gain have settled with CDR_LOCK, and the fine search starts (R69). -/
  | coarseDone (l : Fin 192) (ctle vga : Fin 16)
  /-- The fine search ends, the values are stored and tracking begins (R69). -/
  | fineDone (l : Fin 192) (ctle vga : Fin 16) (snr : Fin 256)
  /-- Adaptation has not reached TRACK after 4 ms, so the lane enters FAILED and raises ADAPT_FAIL (R69). -/
  | adaptTimeout (l : Fin 192)
  /-- A write of START begins one eye measurement, or sets NOT_READY or BUSY_LMR (R74). -/
  | eyeStart (a : Access) (l : Fin 192) (v : Word)
  /-- After 2^DWELL samples the eye monitor sets DONE and holds its counts (R74). -/
  | eyeDone (l : Fin 192) (mismatches : Nat)
  /-- A write of ABORT, or a loss of ACTIVE, restart or rate change, ends a measurement as ABORTED (R75). -/
  | eyeAbort (a : Access) (l : Fin 192) (v : Word)
  /-- A Lane Margining at the Receiver command takes the eye monitor for the lane (R103). -/
  | laneMargining (l : Fin 192) (holds : Bool)
  /-- A received TLP, fabric packet, engine write or firmware request passes the steps of the ingress header
    lookup until one disposes of it (R174). -/
  | packetIngress (e : Entry) (p : Packet) (whole : Bool) (rx : RxState)
  /-- A configuration request or a BAR0 access to a management function terminates at the Porch and reaches the
    register blocks (R24). -/
  | configRequest (p : Fin 32) (k : Packet)
  /-- When cells are released, admission is retried, oldest packet of each source first (R190). -/
  | admissionRetry
  /-- A deferred multicast copy is written from the first copy in bank cycles that the replay channel leaves idle
    (R189). -/
  | deferredCopyWrite
  /-- A non-posted request that waits for a Flacon request table entry proceeds once an entry is free (R264). -/
  | reqTableRetry
  /-- At a change of any input the scheduler selects the next copy or parcel class by notes, gates, shapers and
    deficits (R282). -/
  | egressSelection (e : Dest) (arrived blocked : List Nat)
  /-- The last cell of a copy has been read for transmission and its cells return to the free state (R192). -/
  | copySent (id : Nat) (how : Ending)
  /-- A copy nullified after an underrun is sent again in full once its last cell is written (R197). -/
  | underrunResend (id : Nat)
  /-- Every 1 µs the heads of the egress and Pantry queues are tested and aged copies are discarded (R200). -/
  | ageSweep
  /-- An uncorrectable ECC error in a Cellar cell marks or discards the copy and raises CEL_ECC_UNCORR (R181); with no cell,
errors have been corrected in the cells of `corr` and no more. -/
  | cellEccUncorrectable (cell : Option (Fin 393216)) (corr : List (Fin 393216))
  /-- A PCI Express port reaches L0 and DL_Active (R99). -/
  | linkUp (n : Fin 96) (width : Fin 5) (rate : Fin 7) (flit rev : Bool)
  /-- A port returns to Detect without reaching L0 and PRT_TRAIN_FAIL increments (R99). -/
  | trainFail (n : Fin 96) (numbers : Bool)
  /-- A PCI Express port leaves DL_Active or a Fleren port enters DOWN, and the device synthesises completions and
    contains the port (R479). -/
  | linkDown (n : Fin 96) (cause : Fin 7)
  /-- Assertion of PERST_N[p] holds the upstream link in Detect.Quiet and resets partition p (R105). -/
  | perstAssert (p : Fin 32)
  /-- Deassertion of PERST_N[p] starts training and the restore of the partition's configuration (R105). -/
  | perstDeassert (p : Fin 32)
  /-- Ecseric has restored the partition, so its functions stop answering with Request Retry Status (R106). -/
  | partitionRestoreDone (p : Fin 32)
  /-- DL_Down or a Hot Reset on an upstream port resets the partition and sends Hot Reset on its downstream ports
    (R105). -/
  | hotResetReceived (n : Fin 96) (disable : Bool)
  /-- The partition's reset interval ends and it stops discarding and refusing packets (R272). -/
  | partitionResetEnd (p : Fin 32)
  /-- Setting Secondary Bus Reset in a switch port function resets its links and Flacons as Table 3.4 gives
    (R105). -/
  | secondaryBusReset (n : Fin 96) (on : SbrWrite)
  /-- Hot Reset sent on a link ends once its cause has ended and 2 ms have passed (R105). -/
  | hotResetSendEnd (n : Fin 96)
  /-- Setting Link Disable takes the link to Disabled (R105). -/
  | linkDisable (n : Fin 96) (on : Bool)
  /-- A Function Level Reset of a Pleone management function resets it, squashes its Flacons and stops its engines
    (R271). -/
  | flr (p : Fin 32)
  /-- PERST_OUT_N[s] deasserts PERST_DELAY ms after the slot's PG, or 100 ms after it on an unmapped channel
    (R108). -/
  | perstOutDeassert (f : Fin 24)
  /-- A Slot Control write of Attention Indicator Control drives, blinks or releases ATTN_LED_N[s] (R111). -/
  | attentionIndicatorControl (n : Fin 96) (v : Fin 4)
  /-- A Slot Control write of Power Indicator Control drives, blinks or releases PWR_LED_N[s] (R111). -/
  | powerIndicatorControl (n : Fin 96) (v : Fin 4)
  /-- A Slot Control write of Power Controller Control requests power on or off from the slot's Fuse Box channel
    (R111). -/
  | powerControllerControl (n : Fin 96) (off : Bool)
  /-- Command Completed sets within 10 µs of a Slot Control write that changes a control (R112). -/
  | commandCompleted (n : Fin 96)
  /-- ATTN_BTN_N[s] low for 20 ms sets Attention Button Pressed (R111). -/
  | attentionButtonPressed (n : Fin 96)
  /-- A write of 1 to Power Fault Detected releases a latched-off channel (R115). -/
  | powerFaultDetectedClear (n : Fin 96)
  /-- An enabled DPC trigger places a downstream port in containment (R116). -/
  | dpcTrigger (n : Fin 96) (reason : Fin 3)
  /-- A write of the DPC Software Trigger places the port in containment (R116). -/
  | dpcSoftwareTrigger (n : Fin 96)
  /-- A write of 1 to DPC Trigger Status releases containment at once or once every owed completion is issued
    (R117). -/
  | dpcTriggerStatusWrite (n : Fin 96)
  /-- A held DPC release takes effect when the last owed completion is issued (R117). -/
  | dpcRelease (n : Fin 96)
  /-- Clearing Bus Master Enable answers card requests with Unsupported Request and stalls engine and firmware
    requests with MASTER_OFF (R121). -/
  | busMasterEnableClear (f : BmeFn)
  /-- Setting Bus Master Enable again resumes stalled requests in order within 1 µs (R122). -/
  | busMasterEnableSet (f : BmeFn)
  /-- A port enters L1, L1.1 or L1.2 and places its lanes in STANDBY or DEEP (R101). -/
  | l1Entry (n : Fin 96) (sub : Fin 3) (handshake : Bool)
  /-- A port leaves L1 when either end exits electrical idle (R101). -/
  | l1Exit (n : Fin 96)
  /-- A flit-mode port narrows or widens in L0p and idles or wakes its lanes (R104). -/
  | l0pWidthChange (n : Fin 96) (width : Fin 5)
  /-- At a parcel boundary the Fleren sender sends due control blocks, a retransmission, a new parcel or an idle
    (R145). -/
  | parcelBoundary (n : Fin 96) (arrived : List Nat)
  /-- A valid PARCEL head is placed in its slot or discarded with a SACK, ACK or NAK (R147). -/
  | parcelHeadReceive (n : Fin 96) (r : BlockRest) (kind : Fin 16) (cls : Fin 8) (seq : Fin 65536)
  /-- A parcel's trailer arrives and the parcel is held good or NAKed with reason CRC (R148). -/
  | parcelTrailer (n : Fin 96) (b : ParcelBody) (crc : Word) (trailBad readable : Bool) (corr uncorr blocks : Nat)
  /-- A parcel held good with every lower sequence committed and its packets admitted is committed and its slot
    released (R149). -/
  | parcelCommit (n : Fin 96)
  /-- An ACK is sent within 100 ns of any commit not yet acknowledged (R149). -/
  | ackTimer (n : Fin 96)
  /-- A received ACK releases every parcel up to its SEQ from the replay buffer (R143). -/
  | ackReceive (n : Fin 96) (r : BlockRest) (seq : Fin 65536)
  /-- A received NAK makes the named parcel due for retransmission, or takes the link down for SEQ_JUMP (R146). -/
  | nakReceive (n : Fin 96) (r : BlockRest) (seq : Fin 65536) (reason : Fin 8)
  /-- A received SACK stops the named parcel's replay timer (R143). -/
  | sackReceive (n : Fin 96) (r : BlockRest) (seq : Fin 65536)
  /-- A received CREDIT updates the sender's released count of its class (R153). -/
  | creditReceive (n : Fin 96) (r : BlockRest) (cls : Fin 8) (count : Fin 65536)
  /-- A received deskew marker advances alignment and the lane mapping (R156). -/
  | deskewReceive (n : Fin 96) (lane : Fin 16) (r : BlockRest) (no : Fin 16) (width : Fin 8) (mcount : Fin 4096) (skew : Nat)
  /-- A received INIT block updates the parameter match and takes the port to UP when R159 is met (R159). -/
  | initReceive (n : Fin 96) (r : BlockRest) (index : Fin 8) (value : Fin 65536)
  /-- A received LPI request or acceptance advances the low-power handshake (R167). -/
  | lpiReceive (n : Fin 96) (r : BlockRest) (accept : Bool)
  /-- A received RESET control block takes the link down (R161). -/
  | resetReceive (n : Fin 96) (r : BlockRest)
  /-- A parcel's replay timer expires and the parcel becomes due, or a retrain or link down follows (R146). -/
  | replayTimeout (n : Fin 96) (seq : Fin 65536)
  /-- A lane finds 64 valid headers in a row and gains block lock (R155). -/
  | blockLock (n : Fin 96) (lane : LaneHeaders)
  /-- A lane sees 16 invalid headers in a window of 64 and loses block lock (R155). -/
  | blockLockLoss (n : Fin 96) (lane : LaneHeaders)
  /-- A link not UP 4 ms after leaving DISABLED or DOWN counts a training failure and resets (R160). -/
  | bringupTimeout (n : Fin 96)
  /-- After 1 ms in UP with no retrain, RT_COUNT returns to 0 (R161). -/
  | rtCountClear (n : Fin 96)
  /-- A write of PRT_FL_CTL.RETRAIN starts a counted retrain from UP (R161). -/
  | retrain (a : Access) (n : Fin 96) (v : Word)
  /-- A write of PRT_FL_CTL.LINK_RESET takes the Fleren link down and resets it (R161). -/
  | linkReset (a : Access) (n : Fin 96) (v : Word)
  /-- RT_LIMIT passes without completing the retrain, so the port retrains again or goes down (R161). -/
  | retrainTimeout (n : Fin 96)
  /-- An F1 lane without block lock for F1_LOCK_T takes the link down (R173). -/
  | f1LockTimeout (n : Fin 96)
  /-- After 1 ms in DOWN the port performs a link reset and enters HUNT (R161). -/
  | downTimeout (n : Fin 96)
  /-- After LP_IDLE µs without a parcel an idle F2 port sends an LPI request (R166). -/
  | lpIdleTimeout (n : Fin 96)
  /-- A port in LP with traffic to send starts the 30 µs Fleren wake pattern on every lane (R168). -/
  | flerenWake (n : Fin 96)
  /-- After 30 µs of wake pattern the port sends the block stream and retrains uncounted (R168). -/
  | wakePatternDone (n : Fin 96)
  /-- A write of FAB_ROUTE_COMMIT.COMMIT makes the shadow route set live and increments EPOCH (R233). -/
  | routeCommit (a : Access) (v : Word)
  /-- A pair's egress moves after MOVE_QUIET µs without a copy, or at once when the old egress is not live (R234).
    -/
  | routeMove (entry : Fin 128) (bucket : Fin 64)
  /-- A move that has waited 64 × MOVE_QUIET happens anyway and FAB_MOVE_FORCED increments (R234). -/
  | moveForced (entry : Fin 128) (bucket : Fin 64)
  /-- A DISC request is routed, relayed over its hop port or executed with a response (R241). -/
  | discRequest (n : Fin 96) (h : FabHdr)
  /-- A DISC response is relayed back along its hops or routed to its destination (R241). -/
  | discResponse (n : Fin 96) (h : FabHdr)
  /-- A DISC READ whose response has not returned within 1 ms counts as lost (R622). -/
  | discLost (tag : Fin 65536)
  /-- A GLB_FLC_CMD ASSIGN is checked under Table 7.5 and makes the entry ACTIVE (R259). -/
  | flaconAssign (a : Access) (v : Word)
  /-- A GLB_FLC_CMD RESET starts a drain or a squash of the Flacon (R273). -/
  | flaconReset (a : Access) (v : Word)
  /-- A GLB_FLC_CMD REMOVE starts a drain or a squash with final state FREE (R273). -/
  | flaconRemove (a : Access) (v : Word)
  /-- A draining Flacon has no table entry left and its engines have stopped, so it enters RETIRING (R273). -/
  | drainDone (f : Fin 4096)
  /-- The drain limit passes and the Flacon is squashed (R273). -/
  | drainLimitExpiry (f : Fin 4096)
  /-- Every table entry of a RETIRING Flacon has retired, so it returns to ACTIVE or FREE (R273). -/
  | flaconRetired (f : Fin 4096)
  /-- A reserved Flacon table entry retires QUARANTINE ms after its synthesised completion (R275). -/
  | quarantineExpiry (p : Fin 32) (tag : Fin 16384)
  /-- A table entry of an ACTIVE Flacon without completion after QUARANTINE ms is freed and GLB_FLC_STALE
    increments (R266). -/
  | staleEntryTimeout (p : Fin 32) (tag : Fin 16384)
  /-- Every 8 ns each shaper credit gains its rate's share, up to the burst size (R289). -/
  | shaperTick
  /-- Every 8 ns each meter's buckets accrue tokens and held engine writes are metered again (R297). -/
  | tokenTick
  /-- A received TOD frame announces the chassis time of the next SYNC edge, or is ignored as a violation (R309).
    -/
  | todFrame (bs : List Byte)
  /-- At a SYNC edge TIM records err and steps, slews or changes state under Table 9.2 (R311). -/
  | syncEdge
  /-- No SYNC edge for 3 × PERIOD takes TIM to HOLDOVER (R312). -/
  | syncLossTimeout
  /-- No CLK100 edge for 2.56 µs clears CLK100_OK, sets REF_FALLBACK and raises CLK100_LOST (R307). -/
  | clk100Lost
  /-- After 1 ms of CLK100 without a gap, CLK100_OK sets and REF_FALLBACK clears (R307). -/
  | clk100Restore
  /-- As chassis time source the device drives a SYNC edge at each multiple of PERIOD (R313). -/
  | syncOutEdge
  /-- As chassis time source the device sends the frame for the next edge 20 µs before it (R313). -/
  | todFrameSend
  /-- A write of TIM_CFG.SRC moves TIM between following and SOURCE and ends any slew (R314). -/
  | timSrcWrite (a : Access) (v : Word)
  /-- A write of TIM_RATE_ADJ changes the increment from the next Hallway cycle (R315). -/
  | timRateAdj (a : Access) (v : Word)
  /-- A write of GO with STEP 0 spreads OFS_ADJ ns over time at SLEW_PPM (R315). -/
  | timSlew (a : Access) (v : Word)
  /-- A write of GO with STEP 1 adds OFS_ADJ to the count in one cycle and handles the step (R315). -/
  | timStep (a : Access) (v : Word)
  /-- A write of SET places TIM_SET in the count in one cycle and handles the step (R315). -/
  | timSet (a : Access) (v : Word)
  /-- The whole slew amount has been applied and BUSY clears (R315). -/
  | slewDone
  /-- A write of SCH_GCL_CTL.EN turns the gate list on, or off so every class opens and a pending switch is
    cancelled (R318). -/
  | gclEnable (a : Access) (n : Fin 96) (v : Word)
  /-- A write of SWITCH checks the shadow bank and sets PENDING with a computed switch time, or sets ERROR (R319).
    -/
  | gclSwitch (a : Access) (n : Fin 96) (v : Word)
  /-- A write of ABORT cancels the pending switch (R321). -/
  | gclAbort (a : Access) (n : Fin 96) (v : Word)
  /-- At t_sw the new list starts at entry 0, ACTIVE_BANK changes and oversize heads are discarded (R319). -/
  | gclSwitchTime (n : Fin 96)
  /-- An entry's TICKS run out and the gate list moves to its next entry or cycle (R317). -/
  | gclEntryAdvance (n : Fin 96)
  /-- A write of ARM arms a timed action slot, or fires it within 200 ns with LATE when its time has passed
    (R323). -/
  | timedActionArm (a : Access) (slot : Fin 256) (v : Word)
  /-- Chassis time reaches a slot's action time and its action of Table 9.4 takes effect (R322). -/
  | timedActionFire (slot : Fin 256)
  /-- A PULSE ends after WIDTH in elapsed time and the output's drive is released (R327). -/
  | pulseEnd (o : Fin 40)
  /-- A watched TRIG edge is timestamped into the FIFO and matched against the matrix rules (R331). -/
  | trigEdge (line : Fin 16) (release card : Bool) (age : Fin 1024)
  /-- A matching rule acts at t_ref + DELAY, or at once with LATE (R333). -/
  | matrixRuleAct (r : Fin 64)
  /-- A read of TIM_TS_LO removes the oldest FIFO entry and snapshots TIM_TS_HI and TIM_TS_INFO (R331). -/
  | timTsRead (a : Access)
  /-- A TRIG line asserted for STUCK_MS without own drive is marked stuck and ignored (R334). -/
  | trigStuck (line : Fin 16)
  /-- A received event message is matched against the rules that allow its source, or discarded (R336). -/
  | eventMessageReceive (n : Fin 96) (vdh : Word) (data : List Byte)
  /-- A TYPE 0x3 packet delivered locally is taken in as an event from the fabric (R338). -/
  | fabricEventReceive (n : Fin 96) (w0 w1 : BitVec 64)
  /-- A capture write waiting under STALL proceeds once its target record is free (R351). -/
  | captureStallResume (n : Fin 96)
  /-- A write of ACD_JOB_CFG.EN enables the job when every check of Table 10.1 passes (R353). -/
  | jobEnable (a : Access) (t : Fin 12) (j : Fin 32) (v : Word)
  /-- A ready or queued record goes to the lowest-numbered idle engine of its set (R354). -/
  | recordDispatch (t : Fin 12) (j : Fin 32)
  /-- A write of ACD_JOB_CTL.KICK queues one record start (R357). -/
  | kick (a : Access) (t : Fin 12) (j : Fin 32) (v : Word)
  /-- A write of STOP ends dispatch and discards pending starts (R356). -/
  | jobStop (a : Access) (t : Fin 12) (j : Fin 32) (v : Word)
  /-- The last engine of a stopping job is idle and EN clears (R356). -/
  | jobStopDone (t : Fin 12) (j : Fin 32)
  /-- A write of ABORT resets every engine of the job and discards its records and starts (R356). -/
  | jobAbort (a : Access) (t : Fin 12) (j : Fin 32) (v : Word)
  /-- A posted write covering offset 0 of a doorbell page starts value[15:0] records (R378). -/
  | doorbellStart (t : Fin 12) (page : Fin 512) (v : Word)
  /-- Instruction that does nothing (R367). -/
  | nop (e : Fin 1536)
  /-- Instruction that waits for FETCH reads, ends the record, frees its input and lets the next record emit
    (R367). -/
  | done (e : Fin 1536)
  /-- Instruction that ends the record with status PROGRAM (R367). -/
  | fault (e : Fin 1536)
  /-- Instruction that jumps when its condition holds (R367). -/
  | jmp (e : Fin 1536)
  /-- Instruction that loads the loop count (R367). -/
  | setlc (e : Fin 1536)
  /-- Instruction that decrements LC and jumps while it is not 0 (R367). -/
  | djnz (e : Fin 1536)
  /-- Instruction that adds two registers and sets flags (R367). -/
  | add (e : Fin 1536)
  /-- Instruction that subtracts two registers and sets flags (R367). -/
  | sub (e : Fin 1536)
  /-- Instruction that ANDs two registers (R367). -/
  | and (e : Fin 1536)
  /-- Instruction that ORs two registers (R367). -/
  | or (e : Fin 1536)
  /-- Instruction that XORs two registers (R367). -/
  | xor (e : Fin 1536)
  /-- Instruction that shifts left by a register (R367). -/
  | shl (e : Fin 1536)
  /-- Instruction that shifts right logically by a register (R367). -/
  | shr (e : Fin 1536)
  /-- Instruction that shifts right arithmetically by a register (R367). -/
  | sar (e : Fin 1536)
  /-- Instruction that multiplies two registers, signed, keeping the low 32 bits (R367). -/
  | mul (e : Fin 1536)
  /-- Instruction that takes the signed minimum (R367). -/
  | min (e : Fin 1536)
  /-- Instruction that takes the signed maximum (R367). -/
  | max (e : Fin 1536)
  /-- Instruction that sets flags from A − B (R367). -/
  | cmp (e : Fin 1536)
  /-- Instruction that adds an immediate and sets flags (R367). -/
  | addi (e : Fin 1536)
  /-- Instruction that ANDs a zero-extended immediate (R367). -/
  | andi (e : Fin 1536)
  /-- Instruction that ORs a zero-extended immediate (R367). -/
  | ori (e : Fin 1536)
  /-- Instruction that XORs a zero-extended immediate (R367). -/
  | xori (e : Fin 1536)
  /-- Instruction that shifts left by an immediate (R367). -/
  | shli (e : Fin 1536)
  /-- Instruction that shifts right logically by an immediate (R367). -/
  | shri (e : Fin 1536)
  /-- Instruction that shifts right arithmetically by an immediate (R367). -/
  | sari (e : Fin 1536)
  /-- Instruction that sets flags from A − IMM (R367). -/
  | cmpi (e : Fin 1536)
  /-- Instruction that loads half of a scale entry (R367). -/
  | ldc (e : Fin 1536)
  /-- Instruction that copies IP to a register (R367). -/
  | getip (e : Fin 1536)
  /-- Instruction that copies OP to a register (R367). -/
  | getop (e : Fin 1536)
  /-- Instruction that sets IP from a register (R367). -/
  | setip (e : Fin 1536)
  /-- Instruction that sets OP from a register (R367). -/
  | setop (e : Fin 1536)
  /-- Instruction that adds an immediate to IP modulo 2^17 (R367). -/
  | addip (e : Fin 1536)
  /-- Instruction that adds an immediate to OP modulo 2^17 (R367). -/
  | addop (e : Fin 1536)
  /-- Instruction that reads instance 0 of a source field into a register (R367). -/
  | unpk (e : Fin 1536)
  /-- Instruction that converts a register by a target descriptor and its scale entry (R364). -/
  | conv (e : Fin 1536)
  /-- Instruction that writes a register as instance 0 of a target field (R367). -/
  | pack (e : Fin 1536)
  /-- Instruction that converts GC instances from a source field to a target field and advances the pointers
    (R368). -/
  | xfrm (e : Fin 1536)
  /-- Instruction that copies bytes from IP to OP (R367). -/
  | copyb (e : Fin 1536)
  /-- Instruction that writes a register into the staging half (R367). -/
  | putw (e : Fin 1536)
  /-- Instruction that writes 8 bytes of a selected chassis time into the staging half (R367). -/
  | tstamp (e : Fin 1536)
  /-- Instruction that hands the current staging half to the emitter for its destination windows (R369). -/
  | emit (e : Fin 1536)
  /-- Instruction that issues non-posted reads from a destination window into the record (R370). -/
  | fetch (e : Fin 1536)
  /-- Instruction that waits until the record's FETCH reads have completed (R367). -/
  | fwait (e : Fin 1536)
  /-- An engine waiting for record order, the other half, a full window or a meter resumes once its condition
    clears (R380). -/
  | engineWaitResume (e : Fin 1536)
  /-- A FETCH completion lands its data in the record or marks the record for FETCH_ERR (R370). -/
  | fetchCompletion (e : Fin 1536)
  /-- The emitter has sent an emission's writes, writes its report, advances PROD and notifies (R375). -/
  | emissionDone (e : Fin 1536)
  /-- A record over WDOG × 1,024 cycles in RUN ends with status WATCHDOG (R379). -/
  | recordWatchdog (e : Fin 1536)
  /-- A write of ACD_LOAD_CTL.GO starts the copy of an accord image into a range of program stores (R362). -/
  | accordLoad (a : Access) (t : Fin 12) (v : Word)
  /-- The image copy ends and RESULT reads OK, IN_USE, RANGE or ECC (R362). -/
  | accordLoadDone (t : Fin 12) (bad : Bool)
  /-- An uncorrectable error in the Pantry or a program store ends the record or disables the engine (R346). -/
  | pantryEccUncorrectable (t : Fin 12) (store : Bool) (k : Fin 128) (addr : EccAt)
  /-- A write of GAT_COMMIT.COMMIT makes the shadow rules live, increments EPOCH and sets PENDING (R400). -/
  | gateCommit (a : Access) (v : Word)
  /-- Every access of earlier epochs has retired and STATE changes to DONE (R401). -/
  | gateEpochDone
  /-- The bridge starts the next segment queue entry as a PCI transaction (R415). -/
  | segmentTransactionStart (pass : Bool)
  /-- A segment transaction ends and its far-side outcome is answered under Table 12.2 (R419). -/
  | segmentTransactionEnd (how : SegOutcome) (slot : Fin 16) (bs : List Byte) (n : Nat)
  /-- A target holds a data phase for HOLD_TMO clocks, so the bridge ends it as a master abort (R419). -/
  | holdTimeout (stop : SegStop)
  /-- Prefetch buffer data held for PF_AGE × 100 ns is invalidated (R418). -/
  | prefetchAgeExpiry (w : Fin 8)
  /-- An Unlock message releases LOCK# on the segment (R420). -/
  | unlockMessage (p : Option (Fin 32))
  /-- A lock held for LOCK_TMO without Unlock is released with violation 0x69 (R421). -/
  | lockTimeout
  /-- A segment master's write burst in LPB_UP becomes posted writes, or is retried (R423). -/
  | segmentUpstreamWrite (addr : SegAddr) (data : List Byte) (lanes : List Bool)
  /-- A segment master's read is retried and issued as a delayed read, or given its held data (R424). -/
  | segmentUpstreamRead (addr : SegAddr) (cmd : Fin 3) (wide : Bool)
  /-- The completion of a delayed read is held for the repeating master (R424). -/
  | delayedReadCompletion
  /-- Delayed read data not repeated within 2^15 clocks is discarded (R424). -/
  | delayedReadExpiry (r : Fin 4)
  /-- A change of INTx# stable for 1 µs sends Assert_INTx or Deassert_INTx (R425). -/
  | intxChange (x : Fin 4) (asserted : Bool)
  /-- A read of LPB_CFG_DATA issues a Type 0 configuration read (R426). -/
  | lpbCfgRead (a : Access) (resp : Option Word)
  /-- A write of LPB_CFG_DATA issues a Type 0 configuration write (R426). -/
  | lpbCfgWrite (a : Access) (v : Word) (resp : Option Word)
  /-- A granted slot without FRAME# in 16 clocks loses the grant, and after 8 failures becomes BROKEN (R427). -/
  | grantTimeout (started : Bool)
  /-- RST# deasserts 1 ms after the segment clock starts once no cause holds (R428). -/
  | segmentResetDeassert (m66en : Bool)
  /-- SERR# asserted raises LPB_SERR (R429). -/
  | serrAssert (slot : Fin 16)
  /-- Both seating pins low start the debounce count (R435). -/
  | presencePinsLow (f : Fin 24)
  /-- Both pins low for DEBOUNCE set PRESENT and Presence Detect Changed (R435). -/
  | presenceDebounceDone (f : Fin 24)
  /-- A seating pin high for 10 µs clears PRESENT and powers the slot off at once (R454). -/
  | presenceLost (f : Fin 24) (long short : Bool)
  /-- PRSNT_SHORT_N low with PRSNT_LONG_N high for 10 ms is treated as not present (R461). -/
  | shortPinViolation (f : Fin 24)
  /-- A write of FUS_CHAN_CTL.ON is a request event that sets REQ_PEND (R436). -/
  | on (a : Access) (f : Fin 24) (v : Word)
  /-- A write of FUS_CHAN_CTL.OFF asserts PERST_OUT_N and enters PREOFF (R452). -/
  | off (a : Access) (f : Fin 24) (v : Word)
  /-- A write of FUS_CHAN_CTL.RELEASE leaves LATCHED with RETRIES 0 (R448). -/
  | release (a : Access) (f : Fin 24) (v : Word)
  /-- A write of E_CLR sets the energy accumulator to 0 at the next sample boundary (R457). -/
  | eClr (a : Access) (f : Fin 24) (v : Word)
  /-- A write of FUS_CTL.HMIN_CLR restarts the hold-up minimum (R458). -/
  | hminClr (a : Access) (v : Word)
  /-- A write of FUS_CHAN_CFG.EN enables a channel, or disables it after any power-off (R438). -/
  | fusChanEnable (a : Access) (f : Fin 24) (v : Word)
  /-- A channel first in order with a free ramp place enters PRECHARGE or RAMP (R441). -/
  | rampStart (f : Fin 24) (high : Bool)
  /-- A Class P output reaches 97 % of NOM_MV and the channel enters QUALIFY (R439). -/
  | rampComplete (f : Fin 24)
  /-- A Class S output reaches 90 % of NOM_MV and the main gate turns fully on (R440). -/
  | prechargeComplete (f : Fin 24)
  /-- An output below 10 % of NOM_MV 1 ms into a Class S pre-charge trips RAMP_OC (R461). -/
  | prechargeShortCheck (f : Fin 24)
  /-- A ramp phase not completed within RAMP_TMO trips with kind RAMP_TMO (R439). -/
  | rampTimeout (f : Fin 24)
  /-- Current above 2 × RAMP_ILIM during a ramp phase trips with kind RAMP_OC (R442). -/
  | rampOvercurrent (f : Fin 24)
  /-- Current above 3 × ILIM discharges the gate within 1 µs and trips with kind FAST (R443). -/
  | fastTrip (f : Fin 24)
  /-- The fault timer leaves idle and an asserted PG deasserts within 1 µs (R451). -/
  | faultTimerStart (f : Fin 24)
  /-- The fault timer reaches FAULT_T and the channel trips with kind SLOW (R444). -/
  | slowTrip (f : Fin 24)
  /-- Output below UV_PCT for 100 µs trips with kind UV (R445). -/
  | undervoltageTrip (f : Fin 24)
  /-- Output above OV_PCT for 10 µs trips with kind OV (R445). -/
  | overvoltageTrip (f : Fin 24)
  /-- An output that stays or rises with the gate off is recorded as FET_FAIL (R445). -/
  | fetFail (f : Fin 24)
  /-- The fault timer idle for PG_QUAL asserts PG and the channel enters ON (R449). -/
  | pgQualify (f : Fin 24)
  /-- After 100 µs in PREOFF the gate is discharged and PG deasserts (R452). -/
  | preoffEnd (f : Fin 24)
  /-- The output falls below 10 % of NOM_MV or 100 ms pass, ending DISCHARGE (R438). -/
  | dischargeDone (f : Fin 24)
  /-- At the end of COOL the channel retries, latches off or becomes EMPTY (R447). -/
  | coolEnd (f : Fin 24)
  /-- PG asserted for 1 s without a break sets RETRIES to 0 (R448). -/
  | retryClear (f : Fin 24)
  /-- Every 20 µs each channel and the hold-up input convert V and I, and energy accumulates (R456). -/
  | fuseSample (rs : List FuseReading) (hold : Fin 65536)
  /-- The collector takes a fault message, logs it and carries out the actions of its final severity (R469); `own` is one that a
source reports at this instant. -/
  | faultMessage (own : Option OwnFault := none)
  /-- A parity or ECC error in the action table or log raises FLT_SELF and enters the safe state (R487). -/
  | collectorSelfError (log : Bool) (addr : BitVec 64)
  /-- A write to FLT_FORCE_n raises a FORCED message from each named source (R486). -/
  | faultForce (a : Access) (n : Fin 15) (v : Word)
  /-- A write of 1 to FAULT_N_ACT releases FAULT_N outside the safe state (R475). -/
  | faultNRelease (a : Access) (v : Word)
  /-- A write of 1 to a bit of FLT_CONTAIN_PTN releases partition containment (R477). -/
  | partitionContainRelease (a : Access) (v : Word)
  /-- A write of 1 to a bit of FLT_CONTAIN_PORT releases the port's containment (R476). -/
  | portContainRelease (a : Access) (w : Fin 3) (v : Word)
  /-- A write of 1 to FLT_CONTAIN_SEG.SEG releases the legacy segment (R476). -/
  | segmentContainRelease (a : Access) (v : Word)
  /-- An orphan tracker entry retires 4 × B_PATH or QUARANTINE ms after the link-down event (R482). -/
  | orphanRetire (hier : Fin 128) (rid : Fin 65536) (tag : Fin 16384)
  /-- A device requester's completion timer expires, the request completes with Unsupported Request and its tag is
    quarantined (R484). -/
  | completionTimeout (part : Option (Fin 32)) (tag : Fin 16384)
  /-- A quarantined tag returns to its allocator after 4 × limit (R485). -/
  | tagQuarantineExpiry (part : Option (Fin 32)) (tag : Fin 16384)
  /-- A write to LBX_REQ appends a word to the request queue, or is dropped with OVERFLOW (R495). -/
  | lbxReqWrite (n : Fin 34) (be : Fin 16) (v : Word)
  /-- A write of 1 to LBX_DOORBELL.RING submits the request queue as a command (R494). -/
  | ring (n : Fin 34)
  /-- A read of LBX_RSP removes and returns the oldest reply word, or sets UNDERRUN (R495). -/
  | lbxRspRead (n : Fin 34) (be : Fin 16)
  /-- Ecseric writes the reply words and LBX_ACK, sets DONE, clears BUSY and notifies (R494). -/
  | commandAck (n : Fin 34)
  /-- SMBus code 0x01 appends words to the BMC request queue (R497). -/
  | smbBlockWriteReq (ws : List Word) (pecOk : Bool)
  /-- SMBus code 0x02 writes 1 to RING of Letterbox 32 (R497). -/
  | smbRing (data : Byte) (pecOk : Bool)
  /-- SMBus code 0x03 returns and removes every reply word (R497). -/
  | smbReadRsp
  /-- SMBus code 0x04 returns LBX_ACK (R497). -/
  | smbReadAck
  /-- SMBus code 0x05 returns LBX_STATUS (R497). -/
  | smbReadStatus
  /-- SMBus code 0x06 writes LBX_CTL (R497). -/
  | smbWriteCtl (v : Word) (pecOk : Bool)
  /-- The device answers the Alert Response Address and releases SMBALERT# (R497). -/
  | smbAlertResponse
  /-- Command that returns GLB_ID, the firmware version and the caller and Owner indexes (R500). -/
  | ident (n : Fin 34)
  /-- Command that opens or joins an election for ownership, or is answered OWNED (R507). -/
  | claim (n : Fin 34)
  /-- Command by the Owner that renews its lease for the current period (R508). -/
  | renew (n : Fin 34)
  /-- Command RELEASE by which the Owner gives up ownership (R509). -/
  | ownerRelease (n : Fin 34)
  /-- Command that makes a handover of ownership pending to a target (R510). -/
  | handover (n : Fin 34)
  /-- Command by the handover target that takes ownership (R510). -/
  | take (n : Fin 34)
  /-- Command that returns a fresh one-use nonce for expert unlock (R512). -/
  | expertReq (n : Fin 34)
  /-- Command that gives the Owner expert unlock when the nonce is valid and the lifecycle allows it (R512). -/
  | expertUnlock (n : Fin 34)
  /-- Command that ends expert unlock (R512). -/
  | expertLock (n : Fin 34)
  /-- Command that requests a mode through GLB_MODE.REQ_MODE (R31). -/
  | modeSet (n : Fin 34)
  /-- Command that returns GLB_MODE (R500). -/
  | modeGet (n : Fin 34)
  /-- Command that reads a BAR0 offset with the standing of its sender (R500). -/
  | regRead (n : Fin 34)
  /-- Command that writes a BAR0 offset as a direct Owner write and returns the readback (R500). -/
  | regWrite (n : Fin 34)
  /-- Command that writes a port's PRT_PORT_CFG, PRT_PORT_CFG2 and PRT_HP_CFG in mode 0x9 or 0xA (R500). -/
  | portSet (n : Fin 34)
  /-- Command that writes a Flacon entry and GLB_FLC_CMD and returns GLB_FLC_STATUS (R500). -/
  | flacon (n : Fin 34)
  /-- Command that applies ON, OFF or RELEASE to a Fuse Box channel (R500). -/
  | fuse (n : Fin 34)
  /-- Command that applies a rate, slew, step or set to chassis time (R500). -/
  | timeAdj (n : Fin 34)
  /-- Command that issues a configuration read or write on the legacy segment (R500); `late` says that its completion timer
  expires first (R502). -/
  | lpbConfig (n : Fin 34) (resp : Option Word) (late : Bool := false)
  /-- Command that runs the discovery procedure and optionally assigns chip numbers and commits routes (R500). -/
  | discover (n : Fin 34) (x : DiscoverStep)
  /-- Command that checks hold-up energy and writes a new generation of the persistent store (R523). -/
  | storeCommit (n : Fin 34) (flashOk : Bool)
  /-- Command that returns the store generation, status and body length (R500). -/
  | storeInfo (n : Fin 34)
  /-- Command that reads a firmware image from the Owner partition's memory into the target slot (R519). -/
  | fwLoadHost (n : Fin 34)
  /-- Command that writes data words of an image at the next offset (R519). -/
  | fwLoadChunk (n : Fin 34)
  /-- Command that checks the loaded image and programs its header (R520). -/
  | fwFinish (n : Fin 34) (flashOk : Bool)
  /-- Command that returns LBX_FW_STATUS and LBX_FW_VERSION (R500). -/
  | fwInfo (n : Fin 34)
  /-- Command that raises the fused MIN_SVN to the running image's SVN (R521). -/
  | fwSvnCommit (n : Fin 34)
  /-- WIN ms after it opened, the election closes and the winner's lease starts (R507). -/
  | electionClose
  /-- A 100 ms lease period ends, counting a miss and lapsing the lease after the third (R508). -/
  | leasePeriodEnd
  /-- No TAKE within HO_TMO, so HANDOVER is answered with HO_TMO (R510). -/
  | handoverTimeout
  /-- An expert nonce expires 1 s after it was issued (R512). -/
  | nonceExpiry
  /-- RESET_N low for 100 ns or more holds every block in reset and releases every output (R556). -/
  | resetNAssert
  /-- Deassertion of RESET_N starts the boot of Table 15.10, ending in mode 0x9 or the stored target mode (R517).
    -/
  | resetNDeassert
  /-- 10 ms after a successful FW_FINISH in recovery mode the chip resets (R518). -/
  | recoveryReset
  /-- VAON rising through its release level resets the chip and starts the oscillator and CORE_ON and SLOT_ON
    (R558). -/
  | powerOnReset (lost : Bool)
  /-- A write of PWR_CTL.CHIP_RST by the Owner at the expert level resets the chip for 10 µs (R557). -/
  | chipRst (a : Access) (v : Word)
  /-- A write of PWR_CTL.GO in mode 0xB starts entry to the TARGET power state (R529). -/
  | powerGo (a : Access) (v : Word)
  /-- Once the links allow it, PWR carries out the entry steps and reaches the target state (R532). -/
  | powerEntryProceed
  /-- Entry not done within ENTRY_TMO is abandoned with ENTRY_FAIL (R531). -/
  | powerEntryTimeout
  /-- An armed wake source ends a low-power state and is recorded in PWR_WAKE_LAST (R547). -/
  | wakeEvent (src : Fin 7) (idx : Fin 1024) (other : Option (Fin 7 × Fin 1024))
  /-- The core rails become good on exit from PS3 or PS4, the switches close and the Attic is checked (R535). -/
  | coreRailsGood
  /-- The exit reaches PS0 and records its duration (R535). -/
  | powerExitComplete (us : Fin 16777216)
  /-- In PS2 the management domain sleeps again after 10 ms without a RING (R550). -/
  | managementSleep
  /-- The always-on regulator overloads in low-power mode, the Attic is lost and PWR moves to PS4 (R540). -/
  | brownout
  /-- VDD or VAON below its warning level sets WARN, throttles and raises SUPPLY_WARN (R542). -/
  | supplyWarn (vaon : Bool) (mv : Fin 65536)
  /-- The rail above recovery for 10 µs clears WARN and ends the throttle (R543). -/
  | supplyRecovery (vaon : Bool)
  /-- VDD at its reset level resets the device as RESET_N (R544). -/
  | vddLow
  /-- VAON at its reset level records VAON_LOW and resets the always-on domain as POR (R544). -/
  | vaonLow
  /-- Every 1 ms the junction temperature is read and THERMAL and the throttle follow its thresholds (R545). -/
  | temperatureSample (t : Fin 4096)
  /-- The RTC reaches PWR_ALARM, firing once and clearing EN (R549). -/
  | alarm
  /-- The 32.768 kHz crystal starts and XTAL_OK sets (R558). -/
  | xtalStart
  /-- With no enabled tile reference for 1 ms, PLL_UNLOCK is raised (R562). -/
  | pllFreeRunTimeout
  /-- A crossing sees no far-clock edge for its detection window and raises CDC_TIMEOUT (R564). -/
  | cdcTimeout (tile : Option (Fin 12)) (crossing : Fin 256)
  /-- A write of CTR_SNAP.SNAP records the time and asks every unit to copy its counters (R574). -/
  | counterSnapshot (a : Access) (v : Word)
  /-- Every unit has copied its counters, BUSY clears and VALID sets (R574). -/
  | snapshotDone
  /-- A write of FREEZE holds or releases every counter of every unit (R575). -/
  | counterFreeze (a : Access) (v : Word)
  /-- A write of CLEAR sets every counter and snapshot to 0 (R576). -/
  | counterClear (a : Access) (v : Word)
  /-- ARM changing from 0 to 1 starts recording (R581). -/
  | sillageArm (a : Access) (v : Word)
  /-- ARM written to 0 stops recording and keeps the contents (R581). -/
  | sillageDisarm (a : Access) (v : Word)
  /-- A probe's masked event vector changes and Sillage writes a record (R578). -/
  | sillageProbeChange (p : Fin 16) (vector : Fin 65536) (full : Bool)
  /-- A write of FLT_SIL_CTL.TRIG, or the SILLAGE action, records the cause, writes trigger records and enters
    POST (R580). -/
  | sillageTrigger (a : Access) (v : Word)
  /-- POST records have been written since the trigger and Sillage freezes (R581). -/
  | sillagePostDone
  /-- An Update-DR of DBG_DATA starts one gated 32-bit access at DBG_ADDR (R584). -/
  | debugAccess (addr : Option (BitVec 40)) (write read : Bool) (v : Word)
  /-- A debug access completes with STATUS OK, DENIED or ERROR (R584). -/
  | debugAccessDone
  /-- A capture of LC_NONCE returns a fresh nonce valid for one RETURN command (R588). -/
  | lcNonce
  /-- An LC_CMD SECURE in OPEN programs the fuse and sets LC_PENDING (R588). -/
  | lcSecure
  /-- An LC_CMD RETURN in SECURED with a valid nonce and signature programs the fuse (R588). -/
  | lcReturn (nonce : Word) (key sig : List Byte)
  /-- TRST_N or Test-Logic-Reset resets the TAP (R611). -/
  | tapReset
  /-- Boundary-scan instruction that selects the IDCODE register (R611). -/
  | idcode
  /-- Boundary-scan instruction that samples or preloads the boundary register (R611). -/
  | samplePreload (balls preload : List Bool)
  /-- Boundary-scan instruction that drives the balls from the boundary register, or acts as BYPASS outside OPEN
    (R612). -/
  | extest (balls drive : List Bool)
  /-- IEEE 1149.6 instruction that tests the AC-coupled lanes with pulses (R612). -/
  | extestPulse (balls drive : List Bool)
  /-- IEEE 1149.6 instruction that tests the AC-coupled lanes with a pulse train (R612). -/
  | extestTrain (balls drive : List Bool)
  /-- Boundary-scan CLAMP instruction that holds outputs and bypasses (R612). -/
  | boundaryClamp
  /-- Boundary-scan instruction that tri-states outputs except the Fuse Box observe-only balls (R612). -/
  | highz
  /-- Boundary-scan instruction that selects the bypass register (R611). -/
  | bypass
  /-- VDD rising above 0.710 V for 1 ms releases the VDD reset and lets the boot start (R544). -/
  | vddResetRelease
  /-- The internal chip reset of CHIP_RST (10 µs) or of the recovery reset ends, and the boot of Table 15.10
    starts (R557). -/
  | chipResetEnd
  /-- 1 ms after VAON becomes valid at power-on, PWR drives CORE_ON and SLOT_ON high (R558). -/
  | coreOnRise
  /-- 1 ms after the main gate of a Class S channel turns fully on, PCHG_EN turns off and the channel enters
    QUALIFY (R440). -/
  | pchgEnOff (f : Fin 24)
  /-- A legacy slot that asserts REQ# is granted the bus by the arbiter when the bus parks on the bridge (R427).
    -/
  | segmentGrant (reqs : Fin 64)
  /-- Loss of VDDP while the core runs releases every Fuse Box channel as RESET_N does and holds the legacy
    segment in reset (R460). -/
  | vddpLoss
  /-- A 48-bit cycle or programmable counter passes 2^48 − 1, wraps to 0 and sets its OVF or CYC_OVF bit (R568).
    -/
  | counterWrap (u : Fin 4096) (k : Option (Fin 8))
  deriving DecidableEq, Repr

end Sys2Proof
end

