-- ==== Sys2Proof/Config.lean ====
section
/-! DEFINITION. What the spec leaves to chance or to the implementation: values without a body, so that
nothing can be proved of them. -/

namespace Sys2Proof

/-- The n-th value that the device draws where the spec gives none: a random number (R159, R512, R588), a
measured value, an undefined result. Assumption 3. -/
opaque Config.freeValue : Nat → Nat

/-- The free words that an unstated result takes, by what it depends on. -/
opaque Config.freeWord : List Nat → Nat

/-- The SHA-384 of a public key equals the key digest fused in the device (R516): the bytes of PUBKEY. -/
opaque Config.keyOk : List Nat → Bool

/-- An ECDSA P-384 signature verifies (R516, R588): the bytes of PUBKEY, of what is signed, and of the signature. -/
opaque Config.sigOk : List Nat → List Nat → List Nat → Bool

end Sys2Proof
end

