-- ==== Sys2Proof/Machine/RegName.lean ====
section
/-! DEFINITION. Generated from the field tables of spec/ (00 to 17) and the index tables of
spec/19_register_map.md: the names of the device's registers. One constructor per register name; an
instance is named by two indices (`RegKey`, Machine/Store.lean). -/

namespace Sys2Proof.Machine

/-- Every register name of the field tables of the spec (R617). -/
inductive Reg where
  | GLB_ID
  | GLB_MODE
  | GLB_MODE_CFG
  | GLB_TILE_EN
  | GLB_CLAMP_SEEN
  | GLB_PTN_CFG
  | GLB_PTN_HOME
  | GLB_PTN_RDP
  | GLB_PTN_LEND
  | GLB_PTN_STATUS
  | GLB_PTN_RST_DROP
  | GLB_FLC_CMD
  | GLB_FLC_STATUS
  | GLB_FLC_DRAIN_LIMIT
  | GLB_FLC_REQ_FREE
  | GLB_FLC_REFUSED
  | GLB_FLC_LATE
  | GLB_FLC_STALE
  | GLB_FLC_A
  | GLB_FLC_B
  | GLB_FLC_C
  | GLB_FLC_BASE_LO
  | GLB_FLC_BASE_HI
  | LBX_VIEW
  | LBX_OWNER
  | LBX_ELECT_CFG
  | LBX_SMB_CFG
  | LBX_FW_STATUS
  | LBX_FW_VERSION
  | LBX_STORE_STATUS
  | LBX_STORE_GEN
  | LBX_CLAMP_SEEN
  | LBX_DROP
  | FLT_CFG
  | FLT_STATUS
  | FLT_SAFE_CAUSE
  | FLT_CPL_TO
  | FLT_LOG_PROD
  | FLT_LOG_CONS
  | FLT_LOG_LOST
  | FLT_UNEXP_CPL
  | FLT_CPL_TO_CNT
  | FLT_SYNTH_CNT
  | FLT_SEV_CNT
  | FLT_ACT
  | FLT_CONTAIN_PTN
  | FLT_CONTAIN_PORT
  | FLT_CONTAIN_SEG
  | FLT_TRACK_FREE
  | FLT_FORCE
  | FLT_SRC
  | FLT_LOG_W
  | FLT_SIL_CFG
  | FLT_SIL_CTL
  | FLT_SIL_STATUS
  | FLT_SIL_CAUSE
  | FLT_SIL_LOST
  | FLT_SIL_PROBE
  | FLT_SIL_REC_W
  | PWR_CTL
  | PWR_STATUS
  | PWR_CFG
  | PWR_WAKE_EN
  | PWR_WAKE_LAST
  | PWR_WAKE_PEND
  | PWR_WAKE_RTC_LO
  | PWR_WAKE_RTC_HI
  | PWR_RTC_LO
  | PWR_RTC_HI
  | PWR_ALARM_LO
  | PWR_ALARM_HI
  | PWR_ALARM_CTL
  | PWR_LP_BUDGET
  | PWR_SUPPLY
  | PWR_SUPPLY_MIN
  | PWR_TEMP
  | PWR_RESET_CAUSE
  | PWR_EXIT_LAST
  | PWR_CLAMP_SEEN
  | TIM_NOW_LO
  | TIM_NOW_HI
  | TIM_NOW_FRAC
  | TIM_CFG
  | TIM_STATUS
  | TIM_SYNC_CFG
  | TIM_SYNC_ERR
  | TIM_RATE_ADJ
  | TIM_OFS_ADJ
  | TIM_ADJ_CTL
  | TIM_DELAY_COMP
  | TIM_SET_LO
  | TIM_SET_HI
  | TIM_STEP_LO
  | TIM_STEP_HI
  | TIM_TOD_ERR
  | TIM_LATE
  | TIM_ACT_LOST
  | TIM_MSG_DENY
  | TIM_COLLIDE
  | TIM_CLAMP_SEEN
  | TIM_VIOL_LAST
  | TIM_TRIG_CFG
  | TIM_TRIG_STATE
  | TIM_STAR_STATE
  | TIM_TRIG_STUCK
  | TIM_TS_LO
  | TIM_TS_HI
  | TIM_TS_INFO
  | TIM_ACT_A
  | TIM_ACT_B
  | TIM_ACT_TIME_LO
  | TIM_ACT_TIME_HI
  | TIM_ACT_PERIOD
  | TIM_ACT_COUNT
  | TIM_ACT_MASK
  | TIM_MTX_A
  | TIM_MTX_DELAY
  | TIM_MTX_B
  | TIM_MTX_MASK
  | TIM_MTX_SRC_MASK
  | FUS_CFG
  | FUS_STATUS
  | FUS_CTL
  | FUS_CLAMP_SEEN
  | FUS_VIOL_LAST
  | FUS_HOLDUP_CFG
  | FUS_HOLDUP_V
  | FUS_HOLDUP_E
  | FUS_CHAN_CFG
  | FUS_CHAN_LIM
  | FUS_CHAN_TIME
  | FUS_CHAN_RAMP
  | FUS_CHAN_SENSE
  | FUS_CHAN_CTL
  | FUS_CHAN_STATUS
  | FUS_CHAN_VI
  | FUS_CHAN_P
  | FUS_CHAN_E_LO
  | FUS_CHAN_E_HI
  | FUS_CHAN_TRIPS
  | LPB_CFG
  | LPB_STATUS
  | LPB_TMO
  | LPB_TMO2
  | LPB_ARB
  | LPB_CFG_ADDR
  | LPB_CFG_DATA
  | LPB_VIOL_LAST
  | LPB_CLAMP_SEEN
  | LPB_MABORT
  | LPB_TABORT
  | LPB_RETRY
  | LPB_PARITY
  | LPB_PF_HIT
  | LPB_DISCARD
  | LPB_UP_A
  | LPB_UP_SBASE
  | LPB_UP_HBASE_LO
  | LPB_UP_HBASE_HI
  | LPB_WIN_A
  | LPB_WIN_HBASE_LO
  | LPB_WIN_HBASE_HI
  | LPB_WIN_SBASE
  | CTR_SNAP
  | CTR_SNAP_STATUS
  | CTR_SNAP_TIME_LO
  | CTR_SNAP_TIME_HI
  | CTR_SEL
  | CTR_DBG_STATUS
  | GAT_COMMIT
  | GAT_COMMIT_STATUS
  | GAT_LIFECYCLE
  | GAT_CLAMP_SEEN
  | GAT_VIOL_STATUS
  | GAT_VIOL_ADDR_LO
  | GAT_VIOL_ADDR_HI
  | GAT_VIOL_SRC
  | GAT_VIOL_COUNT
  | GAT_GATE_CFG
  | GAT_GATE_DEF
  | GAT_RGN_A
  | GAT_RGN_B
  | GAT_RGN_C
  | GAT_TAG
  | CEL_SHARED_CFG
  | CEL_POOL_STATUS
  | CEL_RSV_STATUS
  | CEL_NP_USE
  | CEL_CLAMP_SEEN
  | CEL_ECC_CORR
  | CEL_ECC_UNCORR
  | CEL_ECC_ADDR
  | CEL_AGED_P
  | CEL_AGED_NP
  | CEL_AGED_CPL
  | HWY_UNDERRUN
  | HWY_TAIL_MARK
  | HWY_MC_DEFER
  | HWY_DESC_FREE
  | CEL_CLASS_CFG
  | CEL_AGE_LIMIT
  | CEL_PORT_CFG
  | CEL_PORT_USE
  | CEL_Q_USE
  | FAB_ID
  | FAB_CFG
  | FAB_ROUTE_COMMIT
  | FAB_UID_LO
  | FAB_UID_HI
  | FAB_SIDE
  | FAB_UP
  | FAB_NOROUTE
  | FAB_TTL_DROP
  | FAB_TRANSIT_DROP
  | FAB_VH_MISS
  | FAB_CLAMP_SEEN
  | FAB_VIOL_LAST
  | FAB_MOVE_FORCED
  | FAB_CRT
  | FAB_DRT_A
  | FAB_DRT_B
  | FAB_GRP_A
  | FAB_GRP_B
  | FAB_GRP_LIVE
  | FAB_VH_MAP
  | FAB_NBR_A
  | FAB_NBR_B
  | FAB_NBR_UID_LO
  | FAB_NBR_UID_HI
  | FAB_FL_BUDGET
  | SDS_LN_CTL
  | SDS_LN_STATUS
  | SDS_LN_PAT_ERR
  | SDS_LN_TXEQ
  | SDS_LN_TXEQ_STAT
  | SDS_LN_EQ_REJ
  | SDS_LN_RXCTL
  | SDS_LN_RXSTAT
  | SDS_LN_EYE_CTL
  | SDS_LN_EYE_STAT
  | SDS_LN_EYE_ERR_LO
  | SDS_LN_EYE_ERR_HI
  | SDS_LN_EYE_CNT_LO
  | SDS_LN_EYE_CNT_HI
  | SDS_LN_PWR
  | SDS_LN_EXIT_LAST
  | SDS_REF_CFG
  | SDS_REF_STATUS
  | SDS_CLAMP_SEEN
  | SDS_QUAD_STATUS
  | PRT_PORT_CFG
  | PRT_PORT_CFG2
  | PRT_LINK_STATUS
  | PRT_HP_CFG
  | PRT_VIOL_LAST
  | PRT_VIOL_COUNT
  | PRT_TRAIN_FAIL
  | PRT_CLAMP_SEEN
  | PRT_FL_CFG
  | PRT_FL_TIMER
  | PRT_FL_CRED_A
  | PRT_FL_CRED_B
  | PRT_FL_CTL
  | PRT_FL_STATUS
  | PRT_FL_SEQ
  | PRT_FL_BUDGET
  | PRT_FL_REPLAY_CNT
  | PRT_FL_RETRAIN_CNT
  | PRT_FL_CRC_ERR
  | PRT_FL_FEC_CORR
  | PRT_FL_FEC_UNCORR
  | PRT_FL_DUP
  | SCH_PORT_CFG
  | SCH_NOTE_MAP
  | SCH_Q_CFG
  | SCH_Q_CREDIT
  | SCH_OVERSIZE
  | SCH_GATE_OVERRUN
  | SCH_FLOW_MAP
  | SCH_CLAMP_SEEN
  | SCH_METER_DROP
  | SCH_METER_HOLD
  | SCH_CTX_A
  | SCH_CTX_CIR
  | SCH_CTX_PIR
  | SCH_CTX_CBS
  | SCH_CTX_PBS
  | SCH_CTX_GREEN
  | SCH_CTX_YELLOW
  | SCH_CTX_RED
  | SCH_GCL_CTL
  | SCH_GCL_STATUS
  | SCH_GCL_BASE_LO
  | SCH_GCL_BASE_HI
  | SCH_GCL_LEN
  | SCH_GCL_SWITCH_AT_LO
  | SCH_GCL_SWITCH_AT_HI
  | SCH_GCL_ENT
  | ACD_CAP_A
  | ACD_CAP_RID
  | ACD_CAP_PASID
  | ACD_CAP_WBASE_LO
  | ACD_CAP_WBASE_HI
  | ACD_CAP_WLEN
  | ACD_CAP_HITS
  | ACD_JOB_CFG
  | ACD_JOB_SET
  | ACD_JOB_RING
  | ACD_JOB_LEN
  | ACD_JOB_STAGE
  | ACD_JOB_DB
  | ACD_JOB_DST
  | ACD_JOB_CTL
  | ACD_JOB_STATUS
  | ACD_JOB_READY
  | ACD_JOB_RECNO
  | ACD_JOB_DONE
  | ACD_JOB_ERR
  | ACD_JOB_LOST
  | ACD_JOB_GAP
  | ACD_DST_A
  | ACD_DST_B
  | ACD_DST_BASE_LO
  | ACD_DST_BASE_HI
  | ACD_DST_RPT_LO
  | ACD_DST_RPT_HI
  | ACD_DST_PROD
  | ACD_DST_DROP
  | ACD_LOAD_CTL
  | ACD_LOAD_SRC
  | ACD_CLAMP_SEEN
  | ACD_ECC_CORR
  | ACD_ECC_UNCORR
  | ACD_ECC_ADDR
  | ACD_ENG_STATUS
  | ACD_ENG_RECNO
  | ACD_ENG_LAST_ERR
  | ACD_PS_INSN
  | ACD_PS_DESC_A
  | ACD_PS_DESC_B
  | ACD_PS_SCALE_LO
  | ACD_PS_SCALE_HI
  | TCT_CYC_LO
  | TCT_CYC_HI
  | TCT_CYC_SNAP_LO
  | TCT_CYC_SNAP_HI
  | TCT_EVT_CFG
  | TCT_UNIT_STATUS
  | TCT_CNT_LO
  | TCT_CNT_HI
  | TCT_SNAP_LO
  | TCT_SNAP_HI
  | LBX_REQ
  | LBX_RSP
  | LBX_DOORBELL
  | LBX_ACK
  | LBX_STATUS
  | LBX_CTL
  deriving DecidableEq, Repr, Inhabited

end Sys2Proof.Machine
end

