-- ==== Sys2Proof/Machine/RegTable.lean ====
section
/-! DEFINITION. Generated from the field tables of spec/ (00 to 17): the fields of every register, with
their access code (R8), reset value (R14, R620) and survival code (R14 to R17). -/

namespace Sys2Proof.Machine

/-- The access codes of a field (R8, Table 0.8 of spec/00_scope.md). -/
inductive Acc where
  | ro | rw | rwx | rc | w1c | w1s | wo | rwl
  deriving DecidableEq, Repr, Inhabited

/-- The survival codes of a field (R14 to R17). -/
inductive Surv where
  | none | pfr | pfrAtt | rst | por
  deriving DecidableEq, Repr, Inhabited

/-- One row of a field table: bits hi down to lo, access, reset value, survival. -/
structure FieldRow where
  hi : Nat
  lo : Nat
  acc : Acc
  reset : Nat
  surv : Surv
  deriving DecidableEq, Repr, Inhabited

/-- The field rows of a register. Bits that no row names are reserved and read 0 (R7). -/
def Reg.fields : Reg → List FieldRow
  | .GLB_ID => [⟨31, 16, .ro, 29074, .por⟩, ⟨15, 12, .ro, 2, .por⟩, ⟨11, 8, .ro, 1, .por⟩]
  | .GLB_MODE => [⟨31, 31, .ro, 0, .none⟩, ⟨23, 16, .ro, 0, .pfr⟩, ⟨15, 12, .ro, 9, .pfrAtt⟩, ⟨7, 4, .rwx, 9, .pfr⟩, ⟨3, 0, .ro, 9, .pfrAtt⟩]
  | .GLB_MODE_CFG => [⟨7, 0, .rwx, 10, .pfr⟩]
  | .GLB_TILE_EN => [⟨11, 0, .rwx, 4095, .pfr⟩]
  | .GLB_CLAMP_SEEN => [⟨31, 16, .ro, 0, .pfr⟩, ⟨15, 0, .ro, 0, .pfr⟩]
  | .GLB_PTN_CFG => [⟨31, 31, .rwx, 0, .pfr⟩, ⟨30, 30, .rwx, 0, .pfr⟩, ⟨27, 24, .rwx, 0, .pfr⟩, ⟨23, 20, .rwx, 0, .pfr⟩]
  | .GLB_PTN_HOME => [⟨31, 31, .rwx, 0, .pfr⟩, ⟨21, 16, .rwx, 0, .pfr⟩, ⟨15, 0, .rwx, 0, .pfr⟩]
  | .GLB_PTN_RDP => [⟨31, 31, .rwx, 0, .pfr⟩, ⟨29, 24, .rwx, 0, .pfr⟩, ⟨23, 17, .rwx, 0, .pfr⟩, ⟨15, 0, .rwx, 0, .pfr⟩]
  | .GLB_PTN_LEND => [⟨31, 0, .rwx, 0, .pfr⟩]
  | .GLB_PTN_STATUS => [⟨31, 31, .ro, 0, .none⟩, ⟨30, 30, .ro, 0, .none⟩, ⟨23, 17, .ro, 0, .none⟩, ⟨16, 13, .ro, 0, .none⟩, ⟨12, 0, .ro, 0, .none⟩]
  | .GLB_PTN_RST_DROP => [⟨31, 0, .rc, 0, .none⟩]
  | .GLB_FLC_CMD => [⟨31, 30, .rwx, 0, .none⟩, ⟨29, 29, .rwx, 0, .none⟩, ⟨11, 0, .rwx, 0, .none⟩]
  | .GLB_FLC_STATUS => [⟨31, 31, .ro, 0, .none⟩, ⟨27, 24, .ro, 0, .none⟩, ⟨11, 0, .ro, 0, .none⟩]
  | .GLB_FLC_DRAIN_LIMIT => [⟨31, 16, .rwx, 200, .pfr⟩, ⟨15, 0, .rwx, 10, .pfr⟩]
  | .GLB_FLC_REQ_FREE => [⟨13, 0, .ro, 8192, .none⟩]
  | .GLB_FLC_REFUSED => [⟨31, 0, .rc, 0, .none⟩]
  | .GLB_FLC_LATE => [⟨31, 0, .rc, 0, .none⟩]
  | .GLB_FLC_STALE => [⟨31, 0, .rc, 0, .none⟩]
  | .GLB_FLC_A => [⟨31, 29, .ro, 0, .pfr⟩, ⟨28, 28, .rwx, 0, .pfr⟩, ⟨27, 24, .rwx, 0, .pfr⟩, ⟨23, 19, .rwx, 0, .pfr⟩, ⟨18, 12, .rwx, 0, .pfr⟩, ⟨11, 6, .rwx, 12, .pfr⟩]
  | .GLB_FLC_B => [⟨19, 0, .rwx, 0, .pfr⟩]
  | .GLB_FLC_C => [⟨22, 0, .rwx, 0, .pfr⟩]
  | .GLB_FLC_BASE_LO => [⟨31, 0, .rwx, 0, .pfr⟩]
  | .GLB_FLC_BASE_HI => [⟨31, 0, .rwx, 0, .pfr⟩]
  | .LBX_VIEW => [⟨31, 0, .ro, 0, .none⟩]
  | .LBX_OWNER => [⟨31, 31, .ro, 0, .pfr⟩, ⟨30, 30, .ro, 0, .pfr⟩, ⟨29, 29, .ro, 0, .pfr⟩, ⟨28, 28, .ro, 0, .pfr⟩, ⟨23, 22, .ro, 0, .pfr⟩, ⟨21, 16, .ro, 0, .pfr⟩, ⟨5, 0, .ro, 63, .pfr⟩]
  | .LBX_ELECT_CFG => [⟨15, 8, .rwx, 50, .pfr⟩, ⟨7, 0, .rwx, 100, .pfr⟩]
  | .LBX_SMB_CFG => [⟨6, 0, .rwx, 90, .pfr⟩]
  | .LBX_FW_STATUS => [⟨31, 31, .ro, 0, .pfr⟩, ⟨30, 30, .ro, 0, .pfr⟩, ⟨29, 28, .ro, 0, .pfr⟩, ⟨27, 27, .ro, 0, .pfr⟩, ⟨15, 8, .ro, 0, .pfr⟩, ⟨7, 0, .ro, 0, .por⟩]
  | .LBX_FW_VERSION => [⟨31, 0, .ro, 0, .pfr⟩]
  | .LBX_STORE_STATUS => [⟨31, 31, .ro, 0, .none⟩, ⟨30, 29, .ro, 0, .pfr⟩, ⟨28, 28, .ro, 0, .pfr⟩, ⟨15, 0, .ro, 0, .pfr⟩]
  | .LBX_STORE_GEN => [⟨31, 0, .ro, 0, .pfr⟩]
  | .LBX_CLAMP_SEEN => [⟨15, 0, .ro, 0, .pfr⟩]
  | .LBX_DROP => [⟨31, 0, .rc, 0, .none⟩]
  | .FLT_CFG => [⟨31, 31, .rwx, 0, .pfr⟩, ⟨5, 0, .rwx, 0, .pfr⟩]
  | .FLT_STATUS => [⟨31, 31, .ro, 0, .none⟩, ⟨30, 30, .w1c, 0, .rst⟩, ⟨29, 29, .w1c, 0, .none⟩, ⟨28, 28, .ro, 0, .none⟩]
  | .FLT_SAFE_CAUSE => [⟨31, 22, .ro, 0, .rst⟩, ⟨21, 14, .ro, 0, .rst⟩]
  | .FLT_CPL_TO => [⟨23, 0, .rwx, 50000, .pfr⟩]
  | .FLT_LOG_PROD => [⟨10, 0, .ro, 0, .rst⟩]
  | .FLT_LOG_CONS => [⟨10, 0, .rwx, 0, .rst⟩]
  | .FLT_LOG_LOST => [⟨31, 0, .rc, 0, .none⟩]
  | .FLT_UNEXP_CPL => [⟨31, 0, .rc, 0, .none⟩]
  | .FLT_CPL_TO_CNT => [⟨31, 0, .rc, 0, .none⟩]
  | .FLT_SYNTH_CNT => [⟨31, 0, .rc, 0, .none⟩]
  | .FLT_SEV_CNT => [⟨31, 0, .rc, 0, .none⟩]
  | .FLT_ACT => [⟨5, 0, .rwx, 0, .pfr⟩]
  | .FLT_CONTAIN_PTN => [⟨31, 0, .w1c, 0, .none⟩]
  | .FLT_CONTAIN_PORT => [⟨31, 0, .w1c, 0, .none⟩]
  | .FLT_CONTAIN_SEG => [⟨0, 0, .w1c, 0, .none⟩]
  | .FLT_TRACK_FREE => [⟨11, 0, .ro, 2048, .none⟩]
  | .FLT_FORCE => [⟨31, 0, .wo, 0, .none⟩]
  | .FLT_SRC => [⟨31, 31, .rwx, 0, .pfr⟩, ⟨30, 30, .rwx, 0, .pfr⟩, ⟨29, 28, .rwx, 0, .pfr⟩, ⟨27, 26, .rwx, 1, .pfr⟩]
  | .FLT_LOG_W => [⟨31, 0, .ro, 0, .rst⟩]
  | .FLT_SIL_CFG => [⟨31, 31, .rw, 0, .pfr⟩, ⟨30, 30, .rw, 0, .pfr⟩, ⟨27, 16, .rw, 1024, .pfr⟩, ⟨15, 0, .rw, 0, .pfr⟩]
  | .FLT_SIL_CTL => [⟨31, 31, .wo, 0, .none⟩]
  | .FLT_SIL_STATUS => [⟨31, 30, .ro, 0, .rst⟩, ⟨29, 29, .ro, 0, .rst⟩, ⟨28, 28, .ro, 0, .rst⟩, ⟨23, 12, .ro, 0, .rst⟩, ⟨11, 0, .ro, 0, .rst⟩]
  | .FLT_SIL_CAUSE => [⟨31, 22, .ro, 0, .rst⟩, ⟨21, 14, .ro, 0, .rst⟩]
  | .FLT_SIL_LOST => [⟨31, 0, .rc, 0, .none⟩]
  | .FLT_SIL_PROBE => [⟨27, 16, .rw, 0, .pfr⟩, ⟨15, 0, .rw, 0, .pfr⟩]
  | .FLT_SIL_REC_W => [⟨31, 0, .ro, 0, .rst⟩]
  | .PWR_CTL => [⟨31, 31, .wo, 0, .none⟩, ⟨30, 30, .rwx, 0, .none⟩, ⟨2, 0, .rw, 2, .rst⟩]
  | .PWR_STATUS => [⟨31, 29, .ro, 0, .none⟩, ⟨28, 28, .ro, 0, .none⟩, ⟨27, 27, .ro, 0, .none⟩, ⟨26, 24, .ro, 0, .rst⟩, ⟨23, 23, .w1c, 0, .rst⟩, ⟨22, 22, .ro, 0, .none⟩, ⟨19, 16, .ro, 0, .none⟩]
  | .PWR_CFG => [⟨31, 24, .rw, 100, .rst⟩, ⟨23, 20, .rw, 0, .rst⟩, ⟨19, 10, .rw, 840, .rst⟩, ⟨9, 0, .rw, 800, .rst⟩]
  | .PWR_WAKE_EN => [⟨4, 4, .rw, 1, .rst⟩, ⟨3, 3, .rw, 1, .rst⟩, ⟨2, 2, .rw, 1, .rst⟩, ⟨1, 1, .rw, 0, .rst⟩, ⟨0, 0, .ro, 1, .por⟩]
  | .PWR_WAKE_LAST => [⟨31, 31, .w1c, 0, .rst⟩, ⟨26, 24, .ro, 0, .rst⟩, ⟨23, 20, .ro, 0, .rst⟩, ⟨9, 0, .ro, 0, .rst⟩]
  | .PWR_WAKE_PEND => [⟨6, 1, .w1c, 0, .rst⟩]
  | .PWR_WAKE_RTC_LO => [⟨31, 0, .ro, 0, .rst⟩]
  | .PWR_WAKE_RTC_HI => [⟨31, 0, .ro, 0, .rst⟩]
  | .PWR_RTC_LO => [⟨31, 0, .ro, 0, .rst⟩]
  | .PWR_RTC_HI => [⟨31, 0, .ro, 0, .rst⟩]
  | .PWR_ALARM_LO => [⟨31, 0, .rw, 0, .rst⟩]
  | .PWR_ALARM_HI => [⟨31, 0, .rw, 0, .rst⟩]
  | .PWR_ALARM_CTL => [⟨31, 31, .rw, 0, .rst⟩, ⟨30, 30, .w1c, 0, .rst⟩]
  | .PWR_LP_BUDGET => [⟨15, 0, .ro, 0, .none⟩]
  | .PWR_SUPPLY => [⟨31, 31, .ro, 0, .none⟩, ⟨30, 30, .w1c, 0, .rst⟩, ⟨29, 29, .ro, 0, .rst⟩, ⟨28, 28, .ro, 0, .none⟩]
  | .PWR_SUPPLY_MIN => [⟨31, 16, .ro, 65535, .rst⟩, ⟨15, 0, .ro, 65535, .rst⟩]
  | .PWR_TEMP => [⟨11, 0, .ro, 0, .none⟩]
  | .PWR_RESET_CAUSE => [⟨7, 0, .ro, 1, .rst⟩]
  | .PWR_EXIT_LAST => [⟨23, 0, .ro, 0, .rst⟩]
  | .PWR_CLAMP_SEEN => [⟨15, 0, .ro, 0, .rst⟩]
  | .TIM_NOW_LO => [⟨31, 0, .ro, 0, .pfr⟩]
  | .TIM_NOW_HI => [⟨31, 0, .ro, 0, .pfr⟩]
  | .TIM_NOW_FRAC => [⟨31, 16, .ro, 0, .pfr⟩]
  | .TIM_CFG => [⟨31, 31, .rwx, 1, .pfr⟩, ⟨30, 30, .rwx, 0, .pfr⟩, ⟨29, 27, .rwx, 7, .pfr⟩, ⟨26, 25, .rwx, 0, .pfr⟩, ⟨19, 12, .rwx, 100, .pfr⟩, ⟨11, 0, .rwx, 1000, .pfr⟩]
  | .TIM_STATUS => [⟨31, 29, .ro, 4, .none⟩, ⟨28, 28, .ro, 0, .none⟩, ⟨27, 27, .ro, 0, .none⟩, ⟨26, 26, .w1c, 0, .none⟩, ⟨25, 24, .ro, 0, .none⟩, ⟨15, 0, .ro, 0, .pfr⟩]
  | .TIM_SYNC_CFG => [⟨31, 12, .rwx, 1000, .pfr⟩, ⟨11, 6, .rwx, 4, .pfr⟩]
  | .TIM_SYNC_ERR => [⟨31, 0, .ro, 0, .none⟩]
  | .TIM_RATE_ADJ => [⟨31, 0, .rwx, 0, .pfr⟩]
  | .TIM_OFS_ADJ => [⟨31, 0, .rwx, 0, .pfr⟩]
  | .TIM_ADJ_CTL => [⟨31, 31, .wo, 0, .none⟩, ⟨30, 30, .rwx, 0, .pfr⟩, ⟨29, 29, .wo, 0, .none⟩, ⟨28, 28, .ro, 0, .none⟩]
  | .TIM_DELAY_COMP => [⟨15, 0, .rwx, 0, .pfr⟩]
  | .TIM_SET_LO => [⟨31, 0, .rwx, 0, .pfr⟩]
  | .TIM_SET_HI => [⟨31, 0, .rwx, 0, .pfr⟩]
  | .TIM_STEP_LO => [⟨31, 0, .ro, 0, .none⟩]
  | .TIM_STEP_HI => [⟨31, 0, .ro, 0, .none⟩]
  | .TIM_TOD_ERR => [⟨31, 0, .rc, 0, .none⟩]
  | .TIM_LATE => [⟨31, 0, .rc, 0, .none⟩]
  | .TIM_ACT_LOST => [⟨31, 0, .rc, 0, .none⟩]
  | .TIM_MSG_DENY => [⟨31, 0, .rc, 0, .none⟩]
  | .TIM_COLLIDE => [⟨31, 0, .rc, 0, .none⟩]
  | .TIM_CLAMP_SEEN => [⟨15, 0, .ro, 0, .pfr⟩]
  | .TIM_VIOL_LAST => [⟨14, 8, .ro, 127, .none⟩, ⟨7, 0, .ro, 0, .none⟩]
  | .TIM_TRIG_CFG => [⟨31, 24, .rwx, 4, .pfr⟩, ⟨23, 16, .rwx, 100, .pfr⟩, ⟨15, 0, .rwx, 65535, .pfr⟩]
  | .TIM_TRIG_STATE => [⟨31, 16, .ro, 0, .none⟩, ⟨15, 0, .ro, 0, .none⟩]
  | .TIM_STAR_STATE => [⟨23, 0, .ro, 0, .none⟩]
  | .TIM_TRIG_STUCK => [⟨15, 0, .w1c, 0, .none⟩]
  | .TIM_TS_LO => [⟨31, 0, .ro, 0, .none⟩]
  | .TIM_TS_HI => [⟨31, 0, .ro, 0, .none⟩]
  | .TIM_TS_INFO => [⟨31, 31, .ro, 0, .none⟩, ⟨30, 30, .w1c, 0, .none⟩, ⟨29, 29, .ro, 0, .none⟩, ⟨28, 28, .ro, 0, .none⟩, ⟨27, 24, .ro, 0, .none⟩, ⟨23, 23, .ro, 0, .none⟩, ⟨22, 16, .ro, 0, .none⟩]
  | .TIM_ACT_A => [⟨31, 31, .rwx, 0, .pfr⟩, ⟨30, 30, .w1c, 0, .none⟩, ⟨29, 29, .w1c, 0, .none⟩, ⟨28, 28, .rwx, 0, .pfr⟩, ⟨27, 24, .rwx, 0, .pfr⟩, ⟨23, 16, .rwx, 0, .pfr⟩, ⟨15, 14, .rwx, 0, .pfr⟩]
  | .TIM_ACT_B => [⟨31, 16, .rwx, 8, .pfr⟩, ⟨15, 0, .rwx, 0, .pfr⟩]
  | .TIM_ACT_TIME_LO => [⟨31, 0, .rwx, 0, .pfr⟩]
  | .TIM_ACT_TIME_HI => [⟨31, 0, .rwx, 0, .pfr⟩]
  | .TIM_ACT_PERIOD => [⟨31, 0, .rwx, 0, .pfr⟩]
  | .TIM_ACT_COUNT => [⟨15, 0, .rwx, 0, .pfr⟩]
  | .TIM_ACT_MASK => [⟨31, 0, .rwx, 0, .pfr⟩]
  | .TIM_MTX_A => [⟨31, 31, .rwx, 0, .pfr⟩, ⟨30, 30, .rwx, 0, .pfr⟩, ⟨29, 28, .rwx, 1, .pfr⟩, ⟨27, 27, .rwx, 0, .pfr⟩, ⟨23, 16, .rwx, 0, .pfr⟩, ⟨15, 12, .rwx, 0, .pfr⟩, ⟨11, 10, .rwx, 0, .pfr⟩, ⟨7, 0, .rwx, 0, .pfr⟩]
  | .TIM_MTX_DELAY => [⟨31, 0, .rwx, 0, .pfr⟩]
  | .TIM_MTX_B => [⟨31, 16, .rwx, 8, .pfr⟩, ⟨15, 0, .rwx, 0, .pfr⟩]
  | .TIM_MTX_MASK => [⟨31, 0, .rwx, 0, .pfr⟩]
  | .TIM_MTX_SRC_MASK => [⟨31, 0, .rwx, 0, .pfr⟩]
  | .FUS_CFG => [⟨23, 16, .rwx, 115, .pfr⟩, ⟨15, 8, .rwx, 85, .pfr⟩, ⟨4, 0, .rwx, 4, .pfr⟩]
  | .FUS_STATUS => [⟨28, 24, .ro, 0, .none⟩, ⟨23, 0, .ro, 0, .none⟩]
  | .FUS_CTL => [⟨31, 31, .wo, 0, .none⟩]
  | .FUS_CLAMP_SEEN => [⟨15, 0, .ro, 0, .pfr⟩]
  | .FUS_VIOL_LAST => [⟨12, 8, .ro, 31, .none⟩, ⟨7, 0, .ro, 0, .none⟩]
  | .FUS_HOLDUP_CFG => [⟨31, 16, .rwx, 0, .pfr⟩, ⟨15, 0, .rwx, 2560, .pfr⟩]
  | .FUS_HOLDUP_V => [⟨31, 16, .ro, 0, .none⟩, ⟨15, 0, .ro, 65535, .none⟩]
  | .FUS_HOLDUP_E => [⟨31, 0, .ro, 0, .none⟩]
  | .FUS_CHAN_CFG => [⟨31, 31, .rwx, 0, .pfr⟩, ⟨30, 30, .rwx, 0, .pfr⟩, ⟨29, 28, .rwx, 0, .pfr⟩, ⟨27, 25, .rwx, 3, .pfr⟩, ⟨24, 24, .rwx, 1, .pfr⟩, ⟨15, 0, .rwx, 12000, .pfr⟩]
  | .FUS_CHAN_LIM => [⟨31, 16, .rwx, 5000, .pfr⟩, ⟨8, 0, .rwx, 25, .pfr⟩]
  | .FUS_CHAN_TIME => [⟨31, 24, .rwx, 25, .pfr⟩, ⟨23, 17, .rwx, 10, .pfr⟩, ⟨16, 10, .rwx, 10, .pfr⟩, ⟨9, 0, .rwx, 100, .pfr⟩]
  | .FUS_CHAN_RAMP => [⟨31, 25, .rwx, 10, .pfr⟩, ⟨24, 16, .rwx, 100, .pfr⟩, ⟨15, 0, .rwx, 2000, .pfr⟩]
  | .FUS_CHAN_SENSE => [⟨31, 16, .rwx, 1000, .pfr⟩, ⟨15, 0, .rwx, 10240, .pfr⟩]
  | .FUS_CHAN_CTL => [⟨31, 31, .wo, 0, .none⟩, ⟨30, 30, .wo, 0, .none⟩, ⟨29, 29, .wo, 0, .none⟩, ⟨28, 28, .wo, 0, .none⟩]
  | .FUS_CHAN_STATUS => [⟨31, 28, .ro, 0, .none⟩, ⟨27, 27, .ro, 0, .none⟩, ⟨26, 26, .ro, 0, .none⟩, ⟨25, 25, .ro, 0, .none⟩, ⟨24, 24, .ro, 0, .none⟩, ⟨23, 23, .ro, 0, .none⟩, ⟨22, 22, .ro, 0, .none⟩, ⟨21, 19, .ro, 0, .none⟩, ⟨18, 16, .ro, 0, .none⟩]
  | .FUS_CHAN_VI => [⟨31, 16, .ro, 0, .none⟩, ⟨15, 0, .ro, 0, .none⟩]
  | .FUS_CHAN_P => [⟨31, 0, .ro, 0, .none⟩]
  | .FUS_CHAN_E_LO => [⟨31, 0, .ro, 0, .rst⟩]
  | .FUS_CHAN_E_HI => [⟨31, 0, .ro, 0, .rst⟩]
  | .FUS_CHAN_TRIPS => [⟨31, 16, .rc, 0, .none⟩, ⟨15, 0, .rc, 0, .none⟩]
  | .LPB_CFG => [⟨31, 31, .rwx, 0, .pfr⟩, ⟨30, 30, .rwx, 1, .pfr⟩, ⟨29, 29, .rwx, 1, .pfr⟩, ⟨28, 26, .rwx, 2, .pfr⟩, ⟨23, 18, .rwx, 0, .pfr⟩]
  | .LPB_STATUS => [⟨31, 31, .ro, 0, .none⟩, ⟨30, 30, .ro, 0, .none⟩, ⟨29, 29, .ro, 1, .none⟩, ⟨28, 28, .ro, 0, .none⟩, ⟨27, 27, .w1c, 0, .none⟩, ⟨21, 16, .ro, 0, .none⟩, ⟨15, 12, .ro, 0, .none⟩, ⟨3, 0, .ro, 0, .none⟩]
  | .LPB_TMO => [⟨31, 16, .rwx, 256, .pfr⟩, ⟨15, 0, .rwx, 16384, .pfr⟩]
  | .LPB_TMO2 => [⟨31, 24, .rwx, 10, .pfr⟩, ⟨23, 16, .rwx, 10, .pfr⟩]
  | .LPB_ARB => [⟨31, 24, .rwx, 64, .pfr⟩, ⟨13, 8, .w1c, 0, .none⟩, ⟨5, 0, .rwx, 0, .pfr⟩]
  | .LPB_CFG_ADDR => [⟨31, 31, .ro, 0, .none⟩, ⟨30, 30, .ro, 0, .none⟩, ⟨13, 11, .rwx, 0, .pfr⟩, ⟨10, 8, .rwx, 0, .pfr⟩, ⟨7, 2, .rwx, 0, .pfr⟩]
  | .LPB_CFG_DATA => [⟨31, 0, .rwx, 0, .none⟩]
  | .LPB_VIOL_LAST => [⟨11, 8, .ro, 15, .none⟩, ⟨7, 0, .ro, 0, .none⟩]
  | .LPB_CLAMP_SEEN => [⟨15, 0, .ro, 0, .pfr⟩]
  | .LPB_MABORT => [⟨31, 0, .rc, 0, .none⟩]
  | .LPB_TABORT => [⟨31, 0, .rc, 0, .none⟩]
  | .LPB_RETRY => [⟨31, 0, .rc, 0, .none⟩]
  | .LPB_PARITY => [⟨31, 0, .rc, 0, .none⟩]
  | .LPB_PF_HIT => [⟨31, 0, .rc, 0, .none⟩]
  | .LPB_DISCARD => [⟨31, 0, .rc, 0, .none⟩]
  | .LPB_UP_A => [⟨31, 31, .rwx, 0, .pfr⟩, ⟨23, 18, .rwx, 12, .pfr⟩]
  | .LPB_UP_SBASE => [⟨31, 0, .rwx, 0, .pfr⟩]
  | .LPB_UP_HBASE_LO => [⟨31, 0, .rwx, 0, .pfr⟩]
  | .LPB_UP_HBASE_HI => [⟨31, 0, .rwx, 0, .pfr⟩]
  | .LPB_WIN_A => [⟨31, 31, .rwx, 0, .pfr⟩, ⟨30, 30, .rwx, 0, .pfr⟩, ⟨29, 29, .rwx, 0, .pfr⟩, ⟨23, 18, .rwx, 12, .pfr⟩]
  | .LPB_WIN_HBASE_LO => [⟨31, 0, .rwx, 0, .pfr⟩]
  | .LPB_WIN_HBASE_HI => [⟨31, 0, .rwx, 0, .pfr⟩]
  | .LPB_WIN_SBASE => [⟨31, 0, .rwx, 0, .pfr⟩]
  | .CTR_SNAP => [⟨31, 31, .wo, 0, .none⟩, ⟨30, 30, .rw, 0, .pfr⟩, ⟨29, 29, .wo, 0, .none⟩]
  | .CTR_SNAP_STATUS => [⟨31, 31, .ro, 0, .none⟩, ⟨30, 30, .ro, 0, .none⟩, ⟨29, 29, .ro, 0, .none⟩, ⟨28, 28, .ro, 0, .none⟩, ⟨15, 0, .ro, 0, .none⟩]
  | .CTR_SNAP_TIME_LO => [⟨31, 0, .ro, 0, .none⟩]
  | .CTR_SNAP_TIME_HI => [⟨31, 0, .ro, 0, .none⟩]
  | .CTR_SEL => [⟨11, 0, .rw, 0, .pfr⟩]
  | .CTR_DBG_STATUS => [⟨31, 31, .ro, 0, .none⟩, ⟨30, 30, .w1c, 0, .none⟩, ⟨15, 0, .ro, 0, .none⟩]
  | .GAT_COMMIT => [⟨31, 31, .wo, 0, .none⟩]
  | .GAT_COMMIT_STATUS => [⟨31, 30, .ro, 0, .pfr⟩, ⟨15, 0, .ro, 0, .pfr⟩]
  | .GAT_LIFECYCLE => [⟨1, 0, .ro, 0, .por⟩]
  | .GAT_CLAMP_SEEN => [⟨15, 0, .ro, 0, .pfr⟩]
  | .GAT_VIOL_STATUS => [⟨31, 31, .w1c, 0, .pfr⟩, ⟨30, 30, .w1c, 0, .pfr⟩, ⟨29, 27, .ro, 0, .pfr⟩, ⟨26, 26, .ro, 0, .pfr⟩, ⟨25, 22, .ro, 0, .pfr⟩, ⟨21, 15, .ro, 0, .pfr⟩, ⟨14, 10, .ro, 0, .pfr⟩, ⟨9, 9, .ro, 0, .pfr⟩, ⟨8, 5, .ro, 0, .pfr⟩]
  | .GAT_VIOL_ADDR_LO => [⟨31, 0, .ro, 0, .pfr⟩]
  | .GAT_VIOL_ADDR_HI => [⟨31, 0, .ro, 0, .pfr⟩]
  | .GAT_VIOL_SRC => [⟨31, 16, .ro, 0, .pfr⟩, ⟨15, 15, .ro, 0, .pfr⟩, ⟨14, 10, .ro, 0, .pfr⟩]
  | .GAT_VIOL_COUNT => [⟨31, 0, .rc, 0, .none⟩]
  | .GAT_GATE_CFG => [⟨31, 31, .w1s, 0, .pfr⟩, ⟨30, 30, .rwl, 0, .pfr⟩]
  | .GAT_GATE_DEF => [⟨29, 29, .rwl, 0, .pfr⟩, ⟨28, 28, .rwl, 1, .pfr⟩, ⟨27, 27, .rwl, 1, .pfr⟩, ⟨23, 20, .rwl, 0, .pfr⟩, ⟨15, 8, .rwl, 0, .pfr⟩]
  | .GAT_RGN_A => [⟨31, 12, .rwl, 0, .pfr⟩, ⟨11, 6, .rwl, 12, .pfr⟩]
  | .GAT_RGN_B => [⟨31, 0, .rwl, 0, .pfr⟩]
  | .GAT_RGN_C => [⟨31, 31, .rwl, 0, .pfr⟩, ⟨30, 30, .w1s, 0, .pfr⟩, ⟨29, 29, .rwl, 0, .pfr⟩, ⟨28, 28, .rwl, 0, .pfr⟩, ⟨27, 27, .rwl, 0, .pfr⟩, ⟨23, 20, .rwl, 0, .pfr⟩, ⟨15, 8, .rwl, 0, .pfr⟩]
  | .GAT_TAG => [⟨31, 0, .rwl, 0, .pfr⟩]
  | .CEL_SHARED_CFG => [⟨30, 16, .rwx, 1024, .pfr⟩, ⟨14, 0, .rwx, 1024, .pfr⟩]
  | .CEL_POOL_STATUS => [⟨18, 0, .ro, 0, .none⟩]
  | .CEL_RSV_STATUS => [⟨18, 0, .ro, 0, .none⟩]
  | .CEL_NP_USE => [⟨18, 0, .ro, 0, .none⟩]
  | .CEL_CLAMP_SEEN => [⟨15, 0, .ro, 0, .pfr⟩]
  | .CEL_ECC_CORR => [⟨31, 0, .rc, 0, .none⟩]
  | .CEL_ECC_UNCORR => [⟨31, 0, .rc, 0, .none⟩]
  | .CEL_ECC_ADDR => [⟨31, 31, .w1c, 0, .none⟩, ⟨18, 0, .ro, 0, .none⟩]
  | .CEL_AGED_P => [⟨31, 0, .rc, 0, .none⟩]
  | .CEL_AGED_NP => [⟨31, 0, .rc, 0, .none⟩]
  | .CEL_AGED_CPL => [⟨31, 0, .rc, 0, .none⟩]
  | .HWY_UNDERRUN => [⟨31, 0, .rc, 0, .none⟩]
  | .HWY_TAIL_MARK => [⟨31, 0, .rc, 0, .none⟩]
  | .HWY_MC_DEFER => [⟨31, 0, .rc, 0, .none⟩]
  | .HWY_DESC_FREE => [⟨15, 0, .ro, 32768, .none⟩]
  | .CEL_CLASS_CFG => [⟨14, 0, .rwx, 1024, .pfr⟩]
  | .CEL_AGE_LIMIT => [⟨19, 0, .rwx, 2000, .pfr⟩]
  | .CEL_PORT_CFG => [⟨31, 31, .rwx, 1, .pfr⟩, ⟨30, 16, .rwx, 3072, .pfr⟩, ⟨11, 0, .rwx, 37, .pfr⟩]
  | .CEL_PORT_USE => [⟨31, 16, .ro, 0, .none⟩, ⟨15, 0, .ro, 0, .none⟩]
  | .CEL_Q_USE => [⟨18, 0, .ro, 0, .none⟩]
  | .FAB_ID => [⟨31, 31, .rwx, 0, .pfr⟩, ⟨21, 16, .rwx, 0, .pfr⟩, ⟨15, 0, .rwx, 0, .pfr⟩]
  | .FAB_CFG => [⟨26, 24, .rwx, 7, .pfr⟩, ⟨23, 16, .rwx, 50, .pfr⟩, ⟨13, 8, .rwx, 16, .pfr⟩, ⟨1, 1, .rwx, 0, .pfr⟩, ⟨0, 0, .rwx, 1, .pfr⟩]
  | .FAB_ROUTE_COMMIT => [⟨31, 31, .wo, 0, .none⟩, ⟨30, 30, .ro, 0, .none⟩, ⟨15, 0, .ro, 0, .pfr⟩]
  | .FAB_UID_LO => [⟨31, 0, .ro, 0, .por⟩]
  | .FAB_UID_HI => [⟨15, 0, .ro, 0, .por⟩]
  | .FAB_SIDE => [⟨31, 0, .rwx, 0, .pfr⟩]
  | .FAB_UP => [⟨31, 31, .rwx, 0, .pfr⟩, ⟨21, 16, .rwx, 0, .pfr⟩, ⟨15, 0, .rwx, 0, .pfr⟩]
  | .FAB_NOROUTE => [⟨31, 0, .rc, 0, .none⟩]
  | .FAB_TTL_DROP => [⟨31, 0, .rc, 0, .none⟩]
  | .FAB_TRANSIT_DROP => [⟨31, 0, .rc, 0, .none⟩]
  | .FAB_VH_MISS => [⟨31, 0, .rc, 0, .none⟩]
  | .FAB_CLAMP_SEEN => [⟨15, 0, .ro, 0, .pfr⟩]
  | .FAB_VIOL_LAST => [⟨14, 8, .ro, 0, .none⟩, ⟨7, 0, .ro, 0, .none⟩]
  | .FAB_MOVE_FORCED => [⟨31, 0, .rc, 0, .none⟩]
  | .FAB_CRT => [⟨31, 31, .rwx, 0, .pfr⟩, ⟨20, 16, .rwx, 0, .pfr⟩, ⟨15, 0, .rwx, 0, .pfr⟩]
  | .FAB_DRT_A => [⟨31, 31, .rwx, 0, .pfr⟩, ⟨30, 30, .rwx, 0, .pfr⟩, ⟨20, 16, .rwx, 16, .pfr⟩, ⟨15, 0, .rwx, 0, .pfr⟩]
  | .FAB_DRT_B => [⟨21, 16, .rwx, 0, .pfr⟩, ⟨15, 0, .rwx, 0, .pfr⟩]
  | .FAB_GRP_A => [⟨31, 0, .rwx, 0, .pfr⟩]
  | .FAB_GRP_B => [⟨31, 0, .rwx, 0, .pfr⟩]
  | .FAB_GRP_LIVE => [⟨7, 0, .ro, 0, .none⟩]
  | .FAB_VH_MAP => [⟨31, 31, .rwx, 0, .pfr⟩, ⟨15, 0, .rwx, 0, .pfr⟩]
  | .FAB_NBR_A => [⟨31, 31, .ro, 0, .none⟩, ⟨30, 30, .ro, 0, .none⟩, ⟨29, 29, .ro, 0, .none⟩, ⟨28, 27, .ro, 0, .none⟩, ⟨26, 21, .ro, 0, .none⟩, ⟨20, 17, .ro, 0, .none⟩, ⟨16, 10, .ro, 0, .none⟩]
  | .FAB_NBR_B => [⟨15, 0, .ro, 0, .none⟩]
  | .FAB_NBR_UID_LO => [⟨31, 0, .ro, 0, .none⟩]
  | .FAB_NBR_UID_HI => [⟨31, 0, .ro, 0, .none⟩]
  | .FAB_FL_BUDGET => [⟨31, 0, .ro, 0, .none⟩]
  | .SDS_LN_CTL => [⟨15, 12, .rwx, 0, .pfr⟩, ⟨11, 11, .rwx, 0, .pfr⟩, ⟨10, 10, .rwx, 0, .pfr⟩, ⟨9, 8, .rwx, 0, .pfr⟩, ⟨1, 1, .rwx, 0, .pfr⟩, ⟨0, 0, .rwx, 0, .pfr⟩]
  | .SDS_LN_STATUS => [⟨23, 20, .ro, 15, .none⟩, ⟨19, 19, .ro, 0, .none⟩, ⟨18, 18, .ro, 0, .none⟩, ⟨17, 17, .ro, 0, .none⟩, ⟨16, 16, .ro, 0, .none⟩, ⟨3, 0, .ro, 0, .none⟩]
  | .SDS_LN_PAT_ERR => [⟨31, 0, .rc, 0, .none⟩]
  | .SDS_LN_TXEQ => [⟨31, 31, .rwx, 0, .pfr⟩, ⟨26, 24, .rwx, 2, .pfr⟩, ⟨20, 16, .rwx, 0, .pfr⟩, ⟨15, 12, .rwx, 0, .pfr⟩, ⟨5, 0, .ro, 48, .pfr⟩]
  | .SDS_LN_TXEQ_STAT => [⟨31, 30, .ro, 0, .none⟩, ⟨29, 26, .ro, 0, .none⟩, ⟨23, 18, .ro, 0, .none⟩, ⟨17, 12, .ro, 48, .none⟩, ⟨11, 6, .ro, 0, .none⟩]
  | .SDS_LN_EQ_REJ => [⟨31, 0, .rc, 0, .none⟩]
  | .SDS_LN_RXCTL => [⟨1, 1, .wo, 0, .none⟩, ⟨0, 0, .rwx, 0, .pfr⟩]
  | .SDS_LN_RXSTAT => [⟨31, 29, .ro, 0, .none⟩, ⟨25, 16, .ro, 0, .none⟩, ⟨15, 8, .ro, 0, .none⟩, ⟨7, 4, .ro, 0, .none⟩, ⟨3, 0, .ro, 0, .none⟩]
  | .SDS_LN_EYE_CTL => [⟨31, 31, .wo, 0, .none⟩, ⟨30, 30, .wo, 0, .none⟩, ⟨29, 28, .rwx, 1, .pfr⟩, ⟨27, 22, .rwx, 20, .pfr⟩, ⟨21, 14, .rwx, 0, .pfr⟩, ⟨13, 7, .rwx, 0, .pfr⟩]
  | .SDS_LN_EYE_STAT => [⟨2, 0, .ro, 0, .none⟩]
  | .SDS_LN_EYE_ERR_LO => [⟨31, 0, .ro, 0, .none⟩]
  | .SDS_LN_EYE_ERR_HI => [⟨31, 0, .ro, 0, .none⟩]
  | .SDS_LN_EYE_CNT_LO => [⟨31, 0, .ro, 0, .none⟩]
  | .SDS_LN_EYE_CNT_HI => [⟨31, 0, .ro, 0, .none⟩]
  | .SDS_LN_PWR => [⟨1, 1, .rwx, 1, .pfr⟩, ⟨0, 0, .rwx, 1, .pfr⟩]
  | .SDS_LN_EXIT_LAST => [⟨15, 0, .ro, 0, .none⟩]
  | .SDS_REF_CFG => [⟨0, 0, .rwx, 0, .pfr⟩]
  | .SDS_REF_STATUS => [⟨1, 1, .w1c, 0, .none⟩, ⟨0, 0, .ro, 0, .none⟩]
  | .SDS_CLAMP_SEEN => [⟨15, 0, .ro, 0, .pfr⟩]
  | .SDS_QUAD_STATUS => [⟨3, 0, .ro, 0, .none⟩]
  | .PRT_PORT_CFG => [⟨31, 31, .rwx, 0, .pfr⟩, ⟨30, 30, .rwx, 0, .pfr⟩, ⟨29, 28, .rwx, 0, .pfr⟩, ⟨27, 25, .rwx, 4, .pfr⟩, ⟨24, 24, .rwx, 0, .pfr⟩, ⟨23, 20, .rwx, 0, .pfr⟩, ⟨19, 16, .rwx, 6, .pfr⟩, ⟨12, 8, .rwx, 0, .pfr⟩]
  | .PRT_PORT_CFG2 => [⟨15, 8, .rwx, 100, .pfr⟩, ⟨7, 7, .rwx, 1, .pfr⟩, ⟨6, 6, .rwx, 1, .pfr⟩, ⟨5, 5, .rwx, 0, .pfr⟩, ⟨4, 4, .rwx, 1, .pfr⟩, ⟨3, 3, .rwx, 0, .pfr⟩]
  | .PRT_LINK_STATUS => [⟨31, 31, .ro, 0, .none⟩, ⟨30, 30, .ro, 0, .none⟩, ⟨29, 29, .ro, 0, .none⟩, ⟨28, 28, .w1c, 0, .none⟩, ⟨27, 24, .ro, 15, .none⟩, ⟨23, 21, .ro, 7, .none⟩, ⟨20, 18, .ro, 7, .none⟩, ⟨17, 15, .ro, 5, .none⟩, ⟨13, 8, .ro, 0, .none⟩]
  | .PRT_HP_CFG => [⟨31, 31, .rwx, 0, .pfr⟩, ⟨27, 23, .rwx, 0, .pfr⟩, ⟨22, 10, .rwx, 0, .pfr⟩]
  | .PRT_VIOL_LAST => [⟨7, 0, .ro, 0, .none⟩]
  | .PRT_VIOL_COUNT => [⟨31, 0, .rc, 0, .none⟩]
  | .PRT_TRAIN_FAIL => [⟨15, 0, .rc, 0, .none⟩]
  | .PRT_CLAMP_SEEN => [⟨15, 0, .ro, 0, .pfr⟩]
  | .PRT_FL_CFG => [⟨31, 30, .rwx, 2, .pfr⟩, ⟨29, 28, .rwx, 0, .pfr⟩, ⟨27, 27, .rwx, 1, .pfr⟩, ⟨26, 23, .rwx, 4, .pfr⟩, ⟨22, 20, .rwx, 2, .pfr⟩, ⟨19, 16, .rwx, 8, .pfr⟩]
  | .PRT_FL_TIMER => [⟨31, 24, .rwx, 10, .pfr⟩, ⟨23, 14, .rwx, 40, .pfr⟩, ⟨13, 6, .rwx, 4, .pfr⟩, ⟨5, 0, .rwx, 0, .pfr⟩]
  | .PRT_FL_CRED_A => [⟨31, 24, .rwx, 32, .pfr⟩, ⟨23, 16, .rwx, 32, .pfr⟩, ⟨15, 8, .rwx, 32, .pfr⟩, ⟨7, 0, .rwx, 32, .pfr⟩]
  | .PRT_FL_CRED_B => [⟨31, 24, .rwx, 32, .pfr⟩, ⟨23, 16, .rwx, 32, .pfr⟩, ⟨15, 8, .rwx, 32, .pfr⟩, ⟨7, 0, .rwx, 32, .pfr⟩]
  | .PRT_FL_CTL => [⟨1, 1, .wo, 0, .none⟩, ⟨0, 0, .wo, 0, .none⟩]
  | .PRT_FL_STATUS => [⟨31, 28, .ro, 0, .none⟩, ⟨27, 27, .ro, 0, .none⟩, ⟨26, 26, .ro, 0, .none⟩, ⟨25, 22, .ro, 0, .none⟩, ⟨15, 0, .ro, 0, .none⟩]
  | .PRT_FL_SEQ => [⟨31, 16, .ro, 0, .none⟩, ⟨15, 0, .ro, 0, .none⟩]
  | .PRT_FL_BUDGET => [⟨31, 0, .ro, 95000, .pfr⟩]
  | .PRT_FL_REPLAY_CNT => [⟨31, 0, .rc, 0, .none⟩]
  | .PRT_FL_RETRAIN_CNT => [⟨31, 16, .rc, 0, .none⟩, ⟨15, 0, .rc, 0, .none⟩]
  | .PRT_FL_CRC_ERR => [⟨31, 0, .rc, 0, .none⟩]
  | .PRT_FL_FEC_CORR => [⟨31, 0, .rc, 0, .none⟩]
  | .PRT_FL_FEC_UNCORR => [⟨31, 0, .rc, 0, .none⟩]
  | .PRT_FL_DUP => [⟨31, 0, .rc, 0, .none⟩]
  | .SCH_PORT_CFG => [⟨31, 16, .rwx, 0, .pfr⟩, ⟨5, 0, .rwx, 16, .pfr⟩]
  | .SCH_NOTE_MAP => [⟨15, 0, .rwx, 0, .pfr⟩]
  | .SCH_Q_CFG => [⟨31, 31, .rwx, 0, .pfr⟩, ⟨28, 16, .rwx, 0, .pfr⟩, ⟨7, 0, .rwx, 66, .pfr⟩]
  | .SCH_Q_CREDIT => [⟨24, 0, .ro, 0, .none⟩]
  | .SCH_OVERSIZE => [⟨31, 0, .rc, 0, .none⟩]
  | .SCH_GATE_OVERRUN => [⟨31, 0, .rc, 0, .none⟩]
  | .SCH_FLOW_MAP => [⟨31, 31, .rwx, 0, .pfr⟩, ⟨12, 0, .rwx, 0, .pfr⟩]
  | .SCH_CLAMP_SEEN => [⟨15, 0, .ro, 0, .pfr⟩]
  | .SCH_METER_DROP => [⟨31, 0, .rc, 0, .none⟩]
  | .SCH_METER_HOLD => [⟨31, 0, .rc, 0, .none⟩]
  | .SCH_CTX_A => [⟨31, 30, .rwx, 0, .pfr⟩, ⟨29, 29, .rwx, 0, .pfr⟩, ⟨28, 28, .rwx, 0, .pfr⟩, ⟨27, 27, .rwx, 1, .pfr⟩, ⟨26, 26, .rwx, 0, .pfr⟩, ⟨12, 0, .rwx, 0, .pfr⟩]
  | .SCH_CTX_CIR => [⟨21, 0, .rwx, 0, .pfr⟩]
  | .SCH_CTX_PIR => [⟨21, 0, .rwx, 0, .pfr⟩]
  | .SCH_CTX_CBS => [⟨23, 0, .rwx, 4224, .pfr⟩]
  | .SCH_CTX_PBS => [⟨23, 0, .rwx, 4224, .pfr⟩]
  | .SCH_CTX_GREEN => [⟨31, 0, .rc, 0, .none⟩]
  | .SCH_CTX_YELLOW => [⟨31, 0, .rc, 0, .none⟩]
  | .SCH_CTX_RED => [⟨31, 0, .rc, 0, .none⟩]
  | .SCH_GCL_CTL => [⟨31, 31, .rwx, 0, .pfr⟩, ⟨30, 30, .wo, 0, .none⟩, ⟨29, 29, .wo, 0, .none⟩]
  | .SCH_GCL_STATUS => [⟨31, 31, .ro, 0, .pfr⟩, ⟨30, 30, .ro, 0, .none⟩, ⟨29, 27, .ro, 0, .none⟩, ⟨7, 0, .ro, 0, .none⟩]
  | .SCH_GCL_BASE_LO => [⟨31, 0, .rwx, 0, .pfr⟩]
  | .SCH_GCL_BASE_HI => [⟨31, 0, .rwx, 0, .pfr⟩]
  | .SCH_GCL_LEN => [⟨8, 0, .rwx, 1, .pfr⟩]
  | .SCH_GCL_SWITCH_AT_LO => [⟨31, 0, .ro, 0, .none⟩]
  | .SCH_GCL_SWITCH_AT_HI => [⟨31, 0, .ro, 0, .none⟩]
  | .SCH_GCL_ENT => [⟨31, 24, .rwx, 255, .pfr⟩, ⟨23, 0, .rwx, 1, .pfr⟩]
  | .ACD_CAP_A => [⟨31, 31, .rwx, 0, .pfr⟩, ⟨30, 30, .rwx, 0, .pfr⟩, ⟨29, 29, .rwx, 0, .pfr⟩, ⟨28, 24, .rwx, 0, .pfr⟩, ⟨2, 0, .rwx, 0, .pfr⟩]
  | .ACD_CAP_RID => [⟨31, 16, .rwx, 65535, .pfr⟩, ⟨15, 0, .rwx, 0, .pfr⟩]
  | .ACD_CAP_PASID => [⟨19, 0, .rwx, 0, .pfr⟩]
  | .ACD_CAP_WBASE_LO => [⟨31, 0, .rwx, 0, .pfr⟩]
  | .ACD_CAP_WBASE_HI => [⟨31, 0, .rwx, 0, .pfr⟩]
  | .ACD_CAP_WLEN => [⟨31, 0, .rwx, 1, .pfr⟩]
  | .ACD_CAP_HITS => [⟨31, 0, .rc, 0, .none⟩]
  | .ACD_JOB_CFG => [⟨31, 31, .rwx, 0, .pfr⟩, ⟨30, 30, .rwx, 0, .pfr⟩, ⟨29, 24, .rwx, 0, .pfr⟩, ⟨23, 23, .rwx, 0, .pfr⟩, ⟨22, 11, .rwx, 0, .pfr⟩, ⟨7, 0, .rwx, 0, .pfr⟩]
  | .ACD_JOB_SET => [⟨22, 16, .rwx, 0, .pfr⟩, ⟨7, 0, .rwx, 1, .pfr⟩]
  | .ACD_JOB_RING => [⟨31, 16, .rwx, 64, .pfr⟩, ⟨14, 0, .rwx, 0, .pfr⟩]
  | .ACD_JOB_LEN => [⟨29, 16, .rwx, 3072, .pfr⟩, ⟨13, 0, .rwx, 4096, .pfr⟩]
  | .ACD_JOB_STAGE => [⟨14, 0, .rwx, 0, .pfr⟩]
  | .ACD_JOB_DB => [⟨31, 31, .rwx, 0, .pfr⟩, ⟨8, 0, .rwx, 0, .pfr⟩]
  | .ACD_JOB_DST => [⟨31, 0, .rwx, 0, .pfr⟩]
  | .ACD_JOB_CTL => [⟨31, 31, .wo, 0, .none⟩, ⟨30, 30, .wo, 0, .none⟩, ⟨29, 29, .wo, 0, .none⟩]
  | .ACD_JOB_STATUS => [⟨30, 30, .ro, 0, .none⟩, ⟨29, 29, .ro, 0, .none⟩, ⟨28, 25, .ro, 0, .none⟩, ⟨15, 8, .ro, 0, .none⟩, ⟨6, 0, .ro, 0, .none⟩]
  | .ACD_JOB_READY => [⟨31, 0, .ro, 0, .none⟩]
  | .ACD_JOB_RECNO => [⟨31, 0, .ro, 0, .none⟩]
  | .ACD_JOB_DONE => [⟨31, 0, .ro, 0, .none⟩]
  | .ACD_JOB_ERR => [⟨31, 0, .rc, 0, .none⟩]
  | .ACD_JOB_LOST => [⟨31, 16, .rc, 0, .none⟩, ⟨15, 0, .rc, 0, .none⟩]
  | .ACD_JOB_GAP => [⟨31, 0, .rc, 0, .none⟩]
  | .ACD_DST_A => [⟨31, 31, .rwx, 0, .pfr⟩, ⟨30, 30, .rwx, 0, .pfr⟩, ⟨29, 27, .rwx, 0, .pfr⟩, ⟨26, 26, .rwx, 0, .pfr⟩, ⟨25, 13, .rwx, 0, .pfr⟩, ⟨12, 12, .rwx, 0, .pfr⟩, ⟨11, 10, .rwx, 0, .pfr⟩, ⟨9, 6, .rwx, 0, .pfr⟩, ⟨5, 0, .rwx, 0, .pfr⟩]
  | .ACD_DST_B => [⟨31, 24, .rwx, 0, .pfr⟩, ⟨20, 16, .rwx, 0, .pfr⟩, ⟨15, 15, .rwx, 0, .pfr⟩, ⟨13, 8, .rwx, 0, .pfr⟩, ⟨7, 0, .rwx, 1, .pfr⟩]
  | .ACD_DST_BASE_LO => [⟨31, 0, .rwx, 0, .pfr⟩]
  | .ACD_DST_BASE_HI => [⟨31, 0, .rwx, 0, .pfr⟩]
  | .ACD_DST_RPT_LO => [⟨31, 0, .rwx, 0, .pfr⟩]
  | .ACD_DST_RPT_HI => [⟨31, 0, .rwx, 0, .pfr⟩]
  | .ACD_DST_PROD => [⟨31, 0, .ro, 0, .none⟩]
  | .ACD_DST_DROP => [⟨31, 0, .rc, 0, .none⟩]
  | .ACD_LOAD_CTL => [⟨31, 31, .wo, 0, .none⟩, ⟨30, 30, .ro, 0, .none⟩, ⟨29, 28, .ro, 0, .none⟩, ⟨22, 16, .rwx, 0, .pfr⟩, ⟨7, 0, .rwx, 1, .pfr⟩]
  | .ACD_LOAD_SRC => [⟨14, 0, .rwx, 0, .pfr⟩]
  | .ACD_CLAMP_SEEN => [⟨15, 0, .ro, 0, .pfr⟩]
  | .ACD_ECC_CORR => [⟨31, 0, .rc, 0, .none⟩]
  | .ACD_ECC_UNCORR => [⟨31, 0, .rc, 0, .none⟩]
  | .ACD_ECC_ADDR => [⟨31, 31, .w1c, 0, .none⟩, ⟨30, 30, .ro, 0, .none⟩, ⟨27, 21, .ro, 0, .none⟩, ⟨20, 0, .ro, 0, .none⟩]
  | .ACD_ENG_STATUS => [⟨31, 28, .ro, 0, .none⟩, ⟨27, 27, .ro, 0, .none⟩, ⟨26, 22, .ro, 0, .none⟩, ⟨8, 0, .ro, 0, .none⟩]
  | .ACD_ENG_RECNO => [⟨31, 0, .ro, 0, .none⟩]
  | .ACD_ENG_LAST_ERR => [⟨31, 24, .ro, 0, .none⟩, ⟨23, 16, .ro, 0, .none⟩, ⟨8, 0, .ro, 0, .none⟩]
  | .ACD_PS_INSN => [⟨23, 0, .rwx, 0, .pfr⟩]
  | .ACD_PS_DESC_A => [⟨31, 0, .rwx, 0, .pfr⟩]
  | .ACD_PS_DESC_B => [⟨15, 0, .rwx, 0, .pfr⟩]
  | .ACD_PS_SCALE_LO => [⟨31, 0, .rwx, 0, .pfr⟩]
  | .ACD_PS_SCALE_HI => [⟨31, 8, .rwx, 1, .pfr⟩, ⟨7, 2, .rwx, 0, .pfr⟩, ⟨1, 1, .rwx, 0, .pfr⟩]
  | .TCT_CYC_LO => [⟨31, 0, .ro, 0, .none⟩]
  | .TCT_CYC_HI => [⟨31, 0, .ro, 0, .none⟩]
  | .TCT_CYC_SNAP_LO => [⟨31, 0, .ro, 0, .none⟩]
  | .TCT_CYC_SNAP_HI => [⟨31, 0, .ro, 0, .none⟩]
  | .TCT_EVT_CFG => [⟨31, 31, .rw, 0, .pfr⟩, ⟨30, 30, .rw, 0, .pfr⟩, ⟨7, 0, .rw, 0, .pfr⟩]
  | .TCT_UNIT_STATUS => [⟨23, 16, .w1c, 0, .none⟩, ⟨15, 15, .w1c, 0, .none⟩, ⟨11, 0, .ro, 0, .por⟩]
  | .TCT_CNT_LO => [⟨31, 0, .ro, 0, .none⟩]
  | .TCT_CNT_HI => [⟨31, 0, .ro, 0, .none⟩]
  | .TCT_SNAP_LO => [⟨31, 0, .ro, 0, .none⟩]
  | .TCT_SNAP_HI => [⟨31, 0, .ro, 0, .none⟩]
  | .LBX_REQ => [⟨31, 0, .wo, 0, .none⟩]
  | .LBX_RSP => [⟨31, 0, .ro, 0, .none⟩]
  | .LBX_DOORBELL => [⟨0, 0, .wo, 0, .none⟩]
  | .LBX_ACK => [⟨31, 16, .ro, 0, .none⟩, ⟨15, 0, .ro, 0, .none⟩]
  | .LBX_STATUS => [⟨31, 31, .ro, 0, .none⟩, ⟨30, 30, .ro, 0, .none⟩, ⟨29, 29, .w1c, 0, .none⟩, ⟨28, 28, .ro, 0, .none⟩, ⟨27, 27, .w1c, 0, .none⟩, ⟨26, 26, .w1c, 0, .none⟩, ⟨25, 25, .ro, 0, .none⟩, ⟨24, 24, .ro, 0, .none⟩, ⟨12, 8, .ro, 0, .none⟩, ⟨4, 0, .ro, 0, .none⟩]
  | .LBX_CTL => [⟨31, 31, .rw, 0, .none⟩, ⟨30, 30, .rw, 0, .none⟩, ⟨5, 0, .rw, 1, .none⟩]

end Sys2Proof.Machine
end

