-- ==== Sys2Proof/Machine/RegMap.lean ====
section
/-! DEFINITION. Generated from the index tables of spec/ and spec/19_register_map.md (R614 to R617): at
which BAR0 offset each register instance lies. -/

namespace Sys2Proof.Machine

/-- One level of an address pattern: `count` instances, `stride` bytes apart; instance n adds `iMul * n`
to the first index of the register instance and `jMul * n` to the second. -/
structure Dim where
  stride : Nat
  count : Nat
  iMul : Nat
  jMul : Nat
  deriving DecidableEq, Repr, Inhabited

/-- Where the instances of one register lie in BAR0. -/
structure AddrRow where
  reg : Reg
  base : Nat
  dims : List Dim
  iOff : Nat := 0
  deriving DecidableEq, Repr, Inhabited

/-- The registers of block glb. -/
def addrRows.glb : List AddrRow :=
  [⟨.GLB_ID, 0x0, [], 0⟩,
   ⟨.GLB_MODE, 0x10, [], 0⟩,
   ⟨.GLB_MODE_CFG, 0x14, [], 0⟩,
   ⟨.GLB_TILE_EN, 0x18, [], 0⟩,
   ⟨.GLB_CLAMP_SEEN, 0x20, [], 0⟩,
   ⟨.GLB_PTN_CFG, 0x1000, [⟨0x40, 32, 1, 0⟩], 0⟩,
   ⟨.GLB_PTN_HOME, 0x1004, [⟨0x40, 32, 1, 0⟩], 0⟩,
   ⟨.GLB_PTN_RDP, 0x1008, [⟨0x40, 32, 1, 0⟩, ⟨0x4, 8, 0, 1⟩], 0⟩,
   ⟨.GLB_PTN_LEND, 0x1028, [⟨0x40, 32, 1, 0⟩, ⟨0x4, 3, 0, 1⟩], 0⟩,
   ⟨.GLB_PTN_STATUS, 0x1034, [⟨0x40, 32, 1, 0⟩], 0⟩,
   ⟨.GLB_PTN_RST_DROP, 0x1038, [⟨0x40, 32, 1, 0⟩], 0⟩,
   ⟨.GLB_FLC_CMD, 0x2000, [], 0⟩,
   ⟨.GLB_FLC_STATUS, 0x2004, [], 0⟩,
   ⟨.GLB_FLC_DRAIN_LIMIT, 0x2008, [], 0⟩,
   ⟨.GLB_FLC_REQ_FREE, 0x200c, [], 0⟩,
   ⟨.GLB_FLC_REFUSED, 0x2010, [], 0⟩,
   ⟨.GLB_FLC_LATE, 0x2014, [], 0⟩,
   ⟨.GLB_FLC_STALE, 0x2018, [], 0⟩,
   ⟨.GLB_FLC_A, 0x10000, [⟨0x20, 4096, 1, 0⟩], 0⟩,
   ⟨.GLB_FLC_B, 0x10004, [⟨0x20, 4096, 1, 0⟩], 0⟩,
   ⟨.GLB_FLC_C, 0x10008, [⟨0x20, 4096, 1, 0⟩], 0⟩,
   ⟨.GLB_FLC_BASE_LO, 0x10010, [⟨0x20, 4096, 1, 0⟩], 0⟩,
   ⟨.GLB_FLC_BASE_HI, 0x10014, [⟨0x20, 4096, 1, 0⟩], 0⟩]

/-- The registers of block lbx. -/
def addrRows.lbx : List AddrRow :=
  [⟨.LBX_VIEW, 0x100000, [⟨0x10, 34, 1, 0⟩], 0⟩,
   ⟨.LBX_OWNER, 0x101000, [], 0⟩,
   ⟨.LBX_ELECT_CFG, 0x101004, [], 0⟩,
   ⟨.LBX_SMB_CFG, 0x101008, [], 0⟩,
   ⟨.LBX_FW_STATUS, 0x10100c, [], 0⟩,
   ⟨.LBX_FW_VERSION, 0x101010, [], 0⟩,
   ⟨.LBX_STORE_STATUS, 0x101014, [], 0⟩,
   ⟨.LBX_STORE_GEN, 0x101018, [], 0⟩,
   ⟨.LBX_CLAMP_SEEN, 0x10101c, [], 0⟩,
   ⟨.LBX_DROP, 0x101020, [], 0⟩]

/-- The registers of block flt. -/
def addrRows.flt : List AddrRow :=
  [⟨.FLT_CFG, 0x200000, [], 0⟩,
   ⟨.FLT_STATUS, 0x200004, [], 0⟩,
   ⟨.FLT_SAFE_CAUSE, 0x200008, [], 0⟩,
   ⟨.FLT_CPL_TO, 0x20000c, [], 0⟩,
   ⟨.FLT_LOG_PROD, 0x200010, [], 0⟩,
   ⟨.FLT_LOG_CONS, 0x200014, [], 0⟩,
   ⟨.FLT_LOG_LOST, 0x200018, [], 0⟩,
   ⟨.FLT_UNEXP_CPL, 0x20001c, [], 0⟩,
   ⟨.FLT_CPL_TO_CNT, 0x200020, [], 0⟩,
   ⟨.FLT_SYNTH_CNT, 0x200024, [], 0⟩,
   ⟨.FLT_SEV_CNT, 0x200030, [⟨0x4, 4, 1, 0⟩], 0⟩,
   ⟨.FLT_ACT, 0x200040, [⟨0x4, 4, 1, 0⟩], 0⟩,
   ⟨.FLT_CONTAIN_PTN, 0x200050, [], 0⟩,
   ⟨.FLT_CONTAIN_PORT, 0x200054, [⟨0x4, 3, 1, 0⟩], 0⟩,
   ⟨.FLT_CONTAIN_SEG, 0x200060, [], 0⟩,
   ⟨.FLT_TRACK_FREE, 0x200080, [⟨0x4, 12, 1, 0⟩], 0⟩,
   ⟨.FLT_FORCE, 0x200100, [⟨0x4, 15, 1, 0⟩], 0⟩,
   ⟨.FLT_SRC, 0x201000, [⟨0x80, 12, 32, 0⟩, ⟨0x4, 24, 1, 0⟩], 0⟩,
   ⟨.FLT_SRC, 0x201600, [⟨0x4, 96, 1, 0⟩], 384⟩,
   ⟨.FLT_LOG_W, 0x210000, [⟨0x20, 1024, 1, 0⟩, ⟨0x4, 5, 0, 1⟩], 0⟩,
   ⟨.FLT_SIL_CFG, 0x220000, [], 0⟩,
   ⟨.FLT_SIL_CTL, 0x220004, [], 0⟩,
   ⟨.FLT_SIL_STATUS, 0x220008, [], 0⟩,
   ⟨.FLT_SIL_CAUSE, 0x22000c, [], 0⟩] ++
  [⟨.FLT_SIL_LOST, 0x220010, [], 0⟩,
   ⟨.FLT_SIL_PROBE, 0x220040, [⟨0x4, 16, 1, 0⟩], 0⟩,
   ⟨.FLT_SIL_REC_W, 0x240000, [⟨0x10, 4096, 1, 0⟩, ⟨0x4, 4, 0, 1⟩], 0⟩]

/-- The registers of block pwr. -/
def addrRows.pwr : List AddrRow :=
  [⟨.PWR_CTL, 0x300000, [], 0⟩,
   ⟨.PWR_STATUS, 0x300004, [], 0⟩,
   ⟨.PWR_CFG, 0x300008, [], 0⟩,
   ⟨.PWR_WAKE_EN, 0x30000c, [], 0⟩,
   ⟨.PWR_WAKE_LAST, 0x300010, [], 0⟩,
   ⟨.PWR_WAKE_PEND, 0x300014, [], 0⟩,
   ⟨.PWR_WAKE_RTC_LO, 0x300018, [], 0⟩,
   ⟨.PWR_WAKE_RTC_HI, 0x30001c, [], 0⟩,
   ⟨.PWR_RTC_LO, 0x300020, [], 0⟩,
   ⟨.PWR_RTC_HI, 0x300024, [], 0⟩,
   ⟨.PWR_ALARM_LO, 0x300028, [], 0⟩,
   ⟨.PWR_ALARM_HI, 0x30002c, [], 0⟩,
   ⟨.PWR_ALARM_CTL, 0x300030, [], 0⟩,
   ⟨.PWR_LP_BUDGET, 0x300034, [], 0⟩,
   ⟨.PWR_SUPPLY, 0x300038, [], 0⟩,
   ⟨.PWR_SUPPLY_MIN, 0x30003c, [], 0⟩,
   ⟨.PWR_TEMP, 0x300040, [], 0⟩,
   ⟨.PWR_RESET_CAUSE, 0x300044, [], 0⟩,
   ⟨.PWR_EXIT_LAST, 0x300048, [], 0⟩,
   ⟨.PWR_CLAMP_SEEN, 0x30004c, [], 0⟩]

/-- The registers of block tim. -/
def addrRows.tim : List AddrRow :=
  [⟨.TIM_NOW_LO, 0x400000, [], 0⟩,
   ⟨.TIM_NOW_HI, 0x400004, [], 0⟩,
   ⟨.TIM_NOW_FRAC, 0x400008, [], 0⟩,
   ⟨.TIM_CFG, 0x400010, [], 0⟩,
   ⟨.TIM_STATUS, 0x400014, [], 0⟩,
   ⟨.TIM_SYNC_CFG, 0x400018, [], 0⟩,
   ⟨.TIM_SYNC_ERR, 0x40001c, [], 0⟩,
   ⟨.TIM_RATE_ADJ, 0x400020, [], 0⟩,
   ⟨.TIM_OFS_ADJ, 0x400024, [], 0⟩,
   ⟨.TIM_ADJ_CTL, 0x400028, [], 0⟩,
   ⟨.TIM_DELAY_COMP, 0x40002c, [], 0⟩,
   ⟨.TIM_SET_LO, 0x400030, [], 0⟩,
   ⟨.TIM_SET_HI, 0x400034, [], 0⟩,
   ⟨.TIM_STEP_LO, 0x400038, [], 0⟩,
   ⟨.TIM_STEP_HI, 0x40003c, [], 0⟩,
   ⟨.TIM_TOD_ERR, 0x400040, [], 0⟩,
   ⟨.TIM_LATE, 0x400044, [], 0⟩,
   ⟨.TIM_ACT_LOST, 0x400048, [], 0⟩,
   ⟨.TIM_MSG_DENY, 0x40004c, [], 0⟩,
   ⟨.TIM_COLLIDE, 0x400050, [], 0⟩,
   ⟨.TIM_CLAMP_SEEN, 0x400054, [], 0⟩,
   ⟨.TIM_VIOL_LAST, 0x400058, [], 0⟩,
   ⟨.TIM_TRIG_CFG, 0x400060, [], 0⟩,
   ⟨.TIM_TRIG_STATE, 0x400064, [], 0⟩] ++
  [⟨.TIM_STAR_STATE, 0x400068, [], 0⟩,
   ⟨.TIM_TRIG_STUCK, 0x40006c, [], 0⟩,
   ⟨.TIM_TS_LO, 0x400070, [], 0⟩,
   ⟨.TIM_TS_HI, 0x400074, [], 0⟩,
   ⟨.TIM_TS_INFO, 0x400078, [], 0⟩,
   ⟨.TIM_ACT_A, 0x401000, [⟨0x20, 256, 1, 0⟩], 0⟩,
   ⟨.TIM_ACT_B, 0x401004, [⟨0x20, 256, 1, 0⟩], 0⟩,
   ⟨.TIM_ACT_TIME_LO, 0x401008, [⟨0x20, 256, 1, 0⟩], 0⟩,
   ⟨.TIM_ACT_TIME_HI, 0x40100c, [⟨0x20, 256, 1, 0⟩], 0⟩,
   ⟨.TIM_ACT_PERIOD, 0x401010, [⟨0x20, 256, 1, 0⟩], 0⟩,
   ⟨.TIM_ACT_COUNT, 0x401014, [⟨0x20, 256, 1, 0⟩], 0⟩,
   ⟨.TIM_ACT_MASK, 0x401018, [⟨0x20, 256, 1, 0⟩], 0⟩,
   ⟨.TIM_MTX_A, 0x403000, [⟨0x20, 64, 1, 0⟩], 0⟩,
   ⟨.TIM_MTX_DELAY, 0x403004, [⟨0x20, 64, 1, 0⟩], 0⟩,
   ⟨.TIM_MTX_B, 0x403008, [⟨0x20, 64, 1, 0⟩], 0⟩,
   ⟨.TIM_MTX_MASK, 0x40300c, [⟨0x20, 64, 1, 0⟩], 0⟩,
   ⟨.TIM_MTX_SRC_MASK, 0x403010, [⟨0x20, 64, 1, 0⟩], 0⟩]

/-- The registers of block fus. -/
def addrRows.fus : List AddrRow :=
  [⟨.FUS_CFG, 0x500000, [], 0⟩,
   ⟨.FUS_STATUS, 0x500004, [], 0⟩,
   ⟨.FUS_CTL, 0x500008, [], 0⟩,
   ⟨.FUS_CLAMP_SEEN, 0x50000c, [], 0⟩,
   ⟨.FUS_VIOL_LAST, 0x500010, [], 0⟩,
   ⟨.FUS_HOLDUP_CFG, 0x500020, [], 0⟩,
   ⟨.FUS_HOLDUP_V, 0x500024, [], 0⟩,
   ⟨.FUS_HOLDUP_E, 0x500028, [], 0⟩,
   ⟨.FUS_CHAN_CFG, 0x501000, [⟨0x40, 24, 1, 0⟩], 0⟩,
   ⟨.FUS_CHAN_LIM, 0x501004, [⟨0x40, 24, 1, 0⟩], 0⟩,
   ⟨.FUS_CHAN_TIME, 0x501008, [⟨0x40, 24, 1, 0⟩], 0⟩,
   ⟨.FUS_CHAN_RAMP, 0x50100c, [⟨0x40, 24, 1, 0⟩], 0⟩,
   ⟨.FUS_CHAN_SENSE, 0x501010, [⟨0x40, 24, 1, 0⟩], 0⟩,
   ⟨.FUS_CHAN_CTL, 0x501014, [⟨0x40, 24, 1, 0⟩], 0⟩,
   ⟨.FUS_CHAN_STATUS, 0x501018, [⟨0x40, 24, 1, 0⟩], 0⟩,
   ⟨.FUS_CHAN_VI, 0x50101c, [⟨0x40, 24, 1, 0⟩], 0⟩,
   ⟨.FUS_CHAN_P, 0x501020, [⟨0x40, 24, 1, 0⟩], 0⟩,
   ⟨.FUS_CHAN_E_LO, 0x501024, [⟨0x40, 24, 1, 0⟩], 0⟩,
   ⟨.FUS_CHAN_E_HI, 0x501028, [⟨0x40, 24, 1, 0⟩], 0⟩,
   ⟨.FUS_CHAN_TRIPS, 0x50102c, [⟨0x40, 24, 1, 0⟩], 0⟩]

/-- The registers of block lpb. -/
def addrRows.lpb : List AddrRow :=
  [⟨.LPB_CFG, 0x600000, [], 0⟩,
   ⟨.LPB_STATUS, 0x600004, [], 0⟩,
   ⟨.LPB_TMO, 0x600008, [], 0⟩,
   ⟨.LPB_TMO2, 0x60000c, [], 0⟩,
   ⟨.LPB_ARB, 0x600010, [], 0⟩,
   ⟨.LPB_CFG_ADDR, 0x600014, [], 0⟩,
   ⟨.LPB_CFG_DATA, 0x600018, [], 0⟩,
   ⟨.LPB_VIOL_LAST, 0x60001c, [], 0⟩,
   ⟨.LPB_CLAMP_SEEN, 0x600020, [], 0⟩,
   ⟨.LPB_MABORT, 0x600030, [], 0⟩,
   ⟨.LPB_TABORT, 0x600034, [], 0⟩,
   ⟨.LPB_RETRY, 0x600038, [], 0⟩,
   ⟨.LPB_PARITY, 0x60003c, [], 0⟩,
   ⟨.LPB_PF_HIT, 0x600040, [], 0⟩,
   ⟨.LPB_DISCARD, 0x600044, [], 0⟩,
   ⟨.LPB_UP_A, 0x600080, [], 0⟩,
   ⟨.LPB_UP_SBASE, 0x600084, [], 0⟩,
   ⟨.LPB_UP_HBASE_LO, 0x600088, [], 0⟩,
   ⟨.LPB_UP_HBASE_HI, 0x60008c, [], 0⟩,
   ⟨.LPB_WIN_A, 0x600100, [⟨0x10, 8, 1, 0⟩], 0⟩,
   ⟨.LPB_WIN_HBASE_LO, 0x600104, [⟨0x10, 8, 1, 0⟩], 0⟩,
   ⟨.LPB_WIN_HBASE_HI, 0x600108, [⟨0x10, 8, 1, 0⟩], 0⟩,
   ⟨.LPB_WIN_SBASE, 0x60010c, [⟨0x10, 8, 1, 0⟩], 0⟩]

/-- The registers of block ctr. -/
def addrRows.ctr : List AddrRow :=
  [⟨.CTR_SNAP, 0x700000, [], 0⟩,
   ⟨.CTR_SNAP_STATUS, 0x700004, [], 0⟩,
   ⟨.CTR_SNAP_TIME_LO, 0x700008, [], 0⟩,
   ⟨.CTR_SNAP_TIME_HI, 0x70000c, [], 0⟩,
   ⟨.CTR_SEL, 0x700010, [], 0⟩,
   ⟨.CTR_DBG_STATUS, 0x700020, [], 0⟩]

/-- The registers of block gat. -/
def addrRows.gat : List AddrRow :=
  [⟨.GAT_COMMIT, 0x800000, [], 0⟩,
   ⟨.GAT_COMMIT_STATUS, 0x800004, [], 0⟩,
   ⟨.GAT_LIFECYCLE, 0x800008, [], 0⟩,
   ⟨.GAT_CLAMP_SEEN, 0x80000c, [], 0⟩,
   ⟨.GAT_VIOL_STATUS, 0x800010, [], 0⟩,
   ⟨.GAT_VIOL_ADDR_LO, 0x800014, [], 0⟩,
   ⟨.GAT_VIOL_ADDR_HI, 0x800018, [], 0⟩,
   ⟨.GAT_VIOL_SRC, 0x80001c, [], 0⟩,
   ⟨.GAT_VIOL_COUNT, 0x800020, [], 0⟩,
   ⟨.GAT_GATE_CFG, 0x800100, [⟨0x4, 112, 1, 0⟩], 0⟩,
   ⟨.GAT_GATE_DEF, 0x800400, [⟨0x4, 112, 1, 0⟩], 0⟩,
   ⟨.GAT_RGN_A, 0x810000, [⟨0x200, 112, 1, 0⟩, ⟨0x10, 32, 0, 1⟩], 0⟩,
   ⟨.GAT_RGN_B, 0x810004, [⟨0x200, 112, 1, 0⟩, ⟨0x10, 32, 0, 1⟩], 0⟩,
   ⟨.GAT_RGN_C, 0x810008, [⟨0x200, 112, 1, 0⟩, ⟨0x10, 32, 0, 1⟩], 0⟩,
   ⟨.GAT_TAG, 0x820000, [⟨0x100, 12, 1, 0⟩, ⟨0x4, 64, 0, 1⟩], 0⟩]

/-- The registers of block cel. -/
def addrRows.cel : List AddrRow :=
  [⟨.CEL_SHARED_CFG, 0xd000000, [], 0⟩,
   ⟨.CEL_POOL_STATUS, 0xd000004, [], 0⟩,
   ⟨.CEL_RSV_STATUS, 0xd000008, [], 0⟩,
   ⟨.CEL_NP_USE, 0xd00000c, [], 0⟩,
   ⟨.CEL_CLAMP_SEEN, 0xd000010, [], 0⟩,
   ⟨.CEL_ECC_CORR, 0xd000020, [], 0⟩,
   ⟨.CEL_ECC_UNCORR, 0xd000024, [], 0⟩,
   ⟨.CEL_ECC_ADDR, 0xd000028, [], 0⟩,
   ⟨.CEL_AGED_P, 0xd000030, [], 0⟩,
   ⟨.CEL_AGED_NP, 0xd000034, [], 0⟩,
   ⟨.CEL_AGED_CPL, 0xd000038, [], 0⟩,
   ⟨.HWY_UNDERRUN, 0xd000040, [], 0⟩,
   ⟨.HWY_TAIL_MARK, 0xd000044, [], 0⟩,
   ⟨.HWY_MC_DEFER, 0xd000048, [], 0⟩,
   ⟨.HWY_DESC_FREE, 0xd000080, [⟨0x4, 12, 1, 0⟩], 0⟩,
   ⟨.CEL_CLASS_CFG, 0xd000100, [⟨0x4, 8, 1, 0⟩], 0⟩,
   ⟨.CEL_AGE_LIMIT, 0xd000120, [⟨0x4, 8, 1, 0⟩], 0⟩,
   ⟨.CEL_PORT_CFG, 0xd001000, [⟨0x4, 96, 1, 0⟩], 0⟩,
   ⟨.CEL_PORT_USE, 0xd001200, [⟨0x4, 96, 1, 0⟩], 0⟩,
   ⟨.CEL_Q_USE, 0xd002000, [⟨0x20, 96, 1, 0⟩, ⟨0x4, 8, 0, 1⟩], 0⟩]

/-- The registers of block fab. -/
def addrRows.fab : List AddrRow :=
  [⟨.FAB_ID, 0xe000000, [⟨0x4, 2, 1, 0⟩], 0⟩,
   ⟨.FAB_CFG, 0xe000008, [], 0⟩,
   ⟨.FAB_ROUTE_COMMIT, 0xe00000c, [], 0⟩,
   ⟨.FAB_UID_LO, 0xe000010, [], 0⟩,
   ⟨.FAB_UID_HI, 0xe000014, [], 0⟩,
   ⟨.FAB_SIDE, 0xe000018, [⟨0x4, 3, 1, 0⟩], 0⟩,
   ⟨.FAB_UP, 0xe000030, [⟨0x4, 2, 1, 0⟩], 0⟩,
   ⟨.FAB_NOROUTE, 0xe000040, [], 0⟩,
   ⟨.FAB_TTL_DROP, 0xe000044, [], 0⟩,
   ⟨.FAB_TRANSIT_DROP, 0xe000048, [], 0⟩,
   ⟨.FAB_VH_MISS, 0xe00004c, [], 0⟩,
   ⟨.FAB_CLAMP_SEEN, 0xe000050, [], 0⟩,
   ⟨.FAB_VIOL_LAST, 0xe000054, [], 0⟩,
   ⟨.FAB_MOVE_FORCED, 0xe000058, [], 0⟩,
   ⟨.FAB_CRT, 0xe000100, [⟨0x100, 2, 1, 0⟩, ⟨0x4, 64, 0, 1⟩], 0⟩,
   ⟨.FAB_DRT_A, 0xe000400, [⟨0x8, 256, 1, 0⟩], 0⟩,
   ⟨.FAB_DRT_B, 0xe000404, [⟨0x8, 256, 1, 0⟩], 0⟩,
   ⟨.FAB_GRP_A, 0xe000c00, [⟨0x8, 32, 1, 0⟩], 0⟩,
   ⟨.FAB_GRP_B, 0xe000c04, [⟨0x8, 32, 1, 0⟩], 0⟩,
   ⟨.FAB_GRP_LIVE, 0xe000d00, [⟨0x4, 32, 1, 0⟩], 0⟩,
   ⟨.FAB_VH_MAP, 0xe000e00, [⟨0x4, 32, 1, 0⟩], 0⟩,
   ⟨.FAB_NBR_A, 0xe001000, [⟨0x10, 96, 1, 0⟩], 0⟩,
   ⟨.FAB_NBR_B, 0xe001004, [⟨0x10, 96, 1, 0⟩], 0⟩,
   ⟨.FAB_NBR_UID_LO, 0xe001008, [⟨0x10, 96, 1, 0⟩], 0⟩] ++
  [⟨.FAB_NBR_UID_HI, 0xe00100c, [⟨0x10, 96, 1, 0⟩], 0⟩,
   ⟨.FAB_FL_BUDGET, 0xe001800, [⟨0x4, 96, 1, 0⟩], 0⟩]

/-- The registers of block sds. -/
def addrRows.sds : List AddrRow :=
  [⟨.SDS_LN_CTL, 0x1000000, [⟨0x1000000, 12, 16, 0⟩, ⟨0x1000, 16, 1, 0⟩], 0⟩,
   ⟨.SDS_LN_STATUS, 0x1000004, [⟨0x1000000, 12, 16, 0⟩, ⟨0x1000, 16, 1, 0⟩], 0⟩,
   ⟨.SDS_LN_PAT_ERR, 0x1000008, [⟨0x1000000, 12, 16, 0⟩, ⟨0x1000, 16, 1, 0⟩], 0⟩,
   ⟨.SDS_LN_TXEQ, 0x1000010, [⟨0x1000000, 12, 16, 0⟩, ⟨0x1000, 16, 1, 0⟩], 0⟩,
   ⟨.SDS_LN_TXEQ_STAT, 0x1000014, [⟨0x1000000, 12, 16, 0⟩, ⟨0x1000, 16, 1, 0⟩], 0⟩,
   ⟨.SDS_LN_EQ_REJ, 0x1000018, [⟨0x1000000, 12, 16, 0⟩, ⟨0x1000, 16, 1, 0⟩], 0⟩,
   ⟨.SDS_LN_RXCTL, 0x1000020, [⟨0x1000000, 12, 16, 0⟩, ⟨0x1000, 16, 1, 0⟩], 0⟩,
   ⟨.SDS_LN_RXSTAT, 0x1000024, [⟨0x1000000, 12, 16, 0⟩, ⟨0x1000, 16, 1, 0⟩], 0⟩,
   ⟨.SDS_LN_EYE_CTL, 0x1000030, [⟨0x1000000, 12, 16, 0⟩, ⟨0x1000, 16, 1, 0⟩], 0⟩,
   ⟨.SDS_LN_EYE_STAT, 0x1000034, [⟨0x1000000, 12, 16, 0⟩, ⟨0x1000, 16, 1, 0⟩], 0⟩,
   ⟨.SDS_LN_EYE_ERR_LO, 0x1000038, [⟨0x1000000, 12, 16, 0⟩, ⟨0x1000, 16, 1, 0⟩], 0⟩,
   ⟨.SDS_LN_EYE_ERR_HI, 0x100003c, [⟨0x1000000, 12, 16, 0⟩, ⟨0x1000, 16, 1, 0⟩], 0⟩,
   ⟨.SDS_LN_EYE_CNT_LO, 0x1000040, [⟨0x1000000, 12, 16, 0⟩, ⟨0x1000, 16, 1, 0⟩], 0⟩,
   ⟨.SDS_LN_EYE_CNT_HI, 0x1000044, [⟨0x1000000, 12, 16, 0⟩, ⟨0x1000, 16, 1, 0⟩], 0⟩,
   ⟨.SDS_LN_PWR, 0x1000050, [⟨0x1000000, 12, 16, 0⟩, ⟨0x1000, 16, 1, 0⟩], 0⟩,
   ⟨.SDS_LN_EXIT_LAST, 0x1000054, [⟨0x1000000, 12, 16, 0⟩, ⟨0x1000, 16, 1, 0⟩], 0⟩,
   ⟨.SDS_REF_CFG, 0x1010000, [⟨0x1000000, 12, 1, 0⟩], 0⟩,
   ⟨.SDS_REF_STATUS, 0x1010004, [⟨0x1000000, 12, 1, 0⟩], 0⟩,
   ⟨.SDS_CLAMP_SEEN, 0x1010008, [⟨0x1000000, 12, 1, 0⟩], 0⟩,
   ⟨.SDS_QUAD_STATUS, 0x1010010, [⟨0x1000000, 12, 1, 0⟩], 0⟩]

/-- The registers of block prt. -/
def addrRows.prt : List AddrRow :=
  [⟨.PRT_PORT_CFG, 0x1200000, [⟨0x1000000, 12, 8, 0⟩, ⟨0x1000, 8, 1, 0⟩], 0⟩,
   ⟨.PRT_PORT_CFG2, 0x1200004, [⟨0x1000000, 12, 8, 0⟩, ⟨0x1000, 8, 1, 0⟩], 0⟩,
   ⟨.PRT_LINK_STATUS, 0x1200008, [⟨0x1000000, 12, 8, 0⟩, ⟨0x1000, 8, 1, 0⟩], 0⟩,
   ⟨.PRT_HP_CFG, 0x120000c, [⟨0x1000000, 12, 8, 0⟩, ⟨0x1000, 8, 1, 0⟩], 0⟩,
   ⟨.PRT_VIOL_LAST, 0x1200010, [⟨0x1000000, 12, 8, 0⟩, ⟨0x1000, 8, 1, 0⟩], 0⟩,
   ⟨.PRT_VIOL_COUNT, 0x1200014, [⟨0x1000000, 12, 8, 0⟩, ⟨0x1000, 8, 1, 0⟩], 0⟩,
   ⟨.PRT_TRAIN_FAIL, 0x1200018, [⟨0x1000000, 12, 8, 0⟩, ⟨0x1000, 8, 1, 0⟩], 0⟩,
   ⟨.PRT_CLAMP_SEEN, 0x1208000, [⟨0x1000000, 12, 1, 0⟩], 0⟩,
   ⟨.PRT_FL_CFG, 0x1200100, [⟨0x1000000, 12, 8, 0⟩, ⟨0x1000, 8, 1, 0⟩], 0⟩,
   ⟨.PRT_FL_TIMER, 0x1200104, [⟨0x1000000, 12, 8, 0⟩, ⟨0x1000, 8, 1, 0⟩], 0⟩,
   ⟨.PRT_FL_CRED_A, 0x1200108, [⟨0x1000000, 12, 8, 0⟩, ⟨0x1000, 8, 1, 0⟩], 0⟩,
   ⟨.PRT_FL_CRED_B, 0x120010c, [⟨0x1000000, 12, 8, 0⟩, ⟨0x1000, 8, 1, 0⟩], 0⟩,
   ⟨.PRT_FL_CTL, 0x1200110, [⟨0x1000000, 12, 8, 0⟩, ⟨0x1000, 8, 1, 0⟩], 0⟩,
   ⟨.PRT_FL_STATUS, 0x1200114, [⟨0x1000000, 12, 8, 0⟩, ⟨0x1000, 8, 1, 0⟩], 0⟩,
   ⟨.PRT_FL_SEQ, 0x1200118, [⟨0x1000000, 12, 8, 0⟩, ⟨0x1000, 8, 1, 0⟩], 0⟩,
   ⟨.PRT_FL_BUDGET, 0x120011c, [⟨0x1000000, 12, 8, 0⟩, ⟨0x1000, 8, 1, 0⟩], 0⟩,
   ⟨.PRT_FL_REPLAY_CNT, 0x1200120, [⟨0x1000000, 12, 8, 0⟩, ⟨0x1000, 8, 1, 0⟩], 0⟩,
   ⟨.PRT_FL_RETRAIN_CNT, 0x1200124, [⟨0x1000000, 12, 8, 0⟩, ⟨0x1000, 8, 1, 0⟩], 0⟩,
   ⟨.PRT_FL_CRC_ERR, 0x1200128, [⟨0x1000000, 12, 8, 0⟩, ⟨0x1000, 8, 1, 0⟩], 0⟩,
   ⟨.PRT_FL_FEC_CORR, 0x120012c, [⟨0x1000000, 12, 8, 0⟩, ⟨0x1000, 8, 1, 0⟩], 0⟩,
   ⟨.PRT_FL_FEC_UNCORR, 0x1200130, [⟨0x1000000, 12, 8, 0⟩, ⟨0x1000, 8, 1, 0⟩], 0⟩,
   ⟨.PRT_FL_DUP, 0x1200134, [⟨0x1000000, 12, 8, 0⟩, ⟨0x1000, 8, 1, 0⟩], 0⟩]

/-- The registers of block sch. -/
def addrRows.sch : List AddrRow :=
  [⟨.SCH_PORT_CFG, 0x1400000, [⟨0x1000000, 12, 8, 0⟩, ⟨0x1000, 8, 1, 0⟩], 0⟩,
   ⟨.SCH_NOTE_MAP, 0x1400004, [⟨0x1000000, 12, 8, 0⟩, ⟨0x1000, 8, 1, 0⟩], 0⟩,
   ⟨.SCH_Q_CFG, 0x1400010, [⟨0x1000000, 12, 8, 0⟩, ⟨0x1000, 8, 1, 0⟩, ⟨0x4, 8, 0, 1⟩], 0⟩,
   ⟨.SCH_Q_CREDIT, 0x1400040, [⟨0x1000000, 12, 8, 0⟩, ⟨0x1000, 8, 1, 0⟩, ⟨0x4, 8, 0, 1⟩], 0⟩,
   ⟨.SCH_OVERSIZE, 0x1400060, [⟨0x1000000, 12, 8, 0⟩, ⟨0x1000, 8, 1, 0⟩], 0⟩,
   ⟨.SCH_GATE_OVERRUN, 0x1400064, [⟨0x1000000, 12, 8, 0⟩, ⟨0x1000, 8, 1, 0⟩], 0⟩,
   ⟨.SCH_FLOW_MAP, 0x1400100, [⟨0x1000000, 12, 8, 0⟩, ⟨0x1000, 8, 1, 0⟩, ⟨0x4, 8, 0, 1⟩], 0⟩,
   ⟨.SCH_CLAMP_SEEN, 0x1408000, [⟨0x1000000, 12, 1, 0⟩], 0⟩,
   ⟨.SCH_METER_DROP, 0x1408004, [⟨0x1000000, 12, 1, 0⟩], 0⟩,
   ⟨.SCH_METER_HOLD, 0x1408008, [⟨0x1000000, 12, 1, 0⟩], 0⟩,
   ⟨.SCH_CTX_A, 0x1500000, [⟨0x1000000, 12, 0, 0⟩, ⟨0x20, 8192, 1, 0⟩], 0⟩,
   ⟨.SCH_CTX_CIR, 0x1500004, [⟨0x1000000, 12, 0, 0⟩, ⟨0x20, 8192, 1, 0⟩], 0⟩,
   ⟨.SCH_CTX_PIR, 0x1500008, [⟨0x1000000, 12, 0, 0⟩, ⟨0x20, 8192, 1, 0⟩], 0⟩,
   ⟨.SCH_CTX_CBS, 0x150000c, [⟨0x1000000, 12, 0, 0⟩, ⟨0x20, 8192, 1, 0⟩], 0⟩,
   ⟨.SCH_CTX_PBS, 0x1500010, [⟨0x1000000, 12, 0, 0⟩, ⟨0x20, 8192, 1, 0⟩], 0⟩,
   ⟨.SCH_CTX_GREEN, 0x1500014, [⟨0x1000000, 12, 0, 0⟩, ⟨0x20, 8192, 1, 0⟩], 0⟩,
   ⟨.SCH_CTX_YELLOW, 0x1500018, [⟨0x1000000, 12, 0, 0⟩, ⟨0x20, 8192, 1, 0⟩], 0⟩,
   ⟨.SCH_CTX_RED, 0x150001c, [⟨0x1000000, 12, 0, 0⟩, ⟨0x20, 8192, 1, 0⟩], 0⟩,
   ⟨.SCH_GCL_CTL, 0x1580000, [⟨0x1000000, 12, 8, 0⟩, ⟨0x1000, 8, 1, 0⟩], 0⟩,
   ⟨.SCH_GCL_STATUS, 0x1580004, [⟨0x1000000, 12, 8, 0⟩, ⟨0x1000, 8, 1, 0⟩], 0⟩,
   ⟨.SCH_GCL_BASE_LO, 0x1580008, [⟨0x1000000, 12, 8, 0⟩, ⟨0x1000, 8, 1, 0⟩, ⟨0x8, 2, 0, 1⟩], 0⟩,
   ⟨.SCH_GCL_BASE_HI, 0x158000c, [⟨0x1000000, 12, 8, 0⟩, ⟨0x1000, 8, 1, 0⟩, ⟨0x8, 2, 0, 1⟩], 0⟩,
   ⟨.SCH_GCL_LEN, 0x1580018, [⟨0x1000000, 12, 8, 0⟩, ⟨0x1000, 8, 1, 0⟩, ⟨0x4, 2, 0, 1⟩], 0⟩,
   ⟨.SCH_GCL_SWITCH_AT_LO, 0x1580020, [⟨0x1000000, 12, 8, 0⟩, ⟨0x1000, 8, 1, 0⟩], 0⟩] ++
  [⟨.SCH_GCL_SWITCH_AT_HI, 0x1580024, [⟨0x1000000, 12, 8, 0⟩, ⟨0x1000, 8, 1, 0⟩], 0⟩,
   ⟨.SCH_GCL_ENT, 0x1580400, [⟨0x1000000, 12, 8, 0⟩, ⟨0x1000, 8, 1, 0⟩, ⟨0x400, 2, 0, 256⟩, ⟨0x4, 256, 0, 1⟩], 0⟩]

/-- The registers of block acd. -/
def addrRows.acd : List AddrRow :=
  [⟨.ACD_CAP_A, 0x1600000, [⟨0x1000000, 12, 1, 0⟩, ⟨0x20, 64, 0, 1⟩], 0⟩,
   ⟨.ACD_CAP_RID, 0x1600004, [⟨0x1000000, 12, 1, 0⟩, ⟨0x20, 64, 0, 1⟩], 0⟩,
   ⟨.ACD_CAP_PASID, 0x1600008, [⟨0x1000000, 12, 1, 0⟩, ⟨0x20, 64, 0, 1⟩], 0⟩,
   ⟨.ACD_CAP_WBASE_LO, 0x160000c, [⟨0x1000000, 12, 1, 0⟩, ⟨0x20, 64, 0, 1⟩], 0⟩,
   ⟨.ACD_CAP_WBASE_HI, 0x1600010, [⟨0x1000000, 12, 1, 0⟩, ⟨0x20, 64, 0, 1⟩], 0⟩,
   ⟨.ACD_CAP_WLEN, 0x1600014, [⟨0x1000000, 12, 1, 0⟩, ⟨0x20, 64, 0, 1⟩], 0⟩,
   ⟨.ACD_CAP_HITS, 0x1600018, [⟨0x1000000, 12, 1, 0⟩, ⟨0x20, 64, 0, 1⟩], 0⟩,
   ⟨.ACD_JOB_CFG, 0x1610000, [⟨0x1000000, 12, 1, 0⟩, ⟨0x40, 32, 0, 1⟩], 0⟩,
   ⟨.ACD_JOB_SET, 0x1610004, [⟨0x1000000, 12, 1, 0⟩, ⟨0x40, 32, 0, 1⟩], 0⟩,
   ⟨.ACD_JOB_RING, 0x1610008, [⟨0x1000000, 12, 1, 0⟩, ⟨0x40, 32, 0, 1⟩], 0⟩,
   ⟨.ACD_JOB_LEN, 0x161000c, [⟨0x1000000, 12, 1, 0⟩, ⟨0x40, 32, 0, 1⟩], 0⟩,
   ⟨.ACD_JOB_STAGE, 0x1610010, [⟨0x1000000, 12, 1, 0⟩, ⟨0x40, 32, 0, 1⟩], 0⟩,
   ⟨.ACD_JOB_DB, 0x1610014, [⟨0x1000000, 12, 1, 0⟩, ⟨0x40, 32, 0, 1⟩], 0⟩,
   ⟨.ACD_JOB_DST, 0x1610018, [⟨0x1000000, 12, 1, 0⟩, ⟨0x40, 32, 0, 1⟩], 0⟩,
   ⟨.ACD_JOB_CTL, 0x161001c, [⟨0x1000000, 12, 1, 0⟩, ⟨0x40, 32, 0, 1⟩], 0⟩,
   ⟨.ACD_JOB_STATUS, 0x1610020, [⟨0x1000000, 12, 1, 0⟩, ⟨0x40, 32, 0, 1⟩], 0⟩,
   ⟨.ACD_JOB_READY, 0x1610024, [⟨0x1000000, 12, 1, 0⟩, ⟨0x40, 32, 0, 1⟩], 0⟩,
   ⟨.ACD_JOB_RECNO, 0x1610028, [⟨0x1000000, 12, 1, 0⟩, ⟨0x40, 32, 0, 1⟩], 0⟩,
   ⟨.ACD_JOB_DONE, 0x161002c, [⟨0x1000000, 12, 1, 0⟩, ⟨0x40, 32, 0, 1⟩], 0⟩,
   ⟨.ACD_JOB_ERR, 0x1610030, [⟨0x1000000, 12, 1, 0⟩, ⟨0x40, 32, 0, 1⟩], 0⟩,
   ⟨.ACD_JOB_LOST, 0x1610034, [⟨0x1000000, 12, 1, 0⟩, ⟨0x40, 32, 0, 1⟩], 0⟩,
   ⟨.ACD_JOB_GAP, 0x1610038, [⟨0x1000000, 12, 1, 0⟩, ⟨0x40, 32, 0, 1⟩], 0⟩,
   ⟨.ACD_DST_A, 0x1620000, [⟨0x1000000, 12, 1, 0⟩, ⟨0x20, 64, 0, 1⟩], 0⟩,
   ⟨.ACD_DST_B, 0x1620004, [⟨0x1000000, 12, 1, 0⟩, ⟨0x20, 64, 0, 1⟩], 0⟩] ++
  [⟨.ACD_DST_BASE_LO, 0x1620008, [⟨0x1000000, 12, 1, 0⟩, ⟨0x20, 64, 0, 1⟩], 0⟩,
   ⟨.ACD_DST_BASE_HI, 0x162000c, [⟨0x1000000, 12, 1, 0⟩, ⟨0x20, 64, 0, 1⟩], 0⟩,
   ⟨.ACD_DST_RPT_LO, 0x1620010, [⟨0x1000000, 12, 1, 0⟩, ⟨0x20, 64, 0, 1⟩], 0⟩,
   ⟨.ACD_DST_RPT_HI, 0x1620014, [⟨0x1000000, 12, 1, 0⟩, ⟨0x20, 64, 0, 1⟩], 0⟩,
   ⟨.ACD_DST_PROD, 0x1620018, [⟨0x1000000, 12, 1, 0⟩, ⟨0x20, 64, 0, 1⟩], 0⟩,
   ⟨.ACD_DST_DROP, 0x162001c, [⟨0x1000000, 12, 1, 0⟩, ⟨0x20, 64, 0, 1⟩], 0⟩,
   ⟨.ACD_LOAD_CTL, 0x1630000, [⟨0x1000000, 12, 1, 0⟩], 0⟩,
   ⟨.ACD_LOAD_SRC, 0x1630004, [⟨0x1000000, 12, 1, 0⟩], 0⟩,
   ⟨.ACD_CLAMP_SEEN, 0x1630008, [⟨0x1000000, 12, 1, 0⟩], 0⟩,
   ⟨.ACD_ECC_CORR, 0x1630010, [⟨0x1000000, 12, 1, 0⟩], 0⟩,
   ⟨.ACD_ECC_UNCORR, 0x1630014, [⟨0x1000000, 12, 1, 0⟩], 0⟩,
   ⟨.ACD_ECC_ADDR, 0x1630018, [⟨0x1000000, 12, 1, 0⟩], 0⟩,
   ⟨.ACD_ENG_STATUS, 0x1640000, [⟨0x1000000, 12, 128, 0⟩, ⟨0x10, 128, 1, 0⟩], 0⟩,
   ⟨.ACD_ENG_RECNO, 0x1640004, [⟨0x1000000, 12, 128, 0⟩, ⟨0x10, 128, 1, 0⟩], 0⟩,
   ⟨.ACD_ENG_LAST_ERR, 0x1640008, [⟨0x1000000, 12, 128, 0⟩, ⟨0x10, 128, 1, 0⟩], 0⟩,
   ⟨.ACD_PS_INSN, 0x1700000, [⟨0x1000000, 12, 128, 0⟩, ⟨0x1000, 128, 1, 0⟩, ⟨0x4, 512, 0, 1⟩], 0⟩,
   ⟨.ACD_PS_DESC_A, 0x1700800, [⟨0x1000000, 12, 128, 0⟩, ⟨0x1000, 128, 1, 0⟩, ⟨0x8, 64, 0, 1⟩], 0⟩,
   ⟨.ACD_PS_DESC_B, 0x1700804, [⟨0x1000000, 12, 128, 0⟩, ⟨0x1000, 128, 1, 0⟩, ⟨0x8, 64, 0, 1⟩], 0⟩,
   ⟨.ACD_PS_SCALE_LO, 0x1700a00, [⟨0x1000000, 12, 128, 0⟩, ⟨0x1000, 128, 1, 0⟩, ⟨0x8, 16, 0, 1⟩], 0⟩,
   ⟨.ACD_PS_SCALE_HI, 0x1700a04, [⟨0x1000000, 12, 128, 0⟩, ⟨0x1000, 128, 1, 0⟩, ⟨0x8, 16, 0, 1⟩], 0⟩]

/-- The registers of block tct. -/
def addrRows.tct : List AddrRow :=
  [⟨.TCT_CYC_LO, 0x1a00000, [⟨0x1000000, 12, 256, 0⟩, ⟨0x100, 8, 1, 0⟩], 0⟩,
   ⟨.TCT_CYC_HI, 0x1a00004, [⟨0x1000000, 12, 256, 0⟩, ⟨0x100, 8, 1, 0⟩], 0⟩,
   ⟨.TCT_CYC_SNAP_LO, 0x1a00008, [⟨0x1000000, 12, 256, 0⟩, ⟨0x100, 8, 1, 0⟩], 0⟩,
   ⟨.TCT_CYC_SNAP_HI, 0x1a0000c, [⟨0x1000000, 12, 256, 0⟩, ⟨0x100, 8, 1, 0⟩], 0⟩,
   ⟨.TCT_EVT_CFG, 0x1a00010, [⟨0x1000000, 12, 256, 0⟩, ⟨0x100, 8, 1, 0⟩, ⟨0x4, 8, 0, 1⟩], 0⟩,
   ⟨.TCT_UNIT_STATUS, 0x1a00030, [⟨0x1000000, 12, 256, 0⟩, ⟨0x100, 8, 1, 0⟩], 0⟩,
   ⟨.TCT_CNT_LO, 0x1a00040, [⟨0x1000000, 12, 256, 0⟩, ⟨0x100, 8, 1, 0⟩, ⟨0x8, 8, 0, 1⟩], 0⟩,
   ⟨.TCT_CNT_HI, 0x1a00044, [⟨0x1000000, 12, 256, 0⟩, ⟨0x100, 8, 1, 0⟩, ⟨0x8, 8, 0, 1⟩], 0⟩,
   ⟨.TCT_SNAP_LO, 0x1a00080, [⟨0x1000000, 12, 256, 0⟩, ⟨0x100, 8, 1, 0⟩, ⟨0x8, 8, 0, 1⟩], 0⟩,
   ⟨.TCT_SNAP_HI, 0x1a00084, [⟨0x1000000, 12, 256, 0⟩, ⟨0x100, 8, 1, 0⟩, ⟨0x8, 8, 0, 1⟩], 0⟩,
   ⟨.TCT_CYC_LO, 0x1a00800, [⟨0x1000000, 12, 256, 0⟩, ⟨0x100, 1, 1, 0⟩], 8⟩,
   ⟨.TCT_CYC_HI, 0x1a00804, [⟨0x1000000, 12, 256, 0⟩, ⟨0x100, 1, 1, 0⟩], 8⟩,
   ⟨.TCT_CYC_SNAP_LO, 0x1a00808, [⟨0x1000000, 12, 256, 0⟩, ⟨0x100, 1, 1, 0⟩], 8⟩,
   ⟨.TCT_CYC_SNAP_HI, 0x1a0080c, [⟨0x1000000, 12, 256, 0⟩, ⟨0x100, 1, 1, 0⟩], 8⟩,
   ⟨.TCT_EVT_CFG, 0x1a00810, [⟨0x1000000, 12, 256, 0⟩, ⟨0x100, 1, 1, 0⟩, ⟨0x4, 4, 0, 1⟩], 8⟩,
   ⟨.TCT_UNIT_STATUS, 0x1a00830, [⟨0x1000000, 12, 256, 0⟩, ⟨0x100, 1, 1, 0⟩], 8⟩,
   ⟨.TCT_CNT_LO, 0x1a00840, [⟨0x1000000, 12, 256, 0⟩, ⟨0x100, 1, 1, 0⟩, ⟨0x8, 4, 0, 1⟩], 8⟩,
   ⟨.TCT_CNT_HI, 0x1a00844, [⟨0x1000000, 12, 256, 0⟩, ⟨0x100, 1, 1, 0⟩, ⟨0x8, 4, 0, 1⟩], 8⟩,
   ⟨.TCT_SNAP_LO, 0x1a00880, [⟨0x1000000, 12, 256, 0⟩, ⟨0x100, 1, 1, 0⟩, ⟨0x8, 4, 0, 1⟩], 8⟩,
   ⟨.TCT_SNAP_HI, 0x1a00884, [⟨0x1000000, 12, 256, 0⟩, ⟨0x100, 1, 1, 0⟩, ⟨0x8, 4, 0, 1⟩], 8⟩,
   ⟨.TCT_CYC_LO, 0x1a08000, [⟨0x1000000, 12, 256, 0⟩, ⟨0x100, 128, 1, 0⟩], 128⟩,
   ⟨.TCT_CYC_HI, 0x1a08004, [⟨0x1000000, 12, 256, 0⟩, ⟨0x100, 128, 1, 0⟩], 128⟩,
   ⟨.TCT_CYC_SNAP_LO, 0x1a08008, [⟨0x1000000, 12, 256, 0⟩, ⟨0x100, 128, 1, 0⟩], 128⟩,
   ⟨.TCT_CYC_SNAP_HI, 0x1a0800c, [⟨0x1000000, 12, 256, 0⟩, ⟨0x100, 128, 1, 0⟩], 128⟩] ++
  [⟨.TCT_EVT_CFG, 0x1a08010, [⟨0x1000000, 12, 256, 0⟩, ⟨0x100, 128, 1, 0⟩, ⟨0x4, 8, 0, 1⟩], 128⟩,
   ⟨.TCT_UNIT_STATUS, 0x1a08030, [⟨0x1000000, 12, 256, 0⟩, ⟨0x100, 128, 1, 0⟩], 128⟩,
   ⟨.TCT_CNT_LO, 0x1a08040, [⟨0x1000000, 12, 256, 0⟩, ⟨0x100, 128, 1, 0⟩, ⟨0x8, 8, 0, 1⟩], 128⟩,
   ⟨.TCT_CNT_HI, 0x1a08044, [⟨0x1000000, 12, 256, 0⟩, ⟨0x100, 128, 1, 0⟩, ⟨0x8, 8, 0, 1⟩], 128⟩,
   ⟨.TCT_SNAP_LO, 0x1a08080, [⟨0x1000000, 12, 256, 0⟩, ⟨0x100, 128, 1, 0⟩, ⟨0x8, 8, 0, 1⟩], 128⟩,
   ⟨.TCT_SNAP_HI, 0x1a08084, [⟨0x1000000, 12, 256, 0⟩, ⟨0x100, 128, 1, 0⟩, ⟨0x8, 8, 0, 1⟩], 128⟩]

end Sys2Proof.Machine
end

