-- ==== Sys2Proof/Machine/Fields.lean ====
section
/-! DEFINITION. Generated from the field tables of spec/ (00 to 17): one constant per field, naming its
register and its bits, so that the meanings name fields as the spec does. -/

namespace Sys2Proof.Machine

/-- A field of a register: the register's name and the bits hi down to lo. -/
structure Fld where
  reg : Reg
  hi : Nat
  lo : Nat
  deriving DecidableEq, Repr, Inhabited

def F.GLB_ID.PART : Fld := ⟨.GLB_ID, 31, 16⟩
def F.GLB_ID.REV_MAJOR : Fld := ⟨.GLB_ID, 15, 12⟩
def F.GLB_ID.REV_MINOR : Fld := ⟨.GLB_ID, 11, 8⟩
def F.GLB_MODE.BUSY : Fld := ⟨.GLB_MODE, 31, 31⟩
def F.GLB_MODE.LAST_RESULT : Fld := ⟨.GLB_MODE, 23, 16⟩
def F.GLB_MODE.PREV_MODE : Fld := ⟨.GLB_MODE, 15, 12⟩
def F.GLB_MODE.REQ_MODE : Fld := ⟨.GLB_MODE, 7, 4⟩
def F.GLB_MODE.MODE : Fld := ⟨.GLB_MODE, 3, 0⟩
def F.GLB_MODE_CFG.QUIESCE_LIMIT : Fld := ⟨.GLB_MODE_CFG, 7, 0⟩
def F.GLB_TILE_EN.TILE_EN : Fld := ⟨.GLB_TILE_EN, 11, 0⟩
def F.GLB_CLAMP_SEEN.DROPPED : Fld := ⟨.GLB_CLAMP_SEEN, 31, 16⟩
def F.GLB_CLAMP_SEEN.COUNT : Fld := ⟨.GLB_CLAMP_SEEN, 15, 0⟩
def F.GLB_PTN_CFG.PROXY : Fld := ⟨.GLB_PTN_CFG, 31, 31⟩
def F.GLB_PTN_CFG.LD_ALL1 : Fld := ⟨.GLB_PTN_CFG, 30, 30⟩
def F.GLB_PTN_CFG.COLOUR : Fld := ⟨.GLB_PTN_CFG, 27, 24⟩
def F.GLB_PTN_CFG.APER_SIZE : Fld := ⟨.GLB_PTN_CFG, 23, 20⟩
def F.GLB_PTN_HOME.VALID : Fld := ⟨.GLB_PTN_HOME, 31, 31⟩
def F.GLB_PTN_HOME.CHIP : Fld := ⟨.GLB_PTN_HOME, 21, 16⟩
def F.GLB_PTN_HOME.DOMAIN : Fld := ⟨.GLB_PTN_HOME, 15, 0⟩
def F.GLB_PTN_RDP.VALID : Fld := ⟨.GLB_PTN_RDP, 31, 31⟩
def F.GLB_PTN_RDP.CHIP : Fld := ⟨.GLB_PTN_RDP, 29, 24⟩
def F.GLB_PTN_RDP.PORT : Fld := ⟨.GLB_PTN_RDP, 23, 17⟩
def F.GLB_PTN_RDP.DOMAIN : Fld := ⟨.GLB_PTN_RDP, 15, 0⟩
def F.GLB_PTN_LEND.LEND : Fld := ⟨.GLB_PTN_LEND, 31, 0⟩
def F.GLB_PTN_STATUS.CONFIGURED : Fld := ⟨.GLB_PTN_STATUS, 31, 31⟩
def F.GLB_PTN_STATUS.IN_RESET : Fld := ⟨.GLB_PTN_STATUS, 30, 30⟩
def F.GLB_PTN_STATUS.DSP : Fld := ⟨.GLB_PTN_STATUS, 23, 17⟩
def F.GLB_PTN_STATUS.RDP : Fld := ⟨.GLB_PTN_STATUS, 16, 13⟩
def F.GLB_PTN_STATUS.FLC : Fld := ⟨.GLB_PTN_STATUS, 12, 0⟩
def F.GLB_PTN_RST_DROP.COUNT : Fld := ⟨.GLB_PTN_RST_DROP, 31, 0⟩
def F.GLB_FLC_CMD.OP : Fld := ⟨.GLB_FLC_CMD, 31, 30⟩
def F.GLB_FLC_CMD.SQUASH_NOW : Fld := ⟨.GLB_FLC_CMD, 29, 29⟩
def F.GLB_FLC_CMD.INDEX : Fld := ⟨.GLB_FLC_CMD, 11, 0⟩
def F.GLB_FLC_STATUS.BUSY : Fld := ⟨.GLB_FLC_STATUS, 31, 31⟩
def F.GLB_FLC_STATUS.RESULT : Fld := ⟨.GLB_FLC_STATUS, 27, 24⟩
def F.GLB_FLC_STATUS.INDEX : Fld := ⟨.GLB_FLC_STATUS, 11, 0⟩
def F.GLB_FLC_DRAIN_LIMIT.QUARANTINE : Fld := ⟨.GLB_FLC_DRAIN_LIMIT, 31, 16⟩
def F.GLB_FLC_DRAIN_LIMIT.LIMIT : Fld := ⟨.GLB_FLC_DRAIN_LIMIT, 15, 0⟩
def F.GLB_FLC_REQ_FREE.FREE : Fld := ⟨.GLB_FLC_REQ_FREE, 13, 0⟩
def F.GLB_FLC_REFUSED.COUNT : Fld := ⟨.GLB_FLC_REFUSED, 31, 0⟩
def F.GLB_FLC_LATE.COUNT : Fld := ⟨.GLB_FLC_LATE, 31, 0⟩
def F.GLB_FLC_STALE.COUNT : Fld := ⟨.GLB_FLC_STALE, 31, 0⟩
def F.GLB_FLC_A.STATE : Fld := ⟨.GLB_FLC_A, 31, 29⟩
def F.GLB_FLC_A.KIND : Fld := ⟨.GLB_FLC_A, 28, 28⟩
def F.GLB_FLC_A.COLOUR : Fld := ⟨.GLB_FLC_A, 27, 24⟩
def F.GLB_FLC_A.OWNER : Fld := ⟨.GLB_FLC_A, 23, 19⟩
def F.GLB_FLC_A.TARGET : Fld := ⟨.GLB_FLC_A, 18, 12⟩
def F.GLB_FLC_A.SIZE : Fld := ⟨.GLB_FLC_A, 11, 6⟩
def F.GLB_FLC_B.PASID : Fld := ⟨.GLB_FLC_B, 19, 0⟩
def F.GLB_FLC_C.APER_OFS : Fld := ⟨.GLB_FLC_C, 22, 0⟩
def F.GLB_FLC_BASE_LO.BASE : Fld := ⟨.GLB_FLC_BASE_LO, 31, 0⟩
def F.GLB_FLC_BASE_HI.BASE : Fld := ⟨.GLB_FLC_BASE_HI, 31, 0⟩
def F.LBX_VIEW.STATUS : Fld := ⟨.LBX_VIEW, 31, 0⟩
def F.LBX_OWNER.VALID : Fld := ⟨.LBX_OWNER, 31, 31⟩
def F.LBX_OWNER.EXPERT : Fld := ⟨.LBX_OWNER, 30, 30⟩
def F.LBX_OWNER.ELECTING : Fld := ⟨.LBX_OWNER, 29, 29⟩
def F.LBX_OWNER.HO_PEND : Fld := ⟨.LBX_OWNER, 28, 28⟩
def F.LBX_OWNER.MISSED : Fld := ⟨.LBX_OWNER, 23, 22⟩
def F.LBX_OWNER.HO_TARGET : Fld := ⟨.LBX_OWNER, 21, 16⟩
def F.LBX_OWNER.OWNER : Fld := ⟨.LBX_OWNER, 5, 0⟩
def F.LBX_ELECT_CFG.WIN : Fld := ⟨.LBX_ELECT_CFG, 15, 8⟩
def F.LBX_ELECT_CFG.HO_TMO : Fld := ⟨.LBX_ELECT_CFG, 7, 0⟩
def F.LBX_SMB_CFG.ADDR : Fld := ⟨.LBX_SMB_CFG, 6, 0⟩
def F.LBX_FW_STATUS.RECOVERY : Fld := ⟨.LBX_FW_STATUS, 31, 31⟩
def F.LBX_FW_STATUS.SLOT : Fld := ⟨.LBX_FW_STATUS, 30, 30⟩
def F.LBX_FW_STATUS.ACCEPTED : Fld := ⟨.LBX_FW_STATUS, 29, 28⟩
def F.LBX_FW_STATUS.SESSION : Fld := ⟨.LBX_FW_STATUS, 27, 27⟩
def F.LBX_FW_STATUS.SVN : Fld := ⟨.LBX_FW_STATUS, 15, 8⟩
def F.LBX_FW_STATUS.MIN_SVN : Fld := ⟨.LBX_FW_STATUS, 7, 0⟩
def F.LBX_FW_VERSION.VERSION : Fld := ⟨.LBX_FW_VERSION, 31, 0⟩
def F.LBX_STORE_STATUS.COMMITTING : Fld := ⟨.LBX_STORE_STATUS, 31, 31⟩
def F.LBX_STORE_STATUS.VALID : Fld := ⟨.LBX_STORE_STATUS, 30, 29⟩
def F.LBX_STORE_STATUS.APPLIED : Fld := ⟨.LBX_STORE_STATUS, 28, 28⟩
def F.LBX_STORE_STATUS.LAST_CODE : Fld := ⟨.LBX_STORE_STATUS, 15, 0⟩
def F.LBX_STORE_GEN.GEN : Fld := ⟨.LBX_STORE_GEN, 31, 0⟩
def F.LBX_CLAMP_SEEN.COUNT : Fld := ⟨.LBX_CLAMP_SEEN, 15, 0⟩
def F.LBX_DROP.COUNT : Fld := ⟨.LBX_DROP, 31, 0⟩
def F.FLT_CFG.FORCE_DRY : Fld := ⟨.FLT_CFG, 31, 31⟩
def F.FLT_CFG.NOTIFY_VEC : Fld := ⟨.FLT_CFG, 5, 0⟩
def F.FLT_STATUS.SAFE : Fld := ⟨.FLT_STATUS, 31, 31⟩
def F.FLT_STATUS.SAFE_SEEN : Fld := ⟨.FLT_STATUS, 30, 30⟩
def F.FLT_STATUS.FAULT_N_ACT : Fld := ⟨.FLT_STATUS, 29, 29⟩
def F.FLT_STATUS.LOG_FULL : Fld := ⟨.FLT_STATUS, 28, 28⟩
def F.FLT_SAFE_CAUSE.SOURCE : Fld := ⟨.FLT_SAFE_CAUSE, 31, 22⟩
def F.FLT_SAFE_CAUSE.KIND : Fld := ⟨.FLT_SAFE_CAUSE, 21, 14⟩
def F.FLT_CPL_TO.TIMEOUT : Fld := ⟨.FLT_CPL_TO, 23, 0⟩
def F.FLT_LOG_PROD.PROD : Fld := ⟨.FLT_LOG_PROD, 10, 0⟩
def F.FLT_LOG_CONS.CONS : Fld := ⟨.FLT_LOG_CONS, 10, 0⟩
def F.FLT_LOG_LOST.COUNT : Fld := ⟨.FLT_LOG_LOST, 31, 0⟩
def F.FLT_UNEXP_CPL.COUNT : Fld := ⟨.FLT_UNEXP_CPL, 31, 0⟩
def F.FLT_CPL_TO_CNT.COUNT : Fld := ⟨.FLT_CPL_TO_CNT, 31, 0⟩
def F.FLT_SYNTH_CNT.COUNT : Fld := ⟨.FLT_SYNTH_CNT, 31, 0⟩
def F.FLT_SEV_CNT.COUNT : Fld := ⟨.FLT_SEV_CNT, 31, 0⟩
def F.FLT_ACT.ACT : Fld := ⟨.FLT_ACT, 5, 0⟩
def F.FLT_CONTAIN_PTN.PTN : Fld := ⟨.FLT_CONTAIN_PTN, 31, 0⟩
def F.FLT_CONTAIN_PORT.PORT : Fld := ⟨.FLT_CONTAIN_PORT, 31, 0⟩
def F.FLT_CONTAIN_SEG.SEG : Fld := ⟨.FLT_CONTAIN_SEG, 0, 0⟩
def F.FLT_TRACK_FREE.FREE : Fld := ⟨.FLT_TRACK_FREE, 11, 0⟩
def F.FLT_FORCE.FORCE : Fld := ⟨.FLT_FORCE, 31, 0⟩
def F.FLT_SRC.MASK : Fld := ⟨.FLT_SRC, 31, 31⟩
def F.FLT_SRC.SEV_OVR_EN : Fld := ⟨.FLT_SRC, 30, 30⟩
def F.FLT_SRC.SEV_OVR : Fld := ⟨.FLT_SRC, 29, 28⟩
def F.FLT_SRC.FORCE_SEV : Fld := ⟨.FLT_SRC, 27, 26⟩
def F.FLT_LOG_W.MSG : Fld := ⟨.FLT_LOG_W, 31, 0⟩
def F.FLT_SIL_CFG.ARM : Fld := ⟨.FLT_SIL_CFG, 31, 31⟩
def F.FLT_SIL_CFG.SNAP_ON_TRIG : Fld := ⟨.FLT_SIL_CFG, 30, 30⟩
def F.FLT_SIL_CFG.POST : Fld := ⟨.FLT_SIL_CFG, 27, 16⟩
def F.FLT_SIL_CFG.PROBE_EN : Fld := ⟨.FLT_SIL_CFG, 15, 0⟩
def F.FLT_SIL_CTL.TRIG : Fld := ⟨.FLT_SIL_CTL, 31, 31⟩
def F.FLT_SIL_STATUS.STATE : Fld := ⟨.FLT_SIL_STATUS, 31, 30⟩
def F.FLT_SIL_STATUS.WRAPPED : Fld := ⟨.FLT_SIL_STATUS, 29, 29⟩
def F.FLT_SIL_STATUS.MANUAL : Fld := ⟨.FLT_SIL_STATUS, 28, 28⟩
def F.FLT_SIL_STATUS.TRIG_REC : Fld := ⟨.FLT_SIL_STATUS, 23, 12⟩
def F.FLT_SIL_STATUS.NEXT : Fld := ⟨.FLT_SIL_STATUS, 11, 0⟩
def F.FLT_SIL_CAUSE.SOURCE : Fld := ⟨.FLT_SIL_CAUSE, 31, 22⟩
def F.FLT_SIL_CAUSE.KIND : Fld := ⟨.FLT_SIL_CAUSE, 21, 14⟩
def F.FLT_SIL_LOST.COUNT : Fld := ⟨.FLT_SIL_LOST, 31, 0⟩
def F.FLT_SIL_PROBE.UNIT : Fld := ⟨.FLT_SIL_PROBE, 27, 16⟩
def F.FLT_SIL_PROBE.MASK : Fld := ⟨.FLT_SIL_PROBE, 15, 0⟩
def F.FLT_SIL_REC_W.REC : Fld := ⟨.FLT_SIL_REC_W, 31, 0⟩
def F.PWR_CTL.GO : Fld := ⟨.PWR_CTL, 31, 31⟩
def F.PWR_CTL.CHIP_RST : Fld := ⟨.PWR_CTL, 30, 30⟩
def F.PWR_CTL.TARGET : Fld := ⟨.PWR_CTL, 2, 0⟩
def F.PWR_STATUS.STATE : Fld := ⟨.PWR_STATUS, 31, 29⟩
def F.PWR_STATUS.ENTERING : Fld := ⟨.PWR_STATUS, 28, 28⟩
def F.PWR_STATUS.EXITING : Fld := ⟨.PWR_STATUS, 27, 27⟩
def F.PWR_STATUS.ENTRY_FAIL : Fld := ⟨.PWR_STATUS, 26, 24⟩
def F.PWR_STATUS.COLD_START : Fld := ⟨.PWR_STATUS, 23, 23⟩
def F.PWR_STATUS.XTAL_OK : Fld := ⟨.PWR_STATUS, 22, 22⟩
def F.PWR_STATUS.HREF_NOW : Fld := ⟨.PWR_STATUS, 19, 16⟩
def F.PWR_CFG.ENTRY_TMO : Fld := ⟨.PWR_CFG, 31, 24⟩
def F.PWR_CFG.HREF : Fld := ⟨.PWR_CFG, 23, 20⟩
def F.PWR_CFG.T_THROT : Fld := ⟨.PWR_CFG, 19, 10⟩
def F.PWR_CFG.T_WARN : Fld := ⟨.PWR_CFG, 9, 0⟩
def F.PWR_WAKE_EN.FUSE : Fld := ⟨.PWR_WAKE_EN, 4, 4⟩
def F.PWR_WAKE_EN.FLEREN : Fld := ⟨.PWR_WAKE_EN, 3, 3⟩
def F.PWR_WAKE_EN.LANE : Fld := ⟨.PWR_WAKE_EN, 2, 2⟩
def F.PWR_WAKE_EN.ALARM : Fld := ⟨.PWR_WAKE_EN, 1, 1⟩
def F.PWR_WAKE_EN.WAKE_N : Fld := ⟨.PWR_WAKE_EN, 0, 0⟩
def F.PWR_WAKE_LAST.VALID : Fld := ⟨.PWR_WAKE_LAST, 31, 31⟩
def F.PWR_WAKE_LAST.FROM : Fld := ⟨.PWR_WAKE_LAST, 26, 24⟩
def F.PWR_WAKE_LAST.SOURCE : Fld := ⟨.PWR_WAKE_LAST, 23, 20⟩
def F.PWR_WAKE_LAST.INDEX : Fld := ⟨.PWR_WAKE_LAST, 9, 0⟩
def F.PWR_WAKE_PEND.PEND : Fld := ⟨.PWR_WAKE_PEND, 6, 1⟩
def F.PWR_WAKE_RTC_LO.RTC : Fld := ⟨.PWR_WAKE_RTC_LO, 31, 0⟩
def F.PWR_WAKE_RTC_HI.RTC : Fld := ⟨.PWR_WAKE_RTC_HI, 31, 0⟩
def F.PWR_RTC_LO.RTC : Fld := ⟨.PWR_RTC_LO, 31, 0⟩
def F.PWR_RTC_HI.RTC : Fld := ⟨.PWR_RTC_HI, 31, 0⟩
def F.PWR_ALARM_LO.ALARM : Fld := ⟨.PWR_ALARM_LO, 31, 0⟩
def F.PWR_ALARM_HI.ALARM : Fld := ⟨.PWR_ALARM_HI, 31, 0⟩
def F.PWR_ALARM_CTL.EN : Fld := ⟨.PWR_ALARM_CTL, 31, 31⟩
def F.PWR_ALARM_CTL.FIRED : Fld := ⟨.PWR_ALARM_CTL, 30, 30⟩
def F.PWR_LP_BUDGET.EST : Fld := ⟨.PWR_LP_BUDGET, 15, 0⟩
def F.PWR_SUPPLY.WARN : Fld := ⟨.PWR_SUPPLY, 31, 31⟩
def F.PWR_SUPPLY.WARN_SEEN : Fld := ⟨.PWR_SUPPLY, 30, 30⟩
def F.PWR_SUPPLY.RAIL : Fld := ⟨.PWR_SUPPLY, 29, 29⟩
def F.PWR_SUPPLY.THROTTLE : Fld := ⟨.PWR_SUPPLY, 28, 28⟩
def F.PWR_SUPPLY_MIN.VAON_MIN : Fld := ⟨.PWR_SUPPLY_MIN, 31, 16⟩
def F.PWR_SUPPLY_MIN.VDD_MIN : Fld := ⟨.PWR_SUPPLY_MIN, 15, 0⟩
def F.PWR_TEMP.TEMP : Fld := ⟨.PWR_TEMP, 11, 0⟩
def F.PWR_RESET_CAUSE.CAUSE : Fld := ⟨.PWR_RESET_CAUSE, 7, 0⟩
def F.PWR_EXIT_LAST.TIME : Fld := ⟨.PWR_EXIT_LAST, 23, 0⟩
def F.PWR_CLAMP_SEEN.COUNT : Fld := ⟨.PWR_CLAMP_SEEN, 15, 0⟩
def F.TIM_NOW_LO.NS : Fld := ⟨.TIM_NOW_LO, 31, 0⟩
def F.TIM_NOW_HI.NS : Fld := ⟨.TIM_NOW_HI, 31, 0⟩
def F.TIM_NOW_FRAC.FRAC : Fld := ⟨.TIM_NOW_FRAC, 31, 16⟩
def F.TIM_CFG.SRC : Fld := ⟨.TIM_CFG, 31, 31⟩
def F.TIM_CFG.SYNC_OUT_EN : Fld := ⟨.TIM_CFG, 30, 30⟩
def F.TIM_CFG.EVT_CLASS : Fld := ⟨.TIM_CFG, 29, 27⟩
def F.TIM_CFG.SRC_QUAL : Fld := ⟨.TIM_CFG, 26, 25⟩
def F.TIM_CFG.SLEW_PPM : Fld := ⟨.TIM_CFG, 19, 12⟩
def F.TIM_CFG.STEP_NS : Fld := ⟨.TIM_CFG, 11, 0⟩
def F.TIM_STATUS.STATE : Fld := ⟨.TIM_STATUS, 31, 29⟩
def F.TIM_STATUS.CLK100_OK : Fld := ⟨.TIM_STATUS, 28, 28⟩
def F.TIM_STATUS.REF_FALLBACK : Fld := ⟨.TIM_STATUS, 27, 27⟩
def F.TIM_STATUS.STEP_SEEN : Fld := ⟨.TIM_STATUS, 26, 26⟩
def F.TIM_STATUS.SRC_QUAL : Fld := ⟨.TIM_STATUS, 25, 24⟩
def F.TIM_STATUS.STEP_COUNT : Fld := ⟨.TIM_STATUS, 15, 0⟩
def F.TIM_SYNC_CFG.PERIOD : Fld := ⟨.TIM_SYNC_CFG, 31, 12⟩
def F.TIM_SYNC_CFG.LOCK_NS : Fld := ⟨.TIM_SYNC_CFG, 11, 6⟩
def F.TIM_SYNC_ERR.ERR : Fld := ⟨.TIM_SYNC_ERR, 31, 0⟩
def F.TIM_RATE_ADJ.RATE : Fld := ⟨.TIM_RATE_ADJ, 31, 0⟩
def F.TIM_OFS_ADJ.OFS : Fld := ⟨.TIM_OFS_ADJ, 31, 0⟩
def F.TIM_ADJ_CTL.GO : Fld := ⟨.TIM_ADJ_CTL, 31, 31⟩
def F.TIM_ADJ_CTL.STEP : Fld := ⟨.TIM_ADJ_CTL, 30, 30⟩
def F.TIM_ADJ_CTL.SET : Fld := ⟨.TIM_ADJ_CTL, 29, 29⟩
def F.TIM_ADJ_CTL.BUSY : Fld := ⟨.TIM_ADJ_CTL, 28, 28⟩
def F.TIM_DELAY_COMP.SYNC_COMP : Fld := ⟨.TIM_DELAY_COMP, 15, 0⟩
def F.TIM_SET_LO.NS : Fld := ⟨.TIM_SET_LO, 31, 0⟩
def F.TIM_SET_HI.NS : Fld := ⟨.TIM_SET_HI, 31, 0⟩
def F.TIM_STEP_LO.NS : Fld := ⟨.TIM_STEP_LO, 31, 0⟩
def F.TIM_STEP_HI.NS : Fld := ⟨.TIM_STEP_HI, 31, 0⟩
def F.TIM_TOD_ERR.COUNT : Fld := ⟨.TIM_TOD_ERR, 31, 0⟩
def F.TIM_LATE.COUNT : Fld := ⟨.TIM_LATE, 31, 0⟩
def F.TIM_ACT_LOST.COUNT : Fld := ⟨.TIM_ACT_LOST, 31, 0⟩
def F.TIM_MSG_DENY.COUNT : Fld := ⟨.TIM_MSG_DENY, 31, 0⟩
def F.TIM_COLLIDE.COUNT : Fld := ⟨.TIM_COLLIDE, 31, 0⟩
def F.TIM_CLAMP_SEEN.COUNT : Fld := ⟨.TIM_CLAMP_SEEN, 15, 0⟩
def F.TIM_VIOL_LAST.PORT : Fld := ⟨.TIM_VIOL_LAST, 14, 8⟩
def F.TIM_VIOL_LAST.CODE : Fld := ⟨.TIM_VIOL_LAST, 7, 0⟩
def F.TIM_TRIG_CFG.MIN_WIDTH : Fld := ⟨.TIM_TRIG_CFG, 31, 24⟩
def F.TIM_TRIG_CFG.STUCK_MS : Fld := ⟨.TIM_TRIG_CFG, 23, 16⟩
def F.TIM_TRIG_CFG.IN_EN : Fld := ⟨.TIM_TRIG_CFG, 15, 0⟩
def F.TIM_TRIG_STATE.DRIVE : Fld := ⟨.TIM_TRIG_STATE, 31, 16⟩
def F.TIM_TRIG_STATE.LEVEL : Fld := ⟨.TIM_TRIG_STATE, 15, 0⟩
def F.TIM_STAR_STATE.DRIVE : Fld := ⟨.TIM_STAR_STATE, 23, 0⟩
def F.TIM_TRIG_STUCK.STUCK : Fld := ⟨.TIM_TRIG_STUCK, 15, 0⟩
def F.TIM_TS_LO.NS : Fld := ⟨.TIM_TS_LO, 31, 0⟩
def F.TIM_TS_HI.NS : Fld := ⟨.TIM_TS_HI, 31, 0⟩
def F.TIM_TS_INFO.VALID : Fld := ⟨.TIM_TS_INFO, 31, 31⟩
def F.TIM_TS_INFO.OVERFLOW : Fld := ⟨.TIM_TS_INFO, 30, 30⟩
def F.TIM_TS_INFO.SELF : Fld := ⟨.TIM_TS_INFO, 29, 29⟩
def F.TIM_TS_INFO.EDGE : Fld := ⟨.TIM_TS_INFO, 28, 28⟩
def F.TIM_TS_INFO.LINE : Fld := ⟨.TIM_TS_INFO, 27, 24⟩
def F.TIM_TS_INFO.HALF : Fld := ⟨.TIM_TS_INFO, 23, 23⟩
def F.TIM_TS_INFO.COUNT : Fld := ⟨.TIM_TS_INFO, 22, 16⟩
def F.TIM_ACT_A.ARM : Fld := ⟨.TIM_ACT_A, 31, 31⟩
def F.TIM_ACT_A.FIRED : Fld := ⟨.TIM_ACT_A, 30, 30⟩
def F.TIM_ACT_A.LATE : Fld := ⟨.TIM_ACT_A, 29, 29⟩
def F.TIM_ACT_A.HALF : Fld := ⟨.TIM_ACT_A, 28, 28⟩
def F.TIM_ACT_A.KIND : Fld := ⟨.TIM_ACT_A, 27, 24⟩
def F.TIM_ACT_A.TARGET : Fld := ⟨.TIM_ACT_A, 23, 16⟩
def F.TIM_ACT_A.OP : Fld := ⟨.TIM_ACT_A, 15, 14⟩
def F.TIM_ACT_B.WIDTH : Fld := ⟨.TIM_ACT_B, 31, 16⟩
def F.TIM_ACT_B.ARG : Fld := ⟨.TIM_ACT_B, 15, 0⟩
def F.TIM_ACT_TIME_LO.NS : Fld := ⟨.TIM_ACT_TIME_LO, 31, 0⟩
def F.TIM_ACT_TIME_HI.NS : Fld := ⟨.TIM_ACT_TIME_HI, 31, 0⟩
def F.TIM_ACT_PERIOD.PERIOD : Fld := ⟨.TIM_ACT_PERIOD, 31, 0⟩
def F.TIM_ACT_COUNT.COUNT : Fld := ⟨.TIM_ACT_COUNT, 15, 0⟩
def F.TIM_ACT_MASK.MASK : Fld := ⟨.TIM_ACT_MASK, 31, 0⟩
def F.TIM_MTX_A.VALID : Fld := ⟨.TIM_MTX_A, 31, 31⟩
def F.TIM_MTX_A.SRC_KIND : Fld := ⟨.TIM_MTX_A, 30, 30⟩
def F.TIM_MTX_A.EDGE : Fld := ⟨.TIM_MTX_A, 29, 28⟩
def F.TIM_MTX_A.FAB_OK : Fld := ⟨.TIM_MTX_A, 27, 27⟩
def F.TIM_MTX_A.SRC : Fld := ⟨.TIM_MTX_A, 23, 16⟩
def F.TIM_MTX_A.DST_KIND : Fld := ⟨.TIM_MTX_A, 15, 12⟩
def F.TIM_MTX_A.OP : Fld := ⟨.TIM_MTX_A, 11, 10⟩
def F.TIM_MTX_A.TARGET : Fld := ⟨.TIM_MTX_A, 7, 0⟩
def F.TIM_MTX_DELAY.DELAY : Fld := ⟨.TIM_MTX_DELAY, 31, 0⟩
def F.TIM_MTX_B.WIDTH : Fld := ⟨.TIM_MTX_B, 31, 16⟩
def F.TIM_MTX_B.ARG : Fld := ⟨.TIM_MTX_B, 15, 0⟩
def F.TIM_MTX_MASK.MASK : Fld := ⟨.TIM_MTX_MASK, 31, 0⟩
def F.TIM_MTX_SRC_MASK.SRC_MASK : Fld := ⟨.TIM_MTX_SRC_MASK, 31, 0⟩
def F.FUS_CFG.OV_PCT : Fld := ⟨.FUS_CFG, 23, 16⟩
def F.FUS_CFG.UV_PCT : Fld := ⟨.FUS_CFG, 15, 8⟩
def F.FUS_CFG.MAX_RAMPING : Fld := ⟨.FUS_CFG, 4, 0⟩
def F.FUS_STATUS.RAMPING : Fld := ⟨.FUS_STATUS, 28, 24⟩
def F.FUS_STATUS.PG : Fld := ⟨.FUS_STATUS, 23, 0⟩
def F.FUS_CTL.HMIN_CLR : Fld := ⟨.FUS_CTL, 31, 31⟩
def F.FUS_CLAMP_SEEN.COUNT : Fld := ⟨.FUS_CLAMP_SEEN, 15, 0⟩
def F.FUS_VIOL_LAST.CHAN : Fld := ⟨.FUS_VIOL_LAST, 12, 8⟩
def F.FUS_VIOL_LAST.CODE : Fld := ⟨.FUS_VIOL_LAST, 7, 0⟩
def F.FUS_HOLDUP_CFG.CAP : Fld := ⟨.FUS_HOLDUP_CFG, 31, 16⟩
def F.FUS_HOLDUP_CFG.HDIV : Fld := ⟨.FUS_HOLDUP_CFG, 15, 0⟩
def F.FUS_HOLDUP_V.V_NOW : Fld := ⟨.FUS_HOLDUP_V, 31, 16⟩
def F.FUS_HOLDUP_V.V_MIN : Fld := ⟨.FUS_HOLDUP_V, 15, 0⟩
def F.FUS_HOLDUP_E.E_MJ : Fld := ⟨.FUS_HOLDUP_E, 31, 0⟩
def F.FUS_CHAN_CFG.EN : Fld := ⟨.FUS_CHAN_CFG, 31, 31⟩
def F.FUS_CHAN_CFG.CLASS : Fld := ⟨.FUS_CHAN_CFG, 30, 30⟩
def F.FUS_CHAN_CFG.POLICY : Fld := ⟨.FUS_CHAN_CFG, 29, 28⟩
def F.FUS_CHAN_CFG.RETRY_MAX : Fld := ⟨.FUS_CHAN_CFG, 27, 25⟩
def F.FUS_CHAN_CFG.WAKE : Fld := ⟨.FUS_CHAN_CFG, 24, 24⟩
def F.FUS_CHAN_CFG.NOM_MV : Fld := ⟨.FUS_CHAN_CFG, 15, 0⟩
def F.FUS_CHAN_LIM.ILIM : Fld := ⟨.FUS_CHAN_LIM, 31, 16⟩
def F.FUS_CHAN_LIM.PLIM : Fld := ⟨.FUS_CHAN_LIM, 8, 0⟩
def F.FUS_CHAN_TIME.DEBOUNCE : Fld := ⟨.FUS_CHAN_TIME, 31, 24⟩
def F.FUS_CHAN_TIME.PG_QUAL : Fld := ⟨.FUS_CHAN_TIME, 23, 17⟩
def F.FUS_CHAN_TIME.FAULT_T : Fld := ⟨.FUS_CHAN_TIME, 16, 10⟩
def F.FUS_CHAN_TIME.COOL : Fld := ⟨.FUS_CHAN_TIME, 9, 0⟩
def F.FUS_CHAN_RAMP.RATE : Fld := ⟨.FUS_CHAN_RAMP, 31, 25⟩
def F.FUS_CHAN_RAMP.RAMP_TMO : Fld := ⟨.FUS_CHAN_RAMP, 24, 16⟩
def F.FUS_CHAN_RAMP.RAMP_ILIM : Fld := ⟨.FUS_CHAN_RAMP, 15, 0⟩
def F.FUS_CHAN_SENSE.RSNS : Fld := ⟨.FUS_CHAN_SENSE, 31, 16⟩
def F.FUS_CHAN_SENSE.VDIV : Fld := ⟨.FUS_CHAN_SENSE, 15, 0⟩
def F.FUS_CHAN_CTL.ON : Fld := ⟨.FUS_CHAN_CTL, 31, 31⟩
def F.FUS_CHAN_CTL.OFF : Fld := ⟨.FUS_CHAN_CTL, 30, 30⟩
def F.FUS_CHAN_CTL.RELEASE : Fld := ⟨.FUS_CHAN_CTL, 29, 29⟩
def F.FUS_CHAN_CTL.E_CLR : Fld := ⟨.FUS_CHAN_CTL, 28, 28⟩
def F.FUS_CHAN_STATUS.STATE : Fld := ⟨.FUS_CHAN_STATUS, 31, 28⟩
def F.FUS_CHAN_STATUS.PG : Fld := ⟨.FUS_CHAN_STATUS, 27, 27⟩
def F.FUS_CHAN_STATUS.PRESENT : Fld := ⟨.FUS_CHAN_STATUS, 26, 26⟩
def F.FUS_CHAN_STATUS.LONG : Fld := ⟨.FUS_CHAN_STATUS, 25, 25⟩
def F.FUS_CHAN_STATUS.SHORT : Fld := ⟨.FUS_CHAN_STATUS, 24, 24⟩
def F.FUS_CHAN_STATUS.REQ_PEND : Fld := ⟨.FUS_CHAN_STATUS, 23, 23⟩
def F.FUS_CHAN_STATUS.FT_RUN : Fld := ⟨.FUS_CHAN_STATUS, 22, 22⟩
def F.FUS_CHAN_STATUS.RETRIES : Fld := ⟨.FUS_CHAN_STATUS, 21, 19⟩
def F.FUS_CHAN_STATUS.LAST_TRIP : Fld := ⟨.FUS_CHAN_STATUS, 18, 16⟩
def F.FUS_CHAN_VI.V : Fld := ⟨.FUS_CHAN_VI, 31, 16⟩
def F.FUS_CHAN_VI.I : Fld := ⟨.FUS_CHAN_VI, 15, 0⟩
def F.FUS_CHAN_P.P : Fld := ⟨.FUS_CHAN_P, 31, 0⟩
def F.FUS_CHAN_E_LO.E : Fld := ⟨.FUS_CHAN_E_LO, 31, 0⟩
def F.FUS_CHAN_E_HI.E : Fld := ⟨.FUS_CHAN_E_HI, 31, 0⟩
def F.FUS_CHAN_TRIPS.LATCHES : Fld := ⟨.FUS_CHAN_TRIPS, 31, 16⟩
def F.FUS_CHAN_TRIPS.TRIPS : Fld := ⟨.FUS_CHAN_TRIPS, 15, 0⟩
def F.LPB_CFG.EN : Fld := ⟨.LPB_CFG, 31, 31⟩
def F.LPB_CFG.WIDTH64 : Fld := ⟨.LPB_CFG, 30, 30⟩
def F.LPB_CFG.SPEED66 : Fld := ⟨.LPB_CFG, 29, 29⟩
def F.LPB_CFG.BURST : Fld := ⟨.LPB_CFG, 28, 26⟩
def F.LPB_CFG.OWNER : Fld := ⟨.LPB_CFG, 23, 18⟩
def F.LPB_STATUS.BUS66 : Fld := ⟨.LPB_STATUS, 31, 31⟩
def F.LPB_STATUS.BUS64 : Fld := ⟨.LPB_STATUS, 30, 30⟩
def F.LPB_STATUS.RST_ACTIVE : Fld := ⟨.LPB_STATUS, 29, 29⟩
def F.LPB_STATUS.LOCKED : Fld := ⟨.LPB_STATUS, 28, 28⟩
def F.LPB_STATUS.OVERLAP : Fld := ⟨.LPB_STATUS, 27, 27⟩
def F.LPB_STATUS.WQ_USED : Fld := ⟨.LPB_STATUS, 21, 16⟩
def F.LPB_STATUS.DR_USED : Fld := ⟨.LPB_STATUS, 15, 12⟩
def F.LPB_STATUS.INT : Fld := ⟨.LPB_STATUS, 3, 0⟩
def F.LPB_TMO.HOLD_TMO : Fld := ⟨.LPB_TMO, 31, 16⟩
def F.LPB_TMO.RETRY_MAX : Fld := ⟨.LPB_TMO, 15, 0⟩
def F.LPB_TMO2.LOCK_TMO : Fld := ⟨.LPB_TMO2, 31, 24⟩
def F.LPB_TMO2.PF_AGE : Fld := ⟨.LPB_TMO2, 23, 16⟩
def F.LPB_ARB.LAT_TMR : Fld := ⟨.LPB_ARB, 31, 24⟩
def F.LPB_ARB.BROKEN : Fld := ⟨.LPB_ARB, 13, 8⟩
def F.LPB_ARB.REQ_MASK : Fld := ⟨.LPB_ARB, 5, 0⟩
def F.LPB_CFG_ADDR.MABORT : Fld := ⟨.LPB_CFG_ADDR, 31, 31⟩
def F.LPB_CFG_ADDR.BUSY : Fld := ⟨.LPB_CFG_ADDR, 30, 30⟩
def F.LPB_CFG_ADDR.DEV : Fld := ⟨.LPB_CFG_ADDR, 13, 11⟩
def F.LPB_CFG_ADDR.FUNC : Fld := ⟨.LPB_CFG_ADDR, 10, 8⟩
def F.LPB_CFG_ADDR.REG : Fld := ⟨.LPB_CFG_ADDR, 7, 2⟩
def F.LPB_CFG_DATA.DATA : Fld := ⟨.LPB_CFG_DATA, 31, 0⟩
def F.LPB_VIOL_LAST.SLOT : Fld := ⟨.LPB_VIOL_LAST, 11, 8⟩
def F.LPB_VIOL_LAST.CODE : Fld := ⟨.LPB_VIOL_LAST, 7, 0⟩
def F.LPB_CLAMP_SEEN.COUNT : Fld := ⟨.LPB_CLAMP_SEEN, 15, 0⟩
def F.LPB_MABORT.COUNT : Fld := ⟨.LPB_MABORT, 31, 0⟩
def F.LPB_TABORT.COUNT : Fld := ⟨.LPB_TABORT, 31, 0⟩
def F.LPB_RETRY.COUNT : Fld := ⟨.LPB_RETRY, 31, 0⟩
def F.LPB_PARITY.COUNT : Fld := ⟨.LPB_PARITY, 31, 0⟩
def F.LPB_PF_HIT.COUNT : Fld := ⟨.LPB_PF_HIT, 31, 0⟩
def F.LPB_DISCARD.COUNT : Fld := ⟨.LPB_DISCARD, 31, 0⟩
def F.LPB_UP_A.VALID : Fld := ⟨.LPB_UP_A, 31, 31⟩
def F.LPB_UP_A.SIZE : Fld := ⟨.LPB_UP_A, 23, 18⟩
def F.LPB_UP_SBASE.SBASE : Fld := ⟨.LPB_UP_SBASE, 31, 0⟩
def F.LPB_UP_HBASE_LO.HBASE : Fld := ⟨.LPB_UP_HBASE_LO, 31, 0⟩
def F.LPB_UP_HBASE_HI.HBASE : Fld := ⟨.LPB_UP_HBASE_HI, 31, 0⟩
def F.LPB_WIN_A.VALID : Fld := ⟨.LPB_WIN_A, 31, 31⟩
def F.LPB_WIN_A.SPACE : Fld := ⟨.LPB_WIN_A, 30, 30⟩
def F.LPB_WIN_A.PREF : Fld := ⟨.LPB_WIN_A, 29, 29⟩
def F.LPB_WIN_A.SIZE : Fld := ⟨.LPB_WIN_A, 23, 18⟩
def F.LPB_WIN_HBASE_LO.HBASE : Fld := ⟨.LPB_WIN_HBASE_LO, 31, 0⟩
def F.LPB_WIN_HBASE_HI.HBASE : Fld := ⟨.LPB_WIN_HBASE_HI, 31, 0⟩
def F.LPB_WIN_SBASE.SBASE : Fld := ⟨.LPB_WIN_SBASE, 31, 0⟩
def F.CTR_SNAP.SNAP : Fld := ⟨.CTR_SNAP, 31, 31⟩
def F.CTR_SNAP.FREEZE : Fld := ⟨.CTR_SNAP, 30, 30⟩
def F.CTR_SNAP.CLEAR : Fld := ⟨.CTR_SNAP, 29, 29⟩
def F.CTR_SNAP_STATUS.BUSY : Fld := ⟨.CTR_SNAP_STATUS, 31, 31⟩
def F.CTR_SNAP_STATUS.FROZEN : Fld := ⟨.CTR_SNAP_STATUS, 30, 30⟩
def F.CTR_SNAP_STATUS.VALID : Fld := ⟨.CTR_SNAP_STATUS, 29, 29⟩
def F.CTR_SNAP_STATUS.BY_SILLAGE : Fld := ⟨.CTR_SNAP_STATUS, 28, 28⟩
def F.CTR_SNAP_STATUS.COUNT : Fld := ⟨.CTR_SNAP_STATUS, 15, 0⟩
def F.CTR_SNAP_TIME_LO.NS : Fld := ⟨.CTR_SNAP_TIME_LO, 31, 0⟩
def F.CTR_SNAP_TIME_HI.NS : Fld := ⟨.CTR_SNAP_TIME_HI, 31, 0⟩
def F.CTR_SEL.UNIT : Fld := ⟨.CTR_SEL, 11, 0⟩
def F.CTR_DBG_STATUS.ATTACHED : Fld := ⟨.CTR_DBG_STATUS, 31, 31⟩
def F.CTR_DBG_STATUS.DENIED_SEEN : Fld := ⟨.CTR_DBG_STATUS, 30, 30⟩
def F.CTR_DBG_STATUS.ACCESSES : Fld := ⟨.CTR_DBG_STATUS, 15, 0⟩
def F.GAT_COMMIT.COMMIT : Fld := ⟨.GAT_COMMIT, 31, 31⟩
def F.GAT_COMMIT_STATUS.STATE : Fld := ⟨.GAT_COMMIT_STATUS, 31, 30⟩
def F.GAT_COMMIT_STATUS.EPOCH : Fld := ⟨.GAT_COMMIT_STATUS, 15, 0⟩
def F.GAT_LIFECYCLE.STATE : Fld := ⟨.GAT_LIFECYCLE, 1, 0⟩
def F.GAT_CLAMP_SEEN.COUNT : Fld := ⟨.GAT_CLAMP_SEEN, 15, 0⟩
def F.GAT_VIOL_STATUS.VALID : Fld := ⟨.GAT_VIOL_STATUS, 31, 31⟩
def F.GAT_VIOL_STATUS.OVERFLOW : Fld := ⟨.GAT_VIOL_STATUS, 30, 30⟩
def F.GAT_VIOL_STATUS.MASTER : Fld := ⟨.GAT_VIOL_STATUS, 29, 27⟩
def F.GAT_VIOL_STATUS.WRITE : Fld := ⟨.GAT_VIOL_STATUS, 26, 26⟩
def F.GAT_VIOL_STATUS.REASON : Fld := ⟨.GAT_VIOL_STATUS, 25, 22⟩
def F.GAT_VIOL_STATUS.GATE : Fld := ⟨.GAT_VIOL_STATUS, 21, 15⟩
def F.GAT_VIOL_STATUS.REGION : Fld := ⟨.GAT_VIOL_STATUS, 14, 10⟩
def F.GAT_VIOL_STATUS.DEFAULT : Fld := ⟨.GAT_VIOL_STATUS, 9, 9⟩
def F.GAT_VIOL_STATUS.COLOUR : Fld := ⟨.GAT_VIOL_STATUS, 8, 5⟩
def F.GAT_VIOL_ADDR_LO.ADDR : Fld := ⟨.GAT_VIOL_ADDR_LO, 31, 0⟩
def F.GAT_VIOL_ADDR_HI.ADDR : Fld := ⟨.GAT_VIOL_ADDR_HI, 31, 0⟩
def F.GAT_VIOL_SRC.RID : Fld := ⟨.GAT_VIOL_SRC, 31, 16⟩
def F.GAT_VIOL_SRC.PART_VALID : Fld := ⟨.GAT_VIOL_SRC, 15, 15⟩
def F.GAT_VIOL_SRC.PART : Fld := ⟨.GAT_VIOL_SRC, 14, 10⟩
def F.GAT_VIOL_COUNT.COUNT : Fld := ⟨.GAT_VIOL_COUNT, 31, 0⟩
def F.GAT_GATE_CFG.LOCK : Fld := ⟨.GAT_GATE_CFG, 31, 31⟩
def F.GAT_GATE_CFG.MODE : Fld := ⟨.GAT_GATE_CFG, 30, 30⟩
def F.GAT_GATE_DEF.PRIV_ONLY : Fld := ⟨.GAT_GATE_DEF, 29, 29⟩
def F.GAT_GATE_DEF.R : Fld := ⟨.GAT_GATE_DEF, 28, 28⟩
def F.GAT_GATE_DEF.W : Fld := ⟨.GAT_GATE_DEF, 27, 27⟩
def F.GAT_GATE_DEF.COLOUR : Fld := ⟨.GAT_GATE_DEF, 23, 20⟩
def F.GAT_GATE_DEF.MASTERS : Fld := ⟨.GAT_GATE_DEF, 15, 8⟩
def F.GAT_RGN_A.BASE_LO : Fld := ⟨.GAT_RGN_A, 31, 12⟩
def F.GAT_RGN_A.SIZE : Fld := ⟨.GAT_RGN_A, 11, 6⟩
def F.GAT_RGN_B.BASE_HI : Fld := ⟨.GAT_RGN_B, 31, 0⟩
def F.GAT_RGN_C.VALID : Fld := ⟨.GAT_RGN_C, 31, 31⟩
def F.GAT_RGN_C.LOCK : Fld := ⟨.GAT_RGN_C, 30, 30⟩
def F.GAT_RGN_C.PRIV_ONLY : Fld := ⟨.GAT_RGN_C, 29, 29⟩
def F.GAT_RGN_C.R : Fld := ⟨.GAT_RGN_C, 28, 28⟩
def F.GAT_RGN_C.W : Fld := ⟨.GAT_RGN_C, 27, 27⟩
def F.GAT_RGN_C.COLOUR : Fld := ⟨.GAT_RGN_C, 23, 20⟩
def F.GAT_RGN_C.MASTERS : Fld := ⟨.GAT_RGN_C, 15, 8⟩
def F.GAT_TAG.TAG_7_to_TAG_0 : Fld := ⟨.GAT_TAG, 31, 0⟩
def F.CEL_SHARED_CFG.NP_MAX : Fld := ⟨.CEL_SHARED_CFG, 30, 16⟩
def F.CEL_SHARED_CFG.CPL_RSV : Fld := ⟨.CEL_SHARED_CFG, 14, 0⟩
def F.CEL_POOL_STATUS.SHARED_FREE : Fld := ⟨.CEL_POOL_STATUS, 18, 0⟩
def F.CEL_RSV_STATUS.RESERVED : Fld := ⟨.CEL_RSV_STATUS, 18, 0⟩
def F.CEL_NP_USE.CELLS : Fld := ⟨.CEL_NP_USE, 18, 0⟩
def F.CEL_CLAMP_SEEN.COUNT : Fld := ⟨.CEL_CLAMP_SEEN, 15, 0⟩
def F.CEL_ECC_CORR.COUNT : Fld := ⟨.CEL_ECC_CORR, 31, 0⟩
def F.CEL_ECC_UNCORR.COUNT : Fld := ⟨.CEL_ECC_UNCORR, 31, 0⟩
def F.CEL_ECC_ADDR.VALID : Fld := ⟨.CEL_ECC_ADDR, 31, 31⟩
def F.CEL_ECC_ADDR.CELL : Fld := ⟨.CEL_ECC_ADDR, 18, 0⟩
def F.CEL_AGED_P.COUNT : Fld := ⟨.CEL_AGED_P, 31, 0⟩
def F.CEL_AGED_NP.COUNT : Fld := ⟨.CEL_AGED_NP, 31, 0⟩
def F.CEL_AGED_CPL.COUNT : Fld := ⟨.CEL_AGED_CPL, 31, 0⟩
def F.HWY_UNDERRUN.COUNT : Fld := ⟨.HWY_UNDERRUN, 31, 0⟩
def F.HWY_TAIL_MARK.COUNT : Fld := ⟨.HWY_TAIL_MARK, 31, 0⟩
def F.HWY_MC_DEFER.COUNT : Fld := ⟨.HWY_MC_DEFER, 31, 0⟩
def F.HWY_DESC_FREE.FREE : Fld := ⟨.HWY_DESC_FREE, 15, 0⟩
def F.CEL_CLASS_CFG.Q_MAX : Fld := ⟨.CEL_CLASS_CFG, 14, 0⟩
def F.CEL_AGE_LIMIT.LIMIT : Fld := ⟨.CEL_AGE_LIMIT, 19, 0⟩
def F.CEL_PORT_CFG.CT_EN : Fld := ⟨.CEL_PORT_CFG, 31, 31⟩
def F.CEL_PORT_CFG.IN_MAX : Fld := ⟨.CEL_PORT_CFG, 30, 16⟩
def F.CEL_PORT_CFG.IN_MIN : Fld := ⟨.CEL_PORT_CFG, 11, 0⟩
def F.CEL_PORT_USE.SHARED : Fld := ⟨.CEL_PORT_USE, 31, 16⟩
def F.CEL_PORT_USE.MIN_USED : Fld := ⟨.CEL_PORT_USE, 15, 0⟩
def F.CEL_Q_USE.CELLS : Fld := ⟨.CEL_Q_USE, 18, 0⟩
def F.FAB_ID.VALID : Fld := ⟨.FAB_ID, 31, 31⟩
def F.FAB_ID.CHIP : Fld := ⟨.FAB_ID, 21, 16⟩
def F.FAB_ID.DOMAIN : Fld := ⟨.FAB_ID, 15, 0⟩
def F.FAB_CFG.CTL_CLASS : Fld := ⟨.FAB_CFG, 26, 24⟩
def F.FAB_CFG.MOVE_QUIET : Fld := ⟨.FAB_CFG, 23, 16⟩
def F.FAB_CFG.HOPS_INIT : Fld := ⟨.FAB_CFG, 13, 8⟩
def F.FAB_CFG.REMOTE_WR : Fld := ⟨.FAB_CFG, 1, 1⟩
def F.FAB_CFG.DISC_EN : Fld := ⟨.FAB_CFG, 0, 0⟩
def F.FAB_ROUTE_COMMIT.COMMIT : Fld := ⟨.FAB_ROUTE_COMMIT, 31, 31⟩
def F.FAB_ROUTE_COMMIT.MOVING : Fld := ⟨.FAB_ROUTE_COMMIT, 30, 30⟩
def F.FAB_ROUTE_COMMIT.EPOCH : Fld := ⟨.FAB_ROUTE_COMMIT, 15, 0⟩
def F.FAB_UID_LO.UID : Fld := ⟨.FAB_UID_LO, 31, 0⟩
def F.FAB_UID_HI.UID : Fld := ⟨.FAB_UID_HI, 15, 0⟩
def F.FAB_SIDE.SIDE : Fld := ⟨.FAB_SIDE, 31, 0⟩
def F.FAB_UP.VALID : Fld := ⟨.FAB_UP, 31, 31⟩
def F.FAB_UP.UP_CHIP : Fld := ⟨.FAB_UP, 21, 16⟩
def F.FAB_UP.B_PATH : Fld := ⟨.FAB_UP, 15, 0⟩
def F.FAB_NOROUTE.COUNT : Fld := ⟨.FAB_NOROUTE, 31, 0⟩
def F.FAB_TTL_DROP.COUNT : Fld := ⟨.FAB_TTL_DROP, 31, 0⟩
def F.FAB_TRANSIT_DROP.COUNT : Fld := ⟨.FAB_TRANSIT_DROP, 31, 0⟩
def F.FAB_VH_MISS.COUNT : Fld := ⟨.FAB_VH_MISS, 31, 0⟩
def F.FAB_CLAMP_SEEN.COUNT : Fld := ⟨.FAB_CLAMP_SEEN, 15, 0⟩
def F.FAB_VIOL_LAST.PORT : Fld := ⟨.FAB_VIOL_LAST, 14, 8⟩
def F.FAB_VIOL_LAST.CODE : Fld := ⟨.FAB_VIOL_LAST, 7, 0⟩
def F.FAB_MOVE_FORCED.COUNT : Fld := ⟨.FAB_MOVE_FORCED, 31, 0⟩
def F.FAB_CRT.VALID : Fld := ⟨.FAB_CRT, 31, 31⟩
def F.FAB_CRT.GROUP : Fld := ⟨.FAB_CRT, 20, 16⟩
def F.FAB_CRT.B_PATH : Fld := ⟨.FAB_CRT, 15, 0⟩
def F.FAB_DRT_A.VALID : Fld := ⟨.FAB_DRT_A, 31, 31⟩
def F.FAB_DRT_A.SIDE : Fld := ⟨.FAB_DRT_A, 30, 30⟩
def F.FAB_DRT_A.LEN : Fld := ⟨.FAB_DRT_A, 20, 16⟩
def F.FAB_DRT_A.LABEL : Fld := ⟨.FAB_DRT_A, 15, 0⟩
def F.FAB_DRT_B.NEXT_CHIP : Fld := ⟨.FAB_DRT_B, 21, 16⟩
def F.FAB_DRT_B.B_PATH : Fld := ⟨.FAB_DRT_B, 15, 0⟩
def F.FAB_GRP_A.MEMBER_3_to_MEMBER_0 : Fld := ⟨.FAB_GRP_A, 31, 0⟩
def F.FAB_GRP_B.MEMBER_7_to_MEMBER_4 : Fld := ⟨.FAB_GRP_B, 31, 0⟩
def F.FAB_GRP_LIVE.LIVE : Fld := ⟨.FAB_GRP_LIVE, 7, 0⟩
def F.FAB_VH_MAP.VALID : Fld := ⟨.FAB_VH_MAP, 31, 31⟩
def F.FAB_VH_MAP.VH : Fld := ⟨.FAB_VH_MAP, 15, 0⟩
def F.FAB_NBR_A.VALID : Fld := ⟨.FAB_NBR_A, 31, 31⟩
def F.FAB_NBR_A.ID_VALID : Fld := ⟨.FAB_NBR_A, 30, 30⟩
def F.FAB_NBR_A.DUP_ID : Fld := ⟨.FAB_NBR_A, 29, 29⟩
def F.FAB_NBR_A.SIDE : Fld := ⟨.FAB_NBR_A, 28, 27⟩
def F.FAB_NBR_A.CHIP : Fld := ⟨.FAB_NBR_A, 26, 21⟩
def F.FAB_NBR_A.MODE : Fld := ⟨.FAB_NBR_A, 20, 17⟩
def F.FAB_NBR_A.PORT : Fld := ⟨.FAB_NBR_A, 16, 10⟩
def F.FAB_NBR_B.DOMAIN : Fld := ⟨.FAB_NBR_B, 15, 0⟩
def F.FAB_NBR_UID_LO.UID : Fld := ⟨.FAB_NBR_UID_LO, 31, 0⟩
def F.FAB_NBR_UID_HI.UID : Fld := ⟨.FAB_NBR_UID_HI, 31, 0⟩
def F.FAB_FL_BUDGET.B_LINK : Fld := ⟨.FAB_FL_BUDGET, 31, 0⟩
def F.SDS_LN_CTL.PAT_SEL : Fld := ⟨.SDS_LN_CTL, 15, 12⟩
def F.SDS_LN_CTL.PAT_CHK : Fld := ⟨.SDS_LN_CTL, 11, 11⟩
def F.SDS_LN_CTL.PAT_GEN : Fld := ⟨.SDS_LN_CTL, 10, 10⟩
def F.SDS_LN_CTL.LOOPBACK : Fld := ⟨.SDS_LN_CTL, 9, 8⟩
def F.SDS_LN_CTL.RX_INV : Fld := ⟨.SDS_LN_CTL, 1, 1⟩
def F.SDS_LN_CTL.TX_INV : Fld := ⟨.SDS_LN_CTL, 0, 0⟩
def F.SDS_LN_STATUS.RATE : Fld := ⟨.SDS_LN_STATUS, 23, 20⟩
def F.SDS_LN_STATUS.EXIT_FAIL : Fld := ⟨.SDS_LN_STATUS, 19, 19⟩
def F.SDS_LN_STATUS.PLL_LOCK : Fld := ⟨.SDS_LN_STATUS, 18, 18⟩
def F.SDS_LN_STATUS.CDR_LOCK : Fld := ⟨.SDS_LN_STATUS, 17, 17⟩
def F.SDS_LN_STATUS.SIG_DET : Fld := ⟨.SDS_LN_STATUS, 16, 16⟩
def F.SDS_LN_STATUS.STATE : Fld := ⟨.SDS_LN_STATUS, 3, 0⟩
def F.SDS_LN_PAT_ERR.COUNT : Fld := ⟨.SDS_LN_PAT_ERR, 31, 0⟩
def F.SDS_LN_TXEQ.MODE : Fld := ⟨.SDS_LN_TXEQ, 31, 31⟩
def F.SDS_LN_TXEQ.FL_PRESET : Fld := ⟨.SDS_LN_TXEQ, 26, 24⟩
def F.SDS_LN_TXEQ.C_POST : Fld := ⟨.SDS_LN_TXEQ, 20, 16⟩
def F.SDS_LN_TXEQ.C_PRE : Fld := ⟨.SDS_LN_TXEQ, 15, 12⟩
def F.SDS_LN_TXEQ.C_MAIN : Fld := ⟨.SDS_LN_TXEQ, 5, 0⟩
def F.SDS_LN_TXEQ_STAT.SOURCE : Fld := ⟨.SDS_LN_TXEQ_STAT, 31, 30⟩
def F.SDS_LN_TXEQ_STAT.PRESET : Fld := ⟨.SDS_LN_TXEQ_STAT, 29, 26⟩
def F.SDS_LN_TXEQ_STAT.APP_PRE : Fld := ⟨.SDS_LN_TXEQ_STAT, 23, 18⟩
def F.SDS_LN_TXEQ_STAT.APP_MAIN : Fld := ⟨.SDS_LN_TXEQ_STAT, 17, 12⟩
def F.SDS_LN_TXEQ_STAT.APP_POST : Fld := ⟨.SDS_LN_TXEQ_STAT, 11, 6⟩
def F.SDS_LN_EQ_REJ.COUNT : Fld := ⟨.SDS_LN_EQ_REJ, 31, 0⟩
def F.SDS_LN_RXCTL.RESTART : Fld := ⟨.SDS_LN_RXCTL, 1, 1⟩
def F.SDS_LN_RXCTL.FREEZE : Fld := ⟨.SDS_LN_RXCTL, 0, 0⟩
def F.SDS_LN_RXSTAT.ADAPT_STATE : Fld := ⟨.SDS_LN_RXSTAT, 31, 29⟩
def F.SDS_LN_RXSTAT.FREQ_OFS : Fld := ⟨.SDS_LN_RXSTAT, 25, 16⟩
def F.SDS_LN_RXSTAT.SNR : Fld := ⟨.SDS_LN_RXSTAT, 15, 8⟩
def F.SDS_LN_RXSTAT.CTLE : Fld := ⟨.SDS_LN_RXSTAT, 7, 4⟩
def F.SDS_LN_RXSTAT.VGA : Fld := ⟨.SDS_LN_RXSTAT, 3, 0⟩
def F.SDS_LN_EYE_CTL.START : Fld := ⟨.SDS_LN_EYE_CTL, 31, 31⟩
def F.SDS_LN_EYE_CTL.ABORT : Fld := ⟨.SDS_LN_EYE_CTL, 30, 30⟩
def F.SDS_LN_EYE_CTL.EYE_SEL : Fld := ⟨.SDS_LN_EYE_CTL, 29, 28⟩
def F.SDS_LN_EYE_CTL.DWELL : Fld := ⟨.SDS_LN_EYE_CTL, 27, 22⟩
def F.SDS_LN_EYE_CTL.VOLT : Fld := ⟨.SDS_LN_EYE_CTL, 21, 14⟩
def F.SDS_LN_EYE_CTL.PHASE : Fld := ⟨.SDS_LN_EYE_CTL, 13, 7⟩
def F.SDS_LN_EYE_STAT.STATE : Fld := ⟨.SDS_LN_EYE_STAT, 2, 0⟩
def F.SDS_LN_EYE_ERR_LO.COUNT : Fld := ⟨.SDS_LN_EYE_ERR_LO, 31, 0⟩
def F.SDS_LN_EYE_ERR_HI.COUNT : Fld := ⟨.SDS_LN_EYE_ERR_HI, 31, 0⟩
def F.SDS_LN_EYE_CNT_LO.COUNT : Fld := ⟨.SDS_LN_EYE_CNT_LO, 31, 0⟩
def F.SDS_LN_EYE_CNT_HI.COUNT : Fld := ⟨.SDS_LN_EYE_CNT_HI, 31, 0⟩
def F.SDS_LN_PWR.WAKE_ARM : Fld := ⟨.SDS_LN_PWR, 1, 1⟩
def F.SDS_LN_PWR.DEEP_EN : Fld := ⟨.SDS_LN_PWR, 0, 0⟩
def F.SDS_LN_EXIT_LAST.TIME : Fld := ⟨.SDS_LN_EXIT_LAST, 15, 0⟩
def F.SDS_REF_CFG.SSC : Fld := ⟨.SDS_REF_CFG, 0, 0⟩
def F.SDS_REF_STATUS.REF_LOST_SEEN : Fld := ⟨.SDS_REF_STATUS, 1, 1⟩
def F.SDS_REF_STATUS.REF_OK : Fld := ⟨.SDS_REF_STATUS, 0, 0⟩
def F.SDS_CLAMP_SEEN.COUNT : Fld := ⟨.SDS_CLAMP_SEEN, 15, 0⟩
def F.SDS_QUAD_STATUS.QUAD_ON : Fld := ⟨.SDS_QUAD_STATUS, 3, 0⟩
def F.PRT_PORT_CFG.EN : Fld := ⟨.PRT_PORT_CFG, 31, 31⟩
def F.PRT_PORT_CFG.PROTO : Fld := ⟨.PRT_PORT_CFG, 30, 30⟩
def F.PRT_PORT_CFG.ROLE : Fld := ⟨.PRT_PORT_CFG, 29, 28⟩
def F.PRT_PORT_CFG.WIDTH : Fld := ⟨.PRT_PORT_CFG, 27, 25⟩
def F.PRT_PORT_CFG.REVERSE : Fld := ⟨.PRT_PORT_CFG, 24, 24⟩
def F.PRT_PORT_CFG.LANE_BASE : Fld := ⟨.PRT_PORT_CFG, 23, 20⟩
def F.PRT_PORT_CFG.MAX_RATE : Fld := ⟨.PRT_PORT_CFG, 19, 16⟩
def F.PRT_PORT_CFG.PART : Fld := ⟨.PRT_PORT_CFG, 12, 8⟩
def F.PRT_PORT_CFG2.PERST_DELAY : Fld := ⟨.PRT_PORT_CFG2, 15, 8⟩
def F.PRT_PORT_CFG2.FLIT_LOW : Fld := ⟨.PRT_PORT_CFG2, 7, 7⟩
def F.PRT_PORT_CFG2.L0P_EN : Fld := ⟨.PRT_PORT_CFG2, 6, 6⟩
def F.PRT_PORT_CFG2.L1SS_EN : Fld := ⟨.PRT_PORT_CFG2, 5, 5⟩
def F.PRT_PORT_CFG2.SD_REPORT : Fld := ⟨.PRT_PORT_CFG2, 4, 4⟩
def F.PRT_PORT_CFG2.SBR_PERST : Fld := ⟨.PRT_PORT_CFG2, 3, 3⟩
def F.PRT_LINK_STATUS.DL_ACTIVE : Fld := ⟨.PRT_LINK_STATUS, 31, 31⟩
def F.PRT_LINK_STATUS.FLIT : Fld := ⟨.PRT_LINK_STATUS, 30, 30⟩
def F.PRT_LINK_STATUS.REVERSED : Fld := ⟨.PRT_LINK_STATUS, 29, 29⟩
def F.PRT_LINK_STATUS.LINK_DOWN_SEEN : Fld := ⟨.PRT_LINK_STATUS, 28, 28⟩
def F.PRT_LINK_STATUS.NEG_RATE : Fld := ⟨.PRT_LINK_STATUS, 27, 24⟩
def F.PRT_LINK_STATUS.NEG_WIDTH : Fld := ⟨.PRT_LINK_STATUS, 23, 21⟩
def F.PRT_LINK_STATUS.L0P_WIDTH : Fld := ⟨.PRT_LINK_STATUS, 20, 18⟩
def F.PRT_LINK_STATUS.PM_STATE : Fld := ⟨.PRT_LINK_STATUS, 17, 15⟩
def F.PRT_LINK_STATUS.LTSSM : Fld := ⟨.PRT_LINK_STATUS, 13, 8⟩
def F.PRT_HP_CFG.HP_EN : Fld := ⟨.PRT_HP_CFG, 31, 31⟩
def F.PRT_HP_CFG.FUS_CHAN : Fld := ⟨.PRT_HP_CFG, 27, 23⟩
def F.PRT_HP_CFG.PSN : Fld := ⟨.PRT_HP_CFG, 22, 10⟩
def F.PRT_VIOL_LAST.CODE : Fld := ⟨.PRT_VIOL_LAST, 7, 0⟩
def F.PRT_VIOL_COUNT.COUNT : Fld := ⟨.PRT_VIOL_COUNT, 31, 0⟩
def F.PRT_TRAIN_FAIL.COUNT : Fld := ⟨.PRT_TRAIN_FAIL, 15, 0⟩
def F.PRT_CLAMP_SEEN.COUNT : Fld := ⟨.PRT_CLAMP_SEEN, 15, 0⟩
def F.PRT_FL_CFG.GEN : Fld := ⟨.PRT_FL_CFG, 31, 30⟩
def F.PRT_FL_CFG.FEC : Fld := ⟨.PRT_FL_CFG, 29, 28⟩
def F.PRT_FL_CFG.RATE : Fld := ⟨.PRT_FL_CFG, 27, 27⟩
def F.PRT_FL_CFG.REPLAY_N : Fld := ⟨.PRT_FL_CFG, 26, 23⟩
def F.PRT_FL_CFG.RETRAIN_M : Fld := ⟨.PRT_FL_CFG, 22, 20⟩
def F.PRT_FL_CFG.ACK_EVERY : Fld := ⟨.PRT_FL_CFG, 19, 16⟩
def F.PRT_FL_TIMER.REPLAY_TO : Fld := ⟨.PRT_FL_TIMER, 31, 24⟩
def F.PRT_FL_TIMER.RT_LIMIT : Fld := ⟨.PRT_FL_TIMER, 23, 14⟩
def F.PRT_FL_TIMER.F1_LOCK_T : Fld := ⟨.PRT_FL_TIMER, 13, 6⟩
def F.PRT_FL_TIMER.LP_IDLE : Fld := ⟨.PRT_FL_TIMER, 5, 0⟩
def F.PRT_FL_CRED_A.CRED_3 : Fld := ⟨.PRT_FL_CRED_A, 31, 24⟩
def F.PRT_FL_CRED_A.CRED_2 : Fld := ⟨.PRT_FL_CRED_A, 23, 16⟩
def F.PRT_FL_CRED_A.CRED_1 : Fld := ⟨.PRT_FL_CRED_A, 15, 8⟩
def F.PRT_FL_CRED_A.CRED_0 : Fld := ⟨.PRT_FL_CRED_A, 7, 0⟩
def F.PRT_FL_CRED_B.CRED_7 : Fld := ⟨.PRT_FL_CRED_B, 31, 24⟩
def F.PRT_FL_CRED_B.CRED_6 : Fld := ⟨.PRT_FL_CRED_B, 23, 16⟩
def F.PRT_FL_CRED_B.CRED_5 : Fld := ⟨.PRT_FL_CRED_B, 15, 8⟩
def F.PRT_FL_CRED_B.CRED_4 : Fld := ⟨.PRT_FL_CRED_B, 7, 0⟩
def F.PRT_FL_CTL.LINK_RESET : Fld := ⟨.PRT_FL_CTL, 1, 1⟩
def F.PRT_FL_CTL.RETRAIN : Fld := ⟨.PRT_FL_CTL, 0, 0⟩
def F.PRT_FL_STATUS.LSTATE : Fld := ⟨.PRT_FL_STATUS, 31, 28⟩
def F.PRT_FL_STATUS.ALIGNED : Fld := ⟨.PRT_FL_STATUS, 27, 27⟩
def F.PRT_FL_STATUS.INIT_MISMATCH : Fld := ⟨.PRT_FL_STATUS, 26, 26⟩
def F.PRT_FL_STATUS.RT_COUNT : Fld := ⟨.PRT_FL_STATUS, 25, 22⟩
def F.PRT_FL_STATUS.LANE_LOCK : Fld := ⟨.PRT_FL_STATUS, 15, 0⟩
def F.PRT_FL_SEQ.TX_NEXT : Fld := ⟨.PRT_FL_SEQ, 31, 16⟩
def F.PRT_FL_SEQ.RX_COMMIT : Fld := ⟨.PRT_FL_SEQ, 15, 0⟩
def F.PRT_FL_BUDGET.B_LINK : Fld := ⟨.PRT_FL_BUDGET, 31, 0⟩
def F.PRT_FL_REPLAY_CNT.COUNT : Fld := ⟨.PRT_FL_REPLAY_CNT, 31, 0⟩
def F.PRT_FL_RETRAIN_CNT.DOWNS : Fld := ⟨.PRT_FL_RETRAIN_CNT, 31, 16⟩
def F.PRT_FL_RETRAIN_CNT.RETRAINS : Fld := ⟨.PRT_FL_RETRAIN_CNT, 15, 0⟩
def F.PRT_FL_CRC_ERR.COUNT : Fld := ⟨.PRT_FL_CRC_ERR, 31, 0⟩
def F.PRT_FL_FEC_CORR.COUNT : Fld := ⟨.PRT_FL_FEC_CORR, 31, 0⟩
def F.PRT_FL_FEC_UNCORR.COUNT : Fld := ⟨.PRT_FL_FEC_UNCORR, 31, 0⟩
def F.PRT_FL_DUP.COUNT : Fld := ⟨.PRT_FL_DUP, 31, 0⟩
def F.SCH_PORT_CFG.PRECOLOUR : Fld := ⟨.SCH_PORT_CFG, 31, 16⟩
def F.SCH_PORT_CFG.OVERHEAD : Fld := ⟨.SCH_PORT_CFG, 5, 0⟩
def F.SCH_NOTE_MAP.NOTE : Fld := ⟨.SCH_NOTE_MAP, 15, 0⟩
def F.SCH_Q_CFG.SHAPER_VALID : Fld := ⟨.SCH_Q_CFG, 31, 31⟩
def F.SCH_Q_CFG.SHAPER : Fld := ⟨.SCH_Q_CFG, 28, 16⟩
def F.SCH_Q_CFG.QUANTUM : Fld := ⟨.SCH_Q_CFG, 7, 0⟩
def F.SCH_Q_CREDIT.CREDIT : Fld := ⟨.SCH_Q_CREDIT, 24, 0⟩
def F.SCH_OVERSIZE.COUNT : Fld := ⟨.SCH_OVERSIZE, 31, 0⟩
def F.SCH_GATE_OVERRUN.COUNT : Fld := ⟨.SCH_GATE_OVERRUN, 31, 0⟩
def F.SCH_FLOW_MAP.VALID : Fld := ⟨.SCH_FLOW_MAP, 31, 31⟩
def F.SCH_FLOW_MAP.CTX : Fld := ⟨.SCH_FLOW_MAP, 12, 0⟩
def F.SCH_CLAMP_SEEN.COUNT : Fld := ⟨.SCH_CLAMP_SEEN, 15, 0⟩
def F.SCH_METER_DROP.COUNT : Fld := ⟨.SCH_METER_DROP, 31, 0⟩
def F.SCH_METER_HOLD.COUNT : Fld := ⟨.SCH_METER_HOLD, 31, 0⟩
def F.SCH_CTX_A.KIND : Fld := ⟨.SCH_CTX_A, 31, 30⟩
def F.SCH_CTX_A.AWARE : Fld := ⟨.SCH_CTX_A, 29, 29⟩
def F.SCH_CTX_A.Y_DROP : Fld := ⟨.SCH_CTX_A, 28, 28⟩
def F.SCH_CTX_A.R_DROP : Fld := ⟨.SCH_CTX_A, 27, 27⟩
def F.SCH_CTX_A.CHAIN_VALID : Fld := ⟨.SCH_CTX_A, 26, 26⟩
def F.SCH_CTX_A.CHAIN : Fld := ⟨.SCH_CTX_A, 12, 0⟩
def F.SCH_CTX_CIR.CIR : Fld := ⟨.SCH_CTX_CIR, 21, 0⟩
def F.SCH_CTX_PIR.PIR : Fld := ⟨.SCH_CTX_PIR, 21, 0⟩
def F.SCH_CTX_CBS.CBS : Fld := ⟨.SCH_CTX_CBS, 23, 0⟩
def F.SCH_CTX_PBS.PBS : Fld := ⟨.SCH_CTX_PBS, 23, 0⟩
def F.SCH_CTX_GREEN.COUNT : Fld := ⟨.SCH_CTX_GREEN, 31, 0⟩
def F.SCH_CTX_YELLOW.COUNT : Fld := ⟨.SCH_CTX_YELLOW, 31, 0⟩
def F.SCH_CTX_RED.COUNT : Fld := ⟨.SCH_CTX_RED, 31, 0⟩
def F.SCH_GCL_CTL.EN : Fld := ⟨.SCH_GCL_CTL, 31, 31⟩
def F.SCH_GCL_CTL.SWITCH : Fld := ⟨.SCH_GCL_CTL, 30, 30⟩
def F.SCH_GCL_CTL.ABORT : Fld := ⟨.SCH_GCL_CTL, 29, 29⟩
def F.SCH_GCL_STATUS.ACTIVE_BANK : Fld := ⟨.SCH_GCL_STATUS, 31, 31⟩
def F.SCH_GCL_STATUS.PENDING : Fld := ⟨.SCH_GCL_STATUS, 30, 30⟩
def F.SCH_GCL_STATUS.ERROR : Fld := ⟨.SCH_GCL_STATUS, 29, 27⟩
def F.SCH_GCL_STATUS.ENTRY : Fld := ⟨.SCH_GCL_STATUS, 7, 0⟩
def F.SCH_GCL_BASE_LO.BASE : Fld := ⟨.SCH_GCL_BASE_LO, 31, 0⟩
def F.SCH_GCL_BASE_HI.BASE : Fld := ⟨.SCH_GCL_BASE_HI, 31, 0⟩
def F.SCH_GCL_LEN.LEN : Fld := ⟨.SCH_GCL_LEN, 8, 0⟩
def F.SCH_GCL_SWITCH_AT_LO.T_SW : Fld := ⟨.SCH_GCL_SWITCH_AT_LO, 31, 0⟩
def F.SCH_GCL_SWITCH_AT_HI.T_SW : Fld := ⟨.SCH_GCL_SWITCH_AT_HI, 31, 0⟩
def F.SCH_GCL_ENT.GATES : Fld := ⟨.SCH_GCL_ENT, 31, 24⟩
def F.SCH_GCL_ENT.TICKS : Fld := ⟨.SCH_GCL_ENT, 23, 0⟩
def F.ACD_CAP_A.EN : Fld := ⟨.ACD_CAP_A, 31, 31⟩
def F.ACD_CAP_A.PASID_VALID : Fld := ⟨.ACD_CAP_A, 30, 30⟩
def F.ACD_CAP_A.POLICY : Fld := ⟨.ACD_CAP_A, 29, 29⟩
def F.ACD_CAP_A.JOB : Fld := ⟨.ACD_CAP_A, 28, 24⟩
def F.ACD_CAP_A.SLOT : Fld := ⟨.ACD_CAP_A, 2, 0⟩
def F.ACD_CAP_RID.MASK : Fld := ⟨.ACD_CAP_RID, 31, 16⟩
def F.ACD_CAP_RID.RID : Fld := ⟨.ACD_CAP_RID, 15, 0⟩
def F.ACD_CAP_PASID.PASID : Fld := ⟨.ACD_CAP_PASID, 19, 0⟩
def F.ACD_CAP_WBASE_LO.WBASE : Fld := ⟨.ACD_CAP_WBASE_LO, 31, 0⟩
def F.ACD_CAP_WBASE_HI.WBASE : Fld := ⟨.ACD_CAP_WBASE_HI, 31, 0⟩
def F.ACD_CAP_WLEN.WLEN : Fld := ⟨.ACD_CAP_WLEN, 31, 0⟩
def F.ACD_CAP_HITS.COUNT : Fld := ⟨.ACD_CAP_HITS, 31, 0⟩
def F.ACD_JOB_CFG.EN : Fld := ⟨.ACD_JOB_CFG, 31, 31⟩
def F.ACD_JOB_CFG.SRC : Fld := ⟨.ACD_JOB_CFG, 30, 30⟩
def F.ACD_JOB_CFG.PART : Fld := ⟨.ACD_JOB_CFG, 29, 24⟩
def F.ACD_JOB_CFG.FLC_VALID : Fld := ⟨.ACD_JOB_CFG, 23, 23⟩
def F.ACD_JOB_CFG.FLC : Fld := ⟨.ACD_JOB_CFG, 22, 11⟩
def F.ACD_JOB_CFG.WDOG : Fld := ⟨.ACD_JOB_CFG, 7, 0⟩
def F.ACD_JOB_SET.FIRST : Fld := ⟨.ACD_JOB_SET, 22, 16⟩
def F.ACD_JOB_SET.COUNT : Fld := ⟨.ACD_JOB_SET, 7, 0⟩
def F.ACD_JOB_RING.SIZE : Fld := ⟨.ACD_JOB_RING, 31, 16⟩
def F.ACD_JOB_RING.BASE : Fld := ⟨.ACD_JOB_RING, 14, 0⟩
def F.ACD_JOB_LEN.REC_LEN : Fld := ⟨.ACD_JOB_LEN, 29, 16⟩
def F.ACD_JOB_LEN.OUT_LEN : Fld := ⟨.ACD_JOB_LEN, 13, 0⟩
def F.ACD_JOB_STAGE.STAGE : Fld := ⟨.ACD_JOB_STAGE, 14, 0⟩
def F.ACD_JOB_DB.VALID : Fld := ⟨.ACD_JOB_DB, 31, 31⟩
def F.ACD_JOB_DB.PAGE : Fld := ⟨.ACD_JOB_DB, 8, 0⟩
def F.ACD_JOB_DST.DST_3_to_DST_0 : Fld := ⟨.ACD_JOB_DST, 31, 0⟩
def F.ACD_JOB_CTL.KICK : Fld := ⟨.ACD_JOB_CTL, 31, 31⟩
def F.ACD_JOB_CTL.STOP : Fld := ⟨.ACD_JOB_CTL, 30, 30⟩
def F.ACD_JOB_CTL.ABORT : Fld := ⟨.ACD_JOB_CTL, 29, 29⟩
def F.ACD_JOB_STATUS.STOPPING : Fld := ⟨.ACD_JOB_STATUS, 30, 30⟩
def F.ACD_JOB_STATUS.MASTER_OFF : Fld := ⟨.ACD_JOB_STATUS, 29, 29⟩
def F.ACD_JOB_STATUS.REFUSE : Fld := ⟨.ACD_JOB_STATUS, 28, 25⟩
def F.ACD_JOB_STATUS.RUNNING : Fld := ⟨.ACD_JOB_STATUS, 15, 8⟩
def F.ACD_JOB_STATUS.PENDING : Fld := ⟨.ACD_JOB_STATUS, 6, 0⟩
def F.ACD_JOB_READY.COUNT : Fld := ⟨.ACD_JOB_READY, 31, 0⟩
def F.ACD_JOB_RECNO.COUNT : Fld := ⟨.ACD_JOB_RECNO, 31, 0⟩
def F.ACD_JOB_DONE.COUNT : Fld := ⟨.ACD_JOB_DONE, 31, 0⟩
def F.ACD_JOB_ERR.COUNT : Fld := ⟨.ACD_JOB_ERR, 31, 0⟩
def F.ACD_JOB_LOST.START_LOST : Fld := ⟨.ACD_JOB_LOST, 31, 16⟩
def F.ACD_JOB_LOST.CAP_DROP : Fld := ⟨.ACD_JOB_LOST, 15, 0⟩
def F.ACD_JOB_GAP.COUNT : Fld := ⟨.ACD_JOB_GAP, 31, 0⟩
def F.ACD_DST_A.VALID : Fld := ⟨.ACD_DST_A, 31, 31⟩
def F.ACD_DST_A.KIND : Fld := ⟨.ACD_DST_A, 30, 30⟩
def F.ACD_DST_A.CLASS : Fld := ⟨.ACD_DST_A, 29, 27⟩
def F.ACD_DST_A.METER_VALID : Fld := ⟨.ACD_DST_A, 26, 26⟩
def F.ACD_DST_A.METER : Fld := ⟨.ACD_DST_A, 25, 13⟩
def F.ACD_DST_A.RPT_EN : Fld := ⟨.ACD_DST_A, 12, 12⟩
def F.ACD_DST_A.FULL : Fld := ⟨.ACD_DST_A, 11, 10⟩
def F.ACD_DST_A.TILE : Fld := ⟨.ACD_DST_A, 9, 6⟩
def F.ACD_DST_A.NOTIFY_VEC : Fld := ⟨.ACD_DST_A, 5, 0⟩
def F.ACD_DST_B.NOTIFY_N : Fld := ⟨.ACD_DST_B, 31, 24⟩
def F.ACD_DST_B.SLOTS : Fld := ⟨.ACD_DST_B, 20, 16⟩
def F.ACD_DST_B.PART_VALID : Fld := ⟨.ACD_DST_B, 15, 15⟩
def F.ACD_DST_B.PART : Fld := ⟨.ACD_DST_B, 13, 8⟩
def F.ACD_DST_B.SLOT_SIZE : Fld := ⟨.ACD_DST_B, 7, 0⟩
def F.ACD_DST_BASE_LO.BASE : Fld := ⟨.ACD_DST_BASE_LO, 31, 0⟩
def F.ACD_DST_BASE_HI.BASE : Fld := ⟨.ACD_DST_BASE_HI, 31, 0⟩
def F.ACD_DST_RPT_LO.RPT : Fld := ⟨.ACD_DST_RPT_LO, 31, 0⟩
def F.ACD_DST_RPT_HI.RPT : Fld := ⟨.ACD_DST_RPT_HI, 31, 0⟩
def F.ACD_DST_PROD.PROD : Fld := ⟨.ACD_DST_PROD, 31, 0⟩
def F.ACD_DST_DROP.COUNT : Fld := ⟨.ACD_DST_DROP, 31, 0⟩
def F.ACD_LOAD_CTL.GO : Fld := ⟨.ACD_LOAD_CTL, 31, 31⟩
def F.ACD_LOAD_CTL.BUSY : Fld := ⟨.ACD_LOAD_CTL, 30, 30⟩
def F.ACD_LOAD_CTL.RESULT : Fld := ⟨.ACD_LOAD_CTL, 29, 28⟩
def F.ACD_LOAD_CTL.FIRST : Fld := ⟨.ACD_LOAD_CTL, 22, 16⟩
def F.ACD_LOAD_CTL.COUNT : Fld := ⟨.ACD_LOAD_CTL, 7, 0⟩
def F.ACD_LOAD_SRC.SRC : Fld := ⟨.ACD_LOAD_SRC, 14, 0⟩
def F.ACD_CLAMP_SEEN.COUNT : Fld := ⟨.ACD_CLAMP_SEEN, 15, 0⟩
def F.ACD_ECC_CORR.COUNT : Fld := ⟨.ACD_ECC_CORR, 31, 0⟩
def F.ACD_ECC_UNCORR.COUNT : Fld := ⟨.ACD_ECC_UNCORR, 31, 0⟩
def F.ACD_ECC_ADDR.VALID : Fld := ⟨.ACD_ECC_ADDR, 31, 31⟩
def F.ACD_ECC_ADDR.STORE : Fld := ⟨.ACD_ECC_ADDR, 30, 30⟩
def F.ACD_ECC_ADDR.ENGINE : Fld := ⟨.ACD_ECC_ADDR, 27, 21⟩
def F.ACD_ECC_ADDR.ADDR : Fld := ⟨.ACD_ECC_ADDR, 20, 0⟩
def F.ACD_ENG_STATUS.STATE : Fld := ⟨.ACD_ENG_STATUS, 31, 28⟩
def F.ACD_ENG_STATUS.BOUND : Fld := ⟨.ACD_ENG_STATUS, 27, 27⟩
def F.ACD_ENG_STATUS.JOB : Fld := ⟨.ACD_ENG_STATUS, 26, 22⟩
def F.ACD_ENG_STATUS.PC : Fld := ⟨.ACD_ENG_STATUS, 8, 0⟩
def F.ACD_ENG_RECNO.RECNO : Fld := ⟨.ACD_ENG_RECNO, 31, 0⟩
def F.ACD_ENG_LAST_ERR.STATUS : Fld := ⟨.ACD_ENG_LAST_ERR, 31, 24⟩
def F.ACD_ENG_LAST_ERR.FLAGS : Fld := ⟨.ACD_ENG_LAST_ERR, 23, 16⟩
def F.ACD_ENG_LAST_ERR.PC : Fld := ⟨.ACD_ENG_LAST_ERR, 8, 0⟩
def F.ACD_PS_INSN.INSN : Fld := ⟨.ACD_PS_INSN, 23, 0⟩
def F.ACD_PS_DESC_A.DESC_LO : Fld := ⟨.ACD_PS_DESC_A, 31, 0⟩
def F.ACD_PS_DESC_B.POS : Fld := ⟨.ACD_PS_DESC_B, 15, 0⟩
def F.ACD_PS_SCALE_LO.ADD : Fld := ⟨.ACD_PS_SCALE_LO, 31, 0⟩
def F.ACD_PS_SCALE_HI.MUL : Fld := ⟨.ACD_PS_SCALE_HI, 31, 8⟩
def F.ACD_PS_SCALE_HI.SHIFT : Fld := ⟨.ACD_PS_SCALE_HI, 7, 2⟩
def F.ACD_PS_SCALE_HI.RND : Fld := ⟨.ACD_PS_SCALE_HI, 1, 1⟩
def F.TCT_CYC_LO.COUNT : Fld := ⟨.TCT_CYC_LO, 31, 0⟩
def F.TCT_CYC_HI.COUNT : Fld := ⟨.TCT_CYC_HI, 31, 0⟩
def F.TCT_CYC_SNAP_LO.COUNT : Fld := ⟨.TCT_CYC_SNAP_LO, 31, 0⟩
def F.TCT_CYC_SNAP_HI.COUNT : Fld := ⟨.TCT_CYC_SNAP_HI, 31, 0⟩
def F.TCT_EVT_CFG.EN : Fld := ⟨.TCT_EVT_CFG, 31, 31⟩
def F.TCT_EVT_CFG.MODE : Fld := ⟨.TCT_EVT_CFG, 30, 30⟩
def F.TCT_EVT_CFG.EVENT : Fld := ⟨.TCT_EVT_CFG, 7, 0⟩
def F.TCT_UNIT_STATUS.OVF : Fld := ⟨.TCT_UNIT_STATUS, 23, 16⟩
def F.TCT_UNIT_STATUS.CYC_OVF : Fld := ⟨.TCT_UNIT_STATUS, 15, 15⟩
def F.TCT_UNIT_STATUS.UNIT : Fld := ⟨.TCT_UNIT_STATUS, 11, 0⟩
def F.TCT_CNT_LO.COUNT : Fld := ⟨.TCT_CNT_LO, 31, 0⟩
def F.TCT_CNT_HI.COUNT : Fld := ⟨.TCT_CNT_HI, 31, 0⟩
def F.TCT_SNAP_LO.COUNT : Fld := ⟨.TCT_SNAP_LO, 31, 0⟩
def F.TCT_SNAP_HI.COUNT : Fld := ⟨.TCT_SNAP_HI, 31, 0⟩
def F.LBX_REQ.WORD : Fld := ⟨.LBX_REQ, 31, 0⟩
def F.LBX_RSP.WORD : Fld := ⟨.LBX_RSP, 31, 0⟩
def F.LBX_DOORBELL.RING : Fld := ⟨.LBX_DOORBELL, 0, 0⟩
def F.LBX_ACK.TAG : Fld := ⟨.LBX_ACK, 31, 16⟩
def F.LBX_ACK.CODE : Fld := ⟨.LBX_ACK, 15, 0⟩
def F.LBX_STATUS.FW_READY : Fld := ⟨.LBX_STATUS, 31, 31⟩
def F.LBX_STATUS.BUSY : Fld := ⟨.LBX_STATUS, 30, 30⟩
def F.LBX_STATUS.DONE : Fld := ⟨.LBX_STATUS, 29, 29⟩
def F.LBX_STATUS.MASTER_OFF : Fld := ⟨.LBX_STATUS, 28, 28⟩
def F.LBX_STATUS.OVERFLOW : Fld := ⟨.LBX_STATUS, 27, 27⟩
def F.LBX_STATUS.UNDERRUN : Fld := ⟨.LBX_STATUS, 26, 26⟩
def F.LBX_STATUS.OWNER : Fld := ⟨.LBX_STATUS, 25, 25⟩
def F.LBX_STATUS.EXPERT : Fld := ⟨.LBX_STATUS, 24, 24⟩
def F.LBX_STATUS.REQ_USED : Fld := ⟨.LBX_STATUS, 12, 8⟩
def F.LBX_STATUS.RSP_USED : Fld := ⟨.LBX_STATUS, 4, 0⟩
def F.LBX_CTL.IRQ_EN : Fld := ⟨.LBX_CTL, 31, 31⟩
def F.LBX_CTL.FLT_FWD : Fld := ⟨.LBX_CTL, 30, 30⟩
def F.LBX_CTL.VEC : Fld := ⟨.LBX_CTL, 5, 0⟩

end Sys2Proof.Machine
end

