-- ==== Sys2Proof/Machine/Store.lean ====
section
/-! DEFINITION. The register file: the value of every register instance, kept as the list of those that
differ from their reset values. Also the sparse table the hidden state of numbered units is kept in. -/

namespace Sys2Proof.Machine

/-- A register instance: its name and up to two instance numbers (spec/00_scope.md, Names and numbers).
Lane registers are numbered by lane, port registers by port, tile registers by tile, engine registers by
128 t + k, the TCT registers by unit ID. -/
structure RegKey where
  reg : Reg
  i : Nat := 0
  j : Nat := 0
  deriving DecidableEq, Repr, Inhabited

/-- The order of the register file: by name, then by instance. -/
def RegKey.lt (a b : RegKey) : Bool :=
  Nat.blt a.reg.ctorIdx b.reg.ctorIdx ||
    (a.reg.ctorIdx == b.reg.ctorIdx && (Nat.blt a.i b.i || (a.i == b.i && Nat.blt a.j b.j)))

/-- The word that the reset values of a register's fields make. -/
def Reg.resetNat (r : Reg) : Nat :=
  r.fields.foldl (fun n f => n + f.reset * 2 ^ f.lo) 0

/-- Table 11.4: MODE of a gate at reset, 1 for FIXED (gate 109 only). -/
def gateModeReset (g : Nat) : Nat := if g == 109 then 1 else 0

/-- Table 11.4: PRIV_ONLY of a gate's default rule at reset. -/
def gatePrivReset (g : Nat) : Nat := if g == 108 || g == 110 then 1 else 0

/-- Table 11.4: MASTERS of a gate's default rule at reset. -/
def gateMastersReset (g : Nat) : Nat := if g == 108 || g == 110 then 0x60 else 0x7F

/-- Table 14.6: the action bits of each severity at reset. -/
def actReset (s : Nat) : Nat := if s == 0 then 0x01 else if s == 1 then 0x03 else if s == 2 then 0x1B else 0x2F

/-- The reset word of a register instance (R14, R620). -/
def RegKey.reset (k : RegKey) : Word :=
  match k.reg with
  | .GAT_GATE_CFG => word (gateModeReset k.i * 2 ^ 30)
  | .GAT_GATE_DEF =>
    word (gatePrivReset k.i * 2 ^ 29 + 2 ^ 28 + 2 ^ 27 + gateMastersReset k.i * 2 ^ 8)
  | .FLT_ACT => word (actReset k.i)
  | .TCT_UNIT_STATUS => word k.i
  | r => word r.resetNat

/-- The register file. Canonical form: keys strictly rising in `RegKey.lt`, no entry at its reset value. -/
abbrev RegFile := List (RegKey × Word)

/-- The value of a register instance: what the list holds, else its reset value. -/
def RegFile.get : RegFile → RegKey → Word
  | [], k => k.reset
  | (k', v) :: m, k => if k' = k then v else RegFile.get m k

/-- The list without a register instance. -/
def RegFile.erase : RegFile → RegKey → RegFile
  | [], _ => []
  | (k', v) :: m, k => if k' = k then RegFile.erase m k else (k', v) :: RegFile.erase m k

/-- The list with an entry for a register instance, in its place. -/
def RegFile.insert : RegFile → RegKey → Word → RegFile
  | [], k, v => [(k, v)]
  | (k', v') :: m, k, v =>
    if k' = k then (k, v) :: m
    else if k.lt k' then (k, v) :: (k', v') :: m
    else (k', v') :: RegFile.insert m k v

/-- Writing a register instance: a write of its reset value removes its entry. -/
def RegFile.set (m : RegFile) (k : RegKey) (v : Word) : RegFile :=
  if v = k.reset then m.erase k else m.insert k v

/-- Sparse tables: the units that differ from a unit at rest, by number, strictly rising. -/
abbrev Table (α : Type) := List (Nat × α)

/-- The unit of a number, else the unit at rest. -/
def Table.get {α : Type} (d : α) : Table α → Nat → α
  | [], _ => d
  | (k', v) :: m, k => if k' = k then v else Table.get d m k

/-- The table without a unit. -/
def Table.erase {α : Type} : Table α → Nat → Table α
  | [], _ => []
  | (k', v) :: m, k => if k' = k then Table.erase m k else (k', v) :: Table.erase m k

/-- The table with an entry for a unit, in its place. -/
def Table.insert {α : Type} : Table α → Nat → α → Table α
  | [], k, v => [(k, v)]
  | (k', v') :: m, k, v =>
    if k' = k then (k, v) :: m
    else if k < k' then (k, v) :: (k', v') :: m
    else (k', v') :: Table.insert m k v

/-- Setting a unit: a unit at rest has no entry. -/
def Table.set {α : Type} [DecidableEq α] (d : α) (m : Table α) (k : Nat) (v : α) : Table α :=
  if v = d then Table.erase m k else Table.insert m k v

end Sys2Proof.Machine
end

