-- ==== Sys2Proof/Machine/StateParts.lean ====
section
/-! DEFINITION. The state that no register shows, unit by unit: what the spec's rules give the device to
remember beside its registers (Machine/State.lean gathers it). Plain data; a unit at rest is the
structure's own default value. -/

namespace Sys2Proof.Machine

/-- A set of transmit coefficients and where it came from (R62, R63, SDS_LN_TXEQ_STAT); `preset` is its index when its
source is a preset. -/
structure TxSet where
  pre : Nat := 0
  post : Nat := 0
  source : Nat := 0
  preset : Nat := 0
  deriving DecidableEq, Repr, Inhabited

/-- A lane (spec/02_serdes.md). -/
structure LaneH where
  /-- An exit request held during ENTERING (R56). -/
  exitHeld : Bool := false
  /-- SDS_LN_TXEQ as a write during an equalisation phase leaves it, held until the phase ends (R68). -/
  txHeld : Option Word := none
  /-- The index of the last preset applied (SDS_LN_TXEQ_STAT.PRESET). -/
  preset : Nat := 0
  /-- The settings under which the eye monitor runs, as SDS_LN_EYE_CTL lays them out: those of the write that began the
  measurement (R74), or the eye that margining probes (R103). -/
  probe : Word := 0
  /-- The adaptation values stored at TRACK: CTLE and VGA codes (R69). -/
  stored : Option (Nat × Nat) := none
  /-- A Lane Margining at the Receiver command holds the eye monitor (R75). -/
  margining : Bool := false
  deriving DecidableEq, Repr, Inhabited

/-- Why a port sends Hot Reset (Table 3.4). -/
inductive HotCause where
  | upstream | ownBit
  deriving DecidableEq, Repr, Inhabited

/-- A PCI Express port (spec/03_pcie_ports.md). Its switch port function's configuration space stands in
`Core.cfg`. -/
structure PortH where
  /-- The causes of Hot Reset that last, from above and the port's own bit; Hot Reset is being sent, and since it began the
  port's own bit has been set. -/
  hotUp : Bool := false
  hotOwn : Bool := false
  hotSent : Bool := false
  hotByOwn : Bool := false
  /-- Slot Control writes that wait for Command Completed (R112). -/
  slotPending : List Word := []
  /-- Command Completed is owed for the last Slot Control write. -/
  ccOwed : Bool := false
  /-- A release of DPC that waits for owed completions (R117). -/
  dpcReleaseHeld : Bool := false
  /-- ATTN_LED_N and PWR_LED_N: 0 released, 1 low, 2 blinking (R111). -/
  attnLed : Nat := 0
  pwrLed : Nat := 0
  /-- Posted requests discarded because the port's link was not in DL_Active (R100). -/
  drops : Nat := 0
  /-- Retrain Link has been written since the link last came up or changed. -/
  retrainAsked : Bool := false
  deriving DecidableEq, Repr, Inhabited

/-- A parcel held by a Fleren port: sent and not acknowledged, or received and not committed. -/
structure Parcel where
  seq : Nat
  cls : Nat
  /-- The packets that end in the parcel, in order (R139). -/
  pkts : List Packet := []
  trailBad : Bool := false
  /-- Its payload (R139): the sender's words, and what a receiver has of them. -/
  words : List (BitVec 64) := []
  body : ParcelBody := {}
  /-- Receiver: the identifier of its cell (R191), the chassis time at which its head came (R18), and the packets that begin
  in it and have passed the lookup before it was held good, by their number; none for one that waits (R150). -/
  cell : Nat := 0
  time : Nat := 0
  early : List (Option Nat) := []
  /-- Receiver: held good (R148), and its packets passed to the ingress header lookup (R149). -/
  good : Bool := false
  looked : Bool := false
  /-- Sender: acknowledged by SACK, named by a NAK, times resent for a reason that counts (R143, R145, R162). -/
  sacked : Bool := false
  naked : Bool := false
  replays : Nat := 0
  /-- Sender: due for retransmission, for a reason that counts, and its timer running (R146). -/
  due : Bool := false
  counts : Bool := false
  timer : Bool := false
  deriving DecidableEq, Repr, Inhabited

/-- A control block of the Fleren link (Tables 4.2 and 4.3). -/
inductive CtlBlock where
  | idle
  | parcel (cls seq : Nat)
  | ack (seq : Nat)
  | nak (seq reason : Nat)
  | sack (seq : Nat)
  | credit (cls count : Nat)
  | deskew (lane width mcount : Nat)
  | init (index value : Nat)
  | lpi (accept : Bool)
  | reset
  deriving DecidableEq, Repr, Inhabited

/-- A packet that waits to be carried by parcels, with the bytes of it still to be placed (R139). -/
structure TxItem where
  cls : Nat
  pkt : Packet
  rem : Nat
  /-- The copy that it is. -/
  id : Nat := 0
  /-- Found bad during cut-through (R141). -/
  bad : Bool := false
  deriving DecidableEq, Repr, Inhabited

/-- The parcel that is arriving (R147): its number and class, whether it goes into a slot, and how many packets that begin in
it have come to the lookup (R150). -/
structure RxHead where
  seq : Nat
  cls : Nat
  keep : Bool
  shown : Nat := 0
  deriving DecidableEq, Repr, Inhabited

/-- A fabric packet whose words have come in part (R139): the words still to come, its header, the first words of its body,
its TLP, the parcel cells that it touches, its place in the first of them in bytes, the time of its first parcel, and
whether it has passed the lookup, with its number. -/
structure RxOpen where
  left : Nat
  hdr : FabHdr
  body : List (BitVec 64) := []
  tlp : Packet := {}
  cells : List Nat := []
  off : Nat := 0
  time : Nat := 0
  looked : Bool := false
  rx : Option Nat := none
  deriving DecidableEq, Repr, Inhabited

/-- A lane's search for block alignment (R155): valid headers in a row, the slips made, modulo the length of a block or of a
FEC frame, and in lock the headers and the invalid ones of the window. -/
structure HuntH where
  good : Nat := 0
  slips : Nat := 0
  seen : Nat := 0
  bad : Nat := 0
  deriving DecidableEq, Repr, Inhabited

/-- A deskew marker seen on a lane: LANE, MCOUNT, and how many have come in a row (R156). -/
structure Marker where
  lane : Nat
  mcount : Nat
  run : Nat
  deriving DecidableEq, Repr, Inhabited

/-- A Fleren port (spec/04_fleren_link.md). -/
structure FlH where
  /-- The settings of PRT_FL_CFG, _TIMER, _CRED_A and _CRED_B taken at the last link reset (R164). -/
  cfg : Word := 0
  timer : Word := 0
  credA : Word := 0
  credB : Word := 0
  /-- Sender: the replay buffer, oldest first (R143), and the packets that wait to be carried. -/
  replay : List Parcel := []
  tx : List TxItem := []
  /-- Sender, by class: the last COUNT accepted and the credits consumed (R153). -/
  released : Table Nat := []
  consumed : Table Nat := []
  /-- Receiver: parcels in slots, and the slots released by class (R152). -/
  slots : List Parcel := []
  /-- Receiver, by class: the packet still to be ended (R139, R191). -/
  open_ : Table (Option RxOpen) := []
  freed : Table Nat := []
  /-- Receiver: rx_high, and commits not yet acknowledged (R147, R149). -/
  rxHigh : Option Nat := none
  unacked : Nat := 0
  receiving : Option RxHead := none
  /-- Control blocks that are due (R145). -/
  due : List CtlBlock := []
  /-- Sender: the trailer owed to the next control block (R136), the place in the block stream since the last deskew marker
  (R129, R130), and the MCOUNT of the next. -/
  trail : Option (Nat × Bool) := none
  pos : Nat := 0
  mcount : Nat := 0
  /-- HUNT 1, ALIGN 2, INIT 3 inside a retrain (Table 4.11). -/
  phase : Nat := 0
  epoch : Nat := 0
  partnerEpoch : Option Nat := none
  /-- INIT: the next INDEX to send, INDEX 0 blocks sent with SEEN, values received, a match seen and the
  partner's SEEN (R157 to R159). -/
  initNext : Nat := 0
  initSent : Nat := 0
  initRx : Table Nat := []
  matched : Bool := false
  partnerSeen : Bool := false
  /-- Deskew markers by lane, and the lane map fixed at ALIGN (R156). -/
  marks : Table Marker := []
  laneMap : Table Nat := []
  /-- The hunt of each lane (R155). -/
  hunt : Table HuntH := []
  /-- Low power (R166 to R168): a request sent, IDLE blocks still to send after an acceptance, waking. -/
  lpiSent : Bool := false
  lpiIdle : Option Nat := none
  waking : Bool := false
  deriving DecidableEq, Repr, Inhabited

/-- The receive credits that a TLP holds (R187): its number, its port, its category and its data credits. -/
structure Owed where
  rx : Nat
  port : Nat
  cat : Cat
  data : Nat
  deriving DecidableEq, Repr, Inhabited

/-- An engine write that its meter holds at step 7 (R296): its engine, the meter, and the copies that it will make. -/
structure HeldWrite where
  eng : Nat
  meter : Nat
  copies : List Copy
  deriving DecidableEq, Repr, Inhabited

/-- A parcel cell charged to the shared pool (R191): the identifier of the parcel's cell, the port that it came in by, and
whether the packet that charged it is non-posted. -/
structure SlotCharge where
  cell : Nat
  port : Nat
  np : Bool
  deriving DecidableEq, Repr, Inhabited

/-- The Cellar and the descriptors of the tiles (spec/05_hallway_cellar.md). -/
structure CelH where
  /-- Copies with cells, in the order in which they were enqueued. -/
  copies : List Copy := []
  /-- Copies waiting at step 8 of Table 5.1, oldest first (R189, R190, R182). -/
  waiting : List Copy := []
  /-- Non-posted requests that wait for a Flacon request table entry (R264). -/
  flcWaiting : List Copy := []
  /-- Engine writes held by a dropping meter (R296). -/
  meterHeld : List HeldWrite := []
  /-- Parcel cells charged to the shared pool (R191). -/
  charged : List SlotCharge := []
  /-- Captured writes that wait under STALL, with their rule, and the packets that wait behind them at their port (R351). -/
  capWaiting : List (Option Nat × Copy) := []
  nextId : Nat := 0
  /-- Receive credits of TLPs of PCI Express ports that have not been returned (R187). -/
  owed : List Owed := []
  /-- Multicast copies that were not made, by the tile of the ingress (R86, R226). -/
  mcDrops : Table Nat := []
  /-- The pools of the last division (R184). -/
  sharedSize : Nat := 0
  reserved : Nat := 0
  /-- The settings taken at that division (R214): the registers of the block that it latches. -/
  set : RegFile := []
  /-- The Cellar cells of the parcels in receive slots and of parcels whose packets have not all left, by the identifier of
  the parcel's cell (R180). -/
  slotCells : Table Nat := []
  deriving DecidableEq, Repr, Inhabited

/-- A move that waits (R234), by its pair: the chip route entry as 64 s + chip, and the bucket. -/
structure Move where
  entry : Nat
  bucket : Nat
  deriving DecidableEq, Repr, Inhabited

/-- The egress port that a pair selects (R234). -/
structure Pair where
  entry : Nat
  bucket : Nat
  port : Nat
  deriving DecidableEq, Repr, Inhabited

/-- The fabric block (spec/06_fabric_domains.md). -/
structure FabH where
  /-- The live copies of the shadowed registers (R233). -/
  live : RegFile := []
  moves : List Move := []
  /-- The pairs that have carried a packet. -/
  pairs : List Pair := []
  /-- Tags of DISC READ requests of this chip whose response is awaited (R622). -/
  discOut : List Nat := []
  /-- The Hallway cycle of the last COMMIT (Table 6.6). -/
  commitAt : Option Nat := none
  discLost : Nat := 0
  deriving DecidableEq, Repr, Inhabited

/-- A partition (spec/07_partitions_flacons.md). -/
structure PartH where
  /-- From a partition fundamental reset until R106 is met, and during a Hot Reset (R272). -/
  inReset : Bool := false
  hot : Bool := false
  /-- The management function is not ready after an FLR (Table 7.6). -/
  flr : Bool := false
  /-- After PERST_N deasserts, until Ecseric has restored the configuration (R106). -/
  rrs : Bool := false
  /-- Requests of the device stalled with MASTER_OFF, oldest first (R121): those of firmware, and the places of those of
  engines. -/
  stalled : List Copy := []
  /-- PERST_N is asserted. -/
  perst : Bool := false
  /-- The bus number that the management function has captured from its configuration writes (R251). -/
  bus : Nat := 0
  /-- Multicast groups whose MC_FANOUT message has been raised (R86). -/
  mcRaised : List Nat := []
  deriving DecidableEq, Repr, Inhabited

/-- The outcome that a Flacon takes when it leaves RETIRING (Table 7.7). -/
structure FlcH where
  remove : Bool := false
  deriving DecidableEq, Repr, Inhabited

/-- An entry of the Flacon request table (R262, R264). -/
structure FlcReq where
  flc : Nat
  newRid : Nat
  newTag : Nat
  origRid : Nat
  origTag : Nat
  /-- The partition whose allocator gave the new tag, and the partition the completion returns in. -/
  tagPart : Nat
  backPart : Nat
  /-- Where the request came from, with its fabric header, class and length. -/
  src : Src
  fab : Option FabHdr := none
  cls : Nat := 0
  len : Nat := 0
  reserved : Bool := false
  deriving DecidableEq, Repr, Inhabited

/-- An entry of a tile's completion tracker (R479, R482): the request's descriptor as it was sent, with the
bytes still owed and the address of the first of them. -/
structure Track where
  port : Nat
  copy : Copy
  rem : Nat
  addr : Nat
  orphan : Bool := false
  deriving DecidableEq, Repr, Inhabited

/-- A request of a device requester that awaits its completion (R483), or whose tag is quarantined. -/
structure DevReq where
  part : Option Nat
  tag : Nat
  who : Src
  addr : Nat
  len : Nat
  limit : Nat := 0
  quarantined : Bool := false
  deriving DecidableEq, Repr, Inhabited

/-- A completion for a requester inside the device, with the hierarchy in which its request's tag stands. -/
structure InCpl where
  to_ : Src
  part : Option Nat
  pkt : Packet
  deriving DecidableEq, Repr, Inhabited

/-- The fault collector (spec/14_faults_containment.md). -/
structure FltH where
  /-- Messages that wait at their sources, in the order raised. -/
  intake : List FaultMsg := []
  /-- Completion tracker entries of every tile. -/
  track : List Track := []
  /-- Requests of the device's own requesters. -/
  dev : List DevReq := []
  /-- Completions delivered to requesters inside the device and not yet taken by them. -/
  inbox : List InCpl := []
  /-- Last Hallway cycle at which a rate-limited message was raised, by key. -/
  limits : List (Nat × Nat) := []
  deriving DecidableEq, Repr, Inhabited

/-- The mode logic (spec/01_architecture.md). -/
structure ModeH where
  /-- The mode that the transition in progress leads to, while BUSY is 1 (R38, R42). -/
  target : Option Nat := none
  /-- The transition quiesces the data path: every tile's lookup has stopped (R42). -/
  stopped : Bool := false
  /-- A wake event came in mode 0xB before PWR left PS0 (R43). -/
  wakeHeld : Bool := false
  /-- Packets discarded and requests answered after the stop of a quiesce (R42 step 2). -/
  stopDrops : Nat := 0
  deriving DecidableEq, Repr, Inhabited

/-- The access gates (spec/11_access_gates.md). -/
structure GatH where
  /-- The live rule set; the shadow set is the registers themselves (R400). -/
  live : RegFile := []
  /-- Copies in Pantry queues that were admitted under an earlier epoch and have not retired (R401). -/
  old : List Nat := []
  deriving DecidableEq, Repr, Inhabited

/-- The scheduler of a port (spec/08): the deficits and the pointer b of R286, the fractions of the shaper credits in
units of 1/65,536 byte (R297), and the gate list in effect (R317 to R320, R330). -/
structure SchPort where
  deficits : Table Nat := []
  base : Nat := 0
  fracs : Table Nat := []
  /-- An entry of the list runs, which one, and the chassis time in ns at which it ends, in the count as stepped
  since. -/
  run : Bool := false
  entry : Nat := 0
  ends : Nat := 0
  /-- The list came into effect by a switch (R284). -/
  switched : Bool := false
  /-- Copies that have been counted in SCH_GATE_OVERRUN and are still being sent (Table 8.1). -/
  overran : List Nat := []
  deriving DecidableEq, Repr, Inhabited

/-- The schedulers, the tokens Tc and Tp of the meters in units of 1/65,536 byte (R297), and the class served last of
each queue that is served round robin (R281): Pantry queues by tile, 12 for the management complex. -/
structure SchedH where
  ports : Table SchPort := []
  tokens : Table (Nat × Nat) := []
  turn : Table Nat := []
  deriving DecidableEq, Repr, Inhabited

/-- A timed action slot that is armed: its next action time in units of 0.5 ns, no limit on its firings (R324), and
whether that firing is late (R323, R328). -/
structure TimAct where
  next : Nat
  unlimited : Bool := false
  late : Bool := false
  deriving DecidableEq, Repr, Inhabited

/-- What a slot or a rule does (Table 9.4), with t_ref in units of 0.5 ns and the line that it copies. -/
structure ActSpec where
  kind : Nat
  target : Nat
  op : Nat
  width : Nat
  arg : Nat
  mask : Nat
  tref : Nat
  line : Nat := 0xFF
  late : Bool := false
  /-- The cause is an edge of a TRIG line (R365). -/
  edge : Bool := false
  /-- The slot's number, or 256 + the rule's (R359). -/
  rank : Nat := 0
  deriving DecidableEq, Repr, Inhabited

/-- A matrix rule that has matched and acts at an instant in units of 0.5 ns (R333). -/
structure MtxAct where
  rule : Nat
  at_ : Nat
  spec : ActSpec
  deriving DecidableEq, Repr, Inhabited

/-- An entry of the timestamp FIFO (R331): the time in units of 0.5 ns. -/
structure TsEntry where
  time : Nat
  self : Bool
  release : Bool
  line : Nat
  deriving DecidableEq, Repr, Inhabited

/-- A TOD frame that has been accepted and waits for its edge (R309), with the Hallway cycle of its end. -/
structure TodFrame where
  edge : Nat
  step : Bool
  since : Nat
  deriving DecidableEq, Repr, Inhabited

/-- Chassis time (spec/09_chassis_time.md). -/
structure TimH where
  /-- The count in units of 2^-48 ns (R305). -/
  count : Nat := 0
  /-- What a slew has still to apply, in the same units (R315). -/
  slew : Int := 0
  /-- GO written with SET is applied from the next Hallway cycle, with this STEP (R315). -/
  go : Option Bool := none
  /-- Following (R311, R312): the frame that waits, EDGE_TIME of the last edge, edges in a row without a valid frame
  and with err within LOCK_NS, and the EDGE_TIMEs of frames ignored under violation 0x43, newest first. -/
  frame : Option TodFrame := none
  edge : Option Nat := none
  blind : Nat := 0
  good : Nat := 0
  odd : List Nat := []
  /-- As the source (R313): the edge that the last frame sent announces, and STEP is due in the next frame. -/
  sent : Option Nat := none
  stepDue : Bool := false
  /-- Slots armed, by number; rules that have matched and not yet acted, in their order. -/
  acts : Table (Option TimAct) := []
  rules : List MtxAct := []
  /-- Outputs, TRIG 0 to 15 and STAR_OUT as 16 to 39: those that the last ASSERT drives, the Hallway cycle at which
  a pulse ends, the operations of the cycle `opsAt`, and the recent changes of the drive of a TRIG line, newest first. -/
  steady : Nat := 0
  pulses : Table Nat := []
  ops : List (Nat × Nat) := []
  opsAt : Nat := 0
  driven : Table (List Nat) := []
  /-- TRIG lines that a card asserts. -/
  card : Nat := 0
  fifo : List TsEntry := []
  /-- SEQ of event messages by partition (Table 9.6). -/
  seq : Table Nat := []
  deriving DecidableEq, Repr, Inhabited

/-- A Letterbox (R492 to R495): its queues and the command in progress. -/
structure Box where
  req : List Word := []
  rsp : List Word := []
  /-- The words of the command in progress, header first. -/
  cmd : List Word := []
  /-- Ecseric has still to execute the command. -/
  todo : Bool := false
  /-- The return code and the reply words that await the acknowledgement (R494 step 5). -/
  result : Option (Nat × List Word) := none
  deriving DecidableEq, Repr, Inhabited

/-- A copy of the persistent store (R522): its header and what its body encodes. -/
structure StoreCopy where
  gen : Nat
  length : Nat
  mode : Nat
  mask : Nat
  regs : RegFile
  locks : RegFile
  deriving DecidableEq, Repr, Inhabited

/-- The record that an engine has in hand (R354, R360, R365). -/
structure RecInHand where
  job : Nat
  recno : Nat
  /-- Pantry offset of the record's input bytes, and how many. -/
  loc : Nat
  len : Nat
  /-- The record's place in the job's count of captured records; none for a start. -/
  num : Option Nat := none
  late : Bool := false
  gap : Bool := false
  /-- FIRST, LAST and START of TSTAMP (Table 10.6). -/
  first : Nat := 0
  last : Nat := 0
  start : Nat := 0
  deriving DecidableEq, Repr, Inhabited

/-- A FETCH of an engine: the tags of its reads, where each lands, and what is still awaited (R370). -/
structure FetchRead where
  tag : Nat
  part : Option Nat
  /-- Byte offset in the record, and length. -/
  off : Nat
  len : Nat
  /-- Reads of one FETCH share its number. -/
  group : Nat
  /-- A reset of its partition has discarded its data (Table 3.8). -/
  void : Bool := false
  deriving DecidableEq, Repr, Inhabited

/-- What an engine has still to send (R189, R373, R375): a request through a window of a job, or the notification behind a
report. -/
structure EngOut where
  job : Nat
  win : Nat
  pkt : Option Packet
  deriving DecidableEq, Repr, Inhabited

/-- An Accord engine (R365). G0 reads 0. -/
structure EngH where
  g : Table Word := []
  ip : Nat := 0
  op : Nat := 0
  lc : Nat := 0
  z : Bool := false
  n : Bool := false
  c : Bool := false
  sat : Bool := false
  hand : Option RecInHand := none
  /-- The staging half in use (R369). -/
  half : Nat := 0
  fetches : List FetchRead := []
  fetchBad : Bool := false
  fetchNext : Nat := 0
  /-- The state that the engine leaves MASTER_OFF or HELD_METER for (R121, R296). -/
  before : Nat := 1
  /-- What waits behind a request of the engine that has not been admitted, oldest first (R189). -/
  out : List EngOut := []
  deriving DecidableEq, Repr, Inhabited

/-- A pending start (R357 to R359): kind for G3, time, TRIG line and LATE. -/
structure StartH where
  kind : Nat
  time : Nat
  line : Nat := 0xFF
  late : Bool := false
  /-- The Hallway cycle of the start and its place among the starts of one cycle (R359): a slot by its number, a matrix rule
  as 256 + its number, a doorbell 512, KICK 513; and that the start has lost records (R358). -/
  hwy : Nat := 0
  rank : Nat := 513
  lossy : Bool := false
  deriving DecidableEq, Repr, Inhabited

/-- A record of a source ring that is filling, ready or in the hands of an engine (R351), by its number since the
job was enabled. -/
structure RingRec where
  num : Nat
  ready : Bool := false
  busy : Bool := false
  gap : Bool := false
  /-- It has lost bytes (DROP). -/
  lost : Bool := false
  first : Nat := 0
  last : Nat := 0
  deriving DecidableEq, Repr, Inhabited

/-- A job: bytes captured since the enable, its ring records, the read index in records, its starts, and the record
numbers dispatched and not ended, oldest first (R348 to R360). -/
structure JobH where
  filled : Nat := 0
  recs : List RingRec := []
  readIdx : Nat := 0
  starts : List StartH := []
  order : List Nat := []
  deriving DecidableEq, Repr, Inhabited

/-- What the emitter has been handed (R369, R372, R375): the windows with the emission's number in each. An error
report has no half. -/
structure Emission where
  eng : Nat
  job : Nat
  half : Option Nat
  len : Nat
  dests : List (Nat × Nat)
  status : Nat := 0
  flags : Nat := 0
  first : Nat := 0
  deriving DecidableEq, Repr, Inhabited

/-- The Accord engines of every tile (spec/10_accord_engines.md): engines by 128 t + k, jobs by 32 t + j, the
expected address of capture rules by 64 t + r. -/
structure AcdH where
  engs : Table EngH := []
  jobs : Table JobH := []
  expected : Table (Option Nat) := []
  /-- Rules whose waiting write owes GAP to the record that receives its first byte (R349, R351). -/
  gapDue : List Nat := []
  emits : List Emission := []
  deriving DecidableEq, Repr, Inhabited

/-- An entry of the segment queue (R414, R415): its copy in the Cellar, the bytes transferred, Retry answers in a
row, and whether the far target has answered it with Retry. -/
structure SegEntry where
  copy : Copy
  done : Nat := 0
  retries : Nat := 0
  stalled : Bool := false
  deriving DecidableEq, Repr, Inhabited

/-- A prefetch buffer (R418). -/
structure PfBuf where
  addr : Nat
  data : List Byte
  deriving DecidableEq, Repr, Inhabited

/-- What a delayed read holds (R424): the bytes that completions have brought, each with its poison. -/
inductive DelData where
  | waiting (got : List (Byte × Bool))
  | data (bs : List (Byte × Bool))
  | error
  deriving DecidableEq, Repr, Inhabited

/-- A delayed read of a segment master (R424, R425): the segment queue entries that must leave before its data is
given. -/
structure DelRead where
  addr : Nat
  cmd : Nat
  tag : Nat
  data : DelData := .waiting []
  before : List Nat := []
  deriving DecidableEq, Repr, Inhabited

/-- The legacy segment bridge (spec/12_legacy_segment.md). -/
structure LpbH where
  queue : List SegEntry := []
  /-- The identifier of the entry whose transaction is on the bus. -/
  active : Option Nat := none
  /-- The Requester ID that holds LOCK# (R420). -/
  lock : Option Nat := none
  prefetch : Table (Option PfBuf) := []
  delayed : List DelRead := []
  /-- Lines for which Assert_INTx has been sent (R425). -/
  intSent : Nat := 0
  /-- Arbitration (R427): grants without FRAME# in a row, and the slot granted. -/
  grantFails : Table Nat := []
  grant : Option Nat := none
  /-- The last transaction on the bus was a slot's, so the bridge has priority (R427). -/
  slotLast : Bool := false
  /-- The slot with which the rotation goes on (R427), and the bridge asserts LOCK# (R420). -/
  turn : Nat := 0
  lockPin : Bool := false
  /-- Classes of the Cellar queue served in turn (R281). -/
  nextClass : Nat := 0
  deriving DecidableEq, Repr, Inhabited

/-- A FW_LOAD_HOST in progress (R519): its Letterbox and partition, where the image lies, how many bytes it has, the bytes
that have come, and the tag of the read that is awaited. -/
structure HostLoad where
  box : Nat
  base : Nat
  total : Nat
  got : List Byte := []
  tag : Option Nat := none
  deriving DecidableEq, Repr, Inhabited

/-- Ecseric, the Letterboxes and the flash (spec/15_letterbox_firmware.md). -/
structure LbxH where
  boxes : Table Box := []
  /-- Letterboxes whose commands wait for execution, in the order of their RINGs (R494). -/
  order : List Nat := []
  /-- Ecseric runs and serves Letterboxes (R517 step 6). -/
  ready : Bool := false
  /-- The candidates of the open election: index and priority (R507). -/
  cands : List (Nat × Nat) := []
  /-- A RENEW has come in the current lease period (R508). -/
  renewed : Bool := false
  /-- The Letterbox whose HANDOVER awaits a TAKE (R510). -/
  hoFrom : Option Nat := none
  /-- The expert nonce outstanding (R512). -/
  nonce : Option Word := none
  /-- The expert mask of the store copy applied at boot (R513). -/
  expertMask : Nat := 0
  /-- SMBALERT# asserted (R497). -/
  smbAlert : Bool := false
  /-- Image slots A and B of the flash: the words from the header on; empty when the header is erased. -/
  slotA : List Word := []
  slotB : List Word := []
  /-- Words of the image of the open update session, header first (R519). -/
  loaded : List Word := []
  /-- Store copies A and B, when valid. -/
  storeA : Option StoreCopy := none
  storeB : Option StoreCopy := none
  /-- The FW_LOAD_HOST in progress. -/
  load : Option HostLoad := none
  /-- The Letterbox of the STORE_COMMIT in progress, and the copy that it writes, 0 A or 1 B (R524). -/
  committing : Option (Nat × Nat × StoreCopy) := none
  /-- The reset that follows a FW_FINISH in recovery mode is due (R518). -/
  resetDue : Bool := false
  /-- MODE_SET commands that await the end of a transition. -/
  modeSet : List Nat := []
  deriving DecidableEq, Repr, Inhabited

/-- A Fuse Box channel (spec/13_fuse_box.md). -/
structure FusChan where
  gate : Bool := false
  pchg : Bool := false
  /-- PERST_OUT_N is deasserted, and its delay after PG has run out (R108). -/
  perstHigh : Bool := false
  delayDone : Bool := false
  /-- An off command has arrived since presence began (R436). -/
  offSince : Bool := false
  /-- An off command waits for the end of COOL (Table 13.8). -/
  coolOff : Bool := false
  /-- EN was written to 0 with the output on (Table 13.3). -/
  disabling : Bool := false
  /-- E_CLR waits for the sample boundary, and the energy in units of 0.001 µJ (R457). -/
  eClr : Bool := false
  energy : Nat := 0
  /-- A debounce count has started since PRESENT was last 1; the Hallway cycles of its restarts of the last second (Table 13.7),
  and of PRESENT becoming 1 (R114). -/
  counting : Bool := false
  restarts : List Nat := []
  presentAt : Nat := 0
  /-- The fault timer t, in units of 2.5 µs: an eighth of a sample period (R444). -/
  timer : Nat := 0
  /-- The sample period of the last trip (Table 13.8). -/
  tripAt : Option Nat := none
  deriving DecidableEq, Repr, Inhabited

/-- The Fuse Box: its channels, the sample periods that have ended, and the channels in WAIT_SLOT in their order,
each with the sample period in which it came (R441). -/
structure FusH where
  chans : Table FusChan := []
  samples : Nat := 0
  order : List (Nat × Nat) := []
  deriving DecidableEq, Repr, Inhabited

/-- The counters (spec/17_counters_debug.md): cycles of each group of clocks up to the Hallway cycle `since` (tiles 0 to
11, 12 the chip's Hallway clock, 13 management, 14 SLOT, 15 the legacy bridge, whose cycles at 66 MHz count twice), those at
the last snapshot, and the state-held events asserted in the last cycle. -/
structure CtrH where
  cycles : Table Nat := []
  since : Nat := 0
  snap : Table Nat := []
  held : List (Nat × Nat) := []
  /-- CLEAR waits for the end of a snapshot (Table 17.7). -/
  clearHeld : Bool := false
  deriving DecidableEq, Repr, Inhabited

/-- Sillage: the vector last recorded for each probe, the probes that have lost a change, the records still to be
written in POST (R578 to R581), and the masked vectors of probes whose last change was lost. -/
structure SilH where
  last : Table Nat := []
  drops : List Nat := []
  left : Nat := 0
  seen : List (Nat × Nat) := []
  deriving DecidableEq, Repr, Inhabited

/-- The debug port and the boundary scan port (R583 to R588, R611, R612). -/
structure DbgH where
  /-- DBG_ADDR, the STATUS of the last access, the data of the last read, and an access in progress. -/
  addr : Nat := 0
  status : Nat := 0
  data : Word := 0
  busy : Option (Bool × Word) := none
  /-- LC_NONCE last captured and its Hallway cycle; LC_RESULT; the state that LC_PENDING leads to. -/
  nonce : Option (Nat × Nat) := none
  lcResult : Nat := 0
  lcPending : Option Nat := none
  /-- The instruction in effect and the boundary register. -/
  ir : Nat := 1
  boundary : List Bool := []
  deriving DecidableEq, Repr, Inhabited

/-- Power, supply and reset (spec/16_power_resets.md). -/
structure PwrH where
  /-- The state that an entry in progress leads to. -/
  entering : Option Nat := none
  /-- The wake of the exit in progress has been recorded (R548); the state left. -/
  leaving : Option Nat := none
  /-- The retention cell of R544. -/
  vaonCell : Bool := false
  warnVdd : Bool := false
  warnVaon : Bool := false
  hot : Bool := false
  /-- THERMAL was last raised at this Hallway cycle. -/
  thermalAt : Option Nat := none
  coreOn : Bool := true
  slotOn : Bool := true
  /-- What holds the chip in reset: RESET_N, VDD at its reset level, CHIP_RST or the recovery reset, core rails. -/
  resetN : Bool := false
  vddLow : Bool := false
  chipRst : Bool := false
  railsBad : Bool := false
  /-- FAULT_N is driven low. -/
  faultN : Bool := false
  /-- The boot of Table 15.10 has still to run (R517). -/
  bootDue : Bool := true
  /-- Lanes and Fleren ports that are armed while the core domain is off (R547). -/
  armedLanes : List Nat := []
  armedPorts : List Nat := []
  /-- A brown-out that Ecseric has still to report (R540), an Attic save whose check failed (R553), and the rails whose
  warning in PS3 has still to be reported (Table 16.12). -/
  brownOut : Bool := false
  atticBad : Bool := false
  warnOwed : List Nat := []
  /-- Part of an RTC cycle, in units of 1/2,000,000,000 of it (R549). -/
  rtcFrac : Nat := 0
  /-- The management domain is awake in PS2 (R550). -/
  mgmtAwake : Bool := false
  /-- Attic writes held while WARN is 1 (R542): offset and bytes. -/
  atticHeld : List (Nat × List Byte) := []
  /-- PERST_N changes of PS1 and PS2, applied at the exit (Table 16.12): partition, and whether the pin is low. -/
  perstHeld : List (Nat × Bool) := []
  deriving DecidableEq, Repr, Inhabited

/-- What the device drives or sends, newest first: the model's own trace of its outputs. -/
inductive Out where
  /-- A TLP leaves by a PCI Express port. -/
  | tlp (port : Nat) (p : Packet)
  /-- The 32 data blocks of a parcel leave by a Fleren port (R138, R139); `trailBad` goes in the trailer that follows. -/
  | parcel (port seq cls : Nat) (pkts : List Packet) (trailBad : Bool) (words : List (BitVec 64))
  /-- A control block leaves by a Fleren port on a logical lane, with its payload (Table 4.1). -/
  | block (port lane : Nat) (b : CtlBlock) (payload : BitVec 64)
  /-- A PCI Express port advertises its receive credits as its link comes up, headers and data by kind; none is infinite
  (R186). -/
  | initFc (port : Nat) (posted nonPosted completion : Option (Nat × Nat))
  /-- A PCI Express port returns the credits of a TLP (R187): one header, and data. -/
  | updateFc (port : Nat) (cat : Cat) (data : Nat)
  /-- A nullified copy (R197). -/
  | nullified (port : Nat) (p : Packet)
  /-- MSI-X vector v of the management function of partition p. -/
  | msixMgmt (p v : Nat)
  /-- MSI-X vector v of the switch port function of port n. -/
  | msixPort (n v : Nat)
  /-- An error message of PCI Express from the function of port n: 0 correctable, 1 non-fatal, 2 fatal. -/
  | errMsg (n kind : Nat)
  /-- Hot Reset driven, or ended, on the link of port n. -/
  | hotReset (n : Nat) (on : Bool)
  /-- A completion or read data delivered to a requester inside the device. -/
  | deliver (to_ : Src) (p : Packet)
  /-- A SYNC edge at the given time, and a TOD frame as its characters (Table 9.1). -/
  | syncEdge (ns : Nat)
  | todFrame (frame : List Byte)
  /-- A PCI transaction on the legacy segment: command, address, bytes; PERR# asserted by the bridge; LOCK# asserted or
released. -/
  | bus (cmd addr len : Nat)
  | perr
  | lockPin (on : Bool)
  /-- SMBus data returned to the BMC. -/
  | smbus (words : List Word)
  /-- Assert_INTx (on) or Deassert_INTx from the legacy segment, through an upstream port with the Requester ID of its
  function, or to Ecseric (R425). -/
  | intx (via : Option (Nat × Nat)) (line : Nat) (on : Bool)
  /-- An answer of the debug port or the boundary scan port. -/
  | tdo (v : Nat)
  deriving DecidableEq, Repr, Inhabited

end Sys2Proof.Machine
end

