-- ==== Sys2Proof/Machine/Chip.lean ====
section
/-! DEFINITION. Everything the device holds but its addressed memories and its queue of commands. -/

namespace Sys2Proof.Machine

/-- The addressed memories: the Pantry (tile t's slice at t * 2^21), the Attic and firmware memory. Each is a list of
(address, byte) pairs in canonical form (Machine/Memory.lean). -/
structure Mem where
  pantry : List Host.Cell := []
  attic : List Host.Cell := []
  fw : List Host.Cell := []
  deriving DecidableEq, Repr, Inhabited

/-- The device without its memories and its queue. -/
structure Chip where
  /-- Every register instance that differs from its reset value (spec/00 to spec/19). -/
  regs : RegFile := []
  /-- LO halves held for a write of a 64-bit pair, by the LO register (R6, R619). -/
  heldLo : List (RegKey × Word) := []
  /-- Snapshots of HI halves, by the HI register (R5, R305, R331). -/
  snaps : List (RegKey × Word) := []
  /-- The PCI Express configuration spaces, by function and offset (spec/03, spec/07). -/
  cfg : Table Word := []
  mode : ModeH := {}
  lanes : Table LaneH := []
  ports : Table PortH := []
  fl : Table FlH := []
  cel : CelH := {}
  fab : FabH := {}
  parts : Table PartH := []
  flcs : Table FlcH := []
  flcReqs : List FlcReq := []
  flt : FltH := {}
  gat : GatH := {}
  tim : TimH := {}
  sched : SchedH := {}
  acd : AcdH := {}
  lpb : LpbH := {}
  fus : FusH := {}
  ctr : CtrH := {}
  sil : SilH := {}
  dbg : DbgH := {}
  pwr : PwrH := {}
  lbx : LbxH := {}
  /-- Hallway cycles elapsed while the queue of commands was empty (the model's own clock). -/
  hwy : Nat := 0
  /-- How many free values have been drawn (the model's own field). -/
  free : Nat := 0
  /-- The words that the last read or command returned, in order. -/
  answer : List Word := []
  /-- What the device drove or sent, newest first. -/
  outs : List Out := []
  deriving DecidableEq, Repr, Inhabited

end Sys2Proof.Machine
end

