-- ==== Sys2Proof/Machine/Ops.lean ====
section
/-! DEFINITION. The named operations on the device: registers and their fields, counters, free values,
outputs, fault messages, and the elements of state that several units share. -/

namespace Sys2Proof.Machine

/-! ### Registers and fields -/

/-- The word that a register instance holds. -/
def Chip.reg (c : Chip) (r : Reg) (i : Nat := 0) (j : Nat := 0) : Word := c.regs.get ⟨r, i, j⟩

/-- The device with a register instance at a new word. -/
def Chip.setReg (c : Chip) (r : Reg) (v : Word) (i : Nat := 0) (j : Nat := 0) : Chip :=
  { c with regs := c.regs.set ⟨r, i, j⟩ v }

/-- The value of a field. -/
def Chip.fld (c : Chip) (f : Fld) (i : Nat := 0) (j : Nat := 0) : Nat :=
  wget (c.reg f.reg i j) f.hi f.lo

/-- Whether a one-bit field is 1. -/
def Chip.flag (c : Chip) (f : Fld) (i : Nat := 0) (j : Nat := 0) : Bool := c.fld f i j != 0

/-- The device with a field at a new value; the register's other bits keep theirs. -/
def Chip.setFld (c : Chip) (f : Fld) (v : Nat) (i : Nat := 0) (j : Nat := 0) : Chip :=
  c.setReg f.reg (wset (c.reg f.reg i j) f.hi f.lo v) i j

/-- The largest value of a field. -/
def Fld.max (f : Fld) : Nat := 2 ^ (f.hi + 1 - f.lo) - 1

/-- A counter field raised by n; it saturates. -/
def Chip.add (c : Chip) (f : Fld) (n : Nat) (i : Nat := 0) (j : Nat := 0) : Chip :=
  c.setFld f (min (c.fld f i j + n) f.max) i j

/-- A counter field raised by one; it saturates. -/
def Chip.inc (c : Chip) (f : Fld) (i : Nat := 0) (j : Nat := 0) : Chip := c.add f 1 i j

/-- A counter field raised by one that wraps. -/
def Chip.incWrap (c : Chip) (f : Fld) (i : Nat := 0) (j : Nat := 0) : Chip :=
  c.setFld f (c.fld f i j + 1) i j

/-- A signed field: its two's complement reading. -/
def Chip.sfld (c : Chip) (f : Fld) (i : Nat := 0) (j : Nat := 0) : Int :=
  signed (f.hi + 1 - f.lo) (c.fld f i j)

/-- A field of a 32-bit vector register whose bit b stands for unit 32 i + b (FAB_SIDE, FLT_CONTAIN_PORT,
GLB_PTN_LEND in its second index). -/
def Chip.bitOf (c : Chip) (r : Reg) (n : Nat) : Bool := bit (c.reg r (n / 32)).toNat (n % 32)

/-- The same vector with the bit of unit n put to b. -/
def Chip.putBitOf (c : Chip) (r : Reg) (n : Nat) (b : Bool) : Chip :=
  c.setReg r (word (putBit (c.reg r (n / 32)).toNat (n % 32) b)) (n / 32)

/-- A 64-bit quantity held as a LO and HI pair (R5). -/
def Chip.pair (c : Chip) (lo hi : Reg) (i : Nat := 0) (j : Nat := 0) : Nat :=
  (c.reg hi i j).toNat * 2 ^ 32 + (c.reg lo i j).toNat

/-- A setting of the Cellar as its last division took it (R214). -/
def Chip.celFld (c : Chip) (f : Fld) (i : Nat := 0) : Nat := wget (c.cel.set.get ⟨f.reg, i, 0⟩) f.hi f.lo

/-- Setting both halves of a pair (R6). -/
def Chip.setPair (c : Chip) (lo hi : Reg) (v : Nat) (i : Nat := 0) (j : Nat := 0) : Chip :=
  (c.setReg lo (word v) i j).setReg hi (word (v / 2 ^ 32)) i j

/-! ### Free values, answers, outputs -/

/-- The next free value. -/
def Chip.freeVal (c : Chip) : Nat := Config.freeValue c.free

/-- The device after a free value has been drawn. -/
def Chip.drawn (c : Chip) : Chip := { c with free := c.free + 1 }

/-- The device with its last answer. -/
def Chip.answering (c : Chip) (ws : List Word) : Chip := { c with answer := ws }

/-- The device after one more output. -/
def Chip.emit (c : Chip) (o : Out) : Chip := { c with outs := o :: c.outs }

/-- The device after several outputs, first sent first. -/
def Chip.emitAll (c : Chip) (os : List Out) : Chip := { c with outs := os.reverse ++ c.outs }

/-! ### Units -/

/-- The lane of a number. -/
def Chip.lane (c : Chip) (n : Nat) : LaneH := c.lanes.get default n
/-- The device with a lane changed. -/
def Chip.updLane (c : Chip) (n : Nat) (f : LaneH → LaneH) : Chip :=
  { c with lanes := c.lanes.set default n (f (c.lane n)) }

/-- The PCI Express state of a port. -/
def Chip.port (c : Chip) (n : Nat) : PortH := c.ports.get default n
/-- The device with a port changed. -/
def Chip.updPort (c : Chip) (n : Nat) (f : PortH → PortH) : Chip :=
  { c with ports := c.ports.set default n (f (c.port n)) }

/-- The Fleren state of a port. -/
def Chip.flp (c : Chip) (n : Nat) : FlH := c.fl.get default n
/-- The device with a Fleren port changed. -/
def Chip.updFl (c : Chip) (n : Nat) (f : FlH → FlH) : Chip :=
  { c with fl := c.fl.set default n (f (c.flp n)) }

/-- The partition of a number. -/
def Chip.part (c : Chip) (p : Nat) : PartH := c.parts.get default p
/-- The device with a partition changed. -/
def Chip.updPart (c : Chip) (p : Nat) (f : PartH → PartH) : Chip :=
  { c with parts := c.parts.set default p (f (c.part p)) }

/-- The Flacon entry of a number. -/
def Chip.flc (c : Chip) (n : Nat) : FlcH := c.flcs.get default n
/-- The device with a Flacon entry changed. -/
def Chip.updFlc (c : Chip) (n : Nat) (f : FlcH → FlcH) : Chip :=
  { c with flcs := c.flcs.set default n (f (c.flc n)) }

/-! ### Modes and roles -/

/-- The current mode (Table 1.3). -/
def Chip.opMode (c : Chip) : Nat := c.fld F.GLB_MODE.MODE

/-- A mode with forwarding, 0x1 to 0x8 (Table 1.3). -/
def isForwarding (m : Nat) : Bool := 1 ≤ m && m ≤ 8

/-- Mode 0x9 or 0xA, in which structural registers accept writes (R37, R620). -/
def Chip.configMode (c : Chip) : Bool := c.opMode == 9 || c.opMode == 10

/-- The ingress header lookups let packets in: a forwarding mode, and no quiesce has stopped them (R42). -/
def Chip.admitting (c : Chip) : Bool := isForwarding c.opMode && !c.mode.stopped

/-- The safe state (R487). -/
def Chip.safe (c : Chip) : Bool := c.flag F.FLT_STATUS.SAFE

/-- The tile that holds a port (R26). -/
def tileOf (n : Nat) : Nat := n / 8

/-- A port slot is enabled. -/
def Chip.portEn (c : Chip) (n : Nat) : Bool := c.flag F.PRT_PORT_CFG.EN n

/-- An enabled Fleren port (R27). -/
def Chip.isFleren (c : Chip) (n : Nat) : Bool := n < 96 && c.portEn n && c.flag F.PRT_PORT_CFG.PROTO n

/-- An enabled PCI Express port. -/
def Chip.isPcie (c : Chip) (n : Nat) : Bool := n < 96 && c.portEn n && !c.flag F.PRT_PORT_CFG.PROTO n

/-- Port roles (Table 3.3): 0 downstream, 1 upstream, 2 root. -/
def Chip.role (c : Chip) (n : Nat) : Nat := c.fld F.PRT_PORT_CFG.ROLE n

/-- The partition of an upstream or downstream port. -/
def Chip.portPart (c : Chip) (n : Nat) : Nat := c.fld F.PRT_PORT_CFG.PART n

/-- The ports of the chip. -/
def allPorts : List Nat := List.range 96

/-- The tiles of the chip. -/
def allTiles : List Nat := List.range 12

/-- The upstream port of a partition, when it has one (R29). -/
def Chip.upPort? (c : Chip) (p : Nat) : Option Nat :=
  allPorts.find? fun n => c.isPcie n && c.role n == 1 && c.portPart n == p

/-- The downstream ports of a partition. -/
def Chip.downPorts (c : Chip) (p : Nat) : List Nat :=
  allPorts.filter fun n => c.isPcie n && c.role n == 0 && c.portPart n == p

/-- The fuse state shown by GAT_LIFECYCLE: 0 OPEN, 1 SECURED, 2 RETURN. -/
def Chip.lifecycle (c : Chip) : Nat := c.fld F.GAT_LIFECYCLE.STATE

/-! ### The Owner (spec/15) -/

/-- The Owner's index, when one exists (R506). -/
def Chip.owner? (c : Chip) : Option Nat :=
  if c.flag F.LBX_OWNER.VALID then some (c.fld F.LBX_OWNER.OWNER) else none

/-- The candidate index of a requester: its Letterbox (Table 15.1). -/
def Who.index : Who → Nat
  | .part p => p.val
  | .bmc => 32
  | .debug => 33
  | .fw => 34

/-- The requester writes as the Owner: the Owner itself, Ecseric, or the debug port in OPEN (R13, R511,
R585, R618). -/
def Chip.isOwner (c : Chip) : Who → Bool
  | .fw => true
  | .debug => c.lifecycle == 0
  | w => c.owner? == some w.index

/-- The requester writes RWX fields: the Owner at the expert level, Ecseric on its own behalf, or the
debug port in OPEN (R12, R31, R585). -/
def Chip.isExpert (c : Chip) : Who → Bool
  | .fw => true
  | .debug => c.lifecycle == 0
  | w => c.owner? == some w.index && c.flag F.LBX_OWNER.EXPERT

/-! ### What is powered and out of reset (R532, R544, R556) -/

/-- RESET_N, a supply or a chip reset holds every block in reset. -/
def Chip.held (c : Chip) : Bool := c.pwr.resetN || c.pwr.vddLow || c.pwr.chipRst

/-- The core domain runs. -/
def Chip.coreUp (c : Chip) : Bool :=
  !c.held && c.pwr.coreOn && !c.pwr.railsBad &&
    !(match c.pwr.leaving with | some s => s == 3 || s == 4 | none => false)

/-- The SLOT domain runs. -/
def Chip.slotUp (c : Chip) : Bool := !c.held && c.pwr.slotOn && c.fld F.PWR_STATUS.STATE != 4

/-! ### Chassis time -/

/-- Chassis time in nanoseconds (TIM_NOW, R305). -/
def Chip.ns (c : Chip) : Nat := c.tim.count / 2 ^ 48 % 2 ^ 64

/-- Hallway cycles in a microsecond and in a millisecond (2.000 GHz). -/
def usCycles : Nat := 2000
/-- Hallway cycles in a millisecond. -/
def msCycles : Nat := 2000000

/-! ### Fault messages (R465 to R471) -/

/-- The source ID of source j of tile t (Table 14.1). -/
def tileSrc (t j : Nat) : Nat := 32 * t + j

/-- The source of a port slot (Table 14.1). -/
def portSrc (n : Nat) : Nat := tileSrc (n / 8) (n % 8)

/-- Whether a limit of one message in n Hallway cycles lets a message of this key pass. -/
def Chip.limitOk (c : Chip) (key n : Nat) : Bool :=
  match c.flt.limits.find? (fun e => e.1 == key) with
  | none => true
  | some e => e.2 + n ≤ c.hwy

/-- The device with the time of a limited message noted. -/
def Chip.noteLimit (c : Chip) (key : Nat) : Chip :=
  { c with flt := { c.flt with limits := (key, c.hwy) :: c.flt.limits.filter (fun e => e.1 != key) } }

/-- How many messages wait at a source (R469: up to 4). -/
def Chip.waitingAt (c : Chip) (src : Nat) : Nat :=
  (c.flt.intake.filter fun m => m.source == src && !m.unlogged).length

/-- A message that is not logged counts in FLT_LOG_LOST, and LOG_LOST is raised once per 1 ms (R470). -/
def Chip.logLost (c : Chip) : Chip :=
  let c := c.inc F.FLT_LOG_LOST.COUNT
  if c.limitOk 1 msCycles then
    let c := c.noteLimit 1
    let lost : FaultMsg :=
      { source := 0x1DC, kind := 0x27, sev := 1, handle := c.fld F.FLT_LOG_LOST.COUNT, time := c.ns }
    { c with flt := { c.flt with intake := c.flt.intake ++ [lost] } }
  else c

/-- A message joins its source's queue; past 4 waiting it will not be logged (R469, R470). -/
def Chip.enqueueFault (c : Chip) (m : FaultMsg) : Chip :=
  if c.waitingAt m.source < 4 then { c with flt := { c.flt with intake := c.flt.intake ++ [m] } }
  else
    { c with flt := { c.flt with intake := c.flt.intake ++ [{ m with unlogged := true }] } }.logLost

/-- Raising a fault message (R466, R467). -/
def Chip.raise (c : Chip) (source kind sev : Nat) (handle : Nat := 0) (part : Option Nat := none) : Chip :=
  c.enqueueFault { source, kind, sev, handle, part, time := c.ns }

/-- Raising a message at most once per n Hallway cycles for its key. -/
def Chip.raiseLimited (c : Chip) (key n source kind sev : Nat) (handle : Nat := 0)
    (part : Option Nat := none) : Chip :=
  if c.limitOk key n then (c.noteLimit key).raise source kind sev handle part else c

/-- A source reports a corrected error, at most once per 1 ms (Table 14.4). -/
def Chip.raiseCorrected (c : Chip) (source addr : Nat) : Chip := c.raiseLimited (0x60000 + source) msCycles source 0x1C 0 addr

/-- Severity of a partner violation (Table 14.5): 0 corrected, 1 deferred, 2 uncorrected-contained. -/
def violSev (code : Nat) : Nat :=
  if code ∈ [0x02, 0x09, 0x0A, 0x0B, 0x10, 0x22, 0x23, 0x24, 0x25, 0x27, 0x28, 0x29, 0x2A, 0x2C,
    0x40, 0x41, 0x42, 0x43, 0x44, 0x45, 0x46, 0x47, 0x70, 0x71, 0x72] then 0
  else if code ∈ [0x2B, 0x31, 0x36, 0x65] then 2
  else 1

/-- PARTNER_VIOL at most once per 1 ms for each pair of port and code (R468). -/
def Chip.raiseViol (c : Chip) (source port code : Nat) (part : Option Nat := none) : Chip :=
  c.raiseLimited (0x10000 + port * 256 + code) msCycles source 0x02 (violSev code) (port * 256 + code) part

/-! ### Clamp counts (R504, R505) -/

/-- The tile of a tile register's instance (Table 19.2, and the numbering of `RegKey`). -/
def RegKey.tile (k : RegKey) : Nat :=
  match k.reg.block with
  | .sds =>
    if k.reg ∈ [.SDS_REF_CFG, .SDS_REF_STATUS, .SDS_CLAMP_SEEN, .SDS_QUAD_STATUS] then k.i else k.i / 16
  | .prt => if k.reg = .PRT_CLAMP_SEEN then k.i else k.i / 8
  | .sch => if k.reg ∈ [.SCH_CLAMP_SEEN, .SCH_METER_DROP, .SCH_METER_HOLD] then k.i else k.i / 8
  | .acd =>
    if k.reg ∈ [.ACD_ENG_STATUS, .ACD_ENG_RECNO, .ACD_ENG_LAST_ERR, .ACD_PS_INSN, .ACD_PS_DESC_A,
      .ACD_PS_DESC_B, .ACD_PS_SCALE_LO, .ACD_PS_SCALE_HI] then k.i / 128 else k.i
  | .tct => k.i / 256
  | _ => 0

/-- Where a block counts its clamped and dropped writes. -/
def RegKey.clampFld (k : RegKey) (t : Nat) : Fld × Nat :=
  match k.reg.block with
  | .lbx => (F.LBX_CLAMP_SEEN.COUNT, 0)
  | .pwr => (F.PWR_CLAMP_SEEN.COUNT, 0)
  | .tim => (F.TIM_CLAMP_SEEN.COUNT, 0)
  | .fus => (F.FUS_CLAMP_SEEN.COUNT, 0)
  | .lpb => (F.LPB_CLAMP_SEEN.COUNT, 0)
  | .gat => (F.GAT_CLAMP_SEEN.COUNT, 0)
  | .cel => (F.CEL_CLAMP_SEEN.COUNT, 0)
  | .fab => (F.FAB_CLAMP_SEEN.COUNT, 0)
  | .sds => (F.SDS_CLAMP_SEEN.COUNT, t)
  | .prt => (F.PRT_CLAMP_SEEN.COUNT, t)
  | .sch => (F.SCH_CLAMP_SEEN.COUNT, t)
  | .acd => (F.ACD_CLAMP_SEEN.COUNT, t)
  | _ => (F.GLB_CLAMP_SEEN.COUNT, 0)

/-- A clamped or dropped write counted at the register's block; t is the tile that the write came through
(R299), for the flow contexts that every tile reaches. -/
def Chip.countClamp (c : Chip) (k : RegKey) (t : Nat := k.tile) : Chip :=
  c.inc (k.clampFld t).1 (k.clampFld t).2

/-- A write dropped under R4, R12 or R13 (R505). -/
def Chip.countDropped (c : Chip) : Chip := c.inc F.GLB_CLAMP_SEEN.DROPPED

end Sys2Proof.Machine
end

