-- ==== Sys2Proof/Machine/Operands.lean ====
section
/-! DEFINITION. Operand forms of the register commands: where in BAR0 an access lands (R614 to R617), and
what an access carries besides its value. -/

namespace Sys2Proof.Machine

/-- The instance numbers that an offset's remainder names, level by level, outermost first. -/
def locateDims : List Dim → Nat → Nat → Nat → Option (Nat × Nat)
  | [], r, i, j => if r = 0 then some (i, j) else none
  | d :: ds, r, i, j =>
    let n := r / d.stride
    if n < d.count then locateDims ds (r - n * d.stride) (i + d.iMul * n) (j + d.jMul * n) else none

/-- The register instance of a row at an offset. -/
def AddrRow.locate (row : AddrRow) (off : Nat) : Option RegKey :=
  if off < row.base then none
  else (locateDims row.dims (off - row.base) row.iOff 0).map fun p => ⟨row.reg, p.1, p.2⟩

/-- The offset of an instance, level by level; a level that carries no index (the tile of a flow context)
takes instance t. -/
def placeDims (t : Nat) : List Dim → Nat → Nat → Option Nat
  | [], 0, 0 => some 0
  | [], _, _ => none
  | d :: ds, i, j =>
    let n := if d.iMul ≠ 0 then i / d.iMul else if d.jMul ≠ 0 then j / d.jMul else t
    if n < d.count then
      (placeDims t ds (i - d.iMul * n) (j - d.jMul * n)).map fun r => r + n * d.stride
    else none

/-- The BAR0 offset of a register instance under a row of its register. -/
def AddrRow.place (row : AddrRow) (k : RegKey) (t : Nat) : Option Nat :=
  if row.reg = k.reg && Nat.ble row.iOff k.i then
    (placeDims t row.dims (k.i - row.iOff) k.j).map fun r => r + row.base
  else none

/-- The rows of a block. -/
def Blk.rows : Blk → List AddrRow
  | .glb => addrRows.glb | .lbx => addrRows.lbx | .flt => addrRows.flt | .pwr => addrRows.pwr
  | .tim => addrRows.tim | .fus => addrRows.fus | .lpb => addrRows.lpb | .ctr => addrRows.ctr
  | .gat => addrRows.gat | .cel => addrRows.cel | .fab => addrRows.fab | .sds => addrRows.sds
  | .prt => addrRows.prt | .sch => addrRows.sch | .acd => addrRows.acd | .tct => addrRows.tct

/-- The block or tile sub-block at a BAR0 offset; none outside every block (R614, R615), and in the Pantry
windows. -/
def blockAt (off : Nat) : Option Blk :=
  if off < 0x900000 then
    [.glb, .lbx, .flt, .pwr, .tim, .fus, .lpb, .ctr, .gat][off / 0x100000]?
  else if off < 0x1000000 then none
  else if off < 0xD000000 then
    let x := (off - 0x1000000) % 0x1000000
    if x < 0x200000 then some .sds
    else if x < 0x400000 then some .prt
    else if x < 0x600000 then some .sch
    else if x < 0x800000 then some .acd
    else if 0xA00000 ≤ x && x < 0xA10000 then some .tct
    else none
  else if off < 0xE000000 then some .cel
  else if off < 0xF000000 then some .fab
  else none

/-- The tile whose sub-blocks an offset lies in; 0 outside the tiles. -/
def tileAt (off : Nat) : Nat := (off - 0x1000000) / 0x1000000

/-- The Pantry byte that an offset of a Pantry window names (R616): tile and Pantry offset. -/
def pantryAt (off : Nat) : Option (Nat × Nat) :=
  if 0x1000000 ≤ off && off < 0xD000000 then
    let x := (off - 0x1000000) % 0x1000000
    if 0x800000 ≤ x && x < 0xA00000 then some (tileAt off, x - 0x800000) else none
  else none

/-- The slot of gate 109 that an offset lies in (Table 19.1). -/
def gateSlotAt (off : Nat) : Option Nat :=
  if off < 0x900000 then some (off / 0x100000)
  else if off < 0x1000000 then none
  else if off < 0xD000000 then some (9 + tileAt off)
  else if off < 0xE000000 then some 21
  else if off < 0xF000000 then some 22
  else none

/-- The register that CTR_WIN shows at an offset of its window: the same register of unit CTR_SEL (R572). -/
def winKey (unit x : Nat) : Option RegKey :=
  if x = 0 then some ⟨.TCT_CYC_LO, unit, 0⟩
  else if x = 4 then some ⟨.TCT_CYC_HI, unit, 0⟩
  else if x = 8 then some ⟨.TCT_CYC_SNAP_LO, unit, 0⟩
  else if x = 0xC then some ⟨.TCT_CYC_SNAP_HI, unit, 0⟩
  else if 0x10 ≤ x && x < 0x30 then some ⟨.TCT_EVT_CFG, unit, (x - 0x10) / 4⟩
  else if x = 0x30 then some ⟨.TCT_UNIT_STATUS, unit, 0⟩
  else if 0x40 ≤ x && x < 0x80 then
    some (if x % 8 = 0 then ⟨.TCT_CNT_LO, unit, (x - 0x40) / 8⟩ else ⟨.TCT_CNT_HI, unit, (x - 0x40) / 8⟩)
  else if 0x80 ≤ x && x < 0xC0 then
    some (if x % 8 = 0 then ⟨.TCT_SNAP_LO, unit, (x - 0x80) / 8⟩ else ⟨.TCT_SNAP_HI, unit, (x - 0x80) / 8⟩)
  else none

/-- The register instance at a BAR0 offset; none where the offset holds no register (R7, R614). -/
def Chip.keyAt (c : Chip) (off : Nat) : Option RegKey :=
  if off % 4 ≠ 0 then none
  else if 0x701000 ≤ off && off < 0x701100 then winKey (c.fld F.CTR_SEL.UNIT) (off - 0x701000)
  else match blockAt off with
    | none => none
    | some b => b.rows.findSome? fun row => row.locate off

/-- The BAR0 offset of a register instance, through tile t where every tile reaches it (R617, R290). -/
def RegKey.addr (k : RegKey) (t : Nat := 0) : Nat :=
  (k.reg.block.rows.findSome? fun row => row.place k t).getD 0

end Sys2Proof.Machine
end

