-- ==== Sys2Proof/Machine/Flags.lean ====
section
/-! DEFINITION. What a write and a read do to a field by its access code (R8, Table 0.7), and the plain
legal ranges that writes are clamped to (R504). -/

namespace Sys2Proof.Machine

/-- A field's legal range (R504): values below `min` become `below`, values above `max` become `above`. -/
structure ClampRow where
  hi : Nat
  lo : Nat
  min : Int
  max : Int
  below : Int := min
  above : Int := max
  signed : Bool := false
  deriving DecidableEq, Repr, Inhabited

/-- The row applied to a word. -/
def ClampRow.apply (r : ClampRow) (n : Nat) : Nat :=
  let w := r.hi + 1 - r.lo
  let raw := bits n r.hi r.lo
  let v : Int := if r.signed then Machine.signed w raw else raw
  let v' := if v < r.min then r.below else if r.max < v then r.above else v
  n - raw * 2 ^ r.lo + unsigned w v' * 2 ^ r.lo

/-- The eight two-bit fields from bit b up, whose value 0b11 becomes 0b00. -/
def twoBitRows (b : Nat) : List ClampRow :=
  (List.range 8).map fun n => { hi := b + 2 * n + 1, lo := b + 2 * n, min := 0, max := 2, above := 0 }

/-- The legal ranges that a field table states without reference to other state. -/
def Reg.ranges : Reg → List ClampRow
  | .GLB_MODE => [⟨7, 4, 1, 12, 1, 12, false⟩]
  | .GLB_MODE_CFG => [⟨7, 0, 1, 255, 1, 255, false⟩]
  | .SDS_LN_CTL => [⟨15, 12, 0, 3, 0, 3, false⟩, ⟨9, 8, 0, 2, 0, 0, false⟩]
  | .SDS_LN_EYE_CTL =>
    [⟨29, 28, 0, 2, 0, 1, false⟩, ⟨27, 22, 10, 40, 10, 40, false⟩, ⟨21, 14, -127, 127, -127, 127, true⟩,
     ⟨13, 7, -32, 32, -32, 32, true⟩]
  | .PRT_PORT_CFG => [⟨29, 28, 0, 2, 0, 0, false⟩, ⟨27, 25, 0, 4, 0, 4, false⟩, ⟨19, 16, 0, 6, 0, 6, false⟩]
  | .PRT_PORT_CFG2 => [⟨15, 8, 100, 255, 100, 255, false⟩]
  | .PRT_HP_CFG => [⟨27, 23, 0, 23, 0, 23, false⟩]
  | .PRT_FL_CFG =>
    [⟨31, 30, 1, 2, 2, 2, false⟩, ⟨29, 28, 0, 1, 0, 1, false⟩, ⟨26, 23, 1, 15, 1, 15, false⟩,
     ⟨19, 16, 1, 15, 1, 15, false⟩]
  | .PRT_FL_TIMER =>
    [⟨31, 24, 2, 255, 2, 255, false⟩, ⟨23, 14, 20, 1000, 20, 1000, false⟩, ⟨13, 6, 1, 128, 1, 128, false⟩]
  | .CEL_SHARED_CFG => [⟨30, 16, 2, 32767, 2, 32767, false⟩, ⟨14, 0, 64, 24576, 64, 24576, false⟩]
  | .CEL_CLASS_CFG => [⟨14, 0, 2, 24576, 2, 24576, false⟩]
  | .CEL_AGE_LIMIT => [⟨19, 0, 1, 1000000, 1, 1000000, false⟩]
  | .CEL_PORT_CFG => [⟨11, 0, 2, 4095, 2, 4095, false⟩, ⟨30, 16, 0, 24576, 0, 24576, false⟩]
  | .FAB_CFG => [⟨23, 16, 1, 255, 1, 255, false⟩, ⟨13, 8, 1, 63, 1, 63, false⟩]
  | .FAB_DRT_A => [⟨20, 16, 0, 16, 0, 16, false⟩]
  | .GLB_PTN_RDP => [⟨23, 17, 0, 95, 0, 95, false⟩]
  | .GLB_FLC_DRAIN_LIMIT => [⟨31, 16, 1, 65535, 1, 65535, false⟩, ⟨15, 0, 1, 10000, 1, 10000, false⟩]
  | .GLB_FLC_A => [⟨11, 6, 12, 35, 12, 35, false⟩]
  | .SCH_PORT_CFG => twoBitRows 16
  | .SCH_NOTE_MAP => twoBitRows 0
  | .SCH_Q_CFG => [⟨7, 0, 1, 255, 1, 255, false⟩]
  | .SCH_CTX_A => [⟨31, 30, 0, 2, 0, 0, false⟩]
  | .SCH_CTX_CIR => [⟨21, 0, 0, 2048000, 0, 2048000, false⟩]
  | .SCH_CTX_PIR => [⟨21, 0, 0, 2048000, 0, 2048000, false⟩]
  | .SCH_CTX_CBS => [⟨23, 0, 4224, 16777215, 4224, 16777215, false⟩]
  | .SCH_CTX_PBS => [⟨23, 0, 4224, 16777215, 4224, 16777215, false⟩]
  | .TIM_CFG => [⟨19, 12, 1, 255, 1, 255, false⟩, ⟨11, 0, 16, 4095, 16, 4095, false⟩]
  | .TIM_SYNC_CFG => [⟨31, 12, 100, 1000000, 100, 1000000, false⟩, ⟨11, 6, 1, 63, 1, 63, false⟩]
  | .TIM_RATE_ADJ => [⟨31, 0, -32768000, 32768000, -32768000, 32768000, true⟩]
  | .TIM_TRIG_CFG => [⟨31, 24, 1, 255, 1, 255, false⟩, ⟨23, 16, 1, 255, 1, 255, false⟩]
  | .TIM_ACT_B => [⟨31, 16, 8, 65535, 8, 65535, false⟩]
  | .TIM_MTX_A => [⟨29, 28, 1, 3, 1, 3, false⟩]
  | .TIM_MTX_B => [⟨31, 16, 8, 65535, 8, 65535, false⟩]
  | .SCH_GCL_LEN => [⟨8, 0, 1, 256, 1, 256, false⟩]
  | .SCH_GCL_ENT => [⟨23, 0, 1, 16777215, 1, 16777215, false⟩]
  | .ACD_CAP_WLEN => [⟨31, 0, 1, 4294967295, 1, 4294967295, false⟩]
  | .ACD_JOB_CFG => [⟨29, 24, 0, 32, 0, 32, false⟩]
  | .ACD_JOB_SET => [⟨7, 0, 1, 128, 1, 128, false⟩]
  | .ACD_JOB_RING => [⟨31, 16, 1, 32768, 1, 32768, false⟩]
  | .ACD_JOB_LEN => [⟨29, 16, 0, 8192, 0, 8192, false⟩, ⟨13, 0, 4, 8192, 4, 8192, false⟩]
  | .ACD_DST_A => [⟨9, 6, 0, 11, 0, 11, false⟩]
  | .ACD_DST_B => [⟨20, 16, 0, 16, 0, 16, false⟩, ⟨13, 8, 0, 32, 0, 32, false⟩, ⟨7, 0, 1, 128, 1, 128, false⟩]
  | .ACD_LOAD_CTL => [⟨7, 0, 1, 128, 1, 128, false⟩]
  | .ACD_PS_SCALE_HI => [⟨7, 2, 0, 47, 0, 47, false⟩]
  | .GAT_RGN_A => [⟨11, 6, 12, 63, 12, 63, false⟩]
  | .LPB_CFG => [⟨28, 26, 0, 4, 0, 4, false⟩, ⟨23, 18, 0, 32, 0, 32, false⟩]
  | .LPB_TMO => [⟨31, 16, 16, 65535, 16, 65535, false⟩, ⟨15, 0, 1, 65535, 1, 65535, false⟩]
  | .LPB_TMO2 => [⟨31, 24, 1, 255, 1, 255, false⟩, ⟨23, 16, 1, 255, 1, 255, false⟩]
  | .LPB_ARB => [⟨31, 24, 16, 255, 16, 255, false⟩]
  | .LPB_CFG_ADDR => [⟨13, 11, 0, 5, 0, 5, false⟩]
  | .LPB_UP_A => [⟨23, 18, 12, 32, 12, 32, false⟩]
  | .FUS_CFG =>
    [⟨23, 16, 105, 150, 105, 150, false⟩, ⟨15, 8, 50, 95, 50, 95, false⟩, ⟨4, 0, 1, 24, 1, 24, false⟩]
  | .FUS_CHAN_CFG => [⟨29, 28, 0, 1, 0, 0, false⟩]
  | .FUS_CHAN_TIME =>
    [⟨31, 24, 5, 250, 5, 250, false⟩, ⟨23, 17, 1, 100, 1, 100, false⟩, ⟨16, 10, 1, 100, 1, 100, false⟩,
     ⟨9, 0, 10, 1000, 10, 1000, false⟩]
  | .FUS_CHAN_RAMP => [⟨31, 25, 1, 50, 1, 50, false⟩, ⟨24, 16, 1, 500, 1, 500, false⟩]
  | .FUS_CHAN_SENSE => [⟨31, 16, 100, 65535, 100, 65535, false⟩, ⟨15, 0, 1, 65535, 256, 65535, false⟩]
  | .FLT_CPL_TO => [⟨23, 0, 10, 16777215, 10, 16777215, false⟩]
  | .LBX_ELECT_CFG => [⟨15, 8, 10, 255, 10, 255, false⟩, ⟨7, 0, 1, 255, 1, 255, false⟩]
  | .LBX_SMB_CFG => [⟨6, 0, 0x08, 0x77, 0x5A, 0x5A, false⟩]
  | .PWR_CTL => [⟨2, 0, 1, 4, 1, 4, false⟩]
  | .PWR_CFG =>
    [⟨31, 24, 1, 255, 1, 255, false⟩, ⟨23, 20, 0, 11, 0, 11, false⟩, ⟨19, 10, 640, 920, 640, 920, false⟩,
     ⟨9, 0, 560, 880, 560, 880, false⟩]
  | _ => []

/-- The plain ranges applied to a word that is written. -/
def Reg.clampRanges (r : Reg) (n : Nat) : Nat := r.ranges.foldl (fun n row => row.apply n) n

/-- Whether a field's access code stores the written value (Table 0.7). -/
def Acc.stores : Acc → Bool
  | .rw | .rwx | .rwl => true
  | _ => false

/-- The value of a field after a write (Table 0.7): `old` before, `new` the clamped value written, `expert`
whether RWX fields accept it (R12). -/
def Acc.write (a : Acc) (expert : Bool) (old new : Nat) (w : Nat) : Nat :=
  match a with
  | .rw | .rwl => new
  | .rwx => if expert then new else old
  | .w1c => (BitVec.ofNat w old &&& ~~~ (BitVec.ofNat w new)).toNat
  | .w1s => (BitVec.ofNat w old ||| BitVec.ofNat w new).toNat
  | .wo | .ro | .rc => old

/-- The word after a write, field by field; bits in no field ignore it (R7), and so does what is stored of a WO field. -/
def Reg.writeWord (r : Reg) (expert : Bool) (old new : Nat) : Nat :=
  r.fields.foldl (fun n f => n - bits old f.hi f.lo * 2 ^ f.lo +
    f.acc.write expert (bits old f.hi f.lo) (bits new f.hi f.lo) (f.hi + 1 - f.lo) * 2 ^ f.lo) old

/-- Some RWX field would change (R12). -/
def Reg.rwxChanges (r : Reg) (old new : Nat) : Bool :=
  r.fields.any fun f => f.acc = .rwx && bits old f.hi f.lo != bits new f.hi f.lo

/-- Some field that stores the write differs between what was written and what the device keeps (R504). -/
def Reg.clampSeen (r : Reg) (expert : Bool) (asked kept : Nat) : Bool :=
  r.fields.any fun f =>
    f.acc.stores && (expert || f.acc != .rwx) && bits asked f.hi f.lo != bits kept f.hi f.lo

/-- Nothing of the register takes a write from a requester below the expert level (R12). -/
def Reg.rwxOnly (r : Reg) : Bool :=
  r.fields.any (fun f => f.acc = .rwx) &&
    !r.fields.any (fun f => f.acc ∈ [Acc.rw, .rwl, .w1c, .w1s, .wo])

/-- The word that a read returns: WO fields read 0 (Table 0.7). -/
def Reg.readWord (r : Reg) (v : Nat) : Nat :=
  r.fields.foldl (fun n f => if f.acc = .wo then n else n + bits v f.hi f.lo * 2 ^ f.lo) 0

/-- The bytes of a word that the byte enables name (R4). -/
def enabledBytes (be v : Nat) : Nat :=
  ((List.range 4).map fun b => if bit be b then bits v (8 * b + 7) (8 * b) * 2 ^ (8 * b) else 0).sum

/-- Every byte of a field is enabled (R4). -/
def FieldRow.enabled (f : FieldRow) (be : Nat) : Bool :=
  (List.range 4).all fun b => !(f.lo / 8 ≤ b && b ≤ f.hi / 8) || bit be b

/-- The word after a read by a requester that clears: each RC field whose bytes are all enabled becomes 0
(R4, R8). -/
def Reg.clearedWord (r : Reg) (be v : Nat) : Nat :=
  r.fields.foldl (fun n f =>
    if f.acc = .rc && f.enabled be then n - bits v f.hi f.lo * 2 ^ f.lo else n) v

end Sys2Proof.Machine
end

