-- ==== Sys2Proof/Machine/CtrOps.lean ====
section
/-! DEFINITION. Counter units and their events (spec/17_counters_debug.md, R568 to R576). -/

namespace Sys2Proof.Machine

/-- Programmable counters of a unit; 0 for a number that names no unit (Table 17.1). -/
def unitSize (u : Nat) : Nat :=
  let k := u % 256
  if u < 0xC00 then (if k < 8 then 8 else if k = 8 then 4 else if 0x80 ≤ k then 8 else 0)
  else if u ≤ 0xC06 then 4
  else if 0xC10 ≤ u && u < 0xC28 then 4
  else 0

/-- The class of a unit has an event with this code (Table 17.2). -/
def unitEvent (u code : Nat) : Bool :=
  let k := u % 256
  let top := if u < 0xC00 then (if k < 8 then 0x1F else if k = 8 then 0x1B else 0x1F)
    else if u = 0xC00 then 0x13 else if u = 0xC01 then 0x14 else if u = 0xC02 then 0x14
    else if u = 0xC03 then 0x15 else if u = 0xC04 then 0x12 else if u = 0xC05 then 0x15
    else if u = 0xC06 then 0x12 else 0x14
  code ≤ 1 || (0x10 ≤ code && code ≤ top)

/-- The unit of a port slot. -/
def portUnit (n : Nat) : Nat := n / 8 * 256 + n % 8
/-- The unit of a tile. -/
def tileUnit (t : Nat) : Nat := t * 256 + 8
/-- The unit of an engine. -/
def engUnit (e : Nat) : Nat := e / 128 * 256 + 128 + e % 128
/-- The unit of a Fuse Box channel. -/
def fusUnit (s : Nat) : Nat := 0xC10 + s

/-- A programmable counter raised by n; it wraps at 2^48 and sets its OVF bit (R568). -/
def Chip.bump (c : Chip) (u i n : Nat) : Chip :=
  let v := c.pair .TCT_CNT_LO .TCT_CNT_HI u i + n
  let c := c.setPair .TCT_CNT_LO .TCT_CNT_HI (v % 2 ^ 48) u i
  if 2 ^ 48 ≤ v then c.setFld F.TCT_UNIT_STATUS.OVF (putBit (c.fld F.TCT_UNIT_STATUS.OVF u) i true) u else c

/-- An event of a unit with a count of n in one cycle (R570): level mode adds the count, edge mode counts once; nothing
counts while the counters are frozen (R575). -/
def Chip.pulse (c : Chip) (u code : Nat) (n : Nat := 1) : Chip :=
  if c.flag F.CTR_SNAP_STATUS.FROZEN || n = 0 then c
  else (List.range (unitSize u)).foldl (fun c i =>
    if c.flag F.TCT_EVT_CFG.EN u i && c.fld F.TCT_EVT_CFG.EVENT u i == code then
      c.bump u i (if c.flag F.TCT_EVT_CFG.MODE u i then n else 1)
    else c) c

/-- The group of clocks that a unit counts in, and how many of the group's counts one of its cycles takes: Hallway cycles, and
for the legacy bridge (15) one for each at 33 MHz and two at 66 MHz. -/
def unitCycles (u : Nat) : Nat × Nat :=
  if u < 0xC00 then (u / 256, if 0x80 ≤ u % 256 then 2 else 1)
  else if u = 0xC05 then (15, 60)
  else if u = 0xC06 then (13, 2)
  else if 0xC10 ≤ u then (14, 80)
  else (12, 1)

/-- How many of its group's counts a Hallway cycle is. -/
def Chip.countStep (c : Chip) (g : Nat) : Nat := if g = 15 && c.flag F.LPB_STATUS.BUS66 then 2 else 1

/-- A group of clocks runs and its counters count (R569, Table 16.10). -/
def Chip.clockRuns (c : Chip) (g : Nat) : Bool :=
  let ps := c.fld F.PWR_STATUS.STATE
  !c.flag F.CTR_SNAP_STATUS.FROZEN &&
    (if g < 12 then ps == 0 && bit (c.fld F.GLB_TILE_EN.TILE_EN) g
     else if g = 12 || g = 15 then ps == 0
     else if g = 13 then Nat.ble ps 1 || (ps == 2 && c.pwr.mgmtAwake)
     else Nat.ble ps 3)

/-- The cycles counted by a group up to now. -/
def Chip.cycles (c : Chip) (g : Nat) : Nat :=
  c.ctr.cycles.get 0 g + (if c.clockRuns g then (c.hwy - c.ctr.since) * c.countStep g else 0)

/-- The cycles up to now are noted, before something starts or stops a clock. -/
def Chip.cycSync (c : Chip) : Chip :=
  let cyc := (List.range 16).foldl (fun (m : Table Nat) g => Table.set 0 m g (c.cycles g)) c.ctr.cycles
  { c with ctr := { c.ctr with cycles := cyc, since := c.hwy } }

/-- The cycle counter of a unit (R569). -/
def Chip.cycleCount (c : Chip) (u : Nat) : Nat :=
  let k := unitCycles u
  c.cycles k.1 / k.2 % 2 ^ 48

/-- The snapshot of a unit's cycle counter (R574). -/
def Chip.cycleSnap (c : Chip) (u : Nat) : Nat :=
  let k := unitCycles u
  c.ctr.snap.get 0 k.1 / k.2 % 2 ^ 48

/-- The snapshot register of a counter register. -/
def snapKey (k : RegKey) : Option RegKey :=
  match k.reg with
  | .TCT_CNT_LO => some { k with reg := .TCT_SNAP_LO }
  | .TCT_CNT_HI => some { k with reg := .TCT_SNAP_HI }
  | _ => none

/-- A snapshot starts (R574): its time is recorded and every unit copies its counters. -/
def Chip.takeSnapshot (c : Chip) (bySillage : Bool) : Chip :=
  let c := c.cycSync
  let snap := (List.range 16).foldl (fun (m : Table Nat) g => Table.set 0 m g (c.cycles g)) []
  let c := { c with ctr := { c.ctr with snap } }
  let old := c.regs.filter fun (e : RegKey × Word) => e.1.reg != .TCT_SNAP_LO && e.1.reg != .TCT_SNAP_HI
  let copies := c.regs.filterMap fun (e : RegKey × Word) => (snapKey e.1).map fun k => (k, e.2)
  let c := { c with regs := copies.foldr (fun (e : RegKey × Word) (m : RegFile) => m.set e.1 e.2) old }
  ((c.setPair .CTR_SNAP_TIME_LO .CTR_SNAP_TIME_HI c.ns).setFld F.CTR_SNAP_STATUS.BUSY 1).setFld F.CTR_SNAP_STATUS.BY_SILLAGE
    (b2n bySillage)

/-- Every counter and snapshot is 0, every OVF bit and VALID clear (R576). -/
def Chip.clearCounters (c : Chip) : Chip :=
  let keep (k : RegKey) : Bool := !decide (k.reg ∈ [Reg.TCT_CNT_LO, .TCT_CNT_HI, .TCT_SNAP_LO, .TCT_SNAP_HI, .TCT_UNIT_STATUS])
  let c := { c with regs := c.regs.filter fun (e : RegKey × Word) => keep e.1
                    ctr := { c.ctr with cycles := [], since := c.hwy, snap := [], clearHeld := false } }
  c.setFld F.CTR_SNAP_STATUS.VALID 0

/-- The snapshot in progress is complete (R574, Table 17.7). -/
def Chip.snapshotDone (c : Chip) : Chip :=
  if !c.flag F.CTR_SNAP_STATUS.BUSY then c
  else
    let c := ((c.setFld F.CTR_SNAP_STATUS.BUSY 0).setFld F.CTR_SNAP_STATUS.VALID 1).incWrap F.CTR_SNAP_STATUS.COUNT
    if c.ctr.clearHeld then c.clearCounters else c

/-- What the bits of a word written to CTR_SNAP ask for, after FREEZE has been stored (R574 to R576, Table 17.7). -/
def Chip.ctrSnapBits (c : Chip) (v : Word) : Chip :=
  let c := c.cycSync.setFld F.CTR_SNAP_STATUS.FROZEN (c.fld F.CTR_SNAP.FREEZE)
  let c := if !bit v.toNat 31 then c
    else if c.flag F.CTR_SNAP_STATUS.BUSY then c.countClamp ⟨.CTR_SNAP, 0, 0⟩
    else c.takeSnapshot false
  if !bit v.toNat 29 then c
  else if c.flag F.CTR_SNAP_STATUS.BUSY then { c with ctr := { c.ctr with clearHeld := true } }
  else c.clearCounters

/-! ### Sillage (R577 to R582) -/

/-- The state of Sillage: 0 IDLE, 1 RECORDING, 2 POST, 3 FROZEN. -/
def Chip.silState (c : Chip) : Nat := c.fld F.FLT_SIL_STATUS.STATE

/-- A record is written (R579, Table 17.4). -/
def Chip.silWrite (c : Chip) (p vector : Nat) (trig drop : Bool) : Chip :=
  let r := c.fld F.FLT_SIL_STATUS.NEXT
  let w2 := vector * 2 ^ 16 + p * 2 ^ 12 + c.fld F.FLT_SIL_PROBE.UNIT p
  let w3 := b2n trig * 2 ^ 31 + b2n drop * 2 ^ 30
  let c := [c.ns, c.ns / 2 ^ 32, w2, w3].zipIdx.foldl (fun c w => c.setReg .FLT_SIL_REC_W (word w.1) r w.2) c
  let c := c.setFld F.FLT_SIL_STATUS.NEXT ((r + 1) % 4096)
  if r = 4095 then c.setFld F.FLT_SIL_STATUS.WRAPPED 1 else c

/-- The present masked vector of a probe (R581): the last one sampled, recorded or lost. -/
def Chip.silNow (c : Chip) (p : Nat) : Nat :=
  match c.sil.seen.find? fun q => q.1 == p with
  | some q => q.2
  | none => c.sil.last.get 0 p

/-- A trigger (R580, R581): the cause, one record for each enabled probe with its present masked vector, POST; ignored outside
RECORDING. -/
def Chip.silTrigger (c : Chip) (source kind : Nat) (manual : Bool) : Chip :=
  if c.silState != 1 then c
  else
    let c := (c.setFld F.FLT_SIL_CAUSE.SOURCE source).setFld F.FLT_SIL_CAUSE.KIND kind
    let c := (c.setFld F.FLT_SIL_STATUS.TRIG_REC (c.fld F.FLT_SIL_STATUS.NEXT)).setFld F.FLT_SIL_STATUS.MANUAL (b2n manual)
    let ps := (List.range 16).filter fun p => bit (c.fld F.FLT_SIL_CFG.PROBE_EN) p
    let c := (ps.zipIdx).foldl (fun c q => c.silWrite q.1 (c.silNow q.1) (q.2 == 0) (c.sil.drops.elem q.1)) c
    let last := (c.sil.seen.filter fun q => ps.elem q.1).foldl (fun m q => Table.set 0 m q.1 q.2) c.sil.last
    let c := { c with sil := { last, left := c.fld F.FLT_SIL_CFG.POST - ps.length } }
    let c := c.setFld F.FLT_SIL_STATUS.STATE 2
    if c.flag F.FLT_SIL_CFG.SNAP_ON_TRIG && !c.flag F.CTR_SNAP_STATUS.BUSY then c.takeSnapshot true else c

/-- The event vector of a probe at a sample; `full` says that the probe already holds 4 records that wait (R578,
R579). -/
def Chip.silSample (c : Chip) (p vector : Nat) (full : Bool) : Chip :=
  let m := Nat.land vector (c.fld F.FLT_SIL_PROBE.MASK p)
  let live := c.silState == 1 || (c.silState == 2 && c.sil.left != 0)
  let rest := c.sil.seen.filter fun q => q.1 != p
  if !live || !bit (c.fld F.FLT_SIL_CFG.PROBE_EN) p then c
  else if m = c.sil.last.get 0 p then { c with sil := { c.sil with seen := rest } }
  else if full then
    let c := c.inc F.FLT_SIL_LOST.COUNT
    { c with sil := { c.sil with drops := if c.sil.drops.elem p then c.sil.drops else c.sil.drops ++ [p],
                                 seen := rest ++ [(p, m)] } }
  else
    let c := c.silWrite p m false (c.sil.drops.elem p)
    { c with sil := { last := c.sil.last.set 0 p m, drops := c.sil.drops.filter (· != p), seen := rest,
                      left := if c.silState = 2 then c.sil.left - 1 else c.sil.left } }

/-- FLT_SIL_CFG after a write that reached it (R581, R582): ARM in every state, the other fields only in IDLE and FROZEN. -/
def Chip.writeSilCfg (c : Chip) (v : Word) : Chip :=
  let k : RegKey := ⟨.FLT_SIL_CFG, 0, 0⟩
  let was := c.flag F.FLT_SIL_CFG.ARM
  let old := (c.reg .FLT_SIL_CFG).toNat
  let n := v.toNat
  let now := bit n 31
  let free := c.silState == 0 || c.silState == 3
  let others := bits n 30 30 * 2 ^ 30 + bits n 27 0
  let c := if free then c.setReg .FLT_SIL_CFG (word (b2n now * 2 ^ 31 + others))
    else
      let c := c.setReg .FLT_SIL_CFG (word (b2n now * 2 ^ 31 + old % 2 ^ 31))
      if others = old % 2 ^ 31 then c else c.countClamp k
  if now && !was && free then
    { c.setReg .FLT_SIL_STATUS (word (2 ^ 30 + c.fld F.FLT_SIL_STATUS.TRIG_REC * 2 ^ 12)) with sil := {} }
  else if was && !now then
    if c.silState = 1 then c.setFld F.FLT_SIL_STATUS.STATE 0
    else if c.silState = 2 then c.setFld F.FLT_SIL_STATUS.STATE 3 else c
  else c

/-- POST records have been written since the trigger (Table 17.3). -/
def Chip.silDone (c : Chip) : Chip :=
  if c.silState = 2 && c.sil.left = 0 then c.setFld F.FLT_SIL_STATUS.STATE 3 else c

/-- A programmable counter of a unit that stands at its last value wraps with its next event (R568). -/
def Chip.ctrWrap (c : Chip) (u i : Nat) : Chip :=
  if c.flag F.CTR_SNAP_STATUS.FROZEN || unitSize u ≤ i || !c.flag F.TCT_EVT_CFG.EN u i ||
      c.pair .TCT_CNT_LO .TCT_CNT_HI u i != 2 ^ 48 - 1 then c
  else c.bump u i 1

/-- The cycle counter of a unit has passed its last value (R568). -/
def Chip.cycWrap (c : Chip) (u : Nat) : Chip :=
  let k := unitCycles u
  if unitSize u = 0 || c.cycles k.1 / k.2 < 2 ^ 48 then c else c.setFld F.TCT_UNIT_STATUS.CYC_OVF 1 u

end Sys2Proof.Machine
end

