-- ==== Sys2Proof/Machine/Cfg.lean ====
section
/-! DEFINITION. The configuration spaces of the switch port functions and the Pleone management functions
(Tables 3.12, 7.1 to 7.4). The spec gives where each structure lies; the bits inside a structure, and the
reset values it does not name, are those of the PCI Express Base Specification (R623): PRESUMED,
assumption 4. -/

namespace Sys2Proof.Machine

/-- A function with a configuration space: the switch port function of port n (the bridge registers of a root
port), the management function of partition p, the home chip's shadow of a remote downstream port
function (R268), or the map of a tile's Pantry into the internal root (R624). -/
inductive Fn where
  | port (n : Nat)
  | mgmt (p : Nat)
  | rdp (p r : Nat)
  | pantry (t : Nat)
  deriving DecidableEq, Repr, Inhabited

/-- The place of a function's space in `Chip.cfg`. -/
def Fn.num : Fn → Nat
  | .port n => n
  | .mgmt p => 96 + p
  | .rdp p r => 128 + 8 * p + r
  | .pantry t => 384 + t

/-- The reset word of a configuration register that the spec or the specification gives (PRESUMED). -/
def cfgReset (f : Fn) (off : Nat) : Nat :=
  match off with
  | 0x78 => 0x2810
  | 0x88 => match f with | .mgmt _ => 0 | _ => 0x07C0
  | 0x108 => 0x00400000
  | 0x10C => 0x00462030
  | 0x114 => 0x0000E000
  | 0x184 => match f with | .port _ => 0x80000001 | _ => 0
  | 0x31C => match f with | .port _ => 0x28 | _ => 0
  | o => if 0x2C8 ≤ o && o < 0x308 then (match f with | .port _ => 0x9C38 | _ => 0) else if 0x1000 ≤ o && o < 0x1400 && o % 16 == 12 then 1 else 0

/-- The word held at an offset of a function's configuration space. -/
def Chip.cfgAt (c : Chip) (f : Fn) (off : Nat) : Nat :=
  (c.cfg.get (word (cfgReset f off)) (f.num * 0x4000 + off)).toNat

/-- The device with the word at an offset changed. -/
def Chip.setCfg (c : Chip) (f : Fn) (off v : Nat) : Chip :=
  { c with cfg := c.cfg.set (word (cfgReset f off)) (f.num * 0x4000 + off) (word v) }

/-- A bit of a configuration register. -/
def Chip.cfgBit (c : Chip) (f : Fn) (off b : Nat) : Bool := bit (c.cfgAt f off) b

/-- Setting or clearing a bit of a configuration register. -/
def Chip.putCfgBit (c : Chip) (f : Fn) (off b : Nat) (v : Bool) : Chip :=
  c.setCfg f off (putBit (c.cfgAt f off) b v)

/-- In D3hot (R254). -/
def Chip.inD3 (c : Chip) (f : Fn) : Bool := bits (c.cfgAt f 0x44) 1 0 == 3

/-- Memory Space Enable in effect (R254). -/
def Chip.memEn (c : Chip) (f : Fn) : Bool := c.cfgBit f 0x04 1 && !c.inD3 f

/-- Bus Master Enable in effect (R118 to R121, R254). -/
def Chip.bme (c : Chip) (f : Fn) : Bool := c.cfgBit f 0x04 2 && !c.inD3 f

/-- Primary, secondary and subordinate bus numbers of a bridge. -/
def Chip.priBus (c : Chip) (f : Fn) : Nat := bits (c.cfgAt f 0x18) 7 0
/-- Secondary bus number. -/
def Chip.secBus (c : Chip) (f : Fn) : Nat := bits (c.cfgAt f 0x18) 15 8
/-- Subordinate bus number. -/
def Chip.subBus (c : Chip) (f : Fn) : Nat := bits (c.cfgAt f 0x18) 23 16

/-- The memory window of a bridge: first byte and last byte; empty when the base lies above the limit. -/
def Chip.memWindow (c : Chip) (f : Fn) : Nat × Nat :=
  let w := c.cfgAt f 0x20
  (bits w 15 4 * 2 ^ 20, bits w 31 20 * 2 ^ 20 + 0xFFFFF)

/-- The prefetchable window of a bridge. -/
def Chip.prefWindow (c : Chip) (f : Fn) : Nat × Nat :=
  let w := c.cfgAt f 0x24
  (c.cfgAt f 0x28 * 2 ^ 32 + bits w 15 4 * 2 ^ 20, c.cfgAt f 0x2C * 2 ^ 32 + bits w 31 20 * 2 ^ 20 + 0xFFFFF)

/-- An address inside a window. -/
def inWindow (w : Nat × Nat) (a : Nat) : Bool := w.1 ≤ a && a ≤ w.2

/-- An address inside one of the windows of a bridge whose Memory Space Enable is 1. -/
def Chip.bridgeClaims (c : Chip) (f : Fn) (a : Nat) : Bool :=
  c.memEn f && (inWindow (c.memWindow f) a || inWindow (c.prefWindow f) a)

/-- A bus number inside the range of a bridge. -/
def Chip.busClaims (c : Chip) (f : Fn) (b : Nat) : Bool := c.secBus f ≤ b && b ≤ c.subBus f

/-- Max_Payload_Size in Device Control, in bytes. -/
def Chip.maxPayload (c : Chip) (f : Fn) : Nat := min (128 * 2 ^ bits (c.cfgAt f 0x78) 7 5) 4096

/-- Max_Read_Request_Size in Device Control, in bytes. -/
def Chip.maxRead (c : Chip) (f : Fn) : Nat := min (128 * 2 ^ bits (c.cfgAt f 0x78) 14 12) 4096

/-- The bus that a partition's internal bus has: the secondary bus of its upstream port (Table 7.1). -/
def Chip.internalBus (c : Chip) (p : Nat) : Nat :=
  match c.upPort? p with
  | some u => c.secBus (.port u)
  | none => 0

/-- The Requester ID of a partition's management function, of the bus number that it captured (R251). -/
def Chip.mgmtRid (c : Chip) (p : Nat) : Nat := (c.part p).bus * 256

/-- The function number of a downstream port on the internal bus: its rank among the partition's downstream
ports of its tile (Table 7.1). -/
def Chip.downFnNum (c : Chip) (n : Nat) : Nat :=
  ((c.downPorts (c.portPart n)).filter fun m => tileOf m == tileOf n && Nat.blt m n).length

/-- The Requester ID of a switch port function. -/
def Chip.portRid (c : Chip) (n : Nat) : Nat :=
  if c.role n = 1 then c.priBus (.port n) * 256
  else c.internalBus (c.portPart n) * 256 + (tileOf n + 1) * 8 + c.downFnNum n

/-- The switch port function of partition p at device d, function number f of its internal bus. -/
def Chip.internalFn? (c : Chip) (p d f : Nat) : Option Fn :=
  if d = 0 && f = 0 then some (.mgmt p)
  else if 1 ≤ d && d ≤ 12 then
    ((c.downPorts p).find? fun n => tileOf n + 1 == d && c.downFnNum n == f).map Fn.port
  else none

/-- The modes in which the fabric rows of Table 1.3 hold: 0x6, 0x7 and 0x8. -/
def Chip.fabricMode (c : Chip) : Bool := 6 ≤ c.opMode && c.opMode ≤ 8

/-- A partition is configured (R247). -/
def Chip.configured (c : Chip) (p : Nat) : Bool :=
  (c.upPort? p).isSome || (c.fabricMode && c.flag F.GLB_PTN_CFG.PROXY p)

/-- A proxy partition in effect (R270). -/
def Chip.isProxy (c : Chip) (p : Nat) : Bool := c.fabricMode && c.flag F.GLB_PTN_CFG.PROXY p

/-- Flacons take effect (R258, Table 1.3). -/
def Chip.flaconMode (c : Chip) : Bool := c.opMode == 3 || (5 ≤ c.opMode && c.opMode ≤ 8)

/-- BAR4 is implemented (Table 7.3, R258). -/
def Chip.hasBar4 (c : Chip) (p : Nat) : Bool :=
  c.fld F.GLB_PTN_CFG.APER_SIZE p != 0 && c.opMode != 1 && c.opMode != 2 && c.opMode != 4

/-- The bytes of BAR4. -/
def Chip.bar4Size (c : Chip) (p : Nat) : Nat := 2 ^ (c.fld F.GLB_PTN_CFG.APER_SIZE p + 20)

/-- The base of a 64-bit BAR, bits below the size ignored. -/
def Chip.barBase (c : Chip) (f : Fn) (off size : Nat) : Nat :=
  (c.cfgAt f (off + 4) * 2 ^ 32 + c.cfgAt f off) / size * size

/-- What a memory address hits in a management function's BARs (R253, R254): BAR number and offset. -/
def Chip.mgmtBar? (c : Chip) (p a : Nat) : Option (Nat × Nat) :=
  if !c.memEn (.mgmt p) then none
  else
    let hit (bar off size : Nat) : Option (Nat × Nat) :=
      let b := c.barBase (.mgmt p) off size
      if b ≤ a && a < b + size then some (bar, a - b) else none
    (hit 0 0x10 (2 ^ 28)).orElse fun _ => (hit 2 0x18 (2 ^ 14)).orElse fun _ =>
      if c.hasBar4 p then hit 4 0x20 (c.bar4Size p) else none

/-- Entries of the Flacon table that belong to a partition and are not FREE (GLB_PTN_STATUS.FLC). -/
def Chip.flaconsOf (c : Chip) (p : Nat) : List Nat :=
  c.regs.filterMap fun e =>
    if e.1.reg = .GLB_FLC_A && wget e.2 31 29 != 0 && wget e.2 23 19 == p then some e.1.i else none

/-- Every Flacon entry that is not FREE. -/
def Chip.liveFlacons (c : Chip) : List Nat :=
  c.regs.filterMap fun e => if e.1.reg = .GLB_FLC_A && wget e.2 31 29 != 0 then some e.1.i else none

/-- Remote downstream port functions in effect: the VALID entries before the first that is not (R267, R270). -/
def Chip.rdpCount (c : Chip) (p : Nat) : Nat :=
  if c.fabricMode then ((List.range 8).takeWhile fun r => c.flag F.GLB_PTN_RDP.VALID p r).length else 0

/-! ### What a read returns -/

/-- A value that the specification leaves to the implementation in a configuration register (HwInit). -/
def hwInit (off width : Nat) : Nat := Config.freeWord [623, off] % 2 ^ width

/-- The header of an extended capability. -/
def extCap (id ver next : Nat) : Nat := id + ver * 2 ^ 16 + next * 2 ^ 20

/-- Link Capabilities (R81, R82, R101, R114): the highest rate and width, ASPM L1 alone, the port's number. -/
def Chip.linkCaps (c : Chip) (n : Nat) : Nat :=
  let below := b2n (c.role n != 1)
  c.fld F.PRT_PORT_CFG.MAX_RATE n + 1 + 2 ^ c.fld F.PRT_PORT_CFG.WIDTH n * 2 ^ 4 + 2 * 2 ^ 10 + hwInit 0x7C 3 * 2 ^ 15 +
    below * 2 ^ 19 + 2 ^ 20 + below * 2 ^ 21 + 2 ^ 22 + n * 2 ^ 24

/-- Link Status over Link Control: rate, width and DL_Active as PRT_LINK_STATUS shows them, common clock (R49). -/
def Chip.linkStatus (c : Chip) (n v : Nat) : Nat :=
  if c.flag F.PRT_LINK_STATUS.DL_ACTIVE n then
    v + (c.fld F.PRT_LINK_STATUS.NEG_RATE n + 1) * 2 ^ 16 + 2 ^ c.fld F.PRT_LINK_STATUS.NEG_WIDTH n * 2 ^ 20 + 2 ^ 28 + 2 ^ 29
  else v + 2 ^ 28

/-- The extended capabilities of a switch port function (Table 3.12, R58, R86, R102, R103): fixed bits, and what stands in
the registers beside them. -/
def Chip.portExtRead (c : Chip) (n off v : Nat) : Nat :=
  let up := c.role n == 1
  match off with
  | 0x100 => extCap 0x0001 2 0x148
  | 0x148 => extCap 0x0019 1 0x180
  | 0x180 => extCap 0x0025 1 0x190
  | 0x190 => extCap 0x0026 1 0x1C0
  | 0x1C0 => extCap 0x002A 1 0x200
  | 0x200 => extCap 0x0031 1 0x240
  | 0x240 => extCap (hwInit 0x240 16) 1 0x280
  | 0x280 => extCap 0x0032 1 0x2C0
  | 0x2C0 => extCap 0x0027 1 0x310
  | 0x2C4 => if c.flag F.PRT_LINK_STATUS.DL_ACTIVE n && Nat.ble 3 (c.fld F.PRT_LINK_STATUS.NEG_RATE n) then 2 ^ 16 else 0
  | 0x310 => extCap 0x001E 1 0x320
  | 0x314 => (if c.flag F.PRT_PORT_CFG2.L1SS_EN n then 0x1F else 0) + hwInit 0x314 8 * 2 ^ 8 + 1 * 2 ^ 16 + 3 * 2 ^ 19
  | 0x320 => extCap 0x0012 1 0x360
  | 0x324 => v + 63
  | 0x360 => extCap 0x002F 1 (if up then 0 else 0x380)
  | 0x364 => 0xF + hwInit 0x364 3 * 2 ^ 4
  | 0x380 => if up then 0 else extCap 0x000D 1 0x3C0
  | 0x384 => if up then 0 else v + 0xFF7F
  | 0x3C0 => if up then 0 else extCap 0x001D 1 0
  | 0x3C4 => if up then 0 else v + 0x81
  | _ => if up && 0x380 ≤ off && off < 0x400 then 0 else v

/-- The fixed bits of a configuration register of a switch port function, and those that other registers show
(R94, R95, R110, R111, R623). -/
def Chip.portCfgRead (c : Chip) (n off : Nat) : Nat :=
  let v := c.cfgAt (.port n) off
  let slot := c.flag F.PRT_HP_CFG.HP_EN n && c.role n != 1
  let rate := c.fld F.PRT_PORT_CFG.MAX_RATE n
  match off with
  | 0x00 => (if c.role n = 1 then 0x7190 else 0x7191) * 2 ^ 16 + 0x1F9E
  | 0x04 => setBit v 20
  | 0x08 => 0x060400 * 2 ^ 8 + 0x21
  | 0x0C => v + 0x010000 + (if c.role n = 0 && (c.downPorts (c.portPart n)).any (fun m =>
      tileOf m == tileOf n && m != n) then 0x800000 else 0)
  | 0x10 => v + 4
  | 0x24 => v + 0x00010001
  | 0x34 => 0x40
  | 0x40 => 0x0003_5001
  | 0x44 => setBit v 3
  | 0x50 => v + 0x0002_7011
  | 0x54 => 0x0000
  | 0x58 => 0x1000
  | 0x70 => 0x0002_0010 + (if c.role n = 1 then 5 else 6) * 2 ^ 20 + (if slot then 2 ^ 24 else 0)
  | 0x74 => 0x8025
  | 0x7C => c.linkCaps n
  | 0x80 => c.linkStatus n v
  | 0x84 =>
    if slot then
      let w := c.fld F.FUS_CHAN_LIM.PLIM (c.fld F.PRT_HP_CFG.FUS_CHAN n)
      let value := if w > 300 then 0xF2 else if w < 240 then w else if w ≤ 250 then 0xF0
        else if w ≤ 275 then 0xF1 else 0xF2
      c.fld F.PRT_HP_CFG.PSN n * 2 ^ 19 + value * 2 ^ 7 + 0x5B
    else 0
  | 0x88 => if !slot || c.flag F.FUS_CHAN_STATUS.PRESENT (c.fld F.PRT_HP_CFG.FUS_CHAN n) then setBit v 22 else v
  | 0x94 => b2n (c.role n != 1) * 2 ^ 5 + 2 ^ 16 + 2 ^ 17 + 2 ^ 20 + 2 ^ 21 + 1 * 2 ^ 22
  | 0x9C => (2 ^ (rate + 1) - 1) * 2
  | 0xA0 => (if v % 16 = 0 then v + rate + 1 else v) + (if c.flag F.PRT_LINK_STATUS.FLIT n then 2 ^ 26 else 0)
  | _ => if off < 0x100 then v else c.portExtRead n off v

/-- The fixed bits of a configuration register of a management function (Tables 7.1 to 7.4). 14-bit Tag Requester
Supported stands in Device Capabilities 2, bit 27 (DESIGN CHOICE, log entry 49). -/
def Chip.mgmtCfgRead (c : Chip) (p off : Nat) : Nat :=
  let v := c.cfgAt (.mgmt p) off
  match off with
  | 0x00 => 0x7192 * 2 ^ 16 + 0x1F9E
  | 0x04 => setBit v 20
  | 0x08 => 0x088000 * 2 ^ 8 + 0x21
  | 0x10 => v + 4
  | 0x18 => v + 4
  | 0x20 => if c.hasBar4 p then v / c.bar4Size p * c.bar4Size p + 0xC else 0
  | 0x24 =>
    if c.hasBar4 p then v / max 1 (c.bar4Size p / 2 ^ 32) * max 1 (c.bar4Size p / 2 ^ 32) else 0
  | 0x2C => (0x7100 + p) * 2 ^ 16 + 0x1F9E
  | 0x34 => 0x40
  | 0x40 => 0x0003_5001
  | 0x44 => setBit v 3
  | 0x50 => v + 0x003F_7011
  | 0x54 => 0x0002
  | 0x58 => 0x1002
  | 0x70 => 0x0002_0010
  | 0x74 => 0x8025 + 2 ^ 28
  | 0x94 => 2 ^ 16 + 2 ^ 17 + 2 ^ 27
  | 0x100 => 0x1482_0001
  | 0x148 => 0x1581_0003
  | 0x14C => (c.reg .FAB_UID_LO).toNat
  | 0x150 => (c.reg .FAB_UID_HI).toNat
  | 0x158 => 0x1601_001B
  | 0x15C => v + 20 * 2 ^ 8
  | 0x160 => 0x0001_000B
  | 0x164 => 0x0101_0001
  | 0x168 =>
    let own := c.owner? == some p
    b2n own * 2 ^ 31 + b2n (c.owner?.isSome && c.flag F.LBX_OWNER.EXPERT) * 2 ^ 30 +
      c.fld F.GLB_PTN_CFG.COLOUR p * 2 ^ 24 + p * 2 ^ 8
  | 0x16C => (c.flaconsOf p).length
  | _ => v

/-- The word that a configuration read returns. -/
def Chip.cfgRead (c : Chip) : Fn → Nat → Nat
  | .port n, off => c.portCfgRead n off
  | .mgmt p, off => c.mgmtCfgRead p off
  | .rdp p r, off => c.cfgAt (.rdp p r) off
  | .pantry t, off => c.cfgAt (.pantry t) off

/-! ### What a write changes -/

/-- The bits of a word of an MSI-X table that a write sets: address, data, and the mask bit of Vector Control. -/
def msixMask (off : Nat) : Nat :=
  match off % 16 with
  | 0 => 0xFFFFFFFC
  | 12 => 1
  | _ => 0xFFFFFFFF

/-- The bits of a configuration register that a write sets, and those that a write of 1 clears. -/
def cfgMasks (f : Fn) (off : Nat) : Nat × Nat :=
  match f, off with
  | .pantry _, 0x04 => (0x2, 0)
  | .pantry _, 0x10 => (0xFFE00000, 0)
  | .pantry _, 0x14 => (0xFFFFFFFF, 0)
  | .pantry _, _ => (0, 0)
  | _, 0x04 => (0x0547, 0xF9000000)
  | _, 0x0C => (0xFF, 0)
  | .port _, 0x10 => (0xFFFFE000, 0)
  | .port _, 0x14 => (0xFFFFFFFF, 0)
  | .port _, 0x18 => (0x00FFFFFF, 0)
  | .port _, 0x1C => (0x0000F0F0, 0xF9000000)
  | .port _, 0x20 => (0xFFF0FFF0, 0)
  | .port _, 0x24 => (0xFFF0FFF0, 0)
  | .port _, 0x28 => (0xFFFFFFFF, 0)
  | .port _, 0x2C => (0xFFFFFFFF, 0)
  | .port _, 0x30 => (0xFFFFFFFF, 0)
  | .port _, 0x3C => (0x005F00FF, 0)
  | .mgmt _, 0x10 => (0xF0000000, 0)
  | .mgmt _, 0x14 => (0xFFFFFFFF, 0)
  | .mgmt _, 0x18 => (0xFFFFC000, 0)
  | .mgmt _, 0x1C => (0xFFFFFFFF, 0)
  | .mgmt _, 0x20 => (0xFFF00000, 0)
  | .mgmt _, 0x24 => (0xFFFFFFFF, 0)
  | .mgmt _, 0x3C => (0x000000FF, 0)
  | .mgmt _, 0x15C => (0x00010000, 0)
  | _, 0x44 => (0x3, 0)
  | _, 0x50 => (0xC0000000, 0)
  | _, 0x78 => (0x7FFF, 0x000F0000)
  | _, 0x80 => (0x0FFB, 0xC0000000)
  | .port _, 0x88 => (0x1FFF, 0x011F0000)
  | _, 0x98 => (0xFFFF, 0)
  | .port _, 0xA0 => (0xFFFF, 0)
  | _, 0x104 => (0, 0xFFFFFFFF)
  | _, 0x108 => (0xFFFFFFFF, 0)
  | _, 0x10C => (0xFFFFFFFF, 0)
  | _, 0x110 => (0, 0xFFFFFFFF)
  | _, 0x114 => (0xFFFFFFFF, 0)
  | _, 0x118 => (0, 0)
  | .port _, 0x14C => (0xFE03, 0)
  | .port _, 0x150 => (0, 0xFFFF)
  | .port _, 0x184 => (0x80000000, 0)
  | .port _, 0x19C => (0, 0x10)
  | .port _, 0x1A0 => (0, 0xFFFF)
  | .port _, 0x1A4 => (0, 0xFFFF)
  | .port _, 0x1A8 => (0, 0xFFFF)
  | .port _, 0x1C8 => (0x0703, 0)
  | .port _, 0x1CC => (0, 0x20)
  | .port _, 0x284 => (0, 1)
  | .port _, 0x28C => (0x0FFF, 0x80000000)
  | .port _, 0x290 => (0xF, 0)
  | .port _, 0x318 => (0xE3FFFF0F, 0)
  | .port _, 0x31C => (0xFB, 0)
  | .port _, 0x324 => (0x803F0000, 0)
  | .port _, 0x368 => (0x7F, 0)
  | .port _, 0x384 => (0x007F0000, 0)
  | .port _, 0x3C4 => (0x00BF0000, 0)
  | .port _, 0x3C8 => (0, 0x00000009)
  | .rdp _ _, 0x10 => (0xFFFFE000, 0)
  | .rdp _ _, 0x14 => (0xFFFFFFFF, 0)
  | .rdp _ _, 0x18 => (0x00FFFFFF, 0)
  | .rdp _ _, 0x1C => (0x0000F0F0, 0)
  | .rdp _ _, 0x30 => (0xFFFFFFFF, 0)
  | .rdp _ _, 0x324 => (0x803F0000, 0)
  | .rdp _ _, 0x330 => (0xFFFFFFFF, 0)
  | .rdp _ _, 0x334 => (0xFFFFFFFF, 0)
  | .rdp _ _, o => if 0x20 ≤ o && o ≤ 0x2C then (0xFFFFFFFF, 0) else (0, 0)
  | .port _, o =>
    if (0x328 ≤ o && o < 0x350) || (0x388 ≤ o && o < 0x3A8) then (0xFFFFFFFF, 0)
    else if 0x2C8 ≤ o && o < 0x308 then (0xFF7F, 0)
    else if 0x1000 ≤ o && o < 0x1030 then (msixMask o, 0) else (0, 0)
  | .mgmt _, o => if 0x1000 ≤ o && o < 0x1400 then (msixMask o, 0) else (0, 0)

/-- The word with the bytes that the byte enables name taken from the value written. -/
def mergeBytes (be old new : Nat) : Nat :=
  enabledBytes be new + enabledBytes (15 - be % 16) old

/-- A configuration write to the bits that the specification makes writable, without further effects. -/
def Chip.cfgStore (c : Chip) (f : Fn) (off be v : Nat) : Chip :=
  let old := c.cfgAt f off
  let m := cfgMasks f off
  let w := BitVec.ofNat 32 (mergeBytes be old v)
  let w1c := BitVec.ofNat 32 (enabledBytes be v)
  let o := BitVec.ofNat 32 old
  let rw := BitVec.ofNat 32 m.1
  let clr := BitVec.ofNat 32 m.2
  c.setCfg f off (((o &&& ~~~ rw) ||| (w &&& rw)) &&& ~~~ (w1c &&& clr)).toNat

/-! ### Interrupts and error reports -/

/-- Bits of AER Uncorrectable Error Status. -/
def aerSurpriseDown : Nat := 5
/-- Poisoned TLP Received. -/
def aerPoisoned : Nat := 12
/-- Flow Control Protocol Error. -/
def aerFlowControl : Nat := 13
/-- Completion Timeout. -/
def aerCplTimeout : Nat := 14
/-- Unexpected Completion. -/
def aerUnexpected : Nat := 16
/-- Receiver Overflow. -/
def aerOverflow : Nat := 17
/-- Malformed TLP. -/
def aerMalformed : Nat := 18
/-- Unsupported Request. -/
def aerUr : Nat := 20
/-- ACS Violation. -/
def aerAcs : Nat := 21
/-- MC Blocked TLP. -/
def aerMcBlocked : Nat := 23

/-- The errors whose report takes the header of a TLP (R623; PRESUMED, log entry 50). -/
def aerHeaders : List Nat := [aerPoisoned, aerUnexpected, aerMalformed, aerUr, aerAcs, aerMcBlocked]

/-- An error that is not masked is the first of the log: First Error Pointer and the Header Log, whose words are those of the
TLP's header, free words of the TLP; in flit mode the log goes on in four words more (Table 3.1; PRESUMED, log entry 50). -/
def Chip.aerLog (c : Chip) (n b : Nat) (hdr : Option Packet) : Chip :=
  let f : Fn := .port n
  let ctl := c.cfgAt f 0x118
  if c.cfgBit f 0x108 b || c.cfgBit f 0x104 (ctl % 32) then c
  else
    let c := c.setCfg f 0x118 (ctl / 32 * 32 + b)
    match hdr with
    | none => c
    | some p =>
      let offs := [0x11C, 0x120, 0x124, 0x128] ++ if c.flag F.PRT_LINK_STATUS.FLIT n then [0x138, 0x13C, 0x140, 0x144] else []
      if aerHeaders.elem b then offs.foldl (fun c o => c.setCfg f o (Config.freeWord (o :: p.code) % 2 ^ 32)) c else c

/-- An error of a kind that the completion of a request reports already is advisory while its severity is non-fatal: an
Unsupported Request or an ACS violation of a non-posted request, and an unexpected completion (R623; PRESUMED: Role-Based
Error Reporting, log entry 50). -/
def Chip.aerAdvisory (c : Chip) (n b : Nat) (hdr : Option Packet) : Bool :=
  !c.cfgBit (.port n) 0x10C b &&
    (b == aerUnexpected || ((b == aerUr || b == aerAcs) && hdr.any fun p => p.cat == .nonPosted))

/-- The error is signalled: unmasked, and for an advisory one with its own correctable mask clear. -/
def Chip.aerShown (c : Chip) (n b : Nat) (adv : Bool) : Bool :=
  !c.cfgBit (.port n) 0x108 b && !(adv && c.cfgBit (.port n) 0x114 13)

/-- An uncorrectable error's status bit sets in the AER of a port's function, and in Device Status; unmasked, it is logged and
signalled upstream by its severity when reporting is enabled; an advisory one as a correctable error (R623). -/
def Chip.aerMark (c : Chip) (n b : Nat) (hdr : Option Packet := none) : Chip :=
  let f : Fn := .port n
  let fatal := c.cfgBit f 0x10C b
  let adv := c.aerAdvisory n b hdr
  let kind := if adv then 0 else if fatal then 2 else 1
  let c := (if c.aerShown n b adv then c.aerLog n b hdr else c).putCfgBit f 0x104 b true
  let c := if adv then c.putCfgBit f 0x110 13 true else c
  let c := c.putCfgBit f 0x78 (16 + kind) true
  let c := if b = aerUr then c.putCfgBit f 0x78 19 true else c
  if c.aerShown n b adv && c.cfgBit f 0x78 kind && (b != aerUr || c.cfgBit f 0x78 3) then c.emit (.errMsg n kind) else c

/-- The upstream port by which the MSI-X writes of a function leave: its partition's. -/
def Chip.msixPort? (c : Chip) (f : Fn) : Option Nat :=
  match f with
  | .port n => if c.isPcie n && c.role n != 2 then c.upPort? (c.portPart n) else none
  | .mgmt p => c.upPort? p
  | _ => none

/-- An MSI-X write leaves; one that Bus Master Enable of the upstream port keeps back is discarded and logged there (R119). -/
def Chip.msixSend (c : Chip) (f : Fn) (v : Nat) : Chip :=
  match c.msixPort? f with
  | some u =>
    if !c.bme (.port u) then c.aerMark u aerUr
    else match f with
      | .port n => c.emit (.msixPort n v)
      | .mgmt p => c.emit (.msixMgmt p v)
      | _ => c
  | none => match f with
    | .port n => c.emit (.msixPort n v)
    | .mgmt p => c.emit (.msixMgmt p v)
    | _ => c

/-- Signalling MSI-X vector v of a function, behind MSI-X Enable, the Function Mask and the vector's own mask
bit; a masked vector is held in its pending bit (R496). -/
def Chip.msix (c : Chip) (f : Fn) (v : Nat) : Chip :=
  if !c.cfgBit f 0x50 31 then c
  else if c.cfgBit f 0x50 30 || c.cfgBit f (0x1000 + 16 * v + 12) 0 then
    c.putCfgBit f (0x2000 + 4 * (v / 32)) (v % 32) true
  else c.msixSend f v

/-- An uncorrectable error reported in the AER of a port's function: its status bit sets; unmasked, it is
signalled by its severity when reporting is enabled, and raises vector 2 (R95, R623). -/
def Chip.aer (c : Chip) (n b : Nat) (hdr : Option Packet := none) : Chip :=
  let shown := c.aerShown n b (c.aerAdvisory n b hdr)
  let c := c.aerMark n b hdr
  if shown then c.msix (.port n) 2 else c

/-- In flit mode a flit error is logged in the Flit Logging capability, its contents a free value of the Hallway cycle (R623;
PRESUMED, log entry 50). -/
def Chip.flitLog (c : Chip) (n : Nat) : Chip :=
  if !c.flag F.PRT_LINK_STATUS.FLIT n || c.cfgBit (.port n) 0x284 0 then c
  else (c.setCfg (.port n) 0x284 (Config.freeWord [0x284, n, c.hwy] % 2 ^ 31 * 2 + 1)).setCfg (.port n) 0x288
    (Config.freeWord [0x288, n, c.hwy] % 2 ^ 32)

/-- A correctable error of a port's link in its AER and its Device Status, and LINK_CORR at most once per 1 ms per port
(Table 14.4). -/
def Chip.aerCorrectable (c : Chip) (n b : Nat) : Chip :=
  let c := (((c.putCfgBit (.port n) 0x110 b true).putCfgBit (.port n) 0x78 16 true)).flitLog n
  let c := if c.cfgBit (.port n) 0x114 b then c
    else (if c.cfgBit (.port n) 0x78 0 then c.emit (.errMsg n 0) else c).msix (.port n) 2
  c.raiseLimited (0x20000 + n) msCycles (portSrc n) 0x03 0 (c.cfgAt (.port n) 0x110)

/-- The AER report of a violation of Table 3.9, if the table names one. -/
def violAer : Nat → Option Nat
  | 0x01 | 0x0E | 0x11 => some aerMalformed
  | 0x02 => some aerFlowControl
  | 0x03 => some aerOverflow
  | 0x04 => some aerUnexpected
  | 0x05 | 0x08 | 0x0C | 0x0D | 0x0F | 0x12 => some aerUr
  | 0x06 => some aerAcs
  | 0x07 => some aerPoisoned
  | _ => none

/-- The partition concerned in what a port does: none for a root port or a Fleren port. -/
def Chip.partOfPort (c : Chip) (n : Nat) : Option Nat :=
  if c.isPcie n && c.role n != 2 then some (c.portPart n) else none

/-- A partner violation at a port is recorded, counted and reported (R124, R243, R468). -/
def Chip.violation (c : Chip) (n code : Nat) (source : Nat := portSrc n) (hdr : Option Packet := none) : Chip :=
  let c := ((c.setFld F.PRT_VIOL_LAST.CODE code n).inc F.PRT_VIOL_COUNT.COUNT n).pulse (portUnit n) 0x1F
  let c := if c.isPcie n then match violAer code with | some b => c.aer n b hdr | none => c else c
  c.raiseViol source n code (c.partOfPort n)

/-- A violation of Table 6.7 is recorded in the fabric block too (R243). -/
def Chip.fabViolation (c : Chip) (n code : Nat) : Chip :=
  let c := (c.setFld F.FAB_VIOL_LAST.CODE code).setFld F.FAB_VIOL_LAST.PORT n
  c.violation n code 0x188

end Sys2Proof.Machine
end

