-- ==== Sys2Proof/Machine/Route.lean ====
section
/-! DEFINITION. How a chip routes a fabric packet (R217, R221, R227 to R234). -/

namespace Sys2Proof.Machine

/-- A field of a shadowed register as the last commit made it live (R233). -/
def Chip.live (c : Chip) (f : Fld) (i : Nat := 0) (j : Nat := 0) : Nat :=
  wget (c.fab.live.get ⟨f.reg, i, j⟩) f.hi f.lo

/-- The registers of the route set (R233). -/
def isRouteReg (r : Reg) : Bool :=
  r ∈ [Reg.FAB_CRT, .FAB_DRT_A, .FAB_DRT_B, .FAB_UP, .FAB_GRP_A, .FAB_GRP_B, .FAB_VH_MAP]

/-- The chip's sides (R217): both in mode 0x8, else side 0. -/
def Chip.sides (c : Chip) : List Nat := if c.opMode = 8 then [0, 1] else [0]

/-- A side is VALID and names this domain: one that is not VALID matches nothing (DESIGN CHOICE, log entry 47). -/
def Chip.sideHas (c : Chip) (s dom : Nat) : Bool :=
  c.flag F.FAB_ID.VALID s && c.fld F.FAB_ID.DOMAIN s == dom

/-- A side's identity, zero when it is not VALID (R221): domain and chip. -/
def Chip.sideId (c : Chip) (s : Nat) : Nat × Nat :=
  if c.flag F.FAB_ID.VALID s then (c.fld F.FAB_ID.DOMAIN s, c.fld F.FAB_ID.CHIP s) else (0, 0)

/-- The side of a Fleren port (R217). -/
def Chip.portSide (c : Chip) (n : Nat) : Nat := if c.opMode = 8 && c.bitOf .FAB_SIDE n then 1 else 0

/-- A Fleren link is UP or in RETRAIN. -/
def Chip.flUp (c : Chip) (n : Nat) : Bool :=
  c.isFleren n && (c.fld F.PRT_FL_STATUS.LSTATE n == 4 || c.fld F.PRT_FL_STATUS.LSTATE n == 5)

/-- A Fleren port is live: as a group member (R232, R240), and, without DUP_ID too, as a hop of DISC and for the neighbour
routing of R229 (DESIGN CHOICE, log entry 47). -/
def Chip.memberLive (c : Chip) (n : Nat) : Bool := c.flUp n && !c.flag F.FAB_NBR_A.DUP_ID n

/-- Member slot m of a group: its port when the slot is VALID. -/
def Chip.member? (c : Chip) (g m : Nat) : Option Nat :=
  let w := if m < 4 then c.fab.live.get ⟨.FAB_GRP_A, g, 0⟩ else c.fab.live.get ⟨.FAB_GRP_B, g, 0⟩
  let b := wget w (8 * (m % 4) + 7) (8 * (m % 4))
  if bit b 7 then some (b % 128) else none

/-- The configured members of a group: the slots before the first empty one (R232). -/
def Chip.members (c : Chip) (g : Nat) : List Nat :=
  ((List.range 8).map (c.member? g)).takeWhile (·.isSome) |>.filterMap id

/-- The bucket of R232. -/
def bucketOf (spread chip : Nat) : Nat :=
  Nat.xor (Nat.xor (Nat.xor spread (spread / 64)) (spread / 4096)) chip % 64

/-- R232: the first live member from slot m round the group. -/
def Chip.pickMember (c : Chip) (ms : List Nat) (m : Nat) : Option Nat :=
  (ms.drop m ++ ms.take m).find? c.memberLive

/-- Where R227 or R229 sends a packet: to this chip, by a group toward a chip, by a port, or nowhere. `entry`
names the route entry of the pair (R234), `bPath` is B_PATH of the entry that matched (R236). -/
inductive RouteDec where
  | here
  | group (entry g chip bPath : Nat)
  | port (n : Nat)
  | none
  deriving DecidableEq, Repr, Inhabited

/-- By the chip route table of a side (R227). -/
def Chip.byCrt (c : Chip) (s chip : Nat) (bPath : Option Nat) : RouteDec :=
  if c.live F.FAB_CRT.VALID s chip = 1 then
    .group (64 * s + chip) (c.live F.FAB_CRT.GROUP s chip) chip (bPath.getD (c.live F.FAB_CRT.B_PATH s chip))
  else .none

/-- The longest matching entry of the domain route table, lowest index on a tie (R227). -/
def Chip.drtMatch? (c : Chip) (dom : Nat) : Option Nat :=
  (List.range 256).foldl (fun best e =>
    let len := c.live F.FAB_DRT_A.LEN e
    if c.live F.FAB_DRT_A.VALID e = 1 && c.live F.FAB_DRT_A.LABEL e / 2 ^ (16 - len) == dom / 2 ^ (16 - len)
    then match best with
      | some b => if c.live F.FAB_DRT_A.LEN b < len then some e else best
      | Option.none => some e
    else best) Option.none

/-- The lowest-numbered live Fleren port whose neighbour has an identity (R229). -/
def Chip.nbrPort? (c : Chip) (dom chip : Nat) : Option Nat :=
  allPorts.find? fun n => c.memberLive n && c.flag F.FAB_NBR_A.VALID n && c.flag F.FAB_NBR_A.ID_VALID n &&
    c.fld F.FAB_NBR_B.DOMAIN n == dom && c.fld F.FAB_NBR_A.CHIP n == chip

/-- The routing decision for a destination (R227; R229 in mode 0x4). -/
def Chip.routeTo (c : Chip) (dom chip : Nat) : RouteDec :=
  if c.opMode = 4 then
    if c.sideHas 0 dom && c.fld F.FAB_ID.CHIP 0 == chip then .here
    else match c.nbrPort? dom chip with
      | some n => .port n
      | Option.none => .none
  else
    match c.sides.find? (fun s => c.sideHas s dom) with
    | some s => if c.fld F.FAB_ID.CHIP s = chip then .here else c.byCrt s chip Option.none
    | Option.none =>
      match c.drtMatch? dom with
      | some e =>
        c.byCrt (c.live F.FAB_DRT_A.SIDE e) (c.live F.FAB_DRT_B.NEXT_CHIP e) (some (c.live F.FAB_DRT_B.B_PATH e))
      | Option.none =>
        let u := if c.opMode = 8 then 1 else 0
        if c.live F.FAB_UP.VALID u = 1 then
          c.byCrt u (c.live F.FAB_UP.UP_CHIP u) (some (c.live F.FAB_UP.B_PATH u))
        else .none

/-- The side that a packet leaves by first (R221). -/
def Chip.exitSide (c : Chip) : RouteDec → Nat
  | .group e _ _ _ => e / 64
  | .port n => c.portSide n
  | _ => 0

/-- The port that R232 gives a pair now, by the chip route entry and the bucket. -/
def Chip.pairNew (c : Chip) (entry bucket : Nat) : Option Nat :=
  if c.live F.FAB_CRT.VALID (entry / 64) (entry % 64) = 0 then Option.none
  else
    let ms := c.members (c.live F.FAB_CRT.GROUP (entry / 64) (entry % 64))
    if ms.isEmpty then Option.none else c.pickMember ms (bucket % ms.length)

/-- The device with other moves that wait; MOVING follows (R234). -/
def Chip.setMoves (c : Chip) (ms : List Move) : Chip :=
  ({ c with fab := { c.fab with moves := ms } }).setFld F.FAB_ROUTE_COMMIT.MOVING (b2n !ms.isEmpty)

/-- A pair takes an egress; a move of it no longer waits. -/
def Chip.setPairEgress (c : Chip) (entry bucket : Nat) (n : Nat) : Chip :=
  let other (e b : Nat) : Bool := !(e == entry && b == bucket)
  let c := c.setMoves (c.fab.moves.filter fun m => other m.entry m.bucket)
  { c with fab := { c.fab with pairs := { entry, bucket, port := n } :: c.fab.pairs.filter fun q => other q.entry q.bucket } }

/-- A pair is judged against the live set (R234, Table 6.6): it keeps its egress when that is what R232 gives, moves at
once when its egress is not live, and otherwise its move waits. -/
def Chip.judgePair (c : Chip) (q : Pair) : Chip :=
  let waits := c.fab.moves.any fun m => m.entry == q.entry && m.bucket == q.bucket
  match c.pairNew q.entry q.bucket with
  | Option.none => c.setMoves (c.fab.moves.filter fun m => !(m.entry == q.entry && m.bucket == q.bucket))
  | some n =>
    if n = q.port || !c.memberLive q.port then c.setPairEgress q.entry q.bucket n
    else if waits then c
    else c.setMoves (c.fab.moves ++ [{ entry := q.entry, bucket := q.bucket }])

/-- The egress that a pair holds. -/
def Chip.pairAt? (c : Chip) (entry bucket : Nat) : Option Pair :=
  c.fab.pairs.find? fun q => q.entry == entry && q.bucket == bucket

/-- Every pair is judged: after a commit, or a change in what is live. -/
def Chip.judgeMoves (c : Chip) : Chip :=
  c.fab.pairs.foldl (fun c q => if c.pairAt? q.entry q.bucket = some q then c.judgePair q else c) c

/-- The egress of a pair, with moves held (R234): the port that R232 gives, unless the pair has another live
egress, which it keeps while the move waits. -/
def Chip.pairEgress (c : Chip) (entry spread : Nat) : Option Nat × Chip :=
  let bucket := bucketOf spread (entry % 64)
  match c.pairNew entry bucket, c.pairAt? entry bucket with
  | Option.none, _ => (Option.none, c)
  | some n, Option.none => (some n, c.setPairEgress entry bucket n)
  | some n, some q =>
    let c := c.judgePair q
    match c.pairAt? entry bucket with
    | some q => (some q.port, c)
    | Option.none => (some n, c)

/-- A move that waits is made (R234). -/
def Chip.makeMove (c : Chip) (entry bucket : Nat) : Chip :=
  match c.pairNew entry bucket with
  | some n => c.setPairEgress entry bucket n
  | Option.none => c.setMoves (c.fab.moves.filter fun m => !(m.entry == entry && m.bucket == bucket))

/-- EPOCH increments once for the commits of one Hallway cycle (R233, Table 6.6). -/
def Chip.countEpoch (c : Chip) : Chip :=
  if c.fab.commitAt = some c.hwy then c
  else ({ c with fab := { c.fab with commitAt := some c.hwy } }).incWrap F.FAB_ROUTE_COMMIT.EPOCH

/-- The shadow set becomes the live set (R233); entries of the VH map that share a VH take effect only as R224 gives, and
waiting moves are judged again. -/
def Chip.routeCommit (c : Chip) : Chip :=
  let set := c.regs.filter fun e => isRouteReg e.1.reg
  let c := ({ c with fab := { c.fab with live := set } }).countEpoch
  let vhs := (List.range 32).filterMap fun p =>
    if c.live F.FAB_VH_MAP.VALID p = 1 then some (c.live F.FAB_VH_MAP.VH p) else Option.none
  let c := if 6 ≤ c.opMode && c.opMode ≤ 8 && vhs.eraseDups.length != vhs.length then c.inc F.FAB_CLAMP_SEEN.COUNT else c
  c.judgeMoves

/-- FAB_ROUTE_COMMIT after a write that reached it. -/
def Chip.writeRouteCommit (c : Chip) (v : Word) : Chip := if bit v.toNat 31 then c.routeCommit else c

/-- The egress port of a fabric packet by a decision that is not `here`; none is no route. -/
def Chip.egressOf (c : Chip) (d : RouteDec) (spread : Nat) : Option Nat × Chip :=
  match d with
  | .group e _ _ _ => c.pairEgress e spread
  | .port n => (some n, c)
  | _ => (Option.none, c)

/-- B_PATH of the entry that routed a packet; 0 where no entry did (R482). -/
def RouteDec.bPath : RouteDec → Nat
  | .group _ _ _ b => b
  | _ => 0

/-- The path-spreading key (R231). -/
def spreadOf (src : Src) (srcChip cls : Nat) : Nat :=
  let idx := match src with
    | .port n => n
    | .engine e => 128 + e
    | _ => 2047
  Nat.xor (Nat.xor idx (srcChip * 1024)) (cls * 8192) % 65536

/-- The partition whose committed VH map entry is VALID with a VH; of several, the lowest (R224). -/
def Chip.vhPart? (c : Chip) (vh : Nat) : Option Nat :=
  (List.range 32).find? fun p => c.live F.FAB_VH_MAP.VALID p == 1 && c.live F.FAB_VH_MAP.VH p == vh

/-- Header bytes plus payload bytes (R178). -/
def Packet.bytes (p : Packet) : Nat := p.hdrBytes + p.data.length

/-- LEN of a TLP's fabric packet: the encapsulation word and the TLP, padded to words of 8 bytes (R220, R222). -/
def Packet.bodyWords (p : Packet) : Nat := 1 + divUp p.bytes 8

/-- The fabric header that a source chip writes for a TLP (R220 to R222, R231) toward a destination, under a VH. -/
def Chip.encap (c : Chip) (d : RouteDec) (dom chip vh colour : Nat) (src : Src) (p : Packet) : FabHdr :=
  let id := c.sideId (c.exitSide d)
  { typ := 1, hops := c.fld F.FAB_CFG.HOPS_INIT, lenWords := p.bodyWords, dstChip := chip, dstDomain := dom, srcChip := id.2,
    srcDomain := id.1, vh, colour, spread := spreadOf src id.2 p.cls }

/-! ### The bits of a fabric packet (Tables 6.1, 6.2 and 6.4, R338) -/

/-- The header word (Table 6.1). -/
def FabHdr.word (h : FabHdr) : Nat :=
  h.typ % 16 * 2 ^ 60 + h.hops % 64 * 2 ^ 54 + h.lenWords % 1024 * 2 ^ 44 + h.dstChip % 64 * 2 ^ 38 +
    h.srcChip % 64 * 2 ^ 32 + h.dstDomain % 2 ^ 16 * 2 ^ 16 + h.srcDomain % 2 ^ 16

/-- What a header word says. -/
def headerOf (w : Nat) : FabHdr :=
  { typ := bits w 63 60, hops := bits w 59 54, lenWords := bits w 53 44, dstChip := bits w 43 38, srcChip := bits w 37 32,
    dstDomain := bits w 31 16, srcDomain := bits w 15 0 }

/-- The words of a DISC body (Table 6.4). -/
def DiscBody.words (b : DiscBody) : List Nat :=
  [b.op % 256 * 2 ^ 56 + b.status % 256 * 2 ^ 48 + b.hopCnt % 16 * 2 ^ 44 + b.hopIdx % 16 * 2 ^ 40 + b.tag % 2 ^ 16 * 2 ^ 16 +
     b.addr % 2 ^ 16,
   ((List.range 8).map fun i => b.hops.getD i 0 % 128 * 2 ^ (8 * i)).sum,
   b.data.toNat]

/-- What the words of a DISC body say. -/
def discOf (w0 w1 w2 : Nat) : DiscBody :=
  { op := bits w0 63 56, status := bits w0 55 48, hopCnt := bits w0 47 44, hopIdx := bits w0 43 40, tag := bits w0 31 16,
    addr := bits w0 15 0, hops := (List.range 8).map (fun i => bits w1 (8 * i + 6) (8 * i)), data := word (bits w2 31 0) }

/-- The words of a fabric packet as it is sent: its header and its body. The bits of a TLP in the format of the PCI Express
Base Specification are a free value of the TLP and of the word's place (R222). -/
def Packet.words (p : Packet) : List Nat :=
  match p.fab with
  | none => []
  | some h =>
    let body : List Nat := match h.typ with
      | 2 => h.disc.words
      | 3 => [h.event.w0, h.event.w1]
      | _ => (h.vh % 2 ^ 16 * 2 ^ 48 + h.colour % 16 * 2 ^ 44 + h.spread % 2 ^ 16) ::
          (List.range (h.lenWords - 1)).map fun i => Config.freeWord (p.code ++ [i]) % 2 ^ 64
    h.word :: body

/-- The header of a fabric packet with the fields that the first words of its body bring. -/
def FabHdr.filled (h : FabHdr) (body : List Nat) : FabHdr :=
  let w (i : Nat) : Nat := body.getD i 0
  match h.typ with
  | 1 => { h with vh := bits (w 0) 63 48, colour := bits (w 0) 47 44, spread := bits (w 0) 15 0 }
  | 2 => { h with disc := discOf (w 0) (w 1) (w 2) }
  | 3 => { h with event := { w0 := w 0, w1 := w 1 } }
  | _ => h

/-- FAB_NOROUTE counted and its message raised at most once per 1 ms (R230). -/
def Chip.noRoute (c : Chip) (dom chip : Nat) (part : Option Nat) : Chip :=
  ((c.inc F.FAB_NOROUTE.COUNT).pulse 0xC02 0x12).raiseLimited 2 msCycles 0x188 0x0E 1 (chip * 65536 + dom) part

end Sys2Proof.Machine
end

