-- ==== Sys2Proof/Machine/Gates.lean ====
section
/-! DEFINITION. The access gates (spec/11_access_gates.md): judging an access, denials and their capture,
the commit of the shadow rules. -/

namespace Sys2Proof.Machine

/-- An access as a gate judges it (R386, R391, R392). -/
structure GateAccess where
  st : Standing
  addr : Nat
  reads : Bool
  writes : Bool
  /-- The default rule alone judges it: I/O toward the segment (R386). -/
  plain : Bool := false
  /-- What the capture records besides (R405). -/
  rid : Nat := 0
  part : Option Nat := none
  deriving DecidableEq, Repr, Inhabited

/-- A field of the live rule set (R400). -/
def Chip.rule (c : Chip) (f : Fld) (i : Nat := 0) (j : Nat := 0) : Nat :=
  wget (c.gat.live.get ⟨f.reg, i, j⟩) f.hi f.lo

/-- The registers of the shadow set (R400). -/
def isGateReg (r : Reg) : Bool :=
  r ∈ [Reg.GAT_GATE_CFG, .GAT_GATE_DEF, .GAT_RGN_A, .GAT_RGN_B, .GAT_RGN_C, .GAT_TAG]

/-- The fixed slot of Table 11.3 that holds an address at a gate. -/
def Chip.fixedSlot? (c : Chip) (g a : Nat) : Option Nat :=
  if g < 96 then
    if inWindow (c.memWindow (.port g)) a then some 0
    else if inWindow (c.prefWindow (.port g)) a then some 1 else none
  else if g < 108 then if a / 0x10000 < 32 then some (a / 0x10000) else none
  else if g = 108 then if a / 0x20000 < 32 then some (a / 0x20000) else none
  else if g = 109 then gateSlotAt a
  else if g = 110 then if a / 0x1000 < 16 then some (a / 0x1000) else none
  else
    (List.range 8).find? fun w =>
      let size := 2 ^ max 12 (c.fld F.LPB_WIN_A.SIZE w)
      c.flag F.LPB_WIN_A.VALID w && !c.flag F.LPB_WIN_A.SPACE w &&
        a / size == (c.reg .LPB_WIN_SBASE w).toNat / size

/-- The region that governs an access, if any (R392, R393, R395). -/
def Chip.region? (c : Chip) (g a : Nat) : Option Nat :=
  if c.rule F.GAT_GATE_CFG.MODE g = 1 then
    (c.fixedSlot? g a).filter fun r => c.rule F.GAT_RGN_C.VALID g r == 1
  else
    (List.range 32).find? fun r =>
      let size := 2 ^ c.rule F.GAT_RGN_A.SIZE g r
      let base := c.rule F.GAT_RGN_B.BASE_HI g r * 2 ^ 32 + c.rule F.GAT_RGN_A.BASE_LO g r * 2 ^ 12
      c.rule F.GAT_RGN_C.VALID g r == 1 && a / size == base / size

/-- A colour of a rule or a tag lets the requester pass (R392). -/
def Standing.colourOk (st : Standing) (k : Nat) : Bool := k == 0 || k == st.colour || st.master.privileged

/-- The tag of a Pantry granule (R394). -/
def Chip.tagOf (c : Chip) (t a : Nat) : Nat :=
  let n := a / 4096
  wget (c.gat.live.get ⟨.GAT_TAG, t, n / 8⟩) (4 * (n % 8) + 3) (4 * (n % 8))

/-- The region whose rule judges an access, none for the default rule. -/
def Chip.ruleOf? (c : Chip) (g : Nat) (x : GateAccess) : Option Nat := if x.plain then none else c.region? g x.addr

/-- The reason for which gate g denies an access, none when it allows it (R392, Table 11.5). -/
def Chip.judge (c : Chip) (g : Nat) (x : GateAccess) : Option Nat :=
  let r := c.ruleOf? g x
  let locked := match r with
    | some r => c.rule F.GAT_RGN_C.LOCK g r == 1
    | none => c.rule F.GAT_GATE_CFG.LOCK g == 1
  let masters := match r with
    | some r => c.rule F.GAT_RGN_C.MASTERS g r
    | none => c.rule F.GAT_GATE_DEF.MASTERS g
  let priv := match r with
    | some r => c.rule F.GAT_RGN_C.PRIV_ONLY g r == 1
    | none => c.rule F.GAT_GATE_DEF.PRIV_ONLY g == 1
  let rd := match r with
    | some r => c.rule F.GAT_RGN_C.R g r == 1
    | none => c.rule F.GAT_GATE_DEF.R g == 1
  let wr := match r with
    | some r => c.rule F.GAT_RGN_C.W g r == 1
    | none => c.rule F.GAT_GATE_DEF.W g == 1
  let colour := match r with
    | some r => c.rule F.GAT_RGN_C.COLOUR g r
    | none => c.rule F.GAT_GATE_DEF.COLOUR g
  if x.st.master = .debug && c.lifecycle == 0 then none
  else if x.st.master = .debug && locked then some 6
  else if !bit masters x.st.master.code then some 1
  else if priv && !x.st.master.privileged then some 2
  else if (x.reads && !rd) || (x.writes && !wr) then some 3
  else if !x.st.colourOk colour then some 4
  else if 96 ≤ g && g < 108 && !x.st.colourOk (c.tagOf (g - 96) x.addr) then some 5
  else none

/-- The capture of a denial (R405) and of a write to a locked field (R398): counted; captured when VALID is 0;
OVERFLOW otherwise, with at most one message per 1 ms. -/
def Chip.capture (c : Chip) (g reason : Nat) (region : Option Nat) (x : GateAccess) : Chip :=
  let c := c.inc F.GAT_VIOL_COUNT.COUNT
  if c.flag F.GAT_VIOL_STATUS.VALID then
    (c.setFld F.GAT_VIOL_STATUS.OVERFLOW 1).raiseLimited 3 msCycles 0x198 0x14 1 x.addr x.part
  else
    let w := 2 ^ 31 + b2n (c.flag F.GAT_VIOL_STATUS.OVERFLOW) * 2 ^ 30 + x.st.master.code * 2 ^ 27 +
      b2n x.writes * 2 ^ 26 + reason * 2 ^ 22 + g * 2 ^ 15 + region.getD 0 * 2 ^ 10 +
      b2n region.isNone * 2 ^ 9 + x.st.colour * 2 ^ 5
    let src := x.rid * 2 ^ 16 + (match x.part with | some p => 2 ^ 15 + p * 2 ^ 10 | none => 0)
    let c := ((c.setReg .GAT_VIOL_STATUS (word w)).setPair .GAT_VIOL_ADDR_LO .GAT_VIOL_ADDR_HI x.addr).setReg
      .GAT_VIOL_SRC (word src)
    (c.noteLimit 3).raise 0x198 0x14 1 x.addr x.part

/-- Judging an access at a gate: the reason of a denial, and the device with the denial captured. -/
def Chip.gate (c : Chip) (g : Nat) (x : GateAccess) : Option Nat × Chip :=
  let c := c.pulse 0xC04 0x10
  match c.judge g x with
  | none => (none, c)
  | some r => (some r, (c.pulse 0xC04 0x11).capture g r (c.ruleOf? g x) x)

/-- A copy that has not left step 8: one that lies in its source's guarantee or receive slots (R182, R401). -/
def Copy.unadmitted (k : Copy) : Bool := k.charge == .guarantee || k.charge == .slots

/-- Committing the shadow rules (R400): the whole shadow set becomes live, EPOCH increments, STATE reads
PENDING, and the Pantry copies admitted before are of an earlier epoch (R401). -/
def Chip.commitGates (c : Chip) : Chip :=
  let pantryIds := (c.cel.copies.filter fun k => !k.unadmitted && match k.dest with | .pantry _ => true | _ => false).map (·.id)
  let c := { c with gat := { live := c.regs.filter (fun e => isGateReg e.1.reg), old := pantryIds } }
  (c.incWrap F.GAT_COMMIT_STATUS.EPOCH).setFld F.GAT_COMMIT_STATUS.STATE 1

/-- Every access of an earlier epoch has retired (R401). -/
def Chip.oldRetired (c : Chip) : Bool := c.gat.old.all fun i => !c.cel.copies.any fun k => k.id == i

/-- The LOCK that holds a GAT register's fields (R398): the region's, or the gate's for GAT_GATE_CFG,
GAT_GATE_DEF and the tags; with the gate and the region. -/
def Chip.gatLock? (c : Chip) (k : RegKey) : Option (Nat × Option Nat) :=
  match k.reg with
  | .GAT_GATE_CFG | .GAT_GATE_DEF => if c.rule F.GAT_GATE_CFG.LOCK k.i = 1 then some (k.i, none) else none
  | .GAT_TAG => if c.rule F.GAT_GATE_CFG.LOCK (96 + k.i) = 1 then some (96 + k.i, none) else none
  | .GAT_RGN_A | .GAT_RGN_B | .GAT_RGN_C =>
    if c.rule F.GAT_RGN_C.LOCK k.i k.j = 1 then some (k.i, some k.j) else none
  | _ => none

end Sys2Proof.Machine
end

