-- ==== Sys2Proof/Machine/Cellar.lean ====
section
/-! DEFINITION. The shared operations of the Cellar (spec/05_hallway_cellar.md): pools, admission,
descriptors, queues, ageing, and the completions that the device synthesises (R203, R479, R480). The meanings
of the Hallway's own commands stand in Machine/Hallway.lean. -/

namespace Sys2Proof.Machine

/-! ### Sizes and pools -/

/-- Cells of a packet (R178). -/
def Packet.cells (p : Packet) : Nat := divUp p.bytes 256

/-- The credits of a Fleren port, CRED_0 to CRED_7 added up. -/
def Chip.credSum (c : Chip) (n : Nat) : Nat :=
  let w (v : Word) := bits v.toNat 7 0 + bits v.toNat 15 8 + bits v.toNat 23 16 + bits v.toNat 31 24
  w (c.reg .PRT_FL_CRED_A n) + w (c.reg .PRT_FL_CRED_B n)

/-- Cells in every reservation and guarantee (Table 5.2). -/
def Chip.reservedCells (c : Chip) : Nat :=
  512 + (allPorts.map fun n =>
    if c.isFleren n then 512 + c.credSum n
    else if c.isPcie n then c.fld F.CEL_PORT_CFG.IN_MIN n * 16 else 0).sum

/-- The division of the Cellar at an entry to a mode from 0x1 to 0x8 (R184), with the settings that take effect at it
(R214). -/
def Chip.divideCellar (c : Chip) : Chip :=
  let r := c.reservedCells
  let set := c.regs.filter fun e => decide (e.1.reg ∈ [Reg.CEL_SHARED_CFG, .CEL_CLASS_CFG, .CEL_PORT_CFG])
  ({ c with cel := { c.cel with reserved := r, sharedSize := 393216 - r, set } }).setFld F.CEL_RSV_STATUS.RESERVED r

/-- Copies whose cells are charged to the shared pool, and pass a test. -/
def Chip.inPool (c : Chip) (f : Copy → Bool) : List Copy := c.cel.copies.filter fun k => k.charge == .shared && f k

/-- A packet that touches a parcel's cell has not left: a copy lies in it, waits in it, or may still come in it (R191). -/
def Chip.parcelHeld (c : Chip) (i : Nat) : Bool :=
  let on (k : Copy) : Bool := k.touch.elem i
  c.cel.copies.any on || c.cel.waiting.any on || c.cel.flcWaiting.any on || (c.cel.capWaiting.any fun e => on e.2) ||
    c.fl.any fun e => (e.2.slots.any fun p => p.cell == i) ||
      e.2.open_.any fun o => match o.2 with | some o => o.cells.elem i | none => false

/-- Parcel cells charged to the shared pool: from the admission of the first packet that touches one until the last has left
(R191). -/
def Chip.chargedSlots (c : Chip) : List SlotCharge := c.cel.charged.filter fun e => c.parcelHeld e.cell

/-- Cells of the shared pool in use by copies that pass a test, and by parcel cells that pass one. -/
def Chip.poolCells (c : Chip) (f : Copy → Bool) (g : SlotCharge → Bool) : Nat :=
  ((c.inPool f).map (·.cells)).sum + (c.chargedSlots.filter g).length

/-- Cells of the shared pool in use. -/
def Chip.sharedUsed (c : Chip) : Nat := c.poolCells (fun _ => true) fun _ => true

/-- Free cells of the shared pool (CEL_POOL_STATUS). -/
def Chip.sharedFree (c : Chip) : Nat := c.cel.sharedSize - c.sharedUsed

/-- Non-posted cells in the shared pool (CEL_NP_USE). A parcel cell that packets of both kinds touch counts by the packet
that charged it (DESIGN CHOICE, log entry 49). -/
def Chip.npShared (c : Chip) : Nat := c.poolCells (fun k => k.pkt.cat == .nonPosted) (·.np)

/-- Shared cells charged to an ingress source (CEL_PORT_USE.SHARED). -/
def Chip.inShared (c : Chip) (s : Src) : Nat := c.poolCells (fun k => k.src == s) fun e => s == .port e.port

/-- Cells of the guarantee of a PCI Express port that copies hold, that copies waiting at step 8 hold, or that packets hold
which wait for a Flacon request table entry or for a captured write (R182, R189, R264, R351). -/
def Chip.guaranteeUsed (c : Chip) (s : Src) : Nat :=
  (((c.cel.copies ++ c.cel.waiting).filter fun k => k.charge == .guarantee && k.src == s).map (·.cells)).sum +
    (((c.cel.flcWaiting ++ c.cel.capWaiting.map (·.2)).filter fun k => k.src == s).map (·.cells)).sum

/-- Cells in use of a port's guarantee, or of its receive slots (CEL_PORT_USE.MIN_USED). -/
def Chip.minUsed (c : Chip) (s : Src) : Nat :=
  c.guaranteeUsed s + match s with | .port n => (c.flp n).slots.length | _ => 0

/-- Cells of the management reservation in use. -/
def Chip.mgmtUsed (c : Chip) : Nat :=
  ((c.cel.copies.filter fun k => k.charge == .mgmt).map (·.cells)).sum

/-- The copies of a queue, oldest first. -/
def Chip.queue (c : Chip) (d : Dest) (cls : Nat) : List Copy :=
  c.cel.copies.filter fun k => k.dest = d && k.pkt.cls == cls

/-- Cells of every copy in a queue, measured alike whatever the source (R188; CEL_Q_USE). -/
def Chip.qUsed (c : Chip) (d : Dest) (cls : Nat) : Nat :=
  (((c.queue d cls).filter fun k => k.charge != .none).map fun k => k.pkt.cells).sum

/-- Cells of a Pantry queue over all its classes (R402). -/
def Chip.pantryUsed (c : Chip) (t : Nat) : Nat :=
  ((c.cel.copies.filter fun k => k.dest = .pantry t).map fun k => k.pkt.cells).sum

/-! ### The allocator (R180) -/

/-- The bank of a cell: 8,192 cells each, 48 of them (DESIGN CHOICE, log entry 46: the spec numbers cells and not banks). -/
def bankOf (i : Nat) : Nat := i % 48

/-- The cells in use: those of copies, and those of parcels. -/
def Chip.usedCells (c : Chip) : List Nat := c.cel.copies.flatMap (·.at_) ++ c.cel.slotCells.map (·.2)

/-- The first cell from a place on, round the Cellar, that is free and in none of some banks. -/
def freeCell (used banks : List Nat) : Nat → Nat → Nat
  | 0, i => i % 393216
  | fuel + 1, i =>
    if used.elem (i % 393216) || banks.elem (bankOf (i % 393216)) then freeCell used banks fuel (i + 1) else i % 393216

/-- n cells for a copy, from a place on: consecutive cells in distinct banks (R180). -/
def allocCells (used banks : List Nat) : Nat → Nat → List Nat
  | 0, _ => []
  | n + 1, i =>
    let x := freeCell used banks (48 * (used.length + 48)) i
    x :: allocCells (x :: used) (bankOf x :: banks) n (x + 1)

/-- The cells that the allocator gives a copy of n cells; where it looks first is a free value (log entry 46). -/
def Chip.alloc (c : Chip) (n : Nat) : List Nat := allocCells c.usedCells [] n c.freeVal

/-- The cells that a copy lies in: its own, and the parcel cells that it touches. -/
def Chip.cellsAt (c : Chip) (k : Copy) : List Nat :=
  k.at_ ++ k.touch.filterMap fun i => (c.cel.slotCells.find? fun e => e.1 == i).map (·.2)

/-- The first cell that a copy's descriptor names (R182). -/
def Chip.firstCell? (c : Chip) (k : Copy) : Option Nat := (c.cellsAt k).head?

/-! ### Descriptors (R182) -/

/-- The tile that holds a copy's descriptor. The spec names none for the queues toward the legacy segment and
the management complex. -/
def Dest.tile? : Dest → Option Nat
  | .port n => some (tileOf n)
  | .pantry t => some t
  | _ => none

/-- Free descriptors of a tile (HWY_DESC_FREE). -/
def Chip.descFree (c : Chip) (t : Nat) : Nat :=
  32768 - (c.cel.copies.filter fun k => k.dest.tile? = some t).length

/-- A copy finds a descriptor that it may take: any for a completion, else only while more than 2,048 are
free. -/
def Chip.descOk (c : Chip) (k : Copy) : Bool :=
  match k.dest.tile? with
  | none => true
  | some t => if k.pkt.cat = .completion then 0 < c.descFree t else 2048 < c.descFree t

/-! ### Admission (R188 to R190) -/

/-- Cells that a copy would take from the shared pool now. -/
def Chip.newCells (c : Chip) (k : Copy) : Nat :=
  k.cells + (k.touch.filter fun i => !(c.chargedSlots.any fun e => e.cell == i)).length

/-- The fabric packets that count as posted for admission, ageing and order (R622). -/
def Copy.cat (k : Copy) : Cat :=
  match k.pkt.fab with
  | some h => if h.typ = 1 then k.pkt.cat else .posted
  | none => k.pkt.cat

/-- The admission test of R188, with the limit of a Pantry queue (R402). -/
def Chip.admits (c : Chip) (k : Copy) : Bool :=
  let n := c.newCells k
  let inMaxOk := match k.src with
    | .port i => c.isFleren i || c.inShared k.src + n ≤ c.celFld F.CEL_PORT_CFG.IN_MAX i * 16
    | _ => true
  let pantryOk := match k.dest with
    | .pantry t => c.pantryUsed t + k.pkt.cells ≤ 2048
    | _ => true
  if k.cat = .completion then n ≤ c.sharedFree && pantryOk
  else
    c.celFld F.CEL_SHARED_CFG.CPL_RSV * 16 + n ≤ c.sharedFree && inMaxOk && pantryOk &&
      c.qUsed k.dest k.pkt.cls + k.pkt.cells ≤ c.celFld F.CEL_CLASS_CFG.Q_MAX k.pkt.cls * 16 &&
      (k.cat = .posted || c.npShared + n ≤ c.celFld F.CEL_SHARED_CFG.NP_MAX * 16)

/-- The parcel cells of a copy that enters the shared pool are charged to it, each once (R191). -/
def Chip.chargeSlots (c : Chip) (k : Copy) : Chip :=
  let new := k.touch.filter fun i => !(c.chargedSlots.any fun e => e.cell == i)
  let port := match k.src with | .port n => n | _ => 0
  if new.isEmpty then c
  else { c with cel := { c.cel with
    charged := c.chargedSlots ++ new.map fun i => { cell := i, port, np := k.pkt.cat == .nonPosted } } }

/-- Adding a copy to its queue, its cells written. -/
def Chip.push (c : Chip) (k : Copy) : Chip :=
  let reserve := k.charge == .shared && k.cat == .completion &&
    c.sharedFree < c.celFld F.CEL_SHARED_CFG.CPL_RSV * 16 + k.cells
  let c := if k.charge == .shared then (c.pulse 0xC01 0x10).chargeSlots k else c
  let c := if reserve then c.pulse 0xC01 0x12 else c
  let (at_, c) := if k.cells = 0 || !k.at_.isEmpty then (k.at_, c) else (c.alloc k.cells, c.drawn)
  { c with cel := { c.cel with copies := c.cel.copies ++ [{ k with at_ }] } }

/-- Adding a copy to those that wait at step 8. -/
def Chip.wait (c : Chip) (k : Copy) : Chip :=
  { c with cel := { c.cel with waiting := c.cel.waiting ++ [k] } }

/-- A completion that finds no cell (R193). -/
def Chip.noCell (c : Chip) (k : Copy) : Chip :=
  (c.inc F.CEL_AGED_CPL.COUNT).raise 0x182 0x0D 1 (k.pkt.rid * 65536 + k.pkt.tag % 16384) k.part

/-- Cells that the guarantee of a PCI Express port still has. -/
def Chip.guaranteeOk (c : Chip) (n : Nat) (k : Copy) : Bool :=
  c.guaranteeUsed (.port n) + k.cells ≤ c.celFld F.CEL_PORT_CFG.IN_MIN n * 16

/-- A DISC packet (R241). -/
def Copy.isDisc (k : Copy) : Bool := match k.pkt.fab with | some h => h.typ == 2 | none => false

/-- A completion that has only the completion reserve and the shared pool: one that comes in at a root port, or for an
engine (R193). -/
def Chip.poolOnly (c : Chip) (k : Copy) : Bool :=
  k.cat == .completion && ((match k.dest with | .requester (.engine _) => true | _ => false) ||
    match k.src with | .port n => c.isPcie n && c.role n == 2 | _ => false)

/-- The account that a copy is charged to: the shared pool for a further one (R189), for a first one where it stands
while R188 fails (Tables 5.2 and 5.4); DISC packets, what firmware sends and completions to it have the management
reservation alone (R241, R184). -/
def Chip.account (c : Chip) (k : Copy) : Charge :=
  if k.charge == .none then .none
  else if !k.first then .shared
  else if k.isDisc || k.src == .firmware || k.dest == .requester .firmware then .mgmt
  else if c.poolOnly k then .shared
  else match k.src with
    | .port n => if c.isFleren n then .slots else .guarantee
    | _ => .shared

/-- A posted copy toward the segment, which never enters the shared pool (R414). -/
def Copy.segPosted (k : Copy) : Bool := k.dest == .legacy && k.cat == .posted && k.src.isPort

/-- A first copy that is not admitted stays in its account; a completion with no cell there is lost (R189, R193). -/
def Chip.takeHome (c : Chip) (k : Copy) : Chip :=
  match c.account k with
  | .slots => c.push { k with charge := .slots }
  | .guarantee =>
    let room := match k.src with | .port n => c.guaranteeOk n k | _ => false
    if room then c.push { k with charge := .guarantee } else if k.cat = .completion then c.noCell k else c.wait k
  | _ => if k.cat = .completion then c.noCell k else c.wait k

/-- A further copy that is not admitted is deferred, and counted once (R189). -/
def Chip.defer (c : Chip) (k : Copy) : Chip :=
  if k.deferred then c.wait k else (c.inc F.HWY_MC_DEFER.COUNT).wait { k with deferred := true }

/-- Step 8 of Table 5.1 for one copy (R182, R188, R189, R193, Table 5.4). One that finds no descriptor waits in its account, a
further one as deferred. -/
def Chip.takeIn (c : Chip) (k : Copy) : Chip :=
  if !c.descOk k then (if k.first then c.wait { k with charge := c.account k } else c.defer k)
  else match c.account k with
    | .none => c.push k
    | .mgmt => if c.mgmtUsed + k.cells ≤ 512 then c.push { k with charge := .mgmt } else c.wait k
    | _ =>
      if k.first && k.segPosted then c.takeHome k
      else if c.admits k then c.push { k with charge := .shared, deferred := false }
      else if !k.first then c.defer k
      else c.takeHome k

/-- A copy of the same source, class and destination that waits at step 8: none passes it (R205). -/
def Copy.before (k w : Copy) : Bool := w.src == k.src && w.dest == k.dest && w.pkt.cls == k.pkt.cls

/-- An older request of the same source and class waits for a Flacon request table entry: what comes after it on its path
does not pass it (R205, R264). Its path is not yet known, so its whole class of the source waits (DEDUCED, log entry 49). -/
def Chip.behindTable (c : Chip) (k : Copy) : Bool :=
  c.cel.flcWaiting.any fun w => w.src == k.src && w.pkt.cls == k.pkt.cls && Nat.blt w.id k.id

/-- A copy enters step 8 behind every first copy of its source that waits there, a completion behind those of its own path
(R190, R205). -/
def Chip.enqueue (c : Chip) (k : Copy) : Chip :=
  let behind (w : Copy) : Bool := k.before w || (w.src == k.src && !w.deferred && k.cat != .completion)
  if c.cel.waiting.any behind || c.behindTable k then
    (if k.first then c.wait { k with charge := c.account k } else c.defer k)
  else (if k.charge == .none || c.admits k then c else c.pulse 0xC01 0x11).takeIn k

/-- A fresh identifier, of a copy, a packet or a parcel cell. -/
def Chip.newId (c : Chip) : Nat × Chip :=
  (c.cel.nextId, { c with cel := { c.cel with nextId := c.cel.nextId + 1 } })

/-- Parcel cells that no slot and no copy holds any longer are free (R191, R192). -/
def Chip.freeSlots (c : Chip) : Chip :=
  if c.cel.slotCells.isEmpty then c
  else { c with cel := { c.cel with slotCells := c.cel.slotCells.filter fun e => c.parcelHeld e.1
                                    charged := c.chargedSlots } }

/-- The banks of the parcel cells that a packet of a class may share with the next parcel of its port: those of the parcels of
the class in receive slots and of the packet that its class has open, at most 47 of them. -/
def Chip.classBanks (c : Chip) (n cls : Nat) : List Nat :=
  let h := c.fl.get {} n
  let mine := ((h.slots.filter fun p => p.cls == cls).map (·.cell)) ++
    match h.open_.get none cls with | some o => o.cells | none => []
  ((c.cel.slotCells.filter fun e => mine.elem e.1).map fun e => bankOf e.2).reverse.take 47

/-- A fresh parcel cell for a receive slot, with the Cellar cell that it is, in a bank of its own among the cells of the
packets that it may carry on (R151, R180). -/
def Chip.newSlot (c : Chip) (n cls : Nat) : Nat × Chip :=
  let c := c.freeSlots
  let banks := c.classBanks n cls
  let (id, c) := c.newId
  let x := freeCell c.usedCells banks (48 * (c.usedCells.length + 48)) c.freeVal
  (id, { c.drawn with cel := { c.cel with slotCells := c.cel.slotCells ++ [(id, x)] } })

/-- Removing a copy by its identifier. -/
def Chip.dropCopy (c : Chip) (id : Nat) : Chip :=
  { c with cel := { c.cel with copies := c.cel.copies.filter fun k => k.id != id } }

/-- Changing a copy by its identifier. -/
def Chip.updCopy (c : Chip) (id : Nat) (f : Copy → Copy) : Chip :=
  { c with cel := { c.cel with copies := c.cel.copies.map fun k => if k.id == id then f k else k } }

/-! ### Credits of a PCI Express port (R186, R187) -/

/-- What a PCI Express port advertises for a kind (Table 5.3): headers and data, none for infinite. -/
def Chip.advertised (c : Chip) (n : Nat) (k : Cat) : Option (Nat × Nat) :=
  match k with
  | .posted => some (64, 2047)
  | .nonPosted => some (32, 256)
  | .completion => if c.role n = 2 then none else some (64, 2047)

/-- Credits advertised as a link comes up; none is in use. -/
def Chip.advertise (c : Chip) (n : Nat) : Chip :=
  let c := { c with cel := { c.cel with owed := c.cel.owed.filter fun e => e.port != n } }
  c.emit (.initFc n (c.advertised n .posted) (c.advertised n .nonPosted) (c.advertised n .completion))

/-- A TLP of a PCI Express port takes credits; the number finds its copies. -/
def Chip.takeCredits (c : Chip) (n : Nat) (p : Packet) : Nat × Chip :=
  let (rx, c) := c.newId
  (rx, { c with cel := { c.cel with owed := c.cel.owed ++ [{ rx, port := n, cat := p.cat, data := divUp p.data.length 16 }] } })

/-- A TLP still has a copy that waits or whose last cell has not been written, or a copy in the ingress guarantee, or waits in
the lookup. -/
def Chip.holdsCredits (c : Chip) (rx : Nat) : Bool :=
  let its (k : Copy) : Bool := k.rx == some rx
  c.cel.waiting.any its || c.cel.flcWaiting.any its || (c.cel.capWaiting.any fun e => its e.2) ||
    c.cel.copies.any fun k => its k && (k.charge == .guarantee || !k.whole)

/-- The credits of TLPs whose every copy has been written and whose first copy has left the guarantee return (R187); an
infinite credit needs no return, and those of a link that is down are gone. -/
def Chip.returnCredits (c : Chip) : Chip :=
  let (stay, go) := c.cel.owed.partition fun e => c.holdsCredits e.rx
  let finite := go.filter fun (e : Owed) => (c.advertised e.port e.cat).isSome && c.flag F.PRT_LINK_STATUS.DL_ACTIVE e.port
  ({ c with cel := { c.cel with owed := stay } }).emitAll (finite.map fun (e : Owed) => .updateFc e.port e.cat e.data)

/-! ### Completions that the device makes -/

/-- The Completer ID of a synthesised completion (R203): the switch port function through which the request
would have left, the partition's management function, or 0 for the internal root. -/
def Chip.completerId (c : Chip) (part : Option Nat) (d : Dest) : Nat :=
  match part with
  | none => 0
  | some p =>
    match d with
    | .port n => if c.isPcie n && c.role n != 2 then c.portRid n else c.mgmtRid p
    | _ => c.mgmtRid p

/-- Handing a completion to a requester inside the device (R203, R483): the request is no longer outstanding once its last
completion has come. An engine, the legacy bridge and a FW_LOAD_HOST take it from the inbox. -/
def Chip.deliver (c : Chip) (s : Src) (part : Option Nat) (p : Packet) : Chip :=
  let ends (e : DevReq) : Bool := p.lastCpl && !e.quarantined && e.who == s && e.part == part && e.tag == p.tag
  let loads (h : HostLoad) : Bool := h.tag == some p.tag && part == some h.box
  let x : InCpl := { to_ := s, part, pkt := p }
  let c := { c with flt := { c.flt with
    inbox := if s = Src.firmware && !c.lbx.load.any loads then c.flt.inbox else c.flt.inbox ++ [x]
    dev := c.flt.dev.filter fun e => !ends e } }
  c.emit (.deliver s p)

/-- The pieces of an all-ones completion: from an address, n bytes, cut at multiples of m (R480). -/
def cutAt (m : Nat) : Nat → Nat → Nat → List (Nat × Nat)
  | 0, _, _ => []
  | fuel + 1, a, n =>
    if n = 0 then []
    else
      let l := min n (m - a % m)
      (a, l) :: cutAt m fuel (a + l) (n - l)

/-- The pieces of an all-ones completion as they leave (R480), or the packet itself. -/
def Copy.onWire (k : Copy) : List Packet :=
  let p := { k.pkt with fab := none }
  match k.pieces with
  | none => [p]
  | some m => (cutAt m p.len p.addr p.len).map fun q =>
      { p with addr := q.1, data := List.replicate q.2 0xFF, byteCount := p.addr + p.len - q.1,
               lastCpl := q.1 + q.2 == p.addr + p.len }

/-- Completions for a requester inside the device are handed over in their order, each once its last byte has come. -/
def Chip.giveIn (c : Chip) (s : Src) : Chip :=
  let ks := (c.cel.copies.filter fun k => k.dest == .requester s).takeWhile (·.whole)
  ks.foldl (fun c k => k.onWire.foldl (fun c p => c.deliver s k.part p) (c.dropCopy k.id)) c

/-- The Max_Payload_Size that governs a completion's delivery (R480). -/
def Chip.cplMps (c : Chip) (origin : Src) (part : Option Nat) : Nat :=
  match origin with
  | .port n => if c.isPcie n then c.maxPayload (.port n) else 128
  | _ => match part with | some p => c.maxPayload (.mgmt p) | none => 128

/-- The link of a port carries packets: a PCI Express link in DL_Active outside DPC, a Fleren link that is UP, in RETRAIN
or in LP. -/
def Chip.linkLive (c : Chip) (n : Nat) : Bool :=
  if c.isFleren n then 4 ≤ c.fld F.PRT_FL_STATUS.LSTATE n && c.fld F.PRT_FL_STATUS.LSTATE n ≤ 6
  else c.flag F.PRT_LINK_STATUS.DL_ACTIVE n && !c.cfgBit (.port n) 0x3C8 0

/-- A completion sent back to where a request came from: by the port it came from, over the fabric to its
source chip, in pieces where it is all ones (R480), or into the device, where it takes cells until it is handed over (R184,
R193). `fab` is the request's fabric header. It enters the lookup now, and takes its R18 stamp from
now (DESIGN CHOICE, log entry 47); over the fabric its SPREAD is that of the management port (R231; DEDUCED, log entry 48). -/
def Chip.sendBack (c : Chip) (origin : Src) (part : Option Nat) (fab : Option FabHdr) (p : Packet)
    (synthFor : Option Nat := none) (pieces : Option Nat := none) : Chip :=
  let mk (c : Chip) (d : Dest) (p : Packet) (cut : Option Nat) : Chip :=
    let (id, c) := c.newId
    c.enqueue { id, pid := id, pkt := p, src := .device, part, dest := d, stamp := c.ns, synthFor, pieces := cut,
                cells := p.cells, charge := if pieces.isSome then .none else .shared,
                oRid := p.rid, oTag := p.tag }
  match origin with
  | .port n =>
    if c.isFleren n then
      match fab with
      | some h =>
        let one (c : Chip) (p : Packet) : Chip :=
          let d := c.routeTo h.srcDomain h.srcChip
          let h' := c.encap d h.srcDomain h.srcChip h.vh h.colour .device p
          match c.egressOf d h'.spread with
          | (some n, c) => mk c (.port n) { p with fab := some h' } none
          | (none, c) => c.noRoute h.srcDomain h.srcChip part
        let whole : Copy := { id := 0, pid := 0, pkt := p, src := .device, part, dest := .mgmt, stamp := 0, cells := 0,
                              charge := .none, pieces }
        whole.onWire.foldl one c
      | none => mk c (.port n) p pieces
    else if c.linkLive n then mk c (.port n) p pieces
    else c
  | .device | .tim => c
  | s => (mk c (.requester s) p pieces).giveIn s

/-- A request table entry is the one of a request as it left: in a hierarchy, with a Requester ID and a tag. -/
def FlcReq.is (e : FlcReq) (hier rid tag : Nat) : Bool := e.tagPart == hier && e.newRid == rid && e.newTag == tag

/-- The entries of the Flacon request table other than the one of a request as it left. -/
def Chip.retireFlcReq (c : Chip) (hier rid tag : Nat) : Chip :=
  { c with flcReqs := c.flcReqs.filter fun e => !e.is hier rid tag }

/-- The request of a copy has been answered already by a squash of its Flacon: its entry is reserved (R274). -/
def Chip.answeredBySquash (c : Chip) (k : Copy) : Bool :=
  k.flc.isSome && c.flcReqs.any fun e => e.is k.hier k.pkt.rid k.pkt.tag && e.reserved

/-- A completion without data for a request, with a status, restored for its Flacon (R203, R262). One for a request
that a squash has answered is discarded and retires the entry (R275). -/
def Chip.answerCopy (c : Chip) (k : Copy) (st : CplStatus) (synthFor : Option Nat := none) : Chip :=
  let p : Packet := { kind := .cpl, cls := k.pkt.cls, rid := k.oRid, tag := k.oTag, status := st, hdrBytes := 12,
                      cid := c.completerId k.part k.dest, byteCount := k.pkt.len, locked := k.pkt.kind == .memRdLk }
  if c.answeredBySquash k then (c.retireFlcReq k.hier k.pkt.rid k.pkt.tag).inc F.GLB_FLC_LATE.COUNT
  else
    let c := if k.flc.isSome then c.retireFlcReq k.hier k.pkt.rid k.pkt.tag else c
    c.sendBack k.src k.part (if k.src.isPort then k.inFab else none) p synthFor

/-- A completion of all-ones data for the bytes still owed (R479, R480). -/
def Chip.answerOnes (c : Chip) (k : Copy) (rem addr : Nat) (synthFor : Option Nat) : Chip :=
  let p : Packet := { kind := .cpl, cls := k.pkt.cls, rid := k.oRid, tag := k.oTag, status := .sc, hdrBytes := 12,
                      cid := c.completerId k.part k.dest, byteCount := rem, len := rem, addr
                      locked := k.pkt.kind == .memRdLk }
  if c.answeredBySquash k then (c.retireFlcReq k.hier k.pkt.rid k.pkt.tag).inc F.GLB_FLC_LATE.COUNT
  else
    let c := if k.flc.isSome then c.retireFlcReq k.hier k.pkt.rid k.pkt.tag else c
    c.sendBack k.src k.part (if k.src.isPort then k.inFab else none) p synthFor
      (some (c.cplMps k.src k.part))

/-! ### Ageing and discards -/

/-- The age of a copy in nanoseconds (R199). -/
def Chip.age (c : Chip) (k : Copy) : Nat := c.ns - k.stamp

/-- A copy is aged (R199); one whose transmission has started, or that awaits its resend or is to be forwarded again, never
is, nor is one in receive slots whose parcel has not committed (R201). -/
def Chip.aged (c : Chip) (k : Copy) : Bool :=
  let open_ := match k.src with
    | .port n => !k.touch.isEmpty && (c.flp n).slots.any fun p => k.touch.elem p.cell
    | _ => false
  !open_ && !k.started && !k.resend && !k.again && c.fld F.CEL_AGE_LIMIT.LIMIT k.pkt.cls * 1000 < c.age k

/-- The answer of Table 5.7 to a copy that is discarded, its cells already free. -/
def Chip.fate (c : Chip) (k : Copy) : Chip :=
  let c := c.pulse 0xC01 0x13
  match k.cat with
  | .posted => c.inc F.CEL_AGED_P.COUNT
  | .nonPosted => (c.inc F.CEL_AGED_NP.COUNT).answerCopy k .ca
  | .completion => c.inc F.CEL_AGED_CPL.COUNT

/-- The deferred copies of a packet are cancelled with its first copy (Table 5.10). -/
def Chip.cancelDeferred (c : Chip) (k : Copy) : Chip :=
  if !k.first then c
  else
    let gone := c.cel.waiting.filter fun w => w.deferred && w.pid == k.pid
    let c := { c with cel := { c.cel with
      waiting := c.cel.waiting.filter fun w => !(w.deferred && w.pid == k.pid) } }
    gone.foldl (fun c w => c.fate w) c

/-- Discarding a copy under Table 5.7. -/
def Chip.discardCopy (c : Chip) (k : Copy) : Chip :=
  ((c.dropCopy k.id).fate k).cancelDeferred k

/-- The port number that a CEL_AGED handle carries (R204). -/
def Dest.handlePort : Dest → Nat
  | .port n => n
  | _ => 0x7F

/-- An aged copy is discarded; CEL_AGED at most once per 1 ms for its class (R202, R204). -/
def Chip.ageOut (c : Chip) (k : Copy) : Chip :=
  let c := match k.dest.tile? with
    | some t => c.pulse (tileUnit t) 0x1B
    | none => c
  (c.discardCopy k).raiseLimited (0x30000 + k.pkt.cls) msCycles 0x181 0x0C 0
    (k.dest.handlePort * 256 + k.pkt.cls) k.part

/-! ### The completion tracker (spec/14, Link drop with requests outstanding) -/

/-- Entries of a tile's tracker in use. -/
def Chip.trackUsed (c : Chip) (t : Nat) : Nat := (c.flt.track.filter fun e => tileOf e.port == t).length

/-- Free tracker entries of a tile (FLT_TRACK_FREE). -/
def Chip.trackFree (c : Chip) (t : Nat) : Nat := 2048 - c.trackUsed t

/-- A tracker entry is the one of a request as it was sent. -/
def Track.is (e : Track) (hier rid tag : Nat) : Bool :=
  e.copy.hier == hier && e.copy.pkt.rid == rid && e.copy.pkt.tag == tag

/-- An orphan holds this Requester ID and tag (R482). -/
def Chip.orphaned (c : Chip) (hier rid tag : Nat) : Bool := c.flt.track.any fun e => e.orphan && e.is hier rid tag

/-- The entry of an unanswered request. -/
def Chip.trackFind? (c : Chip) (hier rid tag : Nat) : Option Track :=
  c.flt.track.find? fun e => !e.orphan && e.is hier rid tag

/-- A request as it is sent takes a tracker entry. -/
def Chip.trackSent (c : Chip) (n : Nat) (k : Copy) : Chip :=
  if k.cat = .nonPosted then
    { c with flt := { c.flt with track := c.flt.track ++
      [{ port := n, copy := k, rem := k.pkt.len, addr := k.pkt.addr }] } }
  else c

/-- A completion for a request passes: the bytes it brings are no longer owed, and the entry of a request that it ends
retires. -/
def Chip.trackCpl (c : Chip) (hier rid tag bytes : Nat) (last : Bool) : Chip :=
  let keep (e : Track) : Option Track :=
    if e.is hier rid tag && !e.orphan then
      if last then none else some { e with rem := e.rem - bytes, addr := e.addr + bytes }
    else some e
  { c with flt := { c.flt with track := c.flt.track.filterMap keep } }

/-- Requests of a port that are still unanswered. -/
def Chip.tracked (c : Chip) (n : Nat) : List Track := c.flt.track.filter fun e => e.port == n && !e.orphan

end Sys2Proof.Machine
end

