-- ==== Sys2Proof/Machine/Owner.lean ====
section
/-! DEFINITION. The shared operations of ownership and of the Letterboxes (R492 to R513). The meanings of the
Letterbox commands stand in Machine/Letterbox.lean. -/

namespace Sys2Proof.Machine

/-- The Letterbox of a number. -/
def Chip.box (c : Chip) (n : Nat) : Box := c.lbx.boxes.get default n

/-- The device with a Letterbox changed. -/
def Chip.updBox (c : Chip) (n : Nat) (f : Box → Box) : Chip :=
  { c with lbx := { c.lbx with boxes := c.lbx.boxes.set default n (f (c.box n)) } }

/-- Ecseric serves this Letterbox (FW_READY): all of them while it runs, 32 and 33 alone in recovery mode; a
partition's only while the partition has an upstream port (R492, R518). -/
def Chip.fwReady (c : Chip) (n : Nat) : Bool :=
  !c.safe && (if c.flag F.LBX_FW_STATUS.RECOVERY then n == 32 || n == 33
    else c.lbx.ready && (32 ≤ n || (c.upPort? n).isSome))

/-- LBX_STATUS as it reads (Table 15.2). -/
def Chip.lbxStatus (c : Chip) (n : Nat) : Nat :=
  let v := (c.reg .LBX_STATUS n).toNat
  let own := c.owner? == some n
  bits v 30 26 * 2 ^ 26 + b2n (c.fwReady n) * 2 ^ 31 + b2n own * 2 ^ 25 +
    b2n (c.flag F.LBX_OWNER.EXPERT) * 2 ^ 24 + (c.box n).req.length * 2 ^ 8 + (c.box n).rsp.length

/-- Asserting SMBALERT# (R497). -/
def Chip.smbAlert (c : Chip) : Chip := { c with lbx := { c.lbx with smbAlert := true } }

/-- The notification of a reply (Table 15.1), when IRQ_EN is 1 (R494 step 6). -/
def Chip.notifyBox (c : Chip) (n : Nat) : Chip :=
  if !c.flag F.LBX_CTL.IRQ_EN n then c
  else if n < 32 then c.msix (.mgmt n) (c.fld F.LBX_CTL.VEC n)
  else if n = 32 then c.smbAlert
  else c

/-- The result of a Letterbox's command, which awaits its acknowledgement. -/
def Chip.boxResult (c : Chip) (n code : Nat) (ws : List Word := []) : Chip :=
  c.updBox n fun b => { b with result := some (code, ws), todo := false }

/-- The update session ends; the target slot's header stays erased (Table 15.11). -/
def Chip.endSession (c : Chip) : Chip :=
  { c.setFld F.LBX_FW_STATUS.SESSION 0 with lbx := { c.lbx with loaded := [] } }

/-- A pending handover is cancelled and its HANDOVER answered with HO_TMO (R509, Table 15.11). -/
def Chip.cancelHandover (c : Chip) : Chip :=
  let from_ := c.lbx.hoFrom
  let c := { (c.setFld F.LBX_OWNER.HO_PEND 0).setFld F.LBX_OWNER.HO_TARGET 0 with
    lbx := { c.lbx with hoFrom := none } }
  match from_ with
  | some n => c.boxResult n 0x800C
  | none => c

/-- OWNER_CHANGE with the index of the new Owner (Table 14.4). -/
def Chip.ownerChange (c : Chip) (idx : Nat) : Chip := c.raise 0x1D8 0x24 0 idx

/-- The entries that the Owner had not consumed are consumed by Ecseric (R472, R511). -/
def Chip.consumeLog (c : Chip) : Chip :=
  if c.safe then c
  else (c.setFld F.FLT_LOG_CONS.CONS (c.fld F.FLT_LOG_PROD.PROD)).setFld F.FLT_STATUS.LOG_FULL 0

/-- The device has no Owner (R508, R509). -/
def Chip.lapse (c : Chip) : Chip :=
  if c.owner?.isNone then c
  else
    let c := (((c.setFld F.LBX_OWNER.VALID 0).setFld F.LBX_OWNER.OWNER 0x3F).setFld
      F.LBX_OWNER.EXPERT 0).setFld F.LBX_OWNER.MISSED 0
    let c := { c with lbx := { c.lbx with renewed := false, nonce := none } }
    ((c.endSession).cancelHandover.ownerChange 0x3F).consumeLog

/-- A requester becomes the Owner with a fresh lease (R507, R510). -/
def Chip.makeOwner (c : Chip) (idx : Nat) : Chip :=
  let c := (((c.setFld F.LBX_OWNER.VALID 1).setFld F.LBX_OWNER.OWNER idx).setFld
    F.LBX_OWNER.EXPERT 0).setFld F.LBX_OWNER.MISSED 0
  let c := { c with lbx := { c.lbx with renewed := false, nonce := none } }
  c.endSession.ownerChange idx

/-! ### Stalls for Bus Master Enable (R120 to R123) -/

/-- A request joins the stalled ones of its partition; `PartH.stalled` of entry 32 is the internal root's. -/
def Chip.stall (c : Chip) (k : Copy) : Chip := c.updPart (k.part.getD 32) fun h => { h with stalled := h.stalled ++ [k] }

/-- The partitions that requests of the device may be stalled for, 32 for the internal root. -/
def stallParts : List Nat := List.range 33

/-- A stalled request that a test names is no longer stalled. -/
def Chip.unstallIf (c : Chip) (f : Copy → Bool) : Chip :=
  stallParts.foldl (fun c p =>
    if (c.part p).stalled.any f then c.updPart p fun h => { h with stalled := h.stalled.filter fun k => !f k } else c) c

/-- The place of a Letterbox's request in the order of the stalled ones (R503): a read of FW_LOAD_HOST, or the cycle of an
LPB_CONFIG. -/
def boxMark (n : Nat) (kind : PktKind) (part : Option Nat) : Copy :=
  { id := n + 1, pid := 0, pkt := { kind }, src := .firmware, part, dest := .mgmt, stamp := 0, cells := 0, charge := .none }

/-- A stalled request is the mark of a Letterbox. -/
def Copy.ofBox (k : Copy) (n : Nat) : Bool := k.src == .firmware && k.id == n + 1

/-- A Letterbox's request is stalled for a partition: the command shows MASTER_OFF (R503). -/
def Chip.stallBox (c : Chip) (n : Nat) (kind : PktKind) (part : Option Nat) : Chip :=
  let c := c.setFld F.LBX_STATUS.MASTER_OFF 1 n
  if (c.part (part.getD 32)).stalled.any fun k => k.ofBox n then c else c.stall (boxMark n kind part)

/-- The opcode of a command. -/
def boxOp (ws : List Word) : Nat := match ws with | h :: _ => wget h 31 24 | [] => 0

/-- The CLAIM of a Letterbox awaits the end of the election (R507). -/
def Chip.claiming (c : Chip) (n : Nat) : Bool := boxOp (c.box n).cmd == 2 && !(c.box n).todo && (c.box n).result.isNone

/-- A reset reaches a Letterbox (R493, Table 15.11): its command ends without acknowledgement, its window takes its reset
values. What the command has done already stands: its sender stays a candidate (DEDUCED, log entry 33). -/
def Chip.resetBox (c : Chip) (n : Nat) : Chip :=
  let c := c.unstallIf fun k => k.ofBox n
  let c := { c with lbx := { c.lbx with
    boxes := c.lbx.boxes.erase n, order := c.lbx.order.filter (· != n), modeSet := c.lbx.modeSet.filter (· != n),
    load := c.lbx.load.filter fun h => h.box != n,
    hoFrom := c.lbx.hoFrom.filter fun m => m != n } }
  let c := ((c.setReg .LBX_STATUS 0 n).setReg .LBX_ACK 0 n).setReg .LBX_CTL
    (RegKey.reset ⟨.LBX_CTL, n, 0⟩) n
  if c.flag F.LBX_OWNER.HO_PEND && c.fld F.LBX_OWNER.HO_TARGET == n then c.cancelHandover else c

/-- A reset of a partition's function reaches its Letterbox, its lease and a handover to it (R493, R508). -/
def Chip.resetBoxOf (c : Chip) (p : Nat) : Chip :=
  let c := c.resetBox p
  if c.owner? == some p then c.lapse else c

end Sys2Proof.Machine
end

