-- ==== Sys2Proof/Machine/Clamps.lean ====
section
/-! DEFINITION. When a register accepts a write, and the clamps that its own rule adds to the plain legal ranges (R504, R620), with
the readings of state that these rest on. -/

namespace Sys2Proof.Machine

/-! ### What the conditions and clamps read -/

/-- The state of a Flacon (Table 7.7): 0 FREE, 1 ACTIVE, 2 DRAINING, 3 SQUASHING, 4 RETIRING. -/
def Chip.flcState (c : Chip) (f : Nat) : Nat := c.fld F.GLB_FLC_A.STATE f

/-- DISABLED (Table 13.3). -/
def fuDisabled : Nat := 0

/-- EMPTY. -/
def fuEmpty : Nat := 1

/-- DEBOUNCE. -/
def fuDebounce : Nat := 2

/-- WAIT_REQ. -/
def fuWaitReq : Nat := 3

/-- WAIT_SLOT. -/
def fuWaitSlot : Nat := 4

/-- PRECHARGE. -/
def fuPrecharge : Nat := 5

/-- RAMP. -/
def fuRamp : Nat := 6

/-- QUALIFY. -/
def fuQualify : Nat := 7

/-- ON. -/
def fuOn : Nat := 8

/-- PREOFF. -/
def fuPreoff : Nat := 9

/-- DISCHARGE. -/
def fuDischarge : Nat := 10

/-- COOLDOWN. -/
def fuCooldown : Nat := 11

/-- LATCHED. -/
def fuLatched : Nat := 12

/-- The state of a channel. -/
def Chip.fuState (c : Chip) (s : Nat) : Nat := c.fld F.FUS_CHAN_STATUS.STATE s

/-- A channel may be configured (R463). -/
def Chip.fuConfig (c : Chip) (s : Nat) : Bool := c.fuState s ≤ fuWaitReq

/-- The class of a channel: Class P. -/
def Chip.fuP (c : Chip) (s : Nat) : Bool := c.flag F.FUS_CHAN_CFG.CLASS s

/-- Table 13.2 on the word of a channel register. -/
def fuClamp (p : Bool) (r : Reg) (n : Nat) : Nat :=
  let put (hi lo mn mx n : Nat) : Nat :=
    n - bits n hi lo * 2 ^ lo + clampN mn mx (bits n hi lo) * 2 ^ lo
  match r with
  | .FUS_CHAN_CFG => put 15 0 3000 (if bit n 30 then 56000 else 12600) n
  | .FUS_CHAN_LIM => put 8 0 1 (if p then 480 else 60) (put 31 16 100 (if p then 48000 else 6000) n)
  | .FUS_CHAN_RAMP => put 15 0 50 (if p then 24000 else 6000) n
  | _ => n

/-- A field of a job's registers, by 32 t + j. -/
def Chip.jfld (c : Chip) (f : Fld) (j : Nat) : Nat := c.fld f (j / 32) (j % 32)

/-- The chip-wide numbers of the engines of a job's set. -/
def Chip.jobEngines (c : Chip) (j : Nat) : List Nat :=
  (rangeFrom (c.jfld F.ACD_JOB_SET.FIRST j) (c.jfld F.ACD_JOB_SET.COUNT j)).map (· + 128 * (j / 32))

/-- A job is enabled. -/
def Chip.jobEn (c : Chip) (j : Nat) : Bool := c.jfld F.ACD_JOB_CFG.EN j == 1

/-- The jobs of a tile. -/
def tileJobs (t : Nat) : List Nat := rangeFrom (32 * t) 32

/-- The enabled job whose set holds an engine. -/
def Chip.jobOf? (c : Chip) (e : Nat) : Option Nat :=
  (tileJobs (e / 128)).find? fun j => c.jobEn j && (c.jobEngines j).elem e

/-- The bank in effect. -/
def Chip.gclBank (c : Chip) (n : Nat) : Nat := c.fld F.SCH_GCL_STATUS.ACTIVE_BANK n

/-- The fields of a register that are accepted only in modes 0x9 and 0xA (R298). -/
def schRestricted (r : Reg) : List (Nat × Nat) :=
  match r with
  | .SCH_NOTE_MAP => [(15, 0)]
  | .SCH_FLOW_MAP => [(31, 31), (12, 0)]
  | .SCH_Q_CFG => [(31, 31), (28, 16)]
  | .SCH_CTX_A => [(31, 29), (26, 26), (12, 0)]
  | _ => []

/-- SDS_LN_CTL: test patterns and loopback read 0 outside modes 0x9 and 0xA (R76). -/
def Chip.lnCtlClamp (c : Chip) (n : Nat) : Nat := if c.configMode then n else n / 65536 * 65536 + n % 256 +
  bits n 15 12 * 4096

/-- The clamp of R67 on a pair of magnitudes. -/
def clampTx (pre post : Nat) : Nat × Nat :=
  let pre := min pre 12
  let post := min post 16
  (pre, if pre + post > 16 then 16 - pre else post)

/-- The clamp of a word written to SDS_LN_TXEQ, with C_MAIN derived. -/
def txeqClamp (n : Nat) : Nat :=
  let q := clampTx (bits n 15 12) (bits n 20 16)
  bits n 31 31 * 2 ^ 31 + bits n 26 24 * 2 ^ 24 + q.2 * 2 ^ 16 + q.1 * 2 ^ 12

/-- TIM runs free (R306). -/
def Chip.timFree (c : Chip) : Bool := c.flag F.TIM_CFG.SRC

/-- The highest TARGET of an action kind (Table 9.4). -/
def actTop : Nat → Option Nat
  | 1 => some 15 | 2 => some 23 | 3 => some 11 | 4 => some 23 | _ => none

/-- The clamps of Table 9.4 on KIND, TARGET and OP at their places in a word. -/
def actClamp (kLo tHi tLo oLo n : Nat) : Nat :=
  let k0 := bits n (kLo + 3) kLo
  let k := if 7 ≤ k0 then 0 else k0
  let t0 := bits n tHi tLo
  let t := match actTop k with | some m => min t0 m | none => t0
  let o0 := bits n (oLo + 1) oLo
  let o := if (k = 1 || k = 2) && o0 = 3 then 2 else o0
  n - k0 * 2 ^ kLo + k * 2 ^ kLo - t0 * 2 ^ tLo + t * 2 ^ tLo - o0 * 2 ^ oLo + o * 2 ^ oLo

/-- The word with a field clamped to a largest value. -/
def capField (n hi lo top : Nat) : Nat := n - bits n hi lo * 2 ^ lo + min (bits n hi lo) top * 2 ^ lo

/-- The clamps of TIM_MTX_A: the action codes, and the line of a rule that matches TRIG edges (Table 9.11). -/
def mtxClamp (n : Nat) : Nat := if bit n 30 then actClamp 12 7 0 10 n else capField (actClamp 12 7 0 10 n) 23 16 15

/-! ### Conditions and clamps -/

/-- A write is accepted under the condition of its register's home rule (R620). -/
def Chip.accepts (c : Chip) (k : RegKey) : Bool :=
  match k.reg with
  | .PRT_PORT_CFG | .PRT_HP_CFG | .PRT_FL_CFG | .PRT_FL_TIMER | .PRT_FL_CRED_A | .PRT_FL_CRED_B
  | .CEL_SHARED_CFG | .CEL_CLASS_CFG | .CEL_PORT_CFG | .FAB_ID | .FAB_SIDE
  | .GLB_PTN_CFG | .GLB_PTN_HOME | .GLB_PTN_RDP | .GLB_PTN_LEND
  | .LPB_CFG | .LPB_ARB | .LPB_UP_A | .LPB_UP_SBASE | .LPB_UP_HBASE_LO | .LPB_UP_HBASE_HI
  | .LPB_WIN_A | .LPB_WIN_HBASE_LO | .LPB_WIN_HBASE_HI | .LPB_WIN_SBASE => c.configMode
  | .GLB_FLC_A | .GLB_FLC_B | .GLB_FLC_C | .GLB_FLC_BASE_LO | .GLB_FLC_BASE_HI => c.flcState k.i == 0
  | .FUS_CHAN_LIM | .FUS_CHAN_RAMP | .FUS_CHAN_SENSE => c.fuConfig k.i
  | .ACD_CAP_A | .ACD_CAP_RID | .ACD_CAP_PASID | .ACD_CAP_WBASE_LO | .ACD_CAP_WBASE_HI | .ACD_CAP_WLEN =>
    !c.flag F.ACD_CAP_A.EN k.i k.j || !c.jobEn (32 * k.i + c.fld F.ACD_CAP_A.JOB k.i k.j)
  | .ACD_PS_INSN | .ACD_PS_DESC_A | .ACD_PS_DESC_B | .ACD_PS_SCALE_LO | .ACD_PS_SCALE_HI => (c.jobOf? k.i).isNone
  | .FLT_SIL_PROBE => c.silState == 0 || c.silState == 3
  | .TIM_SET_LO | .TIM_SET_HI => c.timFree
  | .TIM_ACT_TIME_LO | .TIM_ACT_TIME_HI => !c.flag F.TIM_ACT_A.ARM k.i
  | .SCH_GCL_BASE_LO | .SCH_GCL_BASE_HI => !(k.j == c.gclBank k.i || c.flag F.SCH_GCL_STATUS.PENDING k.i)
  | _ => true

/-- What a field table says a write clears, without a clamp. -/
def Chip.cleared (_c : Chip) (k : RegKey) (n : Nat) : Nat :=
  match k.reg with
  | .ACD_JOB_LEN => n - bits n 17 16 * 2 ^ 16 - n % 4
  | .ACD_JOB_DST => clrBit (clrBit (clrBit (clrBit n 6) 14) 22) 30
  | .FAB_ID => if n % 65536 = 0 then clrBit n 31 else n
  | _ => n

/-- The clamps that a register's own rule adds to the plain ranges. -/
def Chip.clampTo (c : Chip) (k : RegKey) (n : Nat) : Nat :=
  match k.reg with
  | .SDS_LN_CTL => c.lnCtlClamp n
  | .PRT_PORT_CFG => n - bits n 23 20 % 2 ^ bits n 27 25 * 2 ^ 20
  | .PRT_FL_CFG => if bits n 31 30 = 1 then n - bits n 29 27 * 2 ^ 27 else n
  | .CEL_PORT_CFG => n - bits n 30 16 * 2 ^ 16 + max (bits n 30 16) (bits n 11 0) * 2 ^ 16
  | .FAB_DRT_A => if c.opMode = 8 then n else clrBit n 30
  | .GLB_FLC_A => capField n 18 12 (if bit n 28 then 11 else 95)
  | .GLB_FLC_C => n - n % 2 ^ (c.fld F.GLB_FLC_A.SIZE k.i - 12)
  | .ACD_DST_A => if bits n 11 10 = 3 then n - 3 * 2 ^ 10 else n
  | .ACD_PS_DESC_A => if bits n 13 12 = 3 then n - 3 * 2 ^ 12 else n
  | .FUS_CHAN_LIM | .FUS_CHAN_RAMP => fuClamp (c.fuP k.i) k.reg n
  | .LPB_WIN_A =>
    let s := bits n 23 18
    n - s * 2 ^ 18 + (if bit n 30 then clampN 8 16 s else clampN 12 32 s) * 2 ^ 18
  | .FLT_LOG_CONS =>
    let p := c.fld F.FLT_LOG_PROD.PROD
    if 1024 < (p + 2048 - n % 2048) % 2048 then n - n % 2048 + p else n
  | .TCT_EVT_CFG => if unitEvent k.i (n % 256) then n else n - n % 256
  | .CTR_SEL => if unitSize (n % 4096) = 0 then n - n % 4096 else n
  | .FLT_SIL_PROBE => if unitSize (bits n 27 16) = 0 then n - bits n 27 16 * 2 ^ 16 else n
  | _ => n

/-- Segment base registers have the bits below their window's size cleared. -/
def Chip.segBase (c : Chip) (k : RegKey) (n : Nat) : Nat :=
  match k.reg with
  | .LPB_UP_SBASE => n - n % 2 ^ c.fld F.LPB_UP_A.SIZE
  | .LPB_WIN_SBASE => n - n % 2 ^ c.fld F.LPB_WIN_A.SIZE k.i
  | _ => n

/-- What a 64-bit pair becomes when a value is written, by its LO register: the bits that its rule clears. -/
def Chip.pairMask (c : Chip) (lo : RegKey) (n : Nat) : Nat :=
  match lo.reg with
  | .GLB_FLC_BASE_LO => n - n % 2 ^ c.fld F.GLB_FLC_A.SIZE lo.i
  | .SCH_GCL_BASE_LO => n - n % 8
  | .ACD_CAP_WBASE_LO | .ACD_DST_BASE_LO => n - n % 64
  | .ACD_DST_RPT_LO => n - n % 16
  | .LPB_UP_HBASE_LO => n - n % 2 ^ c.fld F.LPB_UP_A.SIZE
  | .LPB_WIN_HBASE_LO => n - n % 2 ^ c.fld F.LPB_WIN_A.SIZE lo.i
  | _ => n

/-- A shadow bank register of a gate list is closed: its bank is in effect, or a switch waits (R321). -/
def Chip.gclClosed (c : Chip) (k : RegKey) : Bool :=
  (if k.reg = .SCH_GCL_ENT then k.j / 256 else k.j) == c.gclBank k.i || c.flag F.SCH_GCL_STATUS.PENDING k.i

/-- The word that a register with RWX fields alone would hold after a write by the Owner at the expert level: the old one where
its rule does not accept the write. R12 counts a dropped write by it. -/
def Chip.wouldHold (c : Chip) (k : RegKey) (v : Nat) : Nat :=
  let old := (c.regs.get k).toNat
  let asked := k.reg.clampRanges (c.segBase k (c.cleared k v))
  let keep (n : Nat) (f : Nat × Nat) : Nat :=
    if c.configMode then n else n - bits n f.1 f.2 * 2 ^ f.2 + bits old f.1 f.2 * 2 ^ f.2
  if !c.accepts k then old
  else match k.reg with
    | .SDS_LN_TXEQ => txeqClamp asked
    | .TIM_MTX_A => mtxClamp asked
    | .SCH_GCL_LEN | .SCH_GCL_ENT => if c.gclClosed k then old else asked
    | .TIM_ACT_B | .TIM_ACT_PERIOD | .TIM_ACT_COUNT | .TIM_ACT_MASK =>
      if c.flag F.TIM_ACT_A.ARM k.i then old
      else if k.reg = .TIM_ACT_PERIOD && 1 ≤ asked && asked ≤ 999 then 1000 else asked
    | .TIM_RATE_ADJ | .TIM_OFS_ADJ => if c.timFree then asked else old
    | .FUS_CHAN_CFG => if c.fuConfig k.i then fuClamp false .FUS_CHAN_CFG asked else bits asked 31 31 * 2 ^ 31 + old % 2 ^ 31
    | .GLB_TILE_EN => if c.configMode then asked else old
    | r =>
      match r.hiOf, r.loOf with
      | some hi, _ => c.pairMask k ((c.regs.get { k with reg := hi }).toNat * 2 ^ 32 + asked) % 2 ^ 32
      | _, some lo => c.pairMask { k with reg := lo } (asked * 2 ^ 32 + (c.regs.get { k with reg := lo }).toNat) / 2 ^ 32
      | none, none => if r.block == .sch then (schRestricted r).foldl keep asked else c.clampTo k asked

/-- The tile of a port is enabled. -/
def Chip.tileEn (c : Chip) (t : Nat) : Bool := bit (c.fld F.GLB_TILE_EN.TILE_EN) t

end Sys2Proof.Machine
end

