-- ==== Sys2Proof/Machine/Access.lean ====
section
/-! DEFINITION. What every write of a register passes before the register's own rule: byte enables,
ownership, expert level, gate 109 and the locks of the gate rules (R4, R12, R13, R392, R397, R398). -/

namespace Sys2Proof.Machine

/-- The master and colour of an access (Table 11.2): a host carries the colour of its partition. -/
def Chip.standingOf (c : Chip) (a : Access) : Standing :=
  match a.st with
  | some st => st
  | none =>
  if a.viaFw then { master := .firmware, colour := 0 }
  else match a.who with
    | .part p => { master := .host, colour := c.fld F.GLB_PTN_CFG.COLOUR p.val }
    | .debug => { master := .debug, colour := 0 }
    | _ => { master := .firmware, colour := 0 }

/-- The partition that a capture of an access names. -/
def Access.part? (a : Access) : Option Nat :=
  match a.who with
  | .part p => some p.val
  | _ => none

/-- An access as gate 109 judges it. -/
def Chip.gateView (c : Chip) (a : Access) (off : Nat) (write : Bool) : GateAccess :=
  { st := c.standingOf a, addr := off, reads := !write, writes := write, rid := a.rid, part := a.part? }

/-- The LO value held for a pair, by its HI register (R6). -/
def Chip.dropHeld (c : Chip) (k : RegKey) : Chip :=
  match k.reg.loOf with
  | some lo => { c with heldLo := c.heldLo.filter fun e => e.1 != { k with reg := lo } }
  | none => c

/-- What becomes of a write before its register's own rule: it passes, it is dropped, or a gate denies it. -/
inductive Pass where
  | ok | dropped | denied (reason : Nat)
  deriving DecidableEq, Repr, Inhabited

/-- A field of the GAT block that only the Owner at the expert level or firmware writes (R398). -/
def Reg.gatWritable (r : Reg) : Bool :=
  r.block == .gat && r.fields.any fun f => decide (f.acc ∈ [Acc.rwl, .w1c, .w1s, .wo])

/-- A write at an offset passes to the register's own rule, or is dropped and counted: the partial write (R4), the
write of a requester that may not write (R13), the write that only RWX fields could take from a requester below the
expert level (R12), the write of the GAT block and of FLT_FORCE by such a requester (R398, R486), the write that gate
109 denies (R392), and the write that reaches a locked field of the gate rules (R398). -/
def Chip.passAt (c : Chip) (a : Access) (k : RegKey) (off : Nat) (v : Word) : Pass × Chip :=
  if !a.full || !c.isOwner a.who || ((k.reg.gatWritable || k.reg == .FLT_FORCE) && !c.isExpert a.who) then (.dropped, (c.countDropped).dropHeld k)
  else if k.reg.rwxOnly && !c.isExpert a.who then
    (.dropped, (if k.reg.rwxChanges (c.regs.get k).toNat (c.wouldHold k v.toNat) then c.countDropped else c).dropHeld k)
  else
    match c.gate 109 (c.gateView a off true) with
    | (some r, c) => (.denied r, c)
    | (none, c) =>
      match c.gatLock? k with
      | some (g, r) => (.dropped, (c.capture g 7 r (c.gateView a (off - 0x800000) true)).dropHeld k)
      | none => (.ok, c)

/-- A denied request of a host is logged as Unsupported Request in the AER of its upstream port (R404); a read is non-posted
(R623). -/
def Chip.logDenied (c : Chip) (a : Access) (write : Bool) : Chip :=
  match (if a.viaFw || a.st.isSome then none else a.part?).bind c.upPort? with
  | some u => c.aer u aerUr (some { kind := if write then .memWr else .memRd, rid := a.rid, len := 4 })
  | none => c

/-- A write that passes takes its register's own effect. -/
def Chip.guardWrite (c : Chip) (a : Access) (k : RegKey) (t : Nat) (v : Word) (f : Chip → Chip) : Chip :=
  match c.passAt a k (k.addr t) v with
  | (.ok, c) => f c
  | (.dropped, c) => c
  | (.denied _, c) => c.logDenied a true

/-- Storing a write field by field (R8), clamped to its legal values (R504): `special` adds the clamps that the
register's own rule states. A write that the clamps change counts once in the block, and one that would have
changed an RWX field below the expert level counts in DROPPED (R12). -/
def Chip.storeReg (c : Chip) (a : Access) (k : RegKey) (t : Nat) (v : Word) (special : Nat → Nat := id) : Chip :=
  let expert := c.isExpert a.who
  let old := (c.regs.get k).toNat
  let asked := v.toNat
  let kept := special (k.reg.clampRanges asked)
  let c := { c with regs := c.regs.set k (word (k.reg.writeWord expert old kept)) }
  let c := if k.reg.clampSeen expert asked kept then c.countClamp k t else c
  if !expert && k.reg.rwxChanges old kept then c.countDropped else c

/-- Storing an access of a register that has a row of its own, at the register's first address. -/
def Chip.ownWrite (c : Chip) (a : Access) (k : RegKey) (v : Word) (f : Chip → Chip) : Chip :=
  c.guardWrite a k k.tile v f

/-- A read judged by gate 109. A denied read gives no data: it is answered with Unsupported Request, which the AER of a
host's upstream port logs (R404). -/
def Chip.guardRead (c : Chip) (a : Access) (k : RegKey) (t : Nat) (f : Chip → Chip) : Chip :=
  match c.gate 109 (c.gateView a (k.addr t) false) with
  | (some _, c) => (c.logDenied a false).answering []
  | (none, c) => f c

/-- A read has the effects that its fields state: all four byte enables, and a requester for which BAR0 is not read-only
(R4, R618). -/
def Chip.readActs (c : Chip) (a : Access) : Bool := a.full && c.isOwner a.who

/-- A bit of the word written. -/
def wbit (v : Word) (i : Nat) : Bool := bit v.toNat i

end Sys2Proof.Machine
end

