-- ==== Sys2Proof/Machine/Memory.lean ====
section
/-! DEFINITION. The addressed memories: the Pantry of every tile (R344) and the Attic. A memory is a list of
(address, byte) pairs with addresses strictly rising and no byte equal to what an unlisted address reads as
(assumption 5). -/

namespace Sys2Proof.Machine

/-- What an unlisted address reads as (assumption 5: the spec gives the memories no reset contents). -/
def emptyByte : Byte := 0

/-- Reading one byte. -/
def Cells.get : List Host.Cell → Nat → Byte
  | [], _ => emptyByte
  | (a', b) :: m, a => if a' = a then b else Cells.get m a

/-- The list without an address. -/
def Cells.erase : List Host.Cell → Nat → List Host.Cell
  | [], _ => []
  | (a', b) :: m, a => if a' = a then Cells.erase m a else (a', b) :: Cells.erase m a

/-- The list with a byte at an address, in its place. -/
def Cells.insert : List Host.Cell → Nat → Byte → List Host.Cell
  | [], a, v => [(a, v)]
  | (a', b) :: m, a, v =>
    if a' = a then (a, v) :: m
    else if a < a' then (a, v) :: (a', b) :: m
    else (a', b) :: Cells.insert m a v

/-- Writing one byte: a byte equal to what an unlisted address reads as leaves no entry. -/
def Cells.put (m : List Host.Cell) (a : Nat) (v : Byte) : List Host.Cell :=
  if v = emptyByte then Cells.erase m a else Cells.insert m a v

/-- Writing bytes from an address on. -/
def Cells.putAll : List Host.Cell → Nat → List Byte → List Host.Cell
  | m, _, [] => m
  | m, a, v :: vs => Cells.putAll (Cells.put m a v) (a + 1) vs

/-- Reading n bytes from an address on. -/
def Cells.getAll (m : List Host.Cell) (a n : Nat) : List Byte := (rangeFrom a n).map (Cells.get m)

/-- The canonical form: addresses above a bound, strictly rising, no byte at its default. -/
def Cells.okFrom : Nat → List Host.Cell → Bool
  | _, [] => true
  | lo, (a, b) :: m => Nat.ble lo a && b != emptyByte && Cells.okFrom (a + 1) m

/-- A memory is in canonical form. -/
def Cells.wf (m : List Host.Cell) : Bool := Cells.okFrom 0 m

/-- Every memory is in canonical form. -/
def Memory.wf (m : Mem) : Bool := Cells.wf m.pantry && Cells.wf m.attic && Cells.wf m.fw

/-- Bytes of a Pantry slice (R344). -/
def pantrySize : Nat := 0x200000

/-- Where byte x of the Pantry of tile t stands. -/
def pantryAddr (t x : Nat) : Nat := t * pantrySize + x

/-- Reading n bytes of a Pantry. -/
def Mem.pantryRead (m : Mem) (t x n : Nat) : List Byte := Cells.getAll m.pantry (pantryAddr t x) n

/-- Writing bytes to a Pantry. -/
def Mem.pantryWrite (m : Mem) (t x : Nat) (bs : List Byte) : Mem :=
  { m with pantry := Cells.putAll m.pantry (pantryAddr t x) bs }

/-- A little-endian word of a Pantry. -/
def Mem.pantryWord (m : Mem) (t x : Nat) : Nat := leNat (m.pantryRead t x 4)

/-- The device with its memories, for the operations that touch both. -/
structure Dev where
  mem : Mem
  chip : Chip
  deriving DecidableEq, Repr, Inhabited

/-- The device with its chip changed. -/
def Dev.onChip (d : Dev) (f : Chip → Chip) : Dev := { d with chip := f d.chip }

/-- A write of a register whose effect reaches the memories too. -/
def Dev.ownWrite (d : Dev) (a : Access) (k : RegKey) (v : Word) (f : Dev → Dev) : Dev :=
  match d.chip.passAt a k (k.addr k.tile) v with
  | (.ok, c) => f { d with chip := c }
  | (.dropped, c) => { d with chip := c }
  | (.denied _, c) => { d with chip := c.logDenied a true }

/-- Writing bytes to a Pantry. -/
def Dev.pantryWrite (d : Dev) (t x : Nat) (bs : List Byte) : Dev := { d with mem := d.mem.pantryWrite t x bs }

end Sys2Proof.Machine
end

