-- ==== Sys2Proof/Machine/ResetOps.lean ====
section
/-! DEFINITION. What the reset events do to register fields (R14 to R17, Table 0.8, Table 16.9). -/

namespace Sys2Proof.Machine

/-- The reset events as far as the survival codes tell them apart: POR, RST, and PFR with everything below it. -/
inductive ResetEv where
  | por | rst | low
  deriving DecidableEq, Repr, Inhabited

/-- A field with a survival code keeps its value through an event (R14, R15). -/
def ResetEv.keeps : ResetEv → Surv → Bool
  | _, .por => true
  | .por, _ => false
  | _, .rst => true
  | .rst, _ => false
  | _, .pfr | _, .pfrAtt => true
  | _, .none => false

/-- The word of a register instance after an event, field by field. -/
def RegKey.afterReset (k : RegKey) (ev : ResetEv) (old : Word) : Word :=
  let r := k.reset.toNat
  let o := old.toNat
  word (k.reg.fields.foldl (fun n f =>
    n + bits (if ev.keeps f.surv then o else r) f.hi f.lo * 2 ^ f.lo) 0)

/-- Every entry of the register file through a change of its word; one at its reset value is dropped. -/
def RegFile.change (f : RegKey → Word → Word) : RegFile → RegFile
  | [] => []
  | e :: m =>
    let w := f e.1 e.2
    if w = e.1.reset then (RegFile.change f m).erase e.1 else (e.1, w) :: RegFile.change f m

/-- The registers that a test names go through a reset event; held LO halves and snapshots of them are dropped. -/
def Chip.resetRegs (c : Chip) (ev : ResetEv) (sel : RegKey → Bool) : Chip :=
  { c with regs := c.regs.change fun k w => if sel k then k.afterReset ev w else w
           heldLo := c.heldLo.filter fun e => !sel e.1
           snaps := c.snaps.filter fun e => !sel e.1 }

/-- The registers of a lane (Table 16.9, SDS). -/
def isLaneReg (k : RegKey) (l : Nat) : Bool :=
  k.reg.block == .sds && k.i == l &&
    !decide (k.reg ∈ [Reg.SDS_REF_CFG, .SDS_REF_STATUS, .SDS_CLAMP_SEEN, .SDS_QUAD_STATUS])

/-- The registers of a port slot (Table 16.9, PRT). -/
def isPortReg (k : RegKey) (n : Nat) : Bool :=
  k.reg.block == .prt && k.i == n && k.reg != .PRT_CLAMP_SEEN

/-- The scheduler registers of a port (Table 16.9, SCH). -/
def isSchPortReg (k : RegKey) (n : Nat) : Bool :=
  k.reg.block == .sch && k.i == n &&
    !decide (k.reg ∈ [Reg.SCH_CLAMP_SEEN, .SCH_METER_DROP, .SCH_METER_HOLD, .SCH_CTX_A, .SCH_CTX_CIR, .SCH_CTX_CBS,
      .SCH_CTX_PIR, .SCH_CTX_PBS, .SCH_CTX_GREEN, .SCH_CTX_YELLOW, .SCH_CTX_RED])

end Sys2Proof.Machine
end

