-- ==== Sys2Proof/Machine/LaneOps.lean ====
section
/-! DEFINITION. The shared operations of the lanes (spec/02_serdes.md): ownership, lane states, receiver
adaptation, transmit equaliser and eye monitor. The meanings of the lane commands stand in
Machine/Lane.lean. -/

namespace Sys2Proof.Machine

/-- Lane states (Table 2.3). -/
def lnOff : Nat := 0
/-- ACTIVE. -/
def lnActive : Nat := 1
/-- STANDBY. -/
def lnStandby : Nat := 2
/-- DEEP. -/
def lnDeep : Nat := 3
/-- ENTERING. -/
def lnEntering : Nat := 4
/-- EXITING. -/
def lnExiting : Nat := 5

/-- The tile of a lane (Table 2.1). -/
def laneTile (l : Nat) : Nat := l / 16

/-- The lanes that a port's configuration gives it (R88). -/
def Chip.portLanes (c : Chip) (n : Nat) : List Nat :=
  rangeFrom (16 * tileOf n + c.fld F.PRT_PORT_CFG.LANE_BASE n) (2 ^ c.fld F.PRT_PORT_CFG.WIDTH n)

/-- The tile lanes of a link of 2^w lanes, by logical lane (R91). -/
def Chip.logicalLanes (c : Chip) (n w : Nat) (rev : Bool) : List Nat :=
  let all := c.portLanes n
  let own := if rev then all.reverse else all
  own.take (2 ^ w)

/-- The enabled port that owns a lane. -/
def Chip.laneOwner? (c : Chip) (l : Nat) : Option Nat :=
  (rangeFrom (8 * laneTile l) 8).find? fun n => c.portEn n && (c.portLanes n).elem l

/-- A lane of an enabled Fleren port. -/
def Chip.laneFleren (c : Chip) (l : Nat) : Bool :=
  match c.laneOwner? l with | some n => c.isFleren n | none => false

/-- A lane of an enabled PCI Express port. -/
def Chip.lanePcie (c : Chip) (l : Nat) : Bool :=
  match c.laneOwner? l with | some n => c.isPcie n | none => false

/-- The state of a lane. -/
def Chip.laneState (c : Chip) (l : Nat) : Nat := c.fld F.SDS_LN_STATUS.STATE l

/-- The quads of a tile that are powered (R61): a lane of the quad belongs to a configured port. A lane that is armed for
wake (R547) belongs to one, so that no other lane keeps its quad powered. -/
def Chip.quadOn (c : Chip) (t : Nat) : Nat :=
  ((List.range 4).map fun q =>
    if (rangeFrom (16 * t + 4 * q) 4).any fun l => (c.laneOwner? l).isSome then 2 ^ q else 0).sum

/-! ### Eye monitor -/

/-- A measurement in progress ends ABORTED; the counts hold the values reached, which the spec leaves to the
measurement: free values within the samples that the DWELL in effect allows (R75). -/
def Chip.eyeAbort (c : Chip) (l : Nat) : Chip :=
  if c.fld F.SDS_LN_EYE_STAT.STATE l = 1 then
    let n := c.freeVal % (2 ^ wget (c.lane l).probe 27 22 + 1)
    let c := (c.drawn).setPair .SDS_LN_EYE_CNT_LO .SDS_LN_EYE_CNT_HI n l
    let c := ((c.drawn).setPair .SDS_LN_EYE_ERR_LO .SDS_LN_EYE_ERR_HI (c.freeVal % (n + 1)) l)
    c.setFld F.SDS_LN_EYE_STAT.STATE 3 l
  else c

/-! ### Adaptation (Table 2.6) -/

/-- ADAPT_STATE and the equaliser values are held by FREEZE (R71). -/
def Chip.frozen (c : Chip) (l : Nat) : Bool := c.flag F.SDS_LN_RXCTL.FREEZE l

/-- The adaptation state of a lane. -/
def Chip.adapt (c : Chip) (l : Nat) : Nat := c.fld F.SDS_LN_RXSTAT.ADAPT_STATE l

/-- Clearing the stored adaptation values. -/
def Chip.clearStored (c : Chip) (l : Nat) : Chip := c.updLane l fun h => { h with stored := none }

/-- Adaptation starts from COARSE with the stored values cleared. -/
def Chip.adaptCoarse (c : Chip) (l : Nat) : Chip :=
  if c.frozen l then c
  else ((c.clearStored l).setFld F.SDS_LN_RXSTAT.ADAPT_STATE 1 l).setFld F.SDS_LN_STATUS.CDR_LOCK 0 l

/-- The lane enters ACTIVE from DEEP or STANDBY: the stored values are loaded and adaptation enters FINE. From
FAILED the stored values were cleared on the way (Table 2.6). With FREEZE nothing of it happens, CDR_LOCK included (R71;
DESIGN CHOICE, log entry 52). -/
def Chip.adaptResume (c : Chip) (l : Nat) : Chip :=
  if c.frozen l then c
  else
    let c := if c.adapt l = 4 then c.clearStored l else c
    let c := match (c.lane l).stored with
      | some (ctle, vga) => (c.setFld F.SDS_LN_RXSTAT.CTLE ctle l).setFld F.SDS_LN_RXSTAT.VGA vga l
      | none => c
    (c.setFld F.SDS_LN_RXSTAT.ADAPT_STATE 2 l).setFld F.SDS_LN_STATUS.CDR_LOCK 1 l

/-! ### Transmit equaliser -/

/-- A legal coefficient set (R62). -/
def legalTx (pre main post : Nat) : Bool := pre + main + post == 48 && Nat.ble pre 12 && Nat.ble (pre + post) 16

/-- A fraction of full swing in thousandths as a magnitude in 1/48, halves rounded up (R63). -/
def presetTaps (thousandths : Nat) : Nat := (thousandths * 96 + 1000) / 2000

/-- Table 2.5: pre-cursor and post-cursor of a Fleren preset. -/
def flPreset (i : Nat) : Nat × Nat :=
  match i with
  | 0 => (0, 0) | 1 => (0, 6) | 2 => (0, 10) | 3 => (0, 16)
  | 4 => (4, 6) | 5 => (4, 10) | 6 => (6, 8) | _ => (8, 8)

/-- The set is a preset of PCI Express or of Fleren. -/
def TxSet.isPreset (x : TxSet) : Bool := x.source == 0 || x.source == 2

/-- The index that PRESET shows for a set (Table 2.9): its own, the last one applied under a partner's coefficients, 0 for
a manual set. -/
def TxSet.index (x : TxSet) (last : Nat) : Nat := if x.isPreset then x.preset else if x.source = 1 then last else 0

/-- A coefficient set takes effect (R68, SDS_LN_TXEQ_STAT). -/
def Chip.applyTx (c : Chip) (l : Nat) (x : TxSet) : Chip :=
  let i := x.index (c.lane l).preset
  let c := if x.isPreset then c.updLane l fun h => { h with preset := x.preset } else c
  ((((c.setFld F.SDS_LN_TXEQ_STAT.SOURCE x.source l).setFld F.SDS_LN_TXEQ_STAT.PRESET i l).setFld
    F.SDS_LN_TXEQ_STAT.APP_PRE x.pre l).setFld F.SDS_LN_TXEQ_STAT.APP_POST x.post l).setFld
    F.SDS_LN_TXEQ_STAT.APP_MAIN (48 - x.pre - x.post) l

/-- The set that SDS_LN_TXEQ asks for (R63); none on a PCI Express lane in MODE 0, which follows the
equalisation procedure. -/
def Chip.txAsked? (c : Chip) (l : Nat) : Option TxSet :=
  if c.flag F.SDS_LN_TXEQ.MODE l then
    some { pre := c.fld F.SDS_LN_TXEQ.C_PRE l, post := c.fld F.SDS_LN_TXEQ.C_POST l, source := 3 }
  else if c.laneFleren l then
    let q := flPreset (c.fld F.SDS_LN_TXEQ.FL_PRESET l)
    some { pre := q.1, post := q.2, source := 2, preset := c.fld F.SDS_LN_TXEQ.FL_PRESET l }
  else none

/-! ### Lane states -/

/-- A lane leaves ACTIVE for another state: the receiver loses its lock, a measurement ends ABORTED, and
adaptation returns to IDLE with its stored values kept; FAILED is left at the next entry to ACTIVE. -/
def Chip.leaveActive (c : Chip) (l s : Nat) : Chip :=
  let c := c.eyeAbort l
  let c := if c.laneState l = lnActive && !c.frozen l && c.adapt l != 4 then
    c.setFld F.SDS_LN_RXSTAT.ADAPT_STATE 0 l else c
  ((c.setFld F.SDS_LN_STATUS.STATE s l).setFld F.SDS_LN_STATUS.CDR_LOCK 0 l).setFld F.SDS_LN_STATUS.SIG_DET 0 l

/-- A lane is placed in OFF: its rate reads off and its locks are lost; a write that an equalisation phase held stands in its
register. -/
def Chip.laneOff (c : Chip) (l : Nat) : Chip :=
  let c := match (c.lane l).txHeld with | some w => c.setReg .SDS_LN_TXEQ w l | none => c
  let c := if c.laneState l = lnOff then c else c.leaveActive l lnOff
  let c := (((c.setFld F.SDS_LN_STATUS.RATE 0xF l).setFld F.SDS_LN_STATUS.PLL_LOCK 0 l).setFld
    F.SDS_LN_STATUS.CDR_LOCK 0 l).setFld F.SDS_LN_STATUS.SIG_DET 0 l
  c.updLane l fun h => { h with exitHeld := false, txHeld := none, margining := false }

/-- A lane is placed in STANDBY, its clock generator running. -/
def Chip.laneStandby (c : Chip) (l : Nat) : Chip := c.leaveActive l lnStandby

/-- A lane becomes ACTIVE at a rate, its partner sending: from OFF adaptation starts from COARSE, from STANDBY or DEEP from
FINE. -/
def Chip.laneActivate (c : Chip) (l rate : Nat) : Chip :=
  let was := c.laneState l
  let old := c.fld F.SDS_LN_STATUS.RATE l
  let c := if old = rate then c else c.eyeAbort l
  let c := (((c.setFld F.SDS_LN_STATUS.STATE lnActive l).setFld F.SDS_LN_STATUS.PLL_LOCK 1 l).setFld
    F.SDS_LN_STATUS.RATE rate l).setFld F.SDS_LN_STATUS.SIG_DET 1 l
  let c := match c.txAsked? l with | some x => c.applyTx l x | none => c
  if was = lnActive then c
  else if was = lnOff then c.adaptCoarse l
  else c.adaptResume l

/-- A request for the deep lane state (R55): entry to DEEP, or STANDBY when DEEP_EN is 0. -/
def Chip.laneDeep (c : Chip) (l : Nat) : Chip :=
  if c.laneState l = lnActive || c.laneState l = lnStandby then
    if c.flag F.SDS_LN_PWR.DEEP_EN l then c.leaveActive l lnEntering else c.laneStandby l
  else c

/-- An exit from DEEP starts, or fails when the tile's reference does not run (R57, R59). -/
def Chip.laneExit (c : Chip) (l : Nat) : Chip :=
  if c.flag F.SDS_REF_STATUS.REF_OK (laneTile l) then c.setFld F.SDS_LN_STATUS.STATE lnExiting l
  else c.setFld F.SDS_LN_STATUS.EXIT_FAIL 1 l

/-- An exit request (R56, R57, R60). -/
def Chip.laneWake (c : Chip) (l : Nat) : Chip :=
  if c.laneState l = lnDeep then c.laneExit l
  else if c.laneState l = lnEntering then c.updLane l fun h => { h with exitHeld := true }
  else c

/-- An exit from DEEP has failed for want of a reference (R59). -/
def Chip.exitFailed (c : Chip) (l : Nat) : Bool := c.laneState l == lnDeep && c.flag F.SDS_LN_STATUS.EXIT_FAIL l

/-- The lanes of a port are placed in OFF. -/
def Chip.portLanesOff (c : Chip) (n : Nat) : Chip := (c.portLanes n).foldl (fun c l => c.laneOff l) c

/-! ### Writes of the lane registers -/

/-- The set that SDS_LN_TXEQ asks for takes effect. -/
def Chip.txFollow (c : Chip) (l : Nat) : Chip := match c.txAsked? l with | some x => c.applyTx l x | none => c

/-- C_MAIN follows the other two coefficients (Table 2.9). -/
def Chip.mainFollow (c : Chip) (l : Nat) : Chip :=
  c.setFld F.SDS_LN_TXEQ.C_MAIN (48 - c.fld F.SDS_LN_TXEQ.C_PRE l - c.fld F.SDS_LN_TXEQ.C_POST l) l

/-- SDS_LN_TXEQ after a write that reached it: clamped (R67), C_MAIN derived; the set takes effect. A write while the lane
is in an equalisation phase is held whole, over what an earlier one of the phase holds: the register and its MODE stay in
effect until the phase ends (R68; DEDUCED, log entry 15). -/
def Chip.writeTxeq (c : Chip) (a : Access) (l : Nat) (v : Word) (inEq : Bool) : Chip :=
  let k : RegKey := ⟨.SDS_LN_TXEQ, l, 0⟩
  let old := c.reg .SDS_LN_TXEQ l
  let c := c.setReg .SDS_LN_TXEQ (((c.lane l).txHeld).getD old) l
  let c := c.storeReg a k k.tile v txeqClamp
  let c := c.mainFollow l
  if inEq then (c.setReg .SDS_LN_TXEQ old l).updLane l fun h => { h with txHeld := some (c.reg .SDS_LN_TXEQ l) }
  else (c.updLane l fun h => { h with txHeld := none }).txFollow l

/-- SDS_LN_RXCTL after a write that reached it (R69, R71). RESTART leads to COARSE at once from every state, FAILED too, and
has no effect while FREEZE is 1: DEDUCED, log entry 15. -/
def Chip.writeRxctl (c : Chip) (a : Access) (l : Nat) (v : Word) : Chip :=
  let k : RegKey := ⟨.SDS_LN_RXCTL, l, 0⟩
  let c := c.storeReg a k k.tile v
  if wbit v 1 && !c.frozen l then (c.eyeAbort l).adaptCoarse l else c

/-- SDS_LN_EYE_CTL after a write that reached it (R74, R75). START prevails over ABORT in one write, and the DWELL of the
write that begins the measurement counts: DEDUCED, log entry 15. -/
def Chip.writeEye (c : Chip) (a : Access) (l : Nat) (v : Word) : Chip :=
  let k : RegKey := ⟨.SDS_LN_EYE_CTL, l, 0⟩
  let running := c.fld F.SDS_LN_EYE_STAT.STATE l == 1
  if wbit v 31 && running then c.countClamp k
  else
    let c := c.storeReg a k k.tile v
    if wbit v 31 then
      if (c.lane l).margining then c.setFld F.SDS_LN_EYE_STAT.STATE 5 l
      else if c.laneState l = lnActive && c.adapt l = 3 then
        (((c.setPair .SDS_LN_EYE_ERR_LO .SDS_LN_EYE_ERR_HI 0 l).setPair .SDS_LN_EYE_CNT_LO .SDS_LN_EYE_CNT_HI
          0 l).setFld F.SDS_LN_EYE_STAT.STATE 1 l).updLane l fun h => { h with probe := c.reg .SDS_LN_EYE_CTL l }
      else c.setFld F.SDS_LN_EYE_STAT.STATE 4 l
    else if wbit v 30 then c.eyeAbort l
    else c

/-- A Lane Margining at the Receiver command takes the monitor of a lane, or gives it up (R75, R103): at PAM4 rates it probes
the middle eye. The command exists at 16 GT/s and above (Table 3.1). -/
def Chip.margin (c : Chip) (l : Nat) (holds : Bool) : Chip :=
  let rate := c.fld F.SDS_LN_STATUS.RATE l
  if rate < 3 || 6 < rate then c
  else (c.eyeAbort l).updLane l fun h =>
    { h with margining := holds, probe := if holds && 5 ≤ rate then wset 0 29 28 1 else h.probe }

/-- Test patterns and loopback end on every lane (R77). -/
def Chip.endLaneTests (c : Chip) : Chip :=
  (c.regs.filter fun (e : RegKey × Word) => e.1.reg = .SDS_LN_CTL).foldl (fun c e => c.setReg .SDS_LN_CTL (wset e.2 11 8 0) e.1.i) c

end Sys2Proof.Machine
end

