-- ==== Sys2Proof/Machine/FlBase.lean ====
section
/-! DEFINITION. The shared operations of a Fleren link that need no other unit: sequence arithmetic, credits,
control blocks, link reset and the INIT exchange (spec/04_fleren_link.md). -/

namespace Sys2Proof.Machine

/-- Link states (PRT_FL_STATUS.LSTATE). -/
def flDisabled : Nat := 0
/-- HUNT. -/
def flHunt : Nat := 1
/-- ALIGN. -/
def flAlign : Nat := 2
/-- INIT. -/
def flInit : Nat := 3
/-- UP. -/
def flUpState : Nat := 4
/-- RETRAIN. -/
def flRetrain : Nat := 5
/-- LP. -/
def flLp : Nat := 6
/-- DOWN. -/
def flDown : Nat := 7

/-- d(a, b) of the chapter: (a − b) mod 65,536. -/
def seqD (a b : Nat) : Nat := (a + 65536 - b % 65536) % 65536

/-- The state of a Fleren link. -/
def Chip.lstate (c : Chip) (n : Nat) : Nat := c.fld F.PRT_FL_STATUS.LSTATE n

/-- The device with a Fleren link in a state. -/
def Chip.setLstate (c : Chip) (n s : Nat) : Chip := c.setFld F.PRT_FL_STATUS.LSTATE s n

/-- The generation in effect is F1 (R173). -/
def FlH.f1 (h : FlH) : Bool := wget h.cfg 31 30 == 1

/-- The reorder window (R144). -/
def FlH.window (h : FlH) : Nat := if h.f1 then 1 else 256

/-- PRT_FL_CFG.REPLAY_N and RETRAIN_M in effect. -/
def FlH.replayN (h : FlH) : Nat := wget h.cfg 26 23
/-- RETRAIN_M in effect; F1 has no retrain. -/
def FlH.retrainM (h : FlH) : Nat := if h.f1 then 0 else wget h.cfg 22 20
/-- ACK_EVERY in effect. -/
def FlH.ackEvery (h : FlH) : Nat := wget h.cfg 19 16
/-- LP_IDLE in effect; F1 ignores it. -/
def FlH.lpIdle (h : FlH) : Nat := if h.f1 then 0 else wget h.timer 5 0

/-- CRED_c in effect (R151). -/
def FlH.cred (h : FlH) (cls : Nat) : Nat :=
  if cls < 4 then wget h.credA (8 * cls + 7) (8 * cls) else wget h.credB (8 * (cls - 4) + 7) (8 * (cls - 4))

/-- b_link of R165 in nanoseconds. -/
def FlH.budget (h : FlH) : Nat :=
  let to_ := wget h.timer 31 24 * 100
  if h.f1 then (h.replayN + 1) * to_ + wget h.timer 13 6 * 500
  else (h.retrainM + 1) * (h.replayN + 1) * to_ + h.retrainM * (wget h.timer 23 14 * 1000)

/-- tx_next (R142). -/
def Chip.txNext (c : Chip) (n : Nat) : Nat := c.fld F.PRT_FL_SEQ.TX_NEXT n

/-- rx_commit (R142). -/
def Chip.rxCommit (c : Chip) (n : Nat) : Nat := c.fld F.PRT_FL_SEQ.RX_COMMIT n

/-- tx_old: the oldest parcel not covered by an ACK, or tx_next (R142). -/
def Chip.txOld (c : Chip) (n : Nat) : Nat :=
  match (c.flp n).replay with
  | p :: _ => p.seq
  | [] => c.txNext n

/-! ### Control blocks (R134 to R136) -/

/-- KIND (Table 4.2). -/
def CtlBlock.kind : CtlBlock → Nat
  | .idle => 0 | .parcel _ _ => 1 | .ack _ => 2 | .nak _ _ => 3 | .sack _ => 4 | .credit _ _ => 5 | .deskew _ _ _ => 6
  | .init _ _ => 7 | .lpi _ => 8 | .reset => 9

/-- BODY (Table 4.3): bits [26:8] of the payload. -/
def CtlBlock.body : CtlBlock → Nat
  | .idle => 0
  | .parcel cls seq => cls % 8 * 2 ^ 16 + seq % 2 ^ 16
  | .ack seq => seq % 2 ^ 16
  | .nak seq reason => reason % 8 * 2 ^ 16 + seq % 2 ^ 16
  | .sack seq => seq % 2 ^ 16
  | .credit cls count => cls % 8 * 2 ^ 16 + count % 2 ^ 16
  | .deskew lane width mcount => lane % 16 * 2 ^ 15 + width % 8 * 2 ^ 12 + mcount % 2 ^ 12
  | .init index value => index % 8 * 2 ^ 16 + value % 2 ^ 16
  | .lpi accept => b2n accept
  | .reset => 0

/-- Bits [63:8] of a control block's payload (Table 4.1). -/
def blockBits (crc : Nat) (bad : Bool) (kind body : Nat) : Nat :=
  crc % 2 ^ 32 * 2 ^ 32 + b2n bad * 2 ^ 31 + kind % 16 * 2 ^ 27 + body % 2 ^ 19 * 2 ^ 8

/-- CHECK of a control block (R135): over the seven bytes from [15:8] to [63:56]. -/
def checkOf (w : Nat) : Nat := crc8 ((leBytes 8 w).drop 1)

/-- The payload of a control block with the trailer that it carries, zeros when none is owed (R136). -/
def CtlBlock.payload (b : CtlBlock) (trail : Option (Nat × Bool)) : BitVec 64 :=
  let t := trail.getD (0, false)
  let w := blockBits t.1 t.2 b.kind b.body
  BitVec.ofNat 64 (w + checkOf w)

/-- The CHECK of a control block that has been received is correct (R134). -/
def BlockRest.ok (r : BlockRest) (kind body : Nat) : Bool :=
  checkOf (blockBits r.trailCrc.toNat r.trailBad kind body) == r.check.val

/-- The width of a Fleren link, in lanes. -/
def Chip.flWidth (c : Chip) (n : Nat) : Nat := 2 ^ c.fld F.PRT_PORT_CFG.WIDTH n

/-- A deskew marker leaves on every lane (R130). -/
def Chip.markers (c : Chip) (n : Nat) : Chip :=
  let m := (c.flp n).mcount
  let mark (i : Nat) : Out :=
    let b := CtlBlock.deskew i (c.fld F.PRT_PORT_CFG.WIDTH n) m
    .block n i b (b.payload none)
  (c.emitAll ((List.range (c.flWidth n)).map mark)).updFl n fun h => { h with mcount := (m + 1) % 4096 }

/-- k blocks of the block stream have been dealt to the lanes (R129); each lane's 16,384th block is a deskew marker, which
takes no place in the stream (R130). -/
def Chip.streamed (c : Chip) (n k : Nat) : Chip :=
  let per := 16383 * c.flWidth n
  let p := (c.flp n).pos + k
  if p < per then c.updFl n fun h => { h with pos := p }
  else (c.updFl n fun h => { h with pos := p - per }).markers n

/-- A control block leaves at its place in the block stream, with the trailer that is owed. -/
def Chip.sendBlock (c : Chip) (n : Nat) (b : CtlBlock) : Chip :=
  let h := c.flp n
  ((c.emit (.block n (h.pos % c.flWidth n) b (b.payload h.trail))).updFl n fun h => { h with trail := none }).streamed n 1

/-- The order in which due control blocks go (R145); the others are never due. -/
def CtlBlock.rank : CtlBlock → Nat
  | .reset => 0 | .nak _ _ => 1 | .ack _ => 2 | .sack _ => 3 | .credit _ _ => 4 | .init _ _ => 5 | .lpi _ => 6
  | .idle => 7 | .parcel _ _ => 7 | .deskew _ _ _ => 7

/-- A control block becomes due: an ACK or a CREDIT replaces one of its kind that still waits. -/
def FlH.addDue (h : FlH) (b : CtlBlock) : FlH :=
  let same (x : CtlBlock) : Bool :=
    match x, b with
    | .ack _, .ack _ => true
    | .credit c _, .credit d _ => c == d
    | _, _ => x == b
  { h with due := h.due.filter (fun x => !same x) ++ [b] }

/-- The control block that goes first (R145). -/
def FlH.firstDue? (h : FlH) : Option CtlBlock :=
  h.due.foldl (fun best b =>
    match best with
    | none => some b
    | some x => if b.rank < x.rank then some b else best) none

/-- The COUNT of a class (Table 4.3). -/
def FlH.creditCount (h : FlH) (cls : Nat) : Nat := (h.freed.get 0 cls + h.cred cls) % 65536

/-- CREDIT for every class becomes due (R152). -/
def FlH.creditAll (h : FlH) : FlH :=
  (List.range 8).foldl (fun h k => h.addDue (.credit k (h.creditCount k))) h

/-- The rate code of a Fleren port's lanes (Table 2.2). -/
def FlH.rate (h : FlH) : Nat := if !h.f1 && wget h.cfg 27 27 == 1 then 9 else 8

/-- The lanes of a port become ACTIVE while the tile's reference runs (R53). -/
def Chip.flLanesOn (c : Chip) (n : Nat) : Chip :=
  if c.flag F.SDS_REF_STATUS.REF_OK (tileOf n) then
    (c.portLanes n).foldl (fun c l => c.laneActivate l (c.flp n).rate) c
  else c

/-- The bring-up starts over: no lane holds block lock, nothing is aligned, no INIT has been exchanged, and a low-power
handshake is given up with its blocks. -/
def Chip.flHunting (c : Chip) (n : Nat) : Chip :=
  let c := (c.setFld F.PRT_FL_STATUS.LANE_LOCK 0 n).setFld F.PRT_FL_STATUS.ALIGNED 0 n
  c.updFl n fun h => { h with phase := flHunt, initNext := 0, initSent := 0, initRx := [], matched := false,
                              partnerSeen := false, marks := [], receiving := none, hunt := [],
                              due := h.due.filter fun b => b != .lpi false && b != .lpi true, lpiSent := false,
                              lpiIdle := none, waking := false }

/-- The registers that a Fleren link reset reaches (Table 16.9): the port's, its lanes' and its neighbour record's. -/
def Chip.linkResetSel (c : Chip) (n : Nat) (k : RegKey) : Bool :=
  isPortReg k n || (c.portLanes n).any (isLaneReg k) ||
    (k.i == n && decide (k.reg ∈ [Reg.FAB_NBR_A, .FAB_NBR_B, .FAB_NBR_UID_LO, .FAB_NBR_UID_HI]))

/-- A link reset (R142, R153, R161, R164, R239): sequence state, replay buffer, reorder window, credits and
RT_COUNT clear, the registers' settings come into effect, a new EPOCH is drawn (a free value, never 0), and
the neighbour record loses VALID. The packets of its uncommitted parcels are lost but for copies that are being sent
(R213). The link enters HUNT. -/
def Chip.linkReset (c : Chip) (n : Nat) : Chip :=
  let f1 := wget (c.reg .PRT_FL_CFG n) 31 30 == 1
  let cfg := if f1 then wset (wset (c.reg .PRT_FL_CFG n) 29 27 0) 22 20 0 else c.reg .PRT_FL_CFG n
  let h : FlH := { cfg, timer := c.reg .PRT_FL_TIMER n, credA := c.reg .PRT_FL_CRED_A n,
                   credB := c.reg .PRT_FL_CRED_B n, epoch := c.freeVal % 65535 + 1, phase := flHunt }
  let cells := (c.flp n).slots.map (·.cell)
  let c := (c.drawn).updFl n fun _ => h
  let lost (k : Copy) : Bool :=
    k.src == .port n && !k.started && (k.charge == .slots || k.touch.any fun i => cells.elem i)
  let c := (c.cel.copies ++ c.cel.waiting).foldl (fun c k => if lost k then c.cancelDeferred k else c) c
  let c := { c with cel := { c.cel with copies := c.cel.copies.filter fun k => !lost k
                                        waiting := c.cel.waiting.filter fun k => !lost k
                                        flcWaiting := c.cel.flcWaiting.filter fun k => !lost k
                                        capWaiting := c.cel.capWaiting.filter fun e => !lost e.2 } }
  let c := c.resetRegs .low (c.linkResetSel n)
  let c := (c.portLanes n).foldl (fun c l => c.updLane l fun _ => {}) c
  let c := (c.setReg .PRT_FL_SEQ 0 n).setReg .PRT_FL_STATUS (word (flHunt * 2 ^ 28)) n
  let c := c.setReg .PRT_FL_BUDGET (word h.budget) n
  let c := (c.setFld F.FAB_NBR_A.VALID 0 n).setFld F.FAB_NBR_A.DUP_ID 0 n
  c.flLanesOn n

/-! ### INIT (R157 to R159, R238 to R240) -/

/-- The value that an end sends for an INDEX (Tables 4.9 and 6.3). -/
def Chip.initValue (c : Chip) (n i : Nat) : Nat :=
  let h := c.flp n
  let s := c.portSide n
  let idOk := c.flag F.FAB_ID.VALID s
  match i with
  | 0 => b2n h.matched * 2 ^ 15 + (if h.f1 then 1 else 2) * 2 ^ 12 + wget h.cfg 29 28 * 2 ^ 10 +
      c.fld F.PRT_PORT_CFG.WIDTH n * 2 ^ 7 + wget h.cfg 27 27 * 2 ^ 4
  | 1 => h.epoch
  | 2 => if idOk then c.fld F.FAB_ID.DOMAIN s else 0
  | 3 => b2n (idOk && (c.opMode == 4 || 6 ≤ c.opMode)) * 2 ^ 15 +
      (if c.opMode = 8 then 1 + s else 0) * 2 ^ 13 + c.fld F.FAB_ID.CHIP s * 2 ^ 7 + c.opMode * 2 ^ 3
  | 4 => n * 2 ^ 9
  | 5 => wget (c.reg .FAB_UID_LO) 15 0
  | 6 => wget (c.reg .FAB_UID_LO) 31 16
  | _ => wget (c.reg .FAB_UID_HI) 15 0

/-- The parameters of INDEX 0 match (R158). -/
def Chip.initMatches (c : Chip) (n v : Nat) : Bool := bits v 14 4 == bits (c.initValue n 0) 14 4

/-- The neighbour record on entry to UP (R239) and the check of R240; DUP_ID stands until the next link reset. -/
def Chip.recordNeighbour (c : Chip) (n : Nat) : Chip :=
  let rx (i : Nat) : Nat := (c.flp n).initRx.get 0 i
  let a := 2 ^ 31 + bits (rx 3) 15 15 * 2 ^ 30 + bits (rx 3) 14 13 * 2 ^ 27 + bits (rx 3) 12 7 * 2 ^ 21 +
    bits (rx 3) 6 3 * 2 ^ 17 + bits (rx 4) 15 9 * 2 ^ 10
  let was := c.fld F.FAB_NBR_A.DUP_ID n
  let c := ((c.setReg .FAB_NBR_A (word a) n).setReg .FAB_NBR_B (word (rx 2)) n).setPair .FAB_NBR_UID_LO
    .FAB_NBR_UID_HI (rx 7 * 2 ^ 32 + rx 6 * 2 ^ 16 + rx 5) n
  let c := c.setFld F.FAB_NBR_A.DUP_ID was n
  let s := c.portSide n
  if bit (rx 3) 15 && c.sideHas s (rx 2) && c.fld F.FAB_ID.CHIP s == bits (rx 3) 12 7 then
    (c.setFld F.FAB_NBR_A.DUP_ID 1 n).fabViolation n 0x36
  else c

/-- Entry to UP (R159, Table 4.11): the partner's EPOCH and identity are recorded and CREDIT is due for every
class; after a retrain every replay count is 0 and each parcel neither acknowledged nor SACKed is due. -/
def Chip.flEnterUp (c : Chip) (n : Nat) : Chip :=
  let again := c.lstate n == flRetrain
  let h := c.flp n
  let seen : Bool := h.initRx.any fun (e : Nat × Nat) => e.1 == 1
  let fresh (p : Parcel) : Parcel :=
    if p.sacked then { p with replays := 0 } else { p with replays := 0, due := true, counts := false }
  let h := { h with
    partnerEpoch := if seen then some (h.initRx.get 0 1) else h.partnerEpoch, phase := 0, lpiSent := false,
    replay := if again then h.replay.map fresh else h.replay }
  let c := c.updFl n fun _ => h.creditAll
  ((c.recordNeighbour n).setLstate n flUpState).judgeMoves

/-- R159 is met. -/
def Chip.initDone (c : Chip) (n : Nat) : Bool :=
  let h := c.flp n
  h.partnerSeen && h.matched && 16 ≤ h.initSent

/-- The link is in INIT, by itself or inside a retrain. -/
def Chip.inInit (c : Chip) (n : Nat) : Bool :=
  c.lstate n == flInit || (c.lstate n == flRetrain && (c.flp n).phase == flInit)

/-- The link is in ALIGN, by itself or inside a retrain. -/
def Chip.inAlign (c : Chip) (n : Nat) : Bool :=
  c.lstate n == flAlign || (c.lstate n == flRetrain && (c.flp n).phase == flAlign)

/-- The link is in HUNT, by itself or inside a retrain. -/
def Chip.inHunt (c : Chip) (n : Nat) : Bool :=
  c.lstate n == flHunt || (c.lstate n == flRetrain && (c.flp n).phase == flHunt)

/-- The next state of bring-up, inside a retrain or outside. -/
def Chip.flAdvance (c : Chip) (n s : Nat) : Chip :=
  let c := c.updFl n fun h => { h with phase := s }
  if c.lstate n = flRetrain then c else c.setLstate n s

/-- Counting a control block with a wrong CHECK (R134). -/
def Chip.badCheck (c : Chip) (n : Nat) : Chip := c.inc F.PRT_FL_CRC_ERR.COUNT n

/-- A partner violation of Table 4.13. -/
def Chip.flViolation (c : Chip) (n code : Nat) : Chip := c.violation n code

/-- A control block becomes due at a port. -/
def Chip.flSend (c : Chip) (n : Nat) (b : CtlBlock) : Chip := c.updFl n fun h => h.addDue b

end Sys2Proof.Machine
end

