-- ==== Sys2Proof/Machine/SchOps.lean ====
section
/-! DEFINITION. The shared operations of the schedulers: notes, shapers, meters, gate lists and the choice of the
next copy or parcel class (spec/08_notes_scheduling.md, and R317 to R321 of spec/09_chassis_time.md). -/

namespace Sys2Proof.Machine

/-- The scheduler of a port. -/
def Chip.sch (c : Chip) (n : Nat) : SchPort := c.sched.ports.get default n
/-- The device with the scheduler of a port changed. -/
def Chip.updSch (c : Chip) (n : Nat) (f : SchPort → SchPort) : Chip :=
  { c with sched := { c.sched with ports := c.sched.ports.set default n (f (c.sch n)) } }

/-- The note of a class (R280): 0 Base, 1 Heart, 2 Top. -/
def Chip.note (c : Chip) (n k : Nat) : Nat := bits (c.fld F.SCH_NOTE_MAP.NOTE n) (2 * k + 1) (2 * k)

/-- OVERHEAD of a port. -/
def Chip.overhead (c : Chip) (n : Nat) : Nat := c.fld F.SCH_PORT_CFG.OVERHEAD n

/-! ### Lengths and times (R283, R287) -/

/-- The raw rate of one lane in tenths of a Gb/s, by rate code (Table 2.2). -/
def laneRate (code : Nat) : Nat :=
  match code with
  | 0 => 25 | 1 => 50 | 2 => 80 | 3 => 160 | 4 => 320 | 5 => 640 | 6 => 1280 | 8 => 640 | 9 => 1280 | _ => 25

/-- w × r of a port's link in tenths of a Gb/s: the active width in L0p. -/
def Chip.linkRate (c : Chip) (n : Nat) : Nat :=
  if c.isFleren n then 2 ^ c.fld F.PRT_PORT_CFG.WIDTH n * laneRate (c.flp n).rate
  else
    let w := c.fld F.PRT_LINK_STATUS.NEG_WIDTH n
    let l := c.fld F.PRT_LINK_STATUS.L0P_WIDTH n
    2 ^ (if l = 7 then w else l) * laneRate (c.fld F.PRT_LINK_STATUS.NEG_RATE n)

/-- t_tx in ns of a copy of b bytes at a PCI Express port, or of a parcel at a Fleren port. -/
def Chip.txTime (c : Chip) (n b : Nat) : Nat :=
  divUp ((if c.isFleren n then 33 * 66 else 8 * (b + c.overhead n)) * 10) (c.linkRate n)

/-- len of a copy of b bytes, or of a parcel. -/
def Chip.chargeLen (c : Chip) (n b : Nat) : Nat := (if c.isFleren n then 256 else b) + c.overhead n

/-! ### Shapers (R288, R289) -/

/-- What a rate in Mb/s adds in 8 ns, in units of 1/65,536 byte (R297), rounded down. -/
def rateShare (mbps : Nat) : Nat := mbps * 65536 / 1000

/-- The shaper of a Heart class. -/
def Chip.shaper? (c : Chip) (n k : Nat) : Option Nat :=
  let x := c.fld F.SCH_Q_CFG.SHAPER n k
  if c.note n k = 1 && c.flag F.SCH_Q_CFG.SHAPER_VALID n k && c.fld F.SCH_CTX_A.KIND x = 2 then some x else none

/-- The credit of a queue in units of 1/65,536 byte. -/
def Chip.credit (c : Chip) (n k : Nat) : Int :=
  c.sfld F.SCH_Q_CREDIT.CREDIT n k * 65536 + ((c.sch n).fracs.get 0 k : Nat)

/-- The device with the credit of a queue at a new value. -/
def Chip.setCredit (c : Chip) (n k : Nat) (v : Int) : Chip :=
  (c.setFld F.SCH_Q_CREDIT.CREDIT (unsigned 25 (v / 65536)) n k).updSch n fun h =>
    { h with fracs := h.fracs.set 0 k (v % 65536).toNat }

/-- The Heart classes of enabled ports with their shapers. -/
def Chip.shapedQueues (c : Chip) : List (Nat × Nat × Nat) :=
  (allPorts.filter c.portEn).flatMap fun n => (List.range 8).filterMap fun k =>
    (c.shaper? n k).map fun x => (n, k, x)

/-- Every credit gains the share of one tick, up to the burst size. -/
def Chip.shaperTick (c : Chip) : Chip :=
  c.shapedQueues.foldl (fun c q =>
    let top : Int := (c.fld F.SCH_CTX_CBS.CBS q.2.2 * 65536 : Nat)
    let v := c.credit q.1 q.2.1 + (rateShare (c.fld F.SCH_CTX_CIR.CIR q.2.2) : Nat)
    c.setCredit q.1 q.2.1 (if top < v then top else v)) c

/-- Every credit is set to its burst size (R289), those of other classes to 0. -/
def Chip.shapersFull (c : Chip) : Chip :=
  let c := { c with regs := c.regs.filter fun (e : RegKey × Word) => e.1.reg != Reg.SCH_Q_CREDIT }
  let c := allPorts.foldl (fun c n => if (c.sch n).fracs.isEmpty then c else c.updSch n fun h => { h with fracs := [] }) c
  c.shapedQueues.foldl (fun c q => c.setCredit q.1 q.2.1 (c.fld F.SCH_CTX_CBS.CBS q.2.2 * 65536 : Nat)) c

/-! ### Meters (R292 to R297) -/

/-- The METER contexts. -/
def Chip.meters (c : Chip) : List Nat :=
  ((c.regs.filterMap fun e => if e.1.reg = .SCH_CTX_A then some e.1.i else none).eraseDups).filter fun x =>
    c.fld F.SCH_CTX_A.KIND x == 1

/-- Tc and Tp of a meter. -/
def Chip.tokens (c : Chip) (x : Nat) : Nat × Nat := c.sched.tokens.get (0, 0) x

/-- The device with the tokens of a meter at new values. -/
def Chip.setTokens (c : Chip) (x : Nat) (v : Nat × Nat) : Chip :=
  { c with sched := { c.sched with tokens := c.sched.tokens.set (0, 0) x v } }

/-- The sizes of a meter's buckets. -/
def Chip.bucketSizes (c : Chip) (x : Nat) : Nat × Nat :=
  (c.fld F.SCH_CTX_CBS.CBS x * 65536, c.fld F.SCH_CTX_PBS.PBS x * 65536)

/-- Every bucket accrues the tokens of one tick. -/
def Chip.meterTick (c : Chip) : Chip :=
  c.meters.foldl (fun c x =>
    let t := c.tokens x
    let z := c.bucketSizes x
    c.setTokens x (min z.1 (t.1 + rateShare (c.fld F.SCH_CTX_CIR.CIR x)),
                   min z.2 (t.2 + rateShare (c.fld F.SCH_CTX_PIR.PIR x)))) c

/-- Every meter starts full (R297). -/
def Chip.metersFull (c : Chip) : Chip := c.meters.foldl (fun c x => c.setTokens x (c.bucketSizes x)) c

/-- Tokens and credit above a burst size that has been lowered are cut at once (Table 8.1). -/
def Chip.cutBurst (c : Chip) (x : Nat) : Chip :=
  let z := c.bucketSizes x
  let t := c.tokens x
  let c := c.setTokens x (min z.1 t.1, min z.2 t.2)
  c.shapedQueues.foldl (fun c q =>
    if q.2.2 == x && decide ((z.1 : Int) < c.credit q.1 q.2.1) then c.setCredit q.1 q.2.1 z.1 else c) c

/-- One meter (R293): the colour 0 green, 1 yellow, 2 red. A context that is no METER gives the pre-colour. -/
def Chip.meterOne (c : Chip) (x pre len : Nat) : Nat × Chip :=
  if c.fld F.SCH_CTX_A.KIND x != 1 then (pre, c)
  else
    let n := len * 65536
    let aware := c.flag F.SCH_CTX_A.AWARE x
    let t := c.tokens x
    if (aware && pre == 2) || t.2 < n then (2, c)
    else if (aware && pre == 1) || t.1 < n then (1, c.setTokens x (t.1, t.2 - n))
    else (0, c.setTokens x (t.1 - n, t.2 - n))

/-- A meter rejects a colour (R296). -/
def Chip.meterDrops (c : Chip) (x colour : Nat) : Bool :=
  (colour == 1 && c.flag F.SCH_CTX_A.Y_DROP x) || (colour == 2 && c.flag F.SCH_CTX_A.R_DROP x)

/-- The verdict of a packet's meters (R295): the final colour, the meter that gave it and whether it rejects it. -/
structure Verdict where
  colour : Nat
  meter : Nat
  drop : Bool
  deriving DecidableEq, Repr, Inhabited

/-- The first meter and its chain. -/
def Chip.meterChain (c : Chip) (x pre len : Nat) : Verdict × Chip :=
  let (k, c) := c.meterOne x pre len
  if c.meterDrops x k then ({ colour := k, meter := x, drop := true }, c)
  else if c.flag F.SCH_CTX_A.CHAIN_VALID x then
    let y := c.fld F.SCH_CTX_A.CHAIN x
    let (k, c) := c.meterOne y k len
    ({ colour := k, meter := y, drop := c.meterDrops y k }, c)
  else ({ colour := k, meter := x, drop := false }, c)

/-- The colour counter of the meter that gave the final colour. -/
def Chip.countColour (c : Chip) (v : Verdict) : Chip :=
  c.inc (if v.colour = 0 then F.SCH_CTX_GREEN.COUNT else if v.colour = 1 then F.SCH_CTX_YELLOW.COUNT
    else F.SCH_CTX_RED.COUNT) v.meter

/-! ### Gate lists (R317 to R321) -/

/-- Entries of a bank's list. -/
def Chip.gclLen (c : Chip) (n b : Nat) : Nat := c.fld F.SCH_GCL_LEN.LEN n b
/-- GATES of an entry. -/
def Chip.gclGates (c : Chip) (n b e : Nat) : Nat := wget (c.reg .SCH_GCL_ENT n (256 * b + e)) 31 24
/-- The length of an entry in ns. -/
def Chip.gclTicks (c : Chip) (n b e : Nat) : Nat := wget (c.reg .SCH_GCL_ENT n (256 * b + e)) 23 0 * 8
/-- BASE of a bank. -/
def Chip.gclBase (c : Chip) (n b : Nat) : Nat := c.pair .SCH_GCL_BASE_LO .SCH_GCL_BASE_HI n b
/-- The cycle of a bank's list in ns. -/
def Chip.gclCycle (c : Chip) (n b : Nat) : Nat := ((List.range (c.gclLen n b)).map fun e => c.gclTicks n b e).sum

/-- The gate list of a port is on. -/
def Chip.gclEn (c : Chip) (n : Nat) : Bool := c.flag F.SCH_GCL_CTL.EN n
/-- t_sw of the pending switch. -/
def Chip.gclSwitch? (c : Chip) (n : Nat) : Option Nat :=
  if c.flag F.SCH_GCL_STATUS.PENDING n then some (c.pair .SCH_GCL_SWITCH_AT_LO .SCH_GCL_SWITCH_AT_HI n) else none

/-- The entry in which a phase falls, counted from entry e, and what is left of it. -/
def Chip.gclFind (c : Chip) (n b : Nat) : Nat → Nat → Nat → Nat × Nat
  | 0, e, _ => (e, 0)
  | fuel + 1, e, ph =>
    let t := c.gclTicks n b e
    if ph < t then (e, t - ph) else c.gclFind n b fuel (e + 1) (ph - t)

/-- The entry of a list at a chassis time, with what is left of it (R317, R330). -/
def Chip.gclPhase (c : Chip) (n b t : Nat) : Nat × Nat :=
  let cyc := c.gclCycle n b
  c.gclFind n b 256 0 (((t : Int) - (c.gclBase n b : Nat)) % (cyc : Nat)).toNat

/-- The entry after entry e when it ends at chassis time t: the next one, or the phase of the time at the end of the
cycle. -/
def Chip.gclNext (c : Chip) (n b e t : Nat) : Nat × Nat :=
  if e + 1 < c.gclLen n b then (e + 1, c.gclTicks n b (e + 1)) else c.gclPhase n b t

/-- What governs the gates of a port from now: a bank with its entry, or none while every class is open, and for how
many ns; 0 for no end. -/
def Chip.gclNow (c : Chip) (n : Nat) : Option (Nat × Nat) × Nat :=
  let h := c.sch n
  if !c.gclEn n then (none, 0)
  else if h.run then (some (c.gclBank n, h.entry), max 1 (h.ends - c.ns))
  else
    let b := c.gclBank n
    if c.ns < c.gclBase n b then (none, c.gclBase n b - c.ns)
    else
      let q := c.gclPhase n b c.ns
      (some (b, q.1), q.2)

/-- What governs the gates after an entry, or after the time before BASE, that ends at chassis time t: the new list
from a pending switch on. -/
def Chip.gateStep (c : Chip) (n : Nat) (cur : Option (Nat × Nat)) (t : Nat) (sw : Option Nat) :
    (Nat × Nat) × Nat × Option Nat :=
  let on : (Nat × Nat) × Nat := match cur with
    | none =>
      let q := c.gclPhase n (c.gclBank n) t
      ((c.gclBank n, q.1), q.2)
    | some (b, e) =>
      let q := c.gclNext n b e t
      ((b, q.1), q.2)
  match sw with
  | some s =>
    if s ≤ t then ((1 - c.gclBank n, 0), c.gclTicks n (1 - c.gclBank n) 0, none) else (on.1, on.2, some s)
  | none => (on.1, on.2, none)

/-- A class stays open for `need` ns from chassis time t, across entries, the end of the cycle and a pending switch
(R283, R320). -/
def Chip.staysOpen (c : Chip) (n k : Nat) : Nat → Option (Nat × Nat) → Nat → Nat → Nat → Option Nat → Bool
  | 0, _, _, _, _, _ => true
  | fuel + 1, cur, left, t, need, sw =>
    let isOpen := match cur with
      | none => true
      | some (b, e) => bit (c.gclGates n b e) k
    let lasts := match sw with
      | some s => if left = 0 then s - t else min left (s - t)
      | none => left
    if !isOpen then false
    else if (left = 0 && sw.isNone) || need ≤ lasts then true
    else
      let q := c.gateStep n cur (t + lasts) sw
      c.staysOpen n k fuel (some q.1) q.2.1 (t + lasts) (need - lasts) q.2.2

/-- gate_open (R283). -/
def Chip.gateOpen (c : Chip) (n k : Nat) : Bool :=
  match (c.gclNow n).1 with
  | none => true
  | some (b, e) => bit (c.gclGates n b e) k

/-- fits, for a t_tx (R283). -/
def Chip.gateFits (c : Chip) (n k tx : Nat) : Bool :=
  let q := c.gclNow n
  c.staysOpen n k (tx / 8 + 4) q.1 q.2 c.ns tx (c.gclSwitch? n)

/-- The longest open interval that the list in effect gives a class, across the end of its cycle; none for a class
that it never closes or never opens (R284). -/
def Chip.longestOpen (c : Chip) (n k : Nat) : Option Nat :=
  let b := c.gclBank n
  let es := (List.range (c.gclLen n b)).map fun e => (bit (c.gclGates n b e) k, c.gclTicks n b e)
  if es.all (·.1) || !es.any (·.1) then none
  else
    let runs := (es ++ es).foldl (fun (q : Nat × Nat) e =>
      let r := if e.1 then q.1 + e.2 else 0
      (r, max q.2 r)) (0, 0)
    some runs.2

/-- Copies already being sent when the gate of their class closes are counted, each once (Table 8.1). -/
def Chip.countOverrun (c : Chip) (n before : Nat) : Chip :=
  let cut := c.cel.copies.filter fun k => k.dest == .port n && k.started && !k.resend && bit before k.pkt.cls &&
    !c.gateOpen n k.pkt.cls && !(c.sch n).overran.elem k.id
  if cut.isEmpty || c.isFleren n then c
  else (c.add F.SCH_GATE_OVERRUN.COUNT cut.length n).updSch n fun h => { h with overran := h.overran ++ cut.map (·.id) }

/-- The classes that are open now. -/
def Chip.openClasses (c : Chip) (n : Nat) : Nat :=
  ((List.range 8).map fun k => if c.gateOpen n k then 2 ^ k else 0).sum

/-! ### Heads of queues -/

/-- A packet of a category may pass one of another that waits for partner credit (R205). -/
def Cat.mayPass (x y : Cat) : Bool :=
  match x, y with
  | .posted, .nonPosted => true
  | .posted, .completion => true
  | .completion, .nonPosted => true
  | _, _ => false

/-- The first copy of a queue that has partner credit and may pass every copy before it. -/
def firstFree : List Cat → List Copy → Option Copy
  | _, [] => none
  | before, x :: xs => if !x.blocked && before.all (fun y => x.cat.mayPass y) then some x else firstFree (x.cat :: before) xs

/-- The copy that may be sent first of a queue: the oldest, or the first behind it that may pass it while it waits for
partner credit (R205, R279); none behind one that is to be forwarded again (R209). -/
def Chip.head? (c : Chip) (d : Dest) (k : Nat) : Option Copy :=
  let q := (c.queue d k).filter fun x => !x.started
  firstFree [] (q.takeWhile (fun x => !x.again) ++ (q.find? (·.again)).toList)

/-- R284 at a PCI Express port: heads that fit in no interval of the list in effect are discarded as aged. -/
def Chip.trimHeads (c : Chip) (n k : Nat) : Chip :=
  if !(c.gclEn n && (c.sch n).run && (c.sch n).switched) || c.isFleren n then c
  else
    match c.longestOpen n k with
    | none => c
    | some l => (List.range (c.queue (.port n) k).length).foldl (fun c _ =>
      match (c.queue (.port n) k).find? (fun x => !x.started) with
      | some x => if l < c.txTime n x.pkt.bytes then (c.inc F.SCH_OVERSIZE.COUNT n).discardCopy x else c
      | none => c) c

/-- R284 for every class of a port. -/
def Chip.trimAll (c : Chip) (n : Nat) : Chip := (List.range 8).foldl (fun c k => c.trimHeads n k) c

/-- The ports whose list judges the heads of their queues (R284). -/
def Chip.judgedPorts (c : Chip) : List Nat :=
  (c.sched.ports.filter fun e => e.2.run && e.2.switched && c.gclEn e.1 && c.isPcie e.1).map (·.1)

/-- Heads that have come since the last Hallway cycle are judged (R284). -/
def Chip.judgeHeads (c : Chip) : Chip := c.judgedPorts.foldl (fun c n => c.trimAll n) c

/-! ### Selection (R282, R286) -/

/-- What may be sent of a class: whether there is a head, its bytes and its copy. On a Fleren port the rest of a packet
already begun is a head too. -/
structure Cand where
  bytes : Nat
  copy : Option Copy
  deriving DecidableEq, Repr, Inhabited

/-- The parcel that holds the header of a copy is next to commit (Table 5.5). -/
def Chip.headNext (c : Chip) (i : Nat) (x : Copy) : Bool :=
  (c.flp i).slots.any fun p => p.seq == c.rxCommit i && x.touch.head? == some p.cell

/-- The raw rate of a port lets a copy be sent while its packet still comes in, and every other condition of Table 5.5
holds (R195). -/
def Chip.cutThrough (c : Chip) (n : Nat) (x : Copy) : Bool :=
  match x.src with
  | .port i => c.celFld F.CEL_PORT_CFG.CT_EN i == 1 && Nat.ble (c.linkRate n) (c.linkRate i) && !x.deferred && !x.held &&
      !x.again && (!c.isFleren i || c.headNext i x)
  | _ => false

/-- Bytes of a packet already begun may be placed in a parcel now: all of it once it is whole or bad, else all but its
last word (R196). -/
def Chip.itemReady (c : Chip) (i : TxItem) : Bool :=
  i.bad || Nat.blt 8 i.rem || c.cel.copies.any fun k => k.id == i.id && k.whole

/-- The candidate of a class; `may` is the sender's own test on a Fleren port (R145). -/
def Chip.cand? (c : Chip) (n k : Nat) (may : Bool) : Option Cand :=
  if !may then none
  else if c.isFleren n && (c.flp n).tx.any (fun i => i.cls == k) then
    if (c.flp n).tx.any fun i => i.cls == k && c.itemReady i then some { bytes := 256, copy := none } else none
  else ((c.head? (.port n) k).filter fun x => x.whole || c.cutThrough n x).map fun x =>
    { bytes := x.pkt.bytes, copy := some x }

/-- gate_open and fits for a candidate. -/
def Chip.gatePass (c : Chip) (n k : Nat) (x : Cand) : Bool := c.gateOpen n k && c.gateFits n k (c.txTime n x.bytes)

/-- The classes of a note, 7 down to 0. -/
def Chip.noteClasses (c : Chip) (n note : Nat) : List Nat := [7, 6, 5, 4, 3, 2, 1, 0].filter fun k => c.note n k == note

/-- Heart classes, highest first: the first with a candidate that passes and credit of 0 or more; a refusal for
negative credit counts. -/
def Chip.pickHeart (c : Chip) (n : Nat) (may : Nat → Bool) : List Nat → Option (Nat × Cand) × Chip
  | [] => (none, c)
  | k :: ks =>
    match c.cand? n k (may k) with
    | none => c.pickHeart n may ks
    | some x =>
      if !c.gatePass n k x then c.pickHeart n may ks
      else
        let sh := c.shaper? n k
        if sh.isSome && c.credit n k < 0 then
          match sh with
          | some s => (c.inc F.SCH_CTX_RED.COUNT s).pickHeart n may ks
          | none => c.pickHeart n may ks
        else
          match sh with
          | some s =>
            (some (k, x), (c.setCredit n k (c.credit n k - (c.chargeLen n x.bytes * 65536 : Nat))).inc
              F.SCH_CTX_GREEN.COUNT s)
          | none => (some (k, x), c)

/-- One visit of R286 after another, from class k. -/
def Chip.pickBase (c : Chip) (n : Nat) (may : Nat → Bool) : Nat → Nat → Option (Nat × Cand) × Chip
  | 0, _ => (none, c)
  | fuel + 1, k =>
    let next := (k + 1) % 8
    if c.note n k != 0 then c.pickBase n may fuel next
    else
      let dset (c : Chip) (v : Nat) : Chip := c.updSch n fun h => { h with deficits := h.deficits.set 0 k v }
      match c.cand? n k (may k) with
      | none =>
        let empty := (c.queue (.port n) k).isEmpty && !(c.flp n).tx.any fun i => i.cls == k
        (if empty then dset c 0 else c).pickBase n may fuel next
      | some x =>
        if !c.gatePass n k x then c.pickBase n may fuel next
        else
          let len := c.chargeLen n x.bytes
          let d := (c.sch n).deficits.get 0 k
          let d := if d < len then d + 64 * c.fld F.SCH_Q_CFG.QUANTUM n k else d
          if len ≤ d then (some (k, x), (dset c (d - len)).updSch n fun h => { h with base := k })
          else (dset c d).pickBase n may fuel next

/-- The selection of R282 at a port: the class and its candidate, with credit and deficit charged. -/
def Chip.select (c : Chip) (n : Nat) (may : Nat → Bool) : Option (Nat × Cand) × Chip :=
  let c := c.trimAll n
  let top := (c.noteClasses n 2).findSome? fun k =>
    match c.cand? n k (may k) with
    | some x => if c.gatePass n k x then some (k, x) else none
    | none => none
  match top with
  | some q => (some q, c)
  | none =>
    match c.pickHeart n may (c.noteClasses n 1) with
    | (some q, c) => (some q, c)
    | (none, c) => c.pickBase n may 8 (c.sch n).base

/-- The copy that a queue without notes serves next: its classes in turn, in arrival order within each (R281); at a Pantry
the classes that hold accesses of an earlier epoch come first while a commit is PENDING (R402). -/
def Chip.roundRobin? (c : Chip) (d : Dest) (i : Nat) : Option Copy :=
  let from_ := c.sched.turn.get 0 i
  let turn := (List.range 8).map fun k => (from_ + k) % 8
  let old := if c.fld F.GAT_COMMIT_STATUS.STATE = 1 then turn.filter fun k => (c.queue d k).any fun x => c.gat.old.elem x.id
    else []
  (old ++ turn).findSome? fun k => c.head? d k

/-- The next turn of such a queue. -/
def Chip.served (c : Chip) (i k : Nat) : Chip :=
  { c with sched := { c.sched with turn := c.sched.turn.set 0 i ((k + 1) % 8) } }

/-! ### Writes (R298, R299) -/

/-- The clamps of R299 on the rates of a context; true when something changed. -/
def Chip.ctxClamp (c : Chip) (x : Nat) : Bool × Chip :=
  let kind := c.fld F.SCH_CTX_A.KIND x
  let cir := c.fld F.SCH_CTX_CIR.CIR x
  let cir' := if kind = 2 && cir < 1 then 1 else if kind = 1 then min cir (c.fld F.SCH_CTX_PIR.PIR x) else cir
  (cir != cir', if cir = cir' then c else c.setFld F.SCH_CTX_CIR.CIR cir' x)

/-- A write of a scheduler register through tile t, after the gates of every write: the restricted fields keep their
values outside modes 0x9 and 0xA, and the clamps of R299 follow; the write counts once. -/
def Chip.writeSch (c : Chip) (a : Access) (k : RegKey) (t : Nat) (v : Word) : Chip :=
  let old := (c.regs.get k).toNat
  let asked := v.toNat
  let keep (n : Nat) (f : Nat × Nat) : Nat :=
    if c.configMode then n else n - bits n f.1 f.2 * 2 ^ f.2 + bits old f.1 f.2 * 2 ^ f.2
  let held := (schRestricted k.reg).foldl keep asked
  let expert := c.isExpert a.who
  let count0 := c.fld F.SCH_CLAMP_SEEN.COUNT t
  let c := c.storeReg a k t (word held)
  let c := if held != asked && expert then c.setFld F.SCH_CLAMP_SEEN.COUNT (min (count0 + 1) 65535) t else c
  let c := if decide (k.reg ∈ [Reg.SCH_CTX_A, .SCH_CTX_CIR, .SCH_CTX_PIR]) then
      let (ch, c) := c.ctxClamp k.i
      if ch then c.setFld F.SCH_CLAMP_SEEN.COUNT (min (count0 + 1) 65535) t else c
    else c
  let c := if decide (k.reg ∈ [Reg.SCH_CTX_CBS, .SCH_CTX_PBS]) then c.cutBurst k.i else c
  if k.reg = .SCH_NOTE_MAP then
    (List.range 8).foldl (fun c q => if c.note k.i q = 1 then c else c.setCredit k.i q 0) c
  else c

/-! ### Prerequisites (R291) -/

/-- Two elements of a list are equal. -/
def hasRepeat : List Nat → Bool
  | [] => false
  | x :: xs => xs.elem x || hasRepeat xs

/-- A tile names a flow context as a meter (R291): by a flow map entry of a port slot, by an engine destination
window, or by the chain of a meter that it names. -/
def Chip.tileMeters (c : Chip) (t : Nat) : List Nat :=
  let maps := (rangeFrom (8 * t) 8).flatMap fun n => (List.range 8).filterMap fun k =>
    if c.flag F.SCH_FLOW_MAP.VALID n k then some (c.fld F.SCH_FLOW_MAP.CTX n k) else none
  let wins := (List.range 64).filterMap fun w =>
    if c.flag F.ACD_DST_A.VALID t w && c.flag F.ACD_DST_A.METER_VALID t w then some (c.fld F.ACD_DST_A.METER t w)
    else none
  let direct := maps ++ wins
  direct ++ direct.filterMap fun x =>
    if c.flag F.SCH_CTX_A.CHAIN_VALID x then some (c.fld F.SCH_CTX_A.CHAIN x) else none

/-- R291 holds. -/
def Chip.schPrereq (c : Chip) : Bool :=
  let hearts := allPorts.flatMap fun n => (List.range 8).filterMap fun k =>
    if c.note n k = 1 then some (n, k) else none
  let bare := hearts.any fun q => c.portEn q.1 && (c.shaper? q.1 q.2).isNone
  let shapers := hearts.filterMap fun q => c.shaper? q.1 q.2
  let named := hearts.filterMap fun q =>
    if c.flag F.SCH_Q_CFG.SHAPER_VALID q.1 q.2 then some (c.fld F.SCH_Q_CFG.SHAPER q.1 q.2) else none
  let perTile := allTiles.map fun t => (c.tileMeters t).eraseDups
  let maps := allPorts.flatMap fun n => (List.range 8).filterMap fun k =>
    if c.flag F.SCH_FLOW_MAP.VALID n k then some (c.fld F.SCH_FLOW_MAP.CTX n k) else none
  let chains := c.regs.filterMap fun e =>
    if e.1.reg = .SCH_CTX_A && bit e.2.toNat 26 then some (e.2.toNat % 8192) else none
  !bare && !hasRepeat shapers &&
    (maps ++ chains).all (fun x => c.fld F.SCH_CTX_A.KIND x == 1) &&
    !hasRepeat (perTile.flatten.filter fun x => c.fld F.SCH_CTX_A.KIND x == 1) &&
    !(perTile.flatten.any fun x => named.elem x)

end Sys2Proof.Machine
end

