-- ==== Sys2Proof/Machine/AcdOps.lean ====
section
/-! DEFINITION. The shared operations of the Accord engines (spec/10_accord_engines.md): engine reset, abort,
ends of records, starts, job checks, capture. The meanings stand in Machine/Accord.lean, Machine/Insn.lean and
Machine/Emit.lean. -/

namespace Sys2Proof.Machine

/-! ### Engines and jobs -/

/-- An engine by its chip-wide number. -/
def Chip.eng (c : Chip) (e : Nat) : EngH := c.acd.engs.get default e
/-- The device with an engine changed. -/
def Chip.updEng (c : Chip) (e : Nat) (f : EngH → EngH) : Chip :=
  { c with acd := { c.acd with engs := c.acd.engs.set default e (f (c.eng e)) } }

/-- A job by 32 t + j. -/
def Chip.job (c : Chip) (j : Nat) : JobH := c.acd.jobs.get default j
/-- The device with a job changed. -/
def Chip.updJob (c : Chip) (j : Nat) (f : JobH → JobH) : Chip :=
  { c with acd := { c.acd with jobs := c.acd.jobs.set default j (f (c.job j)) } }

/-- Engine states (Table 10.9). -/
def enIdle : Nat := 0
/-- RUN. -/
def enRun : Nat := 1
/-- WAIT_TOKEN. -/
def enToken : Nat := 2
/-- WAIT_BUF. -/
def enBuf : Nat := 3
/-- WAIT_FETCH. -/
def enFetch : Nat := 4
/-- WAIT_DEST. -/
def enDest : Nat := 5
/-- HELD_METER. -/
def enMeter : Nat := 6
/-- MASTER_OFF. -/
def enMaster : Nat := 7
/-- DISABLED. -/
def enDisabled : Nat := 8

/-- The state of an engine. -/
def Chip.engState (c : Chip) (e : Nat) : Nat := c.fld F.ACD_ENG_STATUS.STATE e

/-- The device with an engine in a state. -/
def Chip.setEng (c : Chip) (e s : Nat) : Chip := c.setFld F.ACD_ENG_STATUS.STATE s e

/-- Every enabled job. -/
def Chip.enabledJobs (c : Chip) : List Nat := (List.range 384).filter c.jobEn

/-- Engines of a job's set that are not IDLE (ACD_JOB_STATUS.RUNNING). -/
def Chip.jobRunning (c : Chip) (j : Nat) : Nat := ((c.jobEngines j).filter fun e => c.engState e != enIdle).length

/-- The partition of a job, none for the internal root. -/
def Chip.jobPart (c : Chip) (j : Nat) : Option Nat :=
  let p := c.jfld F.ACD_JOB_CFG.PART j
  if p < 32 then some p else none

/-- The window of a job's destination slot, when the slot is VALID. -/
def Chip.slotWindow? (c : Chip) (j m : Nat) : Option Nat :=
  let b := bits (c.jfld F.ACD_JOB_DST.DST_3_to_DST_0 j) (8 * m + 7) (8 * m)
  if bit b 7 then some (b % 64) else none

/-- The partition of a window of a job (R372), none for the internal root. -/
def Chip.windowPart (c : Chip) (j w : Nat) : Option Nat :=
  if c.flag F.ACD_DST_B.PART_VALID (j / 32) w then
    let p := c.fld F.ACD_DST_B.PART (j / 32) w
    if p < 32 then some p else none
  else c.jobPart j

/-! ### Stalls (R120 to R123, R296, R380) -/

/-- A partition refuses the packets of its hierarchy (R272, R477): in reset, or contained. -/
def Chip.partRefuses (c : Chip) (p : Nat) : Bool :=
  (c.part p).inReset || (c.part p).hot || bit (c.reg .FLT_CONTAIN_PTN).toNat p

/-- Bus Master Enable of a partition's management function holds its requests back (R121); those of a partition that refuses
packets go on, and R272 answers them (R377). -/
def Chip.busOff (c : Chip) (part : Option Nat) : Bool :=
  match part with
  | some p => !c.bme (.mgmt p) && !c.partRefuses p
  | none => false

/-- Requests of the device for a partition, or for the internal root, are held back: by Bus Master Enable, or because earlier
ones still wait (R122). -/
def Chip.masterHeld (c : Chip) (part : Option Nat) : Bool := c.busOff part || !(c.part (part.getD 32)).stalled.isEmpty

/-- Writes and reads of a job's engines through a window stall. -/
def Chip.windowOff (c : Chip) (j w : Nat) : Bool := c.masterHeld (c.windowPart j w)

/-- The place of an engine's request in the order of the stalled ones: a FETCH, or the part of an emission for a window. -/
def stallMark (e : Nat) (kind : PktKind) (w num : Nat) (part : Option Nat) : Copy :=
  { id := 0, pid := 0, pkt := { kind, addr := w, len := num }, src := .engine e, part, dest := .mgmt, stamp := 0, cells := 0,
    charge := .none }

/-- What an engine has still to send that Bus Master Enable holds back. -/
def Chip.outOff (c : Chip) (o : EngOut) : Bool := c.busOff (c.windowPart o.job o.win)

/-- A request of an engine is stalled. -/
def Chip.engStalled (c : Chip) (e : Nat) : Bool :=
  (stallParts.any fun p => (c.part p).stalled.any fun k => k.src == .engine e) || (c.eng e).out.any c.outOff

/-- A write of an engine is held by its meter. -/
def Chip.engHeldWrite (c : Chip) (e : Nat) : Bool := c.cel.meterHeld.any fun h => h.eng == e

/-- ACD_JOB_STATUS.MASTER_OFF of an engine's job (R380). -/
def Chip.showJob (c : Chip) (e : Nat) : Chip :=
  match c.jobOf? e with
  | none => c
  | some j =>
    c.setFld F.ACD_JOB_STATUS.MASTER_OFF (b2n ((c.jobEngines j).any fun x => c.engState x == enMaster)) (j / 32) (j % 32)

/-- An engine shows what stalls it (R380): MASTER_OFF, or HELD_METER, and MASTER_OFF when both do (DESIGN CHOICE, log entry 49);
one that nothing stalls any longer is again in the state that it was stalled in. A DISABLED engine stays so (R346). -/
def Chip.showStall (c : Chip) (e : Nat) : Chip :=
  let s := c.engState e
  let in_ := s == enMeter || s == enMaster
  let enter (c : Chip) (x : Nat) : Chip :=
    if s == x then c else (if in_ then c else c.updEng e fun h => { h with before := s }).setEng e x
  let c :=
    if s == enDisabled then c
    else if c.engStalled e then enter c enMaster
    else if c.engHeldWrite e then enter c enMeter
    else if in_ then (c.setEng e (c.eng e).before).updEng e fun h => { h with before := enRun }
    else c
  c.showJob e

/-- The emitter takes an emission; its part for each window that is held back joins the stalled requests. -/
def Chip.handOver (c : Chip) (x : Emission) : Chip :=
  let off := x.dests.filter fun q => c.windowOff x.job q.1
  let c := if x.dests.isEmpty then c else { c with acd := { c.acd with emits := c.acd.emits ++ [x] } }
  off.foldl (fun c q => c.stall (stallMark x.eng .memWr q.1 q.2 (c.windowPart x.job q.1))) c

/-! ### Ends of records -/

/-- The record leaves the engine's hands: its number leaves the order and its ring record is free. -/
def Chip.freeRecord (c : Chip) (e : Nat) : Chip :=
  match (c.eng e).hand with
  | none => c
  | some r =>
    (c.updJob r.job fun h =>
      { h with order := h.order.filter (· != r.recno),
               recs := match r.num with
                 | some n => h.recs.filter fun q => q.num != n
                 | none => h.recs }).updEng e fun g => { g with hand := none, fetches := [], fetchBad := false }

/-- What the emitter holds of an engine is discarded, and its stalled requests are squashed (R123). -/
def Chip.dropEmissions (c : Chip) (e : Nat) : Chip :=
  Chip.unstallIf { c with acd := { c.acd with emits := c.acd.emits.filter fun x => x.eng != e } } fun k => k.src == .engine e

/-- An engine reset (R356): registers and flags clear, the record is freed without a report, the engine returns to
IDLE; one that a program store error disabled stays DISABLED (R346). Writes already in the lookup continue. -/
def Chip.engineReset (c : Chip) (e : Nat) : Chip :=
  let c := ((c.freeRecord e).dropEmissions e).updEng e fun g => { half := g.half, fetchNext := g.fetchNext }
  if c.engState e = enDisabled then c else (c.setEng e enIdle).showStall e

/-- ABORT of a job (R356): its engines are reset; pending starts, running records and ready records are
discarded without reports. -/
def Chip.jobAbort (c : Chip) (j : Nat) : Chip :=
  let c := (c.jobEngines j).foldl (fun c e => c.engineReset e) c
  let c := { c with acd := { c.acd with emits := c.acd.emits.filter fun x => x.job != j } }
  c.updJob j fun h => { h with starts := [], order := [], recs := h.recs.filter fun r => !r.ready }

/-- The engines of every enabled job that a test names are reset; the jobs stay enabled (Table 7.6). -/
def Chip.resetJobEngines (c : Chip) (js : List Nat) : Chip :=
  js.foldl (fun c j => (c.jobEngines j).foldl (fun c e => c.engineReset e) c) c

/-- The jobs bound to a Flacon. -/
def Chip.jobsOfFlacon (c : Chip) (f : Nat) : List Nat :=
  c.enabledJobs.filter fun j => c.jfld F.ACD_JOB_CFG.FLC_VALID j == 1 && c.jfld F.ACD_JOB_CFG.FLC j == f

/-- A job's Flacon drains, squashes or retires: its engines stop at their next record boundary (Table 7.7). -/
def Chip.jobDraining (c : Chip) (j : Nat) : Bool :=
  c.jfld F.ACD_JOB_CFG.FLC_VALID j == 1 && Nat.ble 2 (c.fld F.GLB_FLC_A.STATE (c.jfld F.ACD_JOB_CFG.FLC j))

/-- The jobs whose engines are bound to a partition (R356). -/
def Chip.jobsOfPart (c : Chip) (p : Nat) : List Nat :=
  c.enabledJobs.filter fun j => c.jobPart j == some p ||
    (c.jfld F.ACD_JOB_CFG.FLC_VALID j == 1 && (c.flaconsOf p).elem (c.jfld F.ACD_JOB_CFG.FLC j))

/-- The number that the next emission of a window takes: PROD and what the emitter still holds for it (R372). -/
def Chip.nextProd (c : Chip) (t w : Nat) : Nat :=
  (c.fld F.ACD_DST_PROD.PROD t w +
    ((c.acd.emits.filter fun x => x.job / 32 == t).flatMap fun x => x.dests.filter fun d => d.1 == w).length) %
    2 ^ 32

/-- FLAGS of a report (Table 10.7). -/
def EngH.flags (g : EngH) : Nat :=
  match g.hand with
  | some r => b2n g.sat + 2 * b2n r.late + 4 * b2n r.gap
  | none => b2n g.sat

/-- A record ends in error (R379): emissions already made stand, an error report takes one slot of every window of
the job whose RPT_EN is 1 (R375), the error is counted and recorded and raised at most once per 1 ms for the
job. The engine returns to IDLE. -/
def Chip.recordError (c : Chip) (e status : Nat) (flags : Nat := (c.eng e).flags) : Chip :=
  match (c.eng e).hand with
  | none => c
  | some r =>
    let j := r.job
    let t := j / 32
    let ws := ((List.range 4).filterMap (c.slotWindow? j)).filter fun w => c.flag F.ACD_DST_A.RPT_EN t w
    let em : Emission := { eng := e, job := j, half := none, len := 0, dests := ws.map fun w => (w, c.nextProd t w),
                           status, flags, first := r.first }
    let c := c.handOver em
    let pc := c.fld F.ACD_ENG_STATUS.PC e
    let c := c.setReg .ACD_ENG_LAST_ERR (word (status * 2 ^ 24 + flags % 256 * 2 ^ 16 + pc)) e
    let c := ((c.pulse (engUnit e) 0x1D).inc F.ACD_JOB_ERR.COUNT t (j % 32)).incWrap F.ACD_JOB_DONE.COUNT t (j % 32)
    let c := c.raiseLimited (0x40000 + j) msCycles (tileSrc t 17) 0x13 1
      (r.recno * 2 ^ 32 + status * 256 + j % 32) (c.jobPart j)
    ((c.freeRecord e).setEng e enIdle).showStall e

/-- PC moves to the next instruction; past 511 the record ends with status ILLEGAL (R366). -/
def Chip.nextPc (c : Chip) (e : Nat) : Chip :=
  let pc := c.fld F.ACD_ENG_STATUS.PC e
  if pc = 511 then c.recordError e 2 else c.setFld F.ACD_ENG_STATUS.PC (pc + 1) e

/-- What an engine has still to send through windows of a partition is discarded. -/
def Chip.dropOut (c : Chip) (e p : Nat) : Chip :=
  let of_ (o : EngOut) : Bool := c.windowPart o.job o.win == some p
  if (c.eng e).out.any of_ then (c.updEng e fun h => { h with out := h.out.filter fun o => !of_ o }).showStall e else c

/-- The stalled requests of a partition are squashed without being issued (R123): parts of emissions leave the
emitter, a FETCH brings no data and its engine goes on, the data of reads that are outstanding is discarded, and an
LPB_CONFIG ends with REQ_FAIL (DEDUCED, log entry 49). -/
def Chip.squashStalled (c : Chip) (p : Nat) : Chip :=
  let ks := (c.part p).stalled
  let c := if c.busOff (some p) then (c.acd.engs.map (·.1)).foldl (fun c e => c.dropOut e p) c else c
  let drop (f : FetchRead) : FetchRead := if f.part == some p then { f with void := true } else f
  let c := (c.updPart p fun h => { h with stalled := [] })
  let c := { c with acd := { c.acd with engs := c.acd.engs.map fun (e : Nat × EngH) => (e.1, { e.2 with fetches := e.2.fetches.map drop }) } }
  let one (c : Chip) (k : Copy) : Chip :=
    match k.src with
    | .engine e =>
      if k.pkt.kind = .memWr then
        let cut (x : Emission) : Emission := if x.eng == e then { x with dests := x.dests.erase (k.pkt.addr, k.pkt.len) } else x
        Chip.showStall { c with acd := { c.acd with emits := (c.acd.emits.map cut).filter fun x => !x.dests.isEmpty } } e
      else ((c.updEng e fun h => { h with fetchBad := true }).showStall e).nextPc e
    | _ => if k.id != 0 && k.pkt.kind == .cfgWr then (c.setFld F.LBX_STATUS.MASTER_OFF 0 (k.id - 1)).boxResult (k.id - 1) 0x8008 else c
  ks.foldl one c

/-- A record ends by DONE (R367). -/
def Chip.recordDone (c : Chip) (e : Nat) : Chip :=
  match (c.eng e).hand with
  | none => c
  | some r =>
    (((c.pulse (engUnit e) 0x11).incWrap F.ACD_JOB_DONE.COUNT (r.job / 32) (r.job % 32)).freeRecord e).setEng e enIdle

/-- Bus Master Enable of a partition's management function is 0: what the emitter holds for the partition stalls, and
its engines with it; not while the partition refuses packets (R377). -/
def Chip.stallEngines (c : Chip) (p : Nat) : Chip :=
  let c := (c.acd.engs.filter fun (e : Nat × EngH) => !e.2.out.isEmpty).foldl (fun c (e : Nat × EngH) => c.showStall e.1) c
  if !c.busOff (some p) then c
  else c.acd.emits.foldl (fun c x =>
    let off := x.dests.filter fun q => c.windowPart x.job q.1 == some p
    let new := off.filter fun q => !(c.part p).stalled.elem (stallMark x.eng .memWr q.1 q.2 (some p))
    let c := new.foldl (fun c q => c.stall (stallMark x.eng .memWr q.1 q.2 (some p))) c
    if off.isEmpty then c else c.showStall x.eng) c

/-! ### Starts (R357 to R360) -/

/-- Modes in which starts are taken: a forwarding mode outside a quiesce (R358). -/
def Chip.startsOk (c : Chip) : Bool := isForwarding c.opMode && !c.mode.stopped

/-- A start whose cycle and place are given stands behind those of its own cycle that come before it, and before those that come
after it (R359). -/
def StartH.insert (x : StartH) (n : Nat) (l : List StartH) : List StartH :=
  let later (y : StartH) : Bool := y.hwy == x.hwy && Nat.blt x.rank y.rank
  l.takeWhile (fun y => !later y) ++ List.replicate n x ++ l.dropWhile fun y => !later y

/-- A start of a timed action or of a matrix rule, which counts its losses in TIM_ACT_LOST too. -/
def StartH.timed (x : StartH) : Bool := Nat.blt x.rank 512

/-- The pending starts beyond 64 are lost (R358): each record counts in START_LOST, and each timed start that loses records
once in TIM_ACT_LOST. -/
def Chip.loseStarts (c : Chip) (j : Nat) : Chip :=
  let lost := (c.job j).starts.drop 64
  if lost.isEmpty then c
  else
    let owners : List (Nat × Nat) := ((lost.filter fun (y : StartH) => y.timed && !y.lossy).map fun (y : StartH) => (y.hwy, y.rank)).eraseDups
    let c := (c.add F.ACD_JOB_LOST.START_LOST lost.length (j / 32) (j % 32)).add F.TIM_ACT_LOST.COUNT owners.length
    let mark (y : StartH) : StartH := { y with lossy := y.lossy || owners.contains (y.hwy, y.rank) }
    c.updJob j fun h => { h with starts := (h.starts.take 64).map mark }

/-- A start that asks for n records of a job (R357 to R359). A job with SRC = 0 ignores it and counts it. -/
def Chip.startJob (c : Chip) (j n : Nat) (x : StartH) : Chip :=
  let untaken (c : Chip) : Chip := if x.timed then c.inc F.TIM_ACT_LOST.COUNT else c
  if !c.tileEn (j / 32) then untaken c
  else if c.jfld F.ACD_JOB_CFG.SRC j = 0 then untaken (c.inc F.ACD_JOB_LOST.START_LOST (j / 32) (j % 32))
  else if !c.startsOk || !c.jobEn j || c.jfld F.ACD_JOB_STATUS.STOPPING j = 1 then untaken c
  else (c.updJob j fun h => { h with starts := StartH.insert { x with hwy := c.hwy } n h.starts }).loseStarts j

/-! ### Job checks (Table 10.1) -/

/-- Bytes of a job's ring and of one record. -/
def Chip.ringBytes (c : Chip) (j : Nat) : Nat := c.jfld F.ACD_JOB_RING.SIZE j * 64
/-- REC_LEN in bytes. -/
def Chip.recLen (c : Chip) (j : Nat) : Nat := c.jfld F.ACD_JOB_LEN.REC_LEN j
/-- Bytes of a staging half (R369). -/
def Chip.halfBytes (c : Chip) (j : Nat) : Nat := divUp (c.jfld F.ACD_JOB_LEN.OUT_LEN j) 64 * 64

/-- A context is a METER context of a tile (R291). -/
def Chip.meterOfTile (c : Chip) (t x : Nat) : Bool :=
  c.fld F.SCH_CTX_A.KIND x == 1 && allTiles.all fun u => u == t || !(c.tileMeters u).elem x

/-- The destination windows that a job's valid slots name. -/
def Chip.jobWindows (c : Chip) (j : Nat) : List Nat := (List.range 4).filterMap (c.slotWindow? j)

/-- The first check of Table 10.1 that fails, 0 when every check passes. -/
def Chip.jobRefuse (c : Chip) (j : Nat) : Nat :=
  let t := j / 32
  let es := c.jobEngines j
  let others := (tileJobs t).filter fun i => i != j && c.jobEn i
  let ws := c.jobWindows j
  let ringEnd := c.jfld F.ACD_JOB_RING.BASE j * 64 + c.ringBytes j
  let stageEnd := c.jfld F.ACD_JOB_STAGE.STAGE j * 64 + 2 * c.jfld F.ACD_JOB_SET.COUNT j * c.halfBytes j
  let partBad (p : Option Nat) : Bool := match p with
    | some p => (c.upPort? p).isNone
    | none => !(4 ≤ c.opMode && c.opMode ≤ 8)
  let recLen := c.recLen j
  if 128 < c.jfld F.ACD_JOB_SET.FIRST j + c.jfld F.ACD_JOB_SET.COUNT j ||
      es.any (fun e => c.engState e == enDisabled || others.any fun i => (c.jobEngines i).elem e) then 1
  else if (recLen != 0 && c.ringBytes j % recLen != 0) || pantrySize < ringEnd || pantrySize < stageEnd then 2
  else if ws.isEmpty || ws.any (fun w => !c.flag F.ACD_DST_A.VALID t w) || ws.eraseDups != ws ||
      others.any (fun i => (c.jobWindows i).any fun w => ws.elem w) ||
      (c.jfld F.ACD_JOB_DB.VALID j == 0 && ws.any fun w => c.fld F.ACD_DST_A.FULL t w != 0) then 3
  else if ws.any (fun w => c.flag F.ACD_DST_A.METER_VALID t w &&
      !c.meterOfTile t (c.fld F.ACD_DST_A.METER t w)) then 4
  else if partBad (c.jobPart j) || ws.any (fun w => c.flag F.ACD_DST_B.PART_VALID t w && partBad (c.windowPart j w))
    then 5
  else if c.jfld F.ACD_JOB_CFG.FLC_VALID j = 1 &&
      !(let f := c.jfld F.ACD_JOB_CFG.FLC j
        c.fld F.GLB_FLC_A.STATE f == 1 && c.flag F.GLB_FLC_A.KIND f && c.fld F.GLB_FLC_A.TARGET f == t &&
          some (c.fld F.GLB_FLC_A.OWNER f) == c.jobPart j) then 6
  else if (recLen == 0 && c.jfld F.ACD_JOB_CFG.SRC j == 0) || c.jfld F.ACD_JOB_LEN.OUT_LEN j < 4 then 7
  else 0

/-- An enabled job starts from nothing (R353). -/
def Chip.jobFresh (c : Chip) (j : Nat) : Chip :=
  let t := j / 32
  let c := ((c.setReg .ACD_JOB_READY 0 t (j % 32)).setReg .ACD_JOB_RECNO 0 t (j % 32)).setReg .ACD_JOB_DONE 0 t (j % 32)
  let c := (c.jobWindows j).foldl (fun c w => c.setReg .ACD_DST_PROD 0 t w) c
  c.updJob j fun _ => {}

/-- A job is disabled and what it holds is let go. -/
def Chip.jobDisable (c : Chip) (j : Nat) : Chip :=
  ((c.jobAbort j).setFld F.ACD_JOB_CFG.EN 0 (j / 32) (j % 32)).setFld F.ACD_JOB_STATUS.STOPPING 0 (j / 32) (j % 32)

/-- The checks repeated at entry to a mode from 0x1 to 0x8 (R353). -/
def Chip.recheckJobs (c : Chip) : Chip :=
  c.enabledJobs.foldl (fun c j =>
    let r := c.jobRefuse j
    if r = 0 then c else (c.jobDisable j).setFld F.ACD_JOB_STATUS.REFUSE r (j / 32) (j % 32)) c

/-! ### Writes of the job registers -/

/-- ACD_JOB_CFG after a write that reached it (R353): a write of EN = 1 to a job that is not enabled makes the
checks of Table 10.1. -/
def Chip.writeJobCfg (c : Chip) (a : Access) (j : Nat) (v : Word) : Chip :=
  let k : RegKey := ⟨.ACD_JOB_CFG, j / 32, j % 32⟩
  let was := c.jobEn j
  let c := c.storeReg a k k.tile v
  if c.jobEn j && !was then
    let c := c.setFld F.ACD_JOB_CFG.EN 0 (j / 32) (j % 32)
    let r := c.jobRefuse j
    let c := c.setFld F.ACD_JOB_STATUS.REFUSE r (j / 32) (j % 32)
    if r = 0 then (c.jobFresh j).setFld F.ACD_JOB_CFG.EN 1 (j / 32) (j % 32) else c
  else c

/-- ACD_JOB_CTL after a write that reached it: ABORT, STOP and KICK (R356, R357). -/
def Chip.writeJobCtl (c : Chip) (j : Nat) (v : Word) : Chip :=
  let c := if wbit v 29 && c.jobEn j then c.jobAbort j else c
  let c := if wbit v 30 && c.jobEn j then
    (c.updJob j fun h => { h with starts := [] }).setFld F.ACD_JOB_STATUS.STOPPING 1 (j / 32) (j % 32) else c
  if wbit v 31 then c.startJob j 1 { kind := 3, time := c.ns } else c

/-- The engines of a tile's load range; one that runs past the tile's last engine is refused with RANGE (R362). -/
def Chip.loadEngines (c : Chip) (t : Nat) : List Nat :=
  ((rangeFrom (c.fld F.ACD_LOAD_CTL.FIRST t) (c.fld F.ACD_LOAD_CTL.COUNT t)).filter (Nat.blt · 128)).map (· + 128 * t)

/-- An engine of a tile's load range belongs to an enabled job. -/
def Chip.loadInUse (c : Chip) (t : Nat) : Bool := (c.loadEngines t).any fun e => (c.jobOf? e).isSome

/-- ACD_LOAD_CTL after a write that reached it (R362): GO starts the copy; while an engine of the range belongs to an
enabled job it is dropped and counted, and RESULT reads IN_USE. -/
def Chip.writeLoadCtl (c : Chip) (a : Access) (t : Nat) (v : Word) : Chip :=
  let k : RegKey := ⟨.ACD_LOAD_CTL, t, 0⟩
  let c := c.storeReg a k k.tile v
  if !wbit v 31 || c.flag F.ACD_LOAD_CTL.BUSY t then c
  else if c.loadInUse t then (c.countClamp k).setFld F.ACD_LOAD_CTL.RESULT 1 t
  else c.setFld F.ACD_LOAD_CTL.BUSY 1 t

/-! ### The Pantry as a target (R378) -/

/-- Writing those bytes whose lanes are enabled; bytes past the list of lanes are. -/
def Mem.pantryLanes (m : Mem) (t x : Nat) : List Byte → List Bool → Mem
  | [], _ => m
  | b :: bs, on =>
    Mem.pantryLanes (if on.headD true then m.pantryWrite t x [b] else m) t (x + 1) bs on.tail

/-- A posted write reaches the Pantry of a tile: its enabled bytes are stored, and one that covers the first word of an
enabled job's doorbell page with every byte enabled is a doorbell start, at the time of its lookup (Table 10.2). -/
def Dev.pantryPost (d : Dev) (t off : Nat) (bs : List Byte) (lanes : List Bool := []) (seen : Option Nat := none) : Dev :=
  let d : Dev := { d with mem := d.mem.pantryLanes t off bs lanes }
  d.onChip fun c => (tileJobs t).foldl (fun c j =>
    let x := c.jfld F.ACD_JOB_DB.PAGE j * 4096
    if c.jobEn j && c.jfld F.ACD_JOB_DB.VALID j = 1 && off ≤ x && x + 4 ≤ off + bs.length &&
        (rangeFrom (x - off) 4).all (fun i => lanes.getD i true) then
      let n := leNat ((bs.drop (x - off)).take 2)
      if n = 0 then c else c.startJob j n { kind := 3, time := seen.getD c.ns, rank := 512 }
    else c) c

end Sys2Proof.Machine
end

