-- ==== Sys2Proof/Machine/Isa.lean ====
section
/-! DEFINITION. What the instructions of the micro-sequencer share (R361 to R371): fetching the instruction at PC,
field descriptors and scale entries, conversion, and access to the record and the staging half. -/

namespace Sys2Proof.Machine

/-! ### Conversion (R364) -/

/-- Floor of an integer divided by a power of two. -/
def floorShift (p : Int) (s : Nat) : Int := p / (2 ^ s : Nat)

/-- A magnitude times 2^-s, rounded to the nearest integer, ties to even. -/
def roundEvenNat (m s : Nat) : Nat :=
  let q := m / 2 ^ s
  let r := m % 2 ^ s
  if 2 * r < 2 ^ s || s = 0 then q else if 2 ^ s < 2 * r then q + 1 else q + q % 2

/-- An integer times 2^-s, rounded to the nearest integer, ties to even. -/
def roundEven (p : Int) (s : Nat) : Int :=
  if p < 0 then - (roundEvenNat p.natAbs s : Int) else roundEvenNat p.natAbs s

/-- A target's integer conversion: the code in `width` bits and whether it saturated. -/
def convInt (p : Int) (shift : Nat) (rnd sgn : Bool) (width : Nat) : Nat × Bool :=
  let q := if rnd then roundEven p shift else floorShift p shift
  let lo : Int := if sgn then - (2 ^ (width - 1) : Nat) else 0
  let hi : Int := if sgn then (2 ^ (width - 1) : Nat) - 1 else (2 ^ width : Nat) - 1
  let r := clampI lo hi q
  (unsigned width r, r != q)

/-- p · 2^-s rounded once to nearest, ties to even, in a binary format with `mant` fraction bits and `expw`
exponent bits (binary16: 10 and 5; binary32: 23 and 8); the code, and whether it overflowed. -/
def convFloat (mant expw : Nat) (p : Int) (s : Nat) (sat : Bool) : Nat × Bool :=
  let m := p.natAbs
  if m = 0 then (0, false)
  else
    let bias := 2 ^ (expw - 1) - 1
    -- the weight of the last fraction bit is 2^(k − bias − mant), with k at least 1
    let top := Nat.log2 m + bias
    let k := if top < s + 1 then 1 else top - s
    -- n = m · 2^(bias + mant − s − k)
    let up := bias + mant
    let n := if s + k ≤ up then m * 2 ^ (up - (s + k)) else roundEvenNat m (s + k - up)
    let code := (k - 1) * 2 ^ mant + n
    let inf := (2 ^ expw - 1) * 2 ^ mant
    let tooBig := inf ≤ code
    let mag := if tooBig then (if sat then inf - 1 else inf) else code
    (mag + (if p < 0 then 2 ^ (mant + expw) else 0), tooBig)

/-! ### Descriptors and scale entries (R363, R364) -/

/-- A field descriptor (Table 10.4). -/
structure Descr where
  pos : Nat
  stride : Nat
  width : Nat
  sgn : Bool
  conv : Nat
  sat : Bool
  scale : Nat
  msb : Bool
  deriving DecidableEq, Repr, Inhabited

/-- Descriptor d of an engine's program store. -/
def Chip.descr (c : Chip) (e d : Nat) : Descr :=
  let a := (c.reg .ACD_PS_DESC_A e d).toNat
  { pos := c.fld F.ACD_PS_DESC_B.POS e d, stride := bits a 31 20, width := bits a 19 15 + 1, sgn := bit a 14,
    conv := if bits a 13 12 = 3 then 0 else bits a 13 12, sat := bit a 11, scale := bits a 10 7, msb := bit a 6 }

/-- The width of a descriptor as a target. -/
def Descr.targetWidth (d : Descr) : Nat := if d.conv = 1 then 16 else if d.conv = 2 then 32 else d.width

/-- The distance between instances of a field of a given width. -/
def Descr.step (d : Descr) (width : Nat) : Nat := if d.stride = 0 then width else d.stride

/-- A value converted by a target descriptor: the code and whether sat_flag sets. -/
def Chip.convert (c : Chip) (e : Nat) (d : Descr) (v : Int) : Nat × Bool :=
  let s := d.scale
  let mul := signed 24 (c.fld F.ACD_PS_SCALE_HI.MUL e s)
  let shift := min 47 (c.fld F.ACD_PS_SCALE_HI.SHIFT e s)
  let p := v * mul + signed 32 (c.fld F.ACD_PS_SCALE_LO.ADD e s)
  if d.conv = 1 then convFloat 10 5 p shift d.sat
  else if d.conv = 2 then convFloat 23 8 p shift d.sat
  else convInt p shift (c.flag F.ACD_PS_SCALE_HI.RND e s) d.sgn d.width

/-! ### Bits of a byte area -/

/-- Byte and bit of a bit position under ORDER: position `at_ + i` of a field whose bit i counts from its first
position. -/
def bitPlace (msb : Bool) (p : Nat) : Nat × Nat := (p / 8, if msb then 7 - p % 8 else p % 8)

/-- A field read from a Pantry at bit position p of the area at byte `base`. -/
def Dev.readField (d : Dev) (t base p width : Nat) (msb : Bool) : Nat :=
  ((List.range width).map fun i =>
    let (by_, b) := bitPlace msb (p + i)
    let v := if bit (leNat (d.mem.pantryRead t (base + by_) 1)) b then 1 else 0
    v * 2 ^ (if msb then width - 1 - i else i)).sum

/-- A field written to a Pantry. -/
def Dev.writeField (d : Dev) (t base p width : Nat) (msb : Bool) (v : Nat) : Dev :=
  (List.range width).foldl (fun d i =>
    let (by_, b) := bitPlace msb (p + i)
    let old := leNat (d.mem.pantryRead t (base + by_) 1)
    let x := bit v (if msb then width - 1 - i else i)
    d.pantryWrite t (base + by_) (leBytes 1 (putBit old b x))) d

/-! ### The engine's areas -/

/-- Pantry offset of a staging half of an engine (R369). -/
def Chip.halfBase (c : Chip) (e j half : Nat) : Nat :=
  c.jfld F.ACD_JOB_STAGE.STAGE j * 64 + (2 * (e % 128 - c.jfld F.ACD_JOB_SET.FIRST j) + half) * c.halfBytes j

/-- The job of the record that an engine has in hand. -/
def Chip.handJob (c : Chip) (e : Nat) : Nat := match (c.eng e).hand with | some r => r.job | none => 0

/-- Pantry offset and bytes of the record in hand. -/
def Chip.inArea (c : Chip) (e : Nat) : Nat × Nat := match (c.eng e).hand with | some r => (r.loc, r.len) | none => (0, 0)

/-- Pantry offset and bytes of the staging half in use. -/
def Chip.outArea (c : Chip) (e : Nat) : Nat × Nat :=
  let j := c.handJob e
  (c.halfBase e j (c.eng e).half, c.halfBytes j)

/-- Bits lie inside an area. -/
def bitsInside (p width bytes : Nat) : Bool := p + width ≤ 8 * bytes

/-! ### Executing one instruction -/

/-- The instruction at PC. -/
def Chip.insn (c : Chip) (e : Nat) : Nat := c.fld F.ACD_PS_INSN.INSN e (c.fld F.ACD_ENG_STATUS.PC e)

/-- Fields of an instruction (Table 10.5). -/
def insnOp (w : Nat) : Nat := bits w 23 18
/-- D. -/
def insnD (w : Nat) : Nat := bits w 17 14
/-- A. -/
def insnA (w : Nat) : Nat := bits w 13 10
/-- B. -/
def insnB (w : Nat) : Nat := bits w 9 6
/-- IMM, unsigned. -/
def insnImm (w : Nat) : Nat := bits w 9 0
/-- IMM, signed. -/
def insnImmS (w : Nat) : Int := signed 10 (bits w 9 0)

/-- The opcodes of Table 10.6. -/
def opcodes : List Nat :=
  [0x00, 0x01, 0x02, 0x03, 0x04, 0x05, 0x08, 0x09, 0x0A, 0x0B, 0x0C, 0x0D, 0x0E, 0x0F, 0x10, 0x11, 0x12, 0x13,
   0x18, 0x19, 0x1A, 0x1B, 0x1C, 0x1D, 0x1E, 0x1F, 0x20, 0x21, 0x22, 0x23, 0x24, 0x25, 0x26, 0x28, 0x29, 0x2A,
   0x2B, 0x2C, 0x2D, 0x2E, 0x30, 0x31, 0x32]

/-- A register of an engine; G0 reads 0. -/
def Chip.g (c : Chip) (e r : Nat) : Word := if r = 0 then 0 else (c.eng e).g.get 0 r

/-- Writing a register of an engine; G0 ignores it. -/
def Chip.setG (c : Chip) (e r : Nat) (v : Word) : Chip :=
  if r = 0 then c else c.updEng e fun h => { h with g := h.g.set 0 r v }

/-- Z and N of a result. -/
def Chip.setZN (c : Chip) (e : Nat) (v : Word) : Chip :=
  c.updEng e fun h => { h with z := v == 0, n := v.msb }

/-- An engine in RUN whose instruction at PC has this opcode executes it; the command has no effect on any other
engine, nor on one of a tile whose clocks stand still (GLB_TILE_EN). -/
def Dev.onInsn (d : Dev) (e op : Nat) (f : Dev → Nat → Dev) : Dev :=
  let w := d.chip.insn e
  if d.chip.engState e = enRun && d.chip.tileEn (e / 128) && (d.chip.eng e).hand.isSome && insnOp w = op then f d w else d

/-- An instruction that only computes D from A, B and the immediate. -/
def Dev.compute (d : Dev) (e op : Nat) (f : Chip → Nat → Word) : Dev :=
  d.onInsn e op fun d w => d.onChip fun c => (c.setG e (insnD w) (f c w)).nextPc e

/-- As `compute`, setting Z and N. -/
def Dev.computeZN (d : Dev) (e op : Nat) (f : Chip → Nat → Word) : Dev :=
  d.onInsn e op fun d w => d.onChip fun c =>
    let v := f c w
    ((c.setG e (insnD w) v).setZN e v).nextPc e

/-- An addition or subtraction with its flags (R367); `keep` stores the result. -/
def Dev.arith (d : Dev) (e op : Nat) (keep sub : Bool) (rhs : Chip → Nat → Word) : Dev :=
  d.onInsn e op fun d w => d.onChip fun c =>
    let a := c.g e (insnA w)
    let b := rhs c w
    let v := if sub then a - b else a + b
    let carry := if sub then decide (a.toNat < b.toNat) else decide (2 ^ 32 ≤ a.toNat + b.toNat)
    let c := if keep then c.setG e (insnD w) v else c
    ((c.setZN e v).updEng e fun h => { h with c := carry }).nextPc e

/-- Register A of an instruction. -/
def Chip.gA (c : Chip) (e w : Nat) : Word := c.g e (insnA w)
/-- Register B of an instruction. -/
def Chip.gB (c : Chip) (e w : Nat) : Word := c.g e (insnB w)

/-- The signed smaller of two words. -/
def sMin (a b : Word) : Word := if a.slt b then a else b
/-- The signed larger of two words. -/
def sMax (a b : Word) : Word := if a.slt b then b else a

/-- A pointer moved modulo 2^17. -/
def ptrAdd (p : Nat) (i : Int) : Nat := (((p : Int) + i) % 131072).toNat

/-- COND of a jump (R366); none when it is reserved. -/
def EngH.cond? (h : EngH) : Nat → Option Bool
  | 0 => some true
  | 1 => some h.z
  | 2 => some (!h.z)
  | 3 => some h.n
  | 4 => some (!h.n)
  | 5 => some h.c
  | 6 => some (!h.c)
  | 7 => some h.sat
  | _ => none

/-- The record in hand ends with status OOB (R371). -/
def Dev.oob (d : Dev) (e : Nat) : Dev := d.onChip fun c => c.recordError e 1

/-- sat_flag sets. -/
def Chip.noteSat (c : Chip) (e : Nat) (s : Bool) : Chip := if s then (c.pulse (engUnit e) 0x1E).updEng e fun h => { h with sat := true } else c

/-- n bytes written into the staging half at an output byte, OOB outside it; the instruction is over. -/
def Dev.stage (d : Dev) (e : Nat) (at_ : Int) (bs : List Byte) : Dev :=
  let (base, len) := d.chip.outArea e
  if at_ < 0 || (len : Int) < at_ + bs.length then d.oob e
  else (d.pantryWrite (e / 128) (base + at_.toNat) bs).onChip fun c => c.nextPc e

/-- XFRM over its instances (R367): from instance i, n of them; false when an access lay outside. -/
def Dev.xfrm (d : Dev) (e : Nat) (src tgt : Descr) (ip op i : Nat) : Nat → Dev × Bool
  | 0 => (d, true)
  | n + 1 =>
    let t := e / 128
    let (ib, il) := d.chip.inArea e
    let (ob, ol) := d.chip.outArea e
    let p := ip + src.pos + i * src.step src.width
    let q := op + tgt.pos + i * tgt.step tgt.targetWidth
    if !bitsInside p src.width il || !bitsInside q tgt.targetWidth ol then (d, false)
    else
      let raw := d.readField t ib p src.width src.msb
      let v : Int := if src.sgn then signed src.width raw else raw
      let (code, s) := d.chip.convert e tgt v
      let d := (d.onChip fun c => (c.noteSat e s).pulse (engUnit e) 0x1A).writeField t ob q tgt.targetWidth tgt.msb code
      d.xfrm e src tgt ip op (i + 1) n

/-! ### EMIT (R369, R374) -/

/-- The destination windows that an EMIT names: those of its mask whose slots are VALID. -/
def Chip.emitSlots (c : Chip) (e w : Nat) : List (Nat × Nat) :=
  let j := c.handJob e
  let mask := if insnB w = 0 then 15 else (c.gB e w).toNat % 16
  (List.range 4).filterMap fun m => if bit mask m then (c.slotWindow? j m).map fun x => (m, x) else none

/-- The length of an EMIT. -/
def Chip.emitLen (c : Chip) (e w : Nat) : Nat :=
  if insnA w = 0 then c.jfld F.ACD_JOB_LEN.OUT_LEN (c.handJob e) else (c.gA e w).toNat

/-- CONS of a destination slot, in the job's doorbell page (R378). -/
def Dev.cons (d : Dev) (j m : Nat) : Nat :=
  d.mem.pantryWord (j / 32) (d.chip.jfld F.ACD_JOB_DB.PAGE j * 4096 + 0x10 + 4 * m)

/-- A window of a slot is full (R374). -/
def Dev.windowFull (d : Dev) (j m w : Nat) : Bool :=
  let t := j / 32
  2 ^ d.chip.fld F.ACD_DST_B.SLOTS t w ≤ (d.chip.nextProd t w + 2 ^ 32 - d.cons j m) % 2 ^ 32

/-- Another engine of a job has an emission that is stalled, or writes that wait or are held by a meter: the job's record order
waits for it (Table 10.11). -/
def Chip.jobEmits (c : Chip) (j e : Nat) : Bool :=
  (c.acd.emits.any fun x => x.job == j && x.eng != e && x.dests.any fun q => c.windowOff j q.1) ||
    (c.jobEngines j).any fun x => x != e && (!(c.eng x).out.isEmpty || c.engHeldWrite x)

/-- What an EMIT must wait for, none when it may issue: record order (R355), the other half (R369), a full STALL
window (R374). Windows that Bus Master Enable holds back stall it after the half has been handed over: those of other
partitions are written (R121). -/
def Dev.emitWait? (d : Dev) (e w : Nat) : Option Nat :=
  let c := d.chip
  match (c.eng e).hand with
  | none => none
  | some r =>
    let ds := c.emitSlots e w
    if (c.job r.job).order.head? != some r.recno || c.jobEmits r.job e then some enToken
    else if (c.acd.emits.any fun x => x.eng == e && x.half == some (1 - (c.eng e).half)) || !(c.eng e).out.isEmpty then some enBuf
    else if ds.any fun q => c.fld F.ACD_DST_A.FULL (r.job / 32) q.2 == 1 && d.windowFull r.job q.1 q.2 then some enDest
    else none

/-- An engine enters a waiting state with its PC at the instruction. -/
def Chip.engWait (c : Chip) (e s : Nat) : Chip := c.setEng e s

/-- EMIT issues: the half is handed to the emitter, a full DROP window takes nothing and counts, OP counts from 0
in the other half. -/
def Dev.emit (d : Dev) (e w : Nat) : Dev :=
  match (d.chip.eng e).hand with
  | none => d
  | some r =>
    let j := r.job
    let t := j / 32
    let c := d.chip
    let len := c.emitLen e w
    let ds := c.emitSlots e w
    let dropped := ds.filter fun q => c.fld F.ACD_DST_A.FULL t q.2 == 2 && d.windowFull j q.1 q.2
    let kept := ds.filter fun q => !dropped.elem q
    let c := dropped.foldl (fun c q => c.inc F.ACD_DST_DROP.COUNT t q.2) c
    let em : Emission := { eng := e, job := j, half := some (c.eng e).half, len,
                           dests := kept.map fun q => (q.2, c.nextProd t q.2), status := 0,
                           flags := (c.eng e).flags, first := r.first }
    let c := c.handOver em
    let c := ((c.pulse (engUnit e) 0x1B).updEng e fun h => { h with half := 1 - h.half, op := 0 }).nextPc e
    { d with chip := if c.engStalled e then c.showStall e else c }

end Sys2Proof.Machine
end

