-- ==== Sys2Proof/Machine/State.lean ====
section
/-! DEFINITION. The state of the block: the commands that wait, the addressed memories and the rest of the
device. -/

namespace Sys2Proof.Machine

/-- Why the machine stops with a fault: no rule of the spec stops the device, so there is no reason. -/
inductive Fault where
  deriving DecidableEq, Repr

/-- Why a command has no meaning. -/
inductive Refusal where
  /-- Raised by the dispatch for a command that has no meaning yet; safe, because the machine stops. -/
  | notModelled (mnemonic : String)
  deriving DecidableEq, Repr

/-- The state of the block. -/
structure State where
  /-- The commands that wait, first in first out. -/
  pending : List Instr := []
  mem : Mem := {}
  chip : Chip := {}
  deriving DecidableEq, Repr

/-- The state right after reset: every register at its reset value, memories with nothing listed, no
command waiting. -/
def State.reset : State := {}

/-- The state with the device and its memories changed, whatever is powered. -/
def State.always (s : State) (f : Dev → Dev) : State :=
  let d := f { mem := s.mem, chip := s.chip }
  { s with mem := d.mem, chip := d.chip }

/-- The state with the device changed by something in the core domain, which does nothing while that domain is off or held
in reset. -/
def State.onChip (s : State) (f : Chip → Chip) : State := if s.chip.coreUp then { s with chip := f s.chip } else s

/-- The state with the device and its memories changed by something in the core domain. -/
def State.onDev (s : State) (f : Dev → Dev) : State := if s.chip.coreUp then s.always f else s

/-- The state with the device changed by something in the SLOT domain. -/
def State.onSlot (s : State) (f : Chip → Chip) : State := if s.chip.slotUp then { s with chip := f s.chip } else s

/-- The state with the device changed by a pin or by the always-on domain. -/
def State.onPin (s : State) (f : Chip → Chip) : State := { s with chip := f s.chip }

end Sys2Proof.Machine
end

