-- ==== Sys2Proof/Machine/Accord.lean ====
section
/-! DEFINITION. The meanings of the commands of jobs and engines (spec/10_accord_engines.md) that do not enter the
ingress header lookup. -/

namespace Sys2Proof.Machine

/-- The number of a job of a tile. -/
def jobNum (t : Fin 12) (j : Fin 32) : Nat := 32 * t.val + j.val

/-- R353: a write of ACD_JOB_CFG. -/
def execJobEnable (a : Access) (t : Fin 12) (j : Fin 32) (v : Word) (s : State) : Host.Outcome State Fault Refusal :=
  .next (s.onChip fun c => c.ownWrite a ⟨.ACD_JOB_CFG, t.val, j.val⟩ v fun c => c.writeJobCfg a (jobNum t j) v)

/-- R357: a write of ACD_JOB_CTL.KICK. -/
def execKick (a : Access) (t : Fin 12) (j : Fin 32) (v : Word) (s : State) : Host.Outcome State Fault Refusal :=
  .next (s.onChip fun c => c.ownWrite a ⟨.ACD_JOB_CTL, t.val, j.val⟩ v fun c => c.writeJobCtl (jobNum t j) v)

/-- R356: a write of ACD_JOB_CTL.STOP. -/
def execJobStop (a : Access) (t : Fin 12) (j : Fin 32) (v : Word) (s : State) : Host.Outcome State Fault Refusal :=
  .next (s.onChip fun c => c.ownWrite a ⟨.ACD_JOB_CTL, t.val, j.val⟩ v fun c => c.writeJobCtl (jobNum t j) v)

/-- R356: a write of ACD_JOB_CTL.ABORT. -/
def execJobAbort (a : Access) (t : Fin 12) (j : Fin 32) (v : Word) (s : State) : Host.Outcome State Fault Refusal :=
  .next (s.onChip fun c => c.ownWrite a ⟨.ACD_JOB_CTL, t.val, j.val⟩ v fun c => c.writeJobCtl (jobNum t j) v)

/-- R356: the last engine of a stopping job is idle. -/
def execJobStopDone (t : Fin 12) (j : Fin 32) (s : State) : Host.Outcome State Fault Refusal :=
  .next (s.onChip fun c =>
    if c.flag F.ACD_JOB_STATUS.STOPPING t.val j.val && c.jobRunning (jobNum t j) == 0 then
      (c.setFld F.ACD_JOB_CFG.EN 0 t.val j.val).setFld F.ACD_JOB_STATUS.STOPPING 0 t.val j.val
    else c)

/-- The engine takes a record (R365): PC, IP, OP, LC and flags are 0, G1 to G3 are set, G4 to G15 stay. -/
def Chip.recordStart (c : Chip) (e : Nat) (r : RecInHand) (kind line : Nat) : Chip :=
  let c := c.updEng e fun h => { h with ip := 0, op := 0, lc := 0, z := false, n := false, c := false, sat := false,
                                        hand := some r, fetches := [], fetchBad := false }
  let g3 := kind * 2 ^ 30 + b2n r.late * 2 ^ 29 + b2n r.gap * 2 ^ 28 + line
  let c := ((c.setG e 1 (word r.recno)).setG e 2 (word r.len)).setG e 3 (word g3)
  let c := (c.setFld F.ACD_ENG_STATUS.PC 0 e).setReg .ACD_ENG_RECNO (word r.recno) e
  let c := c.updJob r.job fun h => { h with order := h.order ++ [r.recno] }
  ((c.incWrap F.ACD_JOB_RECNO.COUNT (r.job / 32) (r.job % 32)).pulse (engUnit e) 0x10).setEng e enRun

/-- R354, R360, Table 7.7: the next ready record, or the next pending start, goes to the lowest-numbered idle engine of the
set. A start takes the record that stands at the read index, and DONE frees it for capture (R351). -/
def execRecordDispatch (t : Fin 12) (j : Fin 32) (s : State) : Host.Outcome State Fault Refusal :=
  .next (s.onChip fun c =>
    let i := jobNum t j
    let base := c.jfld F.ACD_JOB_RING.BASE i * 64
    let len := c.recLen i
    let slots := c.ringBytes i / len
    let no := c.fld F.ACD_JOB_RECNO.COUNT t.val j.val
    if !c.jobEn i || c.flag F.ACD_JOB_STATUS.STOPPING t.val j.val || !c.startsOk || !c.tileEn t.val || c.jobDraining i then c
    else match (c.jobEngines i).find? fun e => c.engState e == enIdle with
      | none => c
      | some e =>
        if c.jfld F.ACD_JOB_CFG.SRC i = 0 then
          match (c.job i).recs.find? fun r => !r.busy with
          | some r =>
            if r.ready then
              let c := c.updJob i fun h => { h with
                recs := h.recs.map fun q => if q.num == r.num then { q with busy := true } else q }
              c.recordStart e { job := i, recno := no, loc := base + r.num % slots * len, len, num := some r.num,
                                gap := r.gap, first := r.first, last := r.last, start := c.ns } 0 0xFF
            else c
          | none => c
        else match (c.job i).starts with
          | x :: rest =>
            let k := (c.job i).readIdx
            let c := c.updJob i fun h => { h with starts := rest, readIdx := if len = 0 then 0 else (k + 1) % slots }
            let held := (c.job i).recs.find? fun q => q.ready && slots != 0 && q.num % slots == k
            c.recordStart e { job := i, recno := no, loc := base + k * len, len, num := held.map (·.num), late := x.late, first := x.time,
                              last := x.time, start := x.time } x.kind x.line
          | [] => c)

/-- R378: a posted write of this word reaches the first word of a Pantry granule. -/
def execDoorbellStart (t : Fin 12) (page : Fin 512) (v : Word) (s : State) : Host.Outcome State Fault Refusal :=
  .next (s.onDev fun d => d.pantryPost t.val (page.val * 4096) (leBytes 4 v.toNat))

/-- R379: a record has spent more than its watchdog limit in RUN and WAIT_FETCH. -/
def execRecordWatchdog (e : Fin 1536) (s : State) : Host.Outcome State Fault Refusal :=
  .next (s.onChip fun c =>
    if (c.engState e.val = enRun || c.engState e.val = enFetch) && c.jfld F.ACD_JOB_CFG.WDOG (c.handJob e.val) != 0
    then c.recordError e.val 4 else c)

/-- R362: a write of ACD_LOAD_CTL. -/
def execAccordLoad (a : Access) (t : Fin 12) (v : Word) (s : State) : Host.Outcome State Fault Refusal :=
  .next (s.onChip fun c => c.ownWrite a ⟨.ACD_LOAD_CTL, t.val, 0⟩ v fun c => c.writeLoadCtl a t.val v)

/-- A program store takes the image at a Pantry offset (Table 10.3); CONV 0b11 is clamped. A scale entry takes all 64 bits: it
may hold a constant (R364). -/
def Dev.loadStore (d : Dev) (t e src : Nat) : Dev :=
  let w (x : Nat) : Nat := d.mem.pantryWord t (src + x)
  d.onChip fun c =>
    let c := (List.range 512).foldl (fun c i => c.setReg .ACD_PS_INSN (word (w (4 * i) % 2 ^ 24)) e i) c
    let c := (List.range 64).foldl (fun c i =>
      let a := w (0x800 + 8 * i)
      let a := if bits a 13 12 = 3 then a - 3 * 2 ^ 12 else a
      (c.setReg .ACD_PS_DESC_A (word a) e i).setReg .ACD_PS_DESC_B (word (w (0x804 + 8 * i) % 65536)) e i) c
    (List.range 16).foldl (fun c i =>
      (c.setReg .ACD_PS_SCALE_LO (word (w (0xA00 + 8 * i))) e i).setReg .ACD_PS_SCALE_HI (word (w (0xA04 + 8 * i))) e i) c

/-- R362: the copy ends; `bad` says that the image holds an uncorrectable word. -/
def execAccordLoadDone (t : Fin 12) (bad : Bool) (s : State) : Host.Outcome State Fault Refusal :=
  .next (s.onDev fun d =>
    let c := d.chip
    let src := c.fld F.ACD_LOAD_SRC.SRC t.val * 64
    let es := c.loadEngines t.val
    let finish (d : Dev) (r : Nat) : Dev :=
      d.onChip fun c => (c.setFld F.ACD_LOAD_CTL.BUSY 0 t.val).setFld F.ACD_LOAD_CTL.RESULT r t.val
    if !c.flag F.ACD_LOAD_CTL.BUSY t.val || !c.tileEn t.val then d
    else if c.loadInUse t.val then finish d 1
    else if pantrySize < src + 2688 || 128 < c.fld F.ACD_LOAD_CTL.FIRST t.val + c.fld F.ACD_LOAD_CTL.COUNT t.val then
      finish d 2
    else if bad then finish (d.onChip fun c => es.foldl (fun c e => c.setEng e enDisabled) c) 3
    else finish (es.foldl (fun d e => (d.loadStore t.val e src).onChip fun c =>
      ((c.updEng e fun h => { h with g := [] }).setEng e enIdle).showStall e) d) 0)

/-- R346, R379: an uncorrectable error at a Pantry offset, or at an image offset of an engine's program store, if any, and the
errors corrected since the last report (Table 14.1). -/
def execPantryEccUncorrectable (t : Fin 12) (store : Bool) (k : Fin 128) (addr : EccAt) (s : State) :
    Host.Outcome State Fault Refusal :=
  .next (s.onChip fun c =>
    let e := 128 * t.val + k.val
    let src := tileSrc t.val (if store then 16 else 15)
    let c := addr.corr.foldl (fun c x => c.raiseCorrected src x.val) (c.add F.ACD_ECC_CORR.COUNT addr.corr.length t.val)
    match addr.addr with
    | none => c
    | some at_ =>
    let at_ := at_.val
    let w := 2 ^ 31 + b2n store * 2 ^ 30 + (if store then k.val * 2 ^ 21 else 0) + at_
    let c := (c.inc F.ACD_ECC_UNCORR.COUNT t.val).setReg .ACD_ECC_ADDR (word w) t.val
    let c := c.raise src 0x12 1 w
    if store then (c.recordError e 5).setEng e enDisabled
    else (rangeFrom (128 * t.val) 128).foldl (fun c e =>
      let (ib, il) := c.inArea e
      let hb := c.halfBase e (c.handJob e) 0
      let inHalves := hb ≤ at_ && at_ < hb + 2 * c.halfBytes (c.handJob e)
      if (c.eng e).hand.isSome && ((ib ≤ at_ && at_ < ib + il) || inHalves) then c.recordError e 5
      else c) c)

/-- R380: an engine that waits resumes once its condition clears. The instruction at its PC is executed again. -/
def execEngineWaitResume (e : Fin 1536) (s : State) : Host.Outcome State Fault Refusal :=
  .next (s.onDev fun d =>
    let st := d.chip.engState e.val
    let w := d.chip.insn e.val
    let h := d.chip.eng e.val
    if st = enFetch then
      let groups := (h.fetches.map (·.group)).eraseDups.length
      if h.fetches.isEmpty || h.fetchBad || (insnOp w = 0x31 && groups < 8) then
        d.onChip fun c => c.setEng e.val enRun
      else d
    else if st = enMeter || st = enMaster then d.onChip fun c => c.showStall e.val
    else if (st = enToken || st = enBuf || st = enDest) && insnOp w = 0x30 then
      match d.emitWait? e.val w with
      | some x => d.onChip fun c => c.engWait e.val x
      | none => d.onChip fun c => c.setEng e.val enRun
    else d)

/-- R370: the engine takes the oldest completion delivered to it: its data lands in the record, or the record is
marked for FETCH_ERR. A completion that no FETCH of the record awaits is dropped. -/
def execFetchCompletion (e : Fin 1536) (s : State) : Host.Outcome State Fault Refusal :=
  .next (s.onDev fun d =>
    match d.chip.flt.inbox.find? fun q => q.to_ == .engine e.val with
    | none => d
    | some q =>
      let p := q.pkt
      let d := d.onChip fun c => { c with flt := { c.flt with inbox := c.flt.inbox.erase q } }
      match (d.chip.eng e.val).fetches.find? fun f => f.tag == p.tag && f.part == q.part with
      | none => d
      | some f =>
        let n := p.data.length
        let full := p.status != .sc || f.len ≤ n
        let d := if p.status = .sc && !f.void then
          d.pantryWrite (e.val / 128) ((d.chip.inArea e.val).1 + f.off) (p.data.take f.len) else d
        d.onChip fun c => c.updEng e.val fun h => { h with
          fetchBad := h.fetchBad || p.status != .sc
          fetches := if full then h.fetches.erase f
            else h.fetches.map fun x => if x == f then { f with off := f.off + n, len := f.len - n } else x })

end Sys2Proof.Machine
end

