-- ==== Sys2Proof/Machine/FuseOps.lean ====
section
/-! DEFINITION. The shared operations of the Fuse Box (spec/13_fuse_box.md) and of the slot registers that it feeds
(R111, R437). The meanings stand in Machine/Fuse.lean. -/

namespace Sys2Proof.Machine

/-! ### Slots -/

/-- The enabled port that maps to a channel (R109). -/
def Chip.slotPort? (c : Chip) (s : Nat) : Option Nat :=
  allPorts.find? fun n => c.isPcie n && c.role n != 1 && c.flag F.PRT_HP_CFG.HP_EN n && c.fld F.PRT_HP_CFG.FUS_CHAN n == s

/-- The channel of a hot-plug slot's port. -/
def Chip.slotChan? (c : Chip) (n : Nat) : Option Nat :=
  if c.isPcie n && c.role n != 1 && c.flag F.PRT_HP_CFG.HP_EN n then some (c.fld F.PRT_HP_CFG.FUS_CHAN n) else none

/-- The hot-plug interrupt of a slot is asserted: Hot-Plug Interrupt Enable, and an event whose own enable is 1 (R111): the
Slot Status bit of each event beside its bit of Slot Control. -/
def Chip.hpPending (c : Chip) (n : Nat) : Bool :=
  let on (b : Nat) : Bool := c.cfgBit (.port n) 0x88 b
  on 5 && [(0, 0), (1, 1), (2, 2), (3, 3), (4, 4), (8, 12)].any fun q => on (16 + q.1) && on q.2

/-- Vector 0 is signalled when the hot-plug interrupt becomes asserted (R95, R111, R115); `was` says what it was. -/
def Chip.hpFollow (c : Chip) (n : Nat) (was : Bool) : Chip := if !was && c.hpPending n then c.msix (.port n) 0 else c

/-- A slot event: its Slot Status bit sets. -/
def Chip.slotEvent (c : Chip) (n statusBit : Nat) : Chip :=
  (c.putCfgBit (.port n) 0x88 (16 + statusBit) true).hpFollow n (c.hpPending n)

/-- A slot event of the port that maps to a channel. -/
def Chip.chanEvent (c : Chip) (s statusBit : Nat) : Chip :=
  match c.slotPort? s with
  | some n => c.slotEvent n statusBit
  | none => c

/-- Power Controller Control of the slot of a channel, kept in step (R437). -/
def Chip.chanPcc (c : Chip) (s : Nat) (v : Bool) : Chip :=
  match c.slotPort? s with
  | some n => c.putCfgBit (.port n) 0x88 10 v
  | none => c

/-- The partition that a channel's messages concern: its slot's. -/
def Chip.chanPart (c : Chip) (s : Nat) : Option Nat := (c.slotPort? s).bind c.partOfPort

/-! ### Channels -/

/-- A channel. -/
def Chip.fus1 (c : Chip) (s : Nat) : FusChan := c.fus.chans.get default s

/-- The device with a channel changed. -/
def Chip.updFus (c : Chip) (s : Nat) (f : FusChan → FusChan) : Chip :=
  { c with fus := { c.fus with chans := c.fus.chans.set default s (f (c.fus1 s)) } }

/-- Channels in a ramp phase (R441). -/
def Chip.ramping (c : Chip) : Nat :=
  ((List.range 24).filter fun s => c.fuState s == fuPrecharge || c.fuState s == fuRamp).length

/-- FT_RUN of a channel, and its fault timer idle with it (R444). -/
def Chip.fuIdle (c : Chip) (s : Nat) : Chip := (c.setFld F.FUS_CHAN_STATUS.FT_RUN 0 s).updFus s fun h => { h with timer := 0 }

/-- The device with a channel in a state: it holds its place in the order of R441 while it is in WAIT_SLOT, its fault
timer runs in QUALIFY and ON alone, and RAMPING follows. -/
def Chip.setFu (c : Chip) (s st : Nat) : Chip :=
  let c := c.setFld F.FUS_CHAN_STATUS.STATE st s
  let c := if st = fuQualify || st = fuOn then c else c.fuIdle s
  let c := if st = fuWaitSlot then c
    else { c with fus := { c.fus with order := c.fus.order.filter fun q => q.1 != s } }
  c.setFld F.FUS_STATUS.RAMPING c.ramping

/-- Driving PG of a channel. -/
def Chip.setPg (c : Chip) (s : Nat) (b : Bool) : Chip :=
  let c := if b then c else c.updFus s fun h => { h with delayDone := false }
  (c.setFld F.FUS_CHAN_STATUS.PG (b2n b) s).setFld F.FUS_STATUS.PG (putBit (c.fld F.FUS_STATUS.PG) s b)

/-- Asserting PERST_OUT_N of a channel. -/
def Chip.assertPerst (c : Chip) (s : Nat) : Chip := c.updFus s fun h => { h with perstHigh := false }

/-- The slot's port holds PERST_OUT_N asserted (Table 3.4): PERST_N of its partition, or Secondary Bus Reset with
SBR_PERST. -/
def Chip.perstHeld (c : Chip) (s : Nat) : Bool :=
  match c.slotPort? s with
  | some n => (c.role n == 0 && (c.part (c.portPart n)).perst) ||
      ((c.port n).hotByOwn && c.flag F.PRT_PORT_CFG2.SBR_PERST n)
  | none => false

/-- PERST_OUT_N deasserts when the channel is ON (not in PREOFF, R452), the delay of R108 after PG has run out and nothing
holds it. -/
def Chip.tryPerst (c : Chip) (s : Nat) : Chip :=
  if c.fuState s == fuOn && c.flag F.FUS_CHAN_STATUS.PG s && (c.fus1 s).delayDone && !c.perstHeld s then
    c.updFus s fun h => { h with perstHigh := true }
  else c

/-- The gate is discharged and pre-charge turned off. -/
def Chip.gateOff (c : Chip) (s : Nat) : Chip := c.updFus s fun h => { h with gate := false, pchg := false }

/-- The gate or pre-charge of a channel is on. -/
def Chip.fuLive (c : Chip) (s : Nat) : Bool := (c.fus1 s).gate || (c.fus1 s).pchg

/-- Both seating pins are low. -/
def Chip.pinsLow (c : Chip) (s : Nat) : Bool :=
  c.flag F.FUS_CHAN_STATUS.LONG s && c.flag F.FUS_CHAN_STATUS.SHORT s

/-- Channels may leave WAIT_REQ and WAIT_SLOT: in PS0 and outside mode 0xC (Table 13.6). -/
def Chip.fuMayStart (c : Chip) : Bool := c.fld F.PWR_STATUS.STATE == 0 && c.opMode != 0xC

/-- A channel enters WAIT_SLOT behind those of earlier sample periods and lower channels of its own (R441). -/
def Chip.fuWait (c : Chip) (s : Nat) : Chip :=
  let c := c.setFu s fuWaitSlot
  let t := c.fus.samples
  let ahead := c.fus.order.filter fun q => q.2 < t || q.1 < s
  let behind := c.fus.order.filter fun q => !(q.2 < t || q.1 < s)
  { c with fus := { c.fus with order := ahead ++ [(s, t)] ++ behind } }

/-- The start condition of R436, tested in WAIT_REQ; a start puts Power Controller Control to 0 (R437). -/
def Chip.fuCheck (c : Chip) (s : Nat) : Chip :=
  let ready := c.flag F.FUS_CHAN_STATUS.PRESENT s &&
    (if c.fld F.FUS_CHAN_CFG.POLICY s = 1 then !(c.fus1 s).offSince else c.flag F.FUS_CHAN_STATUS.REQ_PEND s)
  if c.fuState s = fuWaitReq && ready && c.fuMayStart then (c.chanPcc s false).fuWait s else c

/-- The start condition tested on every channel. -/
def Chip.fuCheckAll (c : Chip) : Chip := (List.range 24).foldl (fun c s => c.fuCheck s) c

/-- A channel enters WAIT_REQ. -/
def Chip.fuToReq (c : Chip) (s : Nat) : Chip := (c.setFu s fuWaitReq).fuCheck s

/-- A channel enters EMPTY, and DEBOUNCE at once when both pins are low. -/
def Chip.fuToEmpty (c : Chip) (s : Nat) : Chip :=
  if c.pinsLow s then (c.updFus s fun h => { h with counting := true }).setFu s fuDebounce else c.setFu s fuEmpty

/-- A channel enters WAIT_REQ, or EMPTY when PRESENT is 0. -/
def Chip.fuBack (c : Chip) (s : Nat) : Chip :=
  if c.flag F.FUS_CHAN_STATUS.PRESENT s then c.fuToReq s else c.fuToEmpty s

/-- A channel reaches DISABLED; a write of EN = 1 that was held takes effect (Table 13.8). -/
def Chip.fuToDisabled (c : Chip) (s : Nat) : Chip :=
  let c := (c.updFus s fun h => { h with disabling := false, coolOff := false }).setFu s fuDisabled
  if c.flag F.FUS_CHAN_CFG.EN s then c.fuToEmpty s else c

/-- A violation of Table 13.7 (R461). -/
def Chip.fuViolation (c : Chip) (s code : Nat) : Chip :=
  let c := (c.setFld F.FUS_VIOL_LAST.CHAN s).setFld F.FUS_VIOL_LAST.CODE code
  c.raiseLimited (0x50000 + s) msCycles (0x1A8 + s) 0x1B (violSev code) code (c.chanPart s)

/-- A trip (R446). In PREOFF the off command prevails at the end of COOL (Table 13.8). -/
def Chip.fuTrip (c : Chip) (s kind : Nat) : Chip :=
  let pre := c.fuState s == fuPreoff
  let c := ((c.gateOff s).setPg s false).assertPerst s
  let c := c.updFus s fun h => { h with coolOff := pre, tripAt := some c.fus.samples }
  let c := ((c.setFld F.FUS_CHAN_STATUS.LAST_TRIP kind s).inc F.FUS_CHAN_TRIPS.TRIPS s).pulse (fusUnit s) 0x14
  (c.raise (0x1A8 + s) 0x18 1 kind (c.chanPart s)).setFu s fuCooldown

/-- A second cause in the sample period of a trip makes it one trip of its own kind (Table 13.8): LAST_TRIP shows it,
and so does the message while it waits. -/
def Chip.fuPrevail (c : Chip) (s was kind : Nat) : Chip :=
  if c.fuState s = fuCooldown && c.fld F.FUS_CHAN_STATUS.LAST_TRIP s = was && (c.fus1 s).tripAt == some c.fus.samples then
    let c := c.setFld F.FUS_CHAN_STATUS.LAST_TRIP kind s
    let mine (m : FaultMsg) : Bool := m.source == 0x1A8 + s && m.kind == 0x18 && m.handle == was
    { c with flt := { c.flt with intake := c.flt.intake.map fun m => if mine m then { m with handle := kind } else m } }
  else c

/-- States in which a channel trips: a ramp phase, QUALIFY, ON, and PREOFF. -/
def Chip.fuTrips (c : Chip) (s : Nat) : Bool := fuPrecharge ≤ c.fuState s && c.fuState s ≤ fuPreoff

/-- A request event (R436): ignored in COOLDOWN and LATCHED (R448, Table 13.8). -/
def Chip.fuRequest (c : Chip) (s : Nat) : Chip :=
  if c.fuState s = fuCooldown || c.fuState s = fuLatched then c
  else (c.setFld F.FUS_CHAN_STATUS.REQ_PEND 1 s).fuCheck s

/-- An off command (R436, R448, R452, Table 13.8). -/
def Chip.fuOff (c : Chip) (s : Nat) : Chip :=
  let c := (c.setFld F.FUS_CHAN_STATUS.REQ_PEND 0 s).setFld F.FUS_CHAN_STATUS.RETRIES 0 s
  let c := c.updFus s fun h => { h with offSince := true }
  let st := c.fuState s
  if st = fuWaitReq || st = fuWaitSlot then (c.assertPerst s).setFu s fuWaitReq
  else if fuPrecharge ≤ st && st ≤ fuOn then (c.assertPerst s).setFu s fuPreoff
  else if st = fuCooldown then c.updFus s fun h => { h with coolOff := true }
  else c

/-- Leaving LATCHED: RELEASE, or a write of 1 to Power Fault Detected; ignored in mode 0xC (Table 13.6). -/
def Chip.fuRelease (c : Chip) (s : Nat) : Chip :=
  if c.fuState s = fuLatched && c.opMode != 0xC then (c.setFld F.FUS_CHAN_STATUS.RETRIES 0 s).fuBack s else c

/-- A channel latches off (R447). -/
def Chip.fuLatch (c : Chip) (s : Nat) : Chip :=
  let c := ((c.setFu s fuLatched).setFld F.FUS_CHAN_STATUS.REQ_PEND 0 s).inc F.FUS_CHAN_TRIPS.LATCHES s
  let c := c.updFus s fun h => { h with coolOff := false }
  (c.chanEvent s 1).raise (0x1A8 + s) 0x19 2 (c.fld F.FUS_CHAN_TRIPS.TRIPS s) (c.chanPart s)

/-- PRESENT of a channel becomes 1 (R435). -/
def Chip.fuPresent (c : Chip) (s : Nat) : Chip :=
  if c.flag F.FUS_CHAN_STATUS.PRESENT s then c
  else
    let c := (c.setFld F.FUS_CHAN_STATUS.PRESENT 1 s).updFus s fun h =>
      { h with offSince := false, counting := false, presentAt := c.hwy }
    c.chanEvent s 3

/-- A seating pin has been high for 10 µs (R435, R448, R454). -/
def Chip.fuAbsent (c : Chip) (s : Nat) : Chip :=
  let st := c.fuState s
  let was := c.flag F.FUS_CHAN_STATUS.PRESENT s
  let c := if was then
      let c := (c.setFld F.FUS_CHAN_STATUS.PRESENT 0 s).setFld F.FUS_CHAN_STATUS.REQ_PEND 0 s
      let c := if st = fuCooldown then c else c.setFld F.FUS_CHAN_STATUS.RETRIES 0 s
      c.chanEvent s 3
    else c
  if st = fuDisabled || st = fuCooldown then c
  else if c.fuLive s then (((c.assertPerst s).setPg s false).gateOff s).setFu s fuDischarge
  else if st = fuDischarge && (!was || (c.fus1 s).disabling) then c
  else c.setFu s fuEmpty

/-- Presence of a slot's card was 0 at this instant or in the 100 ms before it (R114). -/
def Chip.absentRecently (c : Chip) (n : Nat) : Bool :=
  match c.slotChan? n with
  | some s => !c.flag F.FUS_CHAN_STATUS.PRESENT s || c.hwy < (c.fus1 s).presentAt + 100 * msCycles
  | none => false

/-- What a reset leaves of the Fuse Box: the energy of each channel (Table 13.10). -/
def Chip.fusKept (c : Chip) : FusH :=
  { chans := (List.range 24).foldl (fun t s => t.set default s { energy := (c.fus1 s).energy }) [] }

/-- The seating pins of the slots as FUS_CHAN_STATUS shows them. -/
def Chip.seatPins (c : Chip) : List (Nat × Nat × Nat) :=
  (List.range 24).map fun s => (s, c.fld F.FUS_CHAN_STATUS.LONG s, c.fld F.FUS_CHAN_STATUS.SHORT s)

/-- The levels of the seating pins shown again. -/
def Chip.showPins (c : Chip) (ps : List (Nat × Nat × Nat)) : Chip :=
  ps.foldl (fun c q =>
    if q.2.1 = 0 && q.2.2 = 0 then c
    else (c.setFld F.FUS_CHAN_STATUS.LONG q.2.1 q.1).setFld F.FUS_CHAN_STATUS.SHORT q.2.2 q.1) c

/-- A register of the channels of Table 13.10, or FUS_STATUS that shows them. -/
def Reg.ofChannel (r : Reg) : Bool :=
  [Reg.FUS_STATUS, .FUS_CHAN_CFG, .FUS_CHAN_LIM, .FUS_CHAN_TIME, .FUS_CHAN_RAMP, .FUS_CHAN_SENSE, .FUS_CHAN_CTL, .FUS_CHAN_STATUS,
   .FUS_CHAN_VI, .FUS_CHAN_P, .FUS_CHAN_E_LO, .FUS_CHAN_E_HI, .FUS_CHAN_TRIPS].contains r

/-- PS4 and loss of VDDP act on the channels as RESET_N does (Table 13.6): every output is released to its board level, every
channel becomes DISABLED, and its registers take their reset values but for those that survive RST. -/
def Chip.fuReleaseAll (c : Chip) : Chip :=
  let pins := c.seatPins
  { (c.resetRegs .rst fun k => k.reg.ofChannel) with fus := { c.fusKept with samples := c.fus.samples } }.showPins pins

/-! ### Writes of the channel registers -/

/-- EN of a channel written (Table 13.3, Table 13.8). -/
def Chip.fuEnable (c : Chip) (s : Nat) (en : Bool) : Chip :=
  if en then
    if c.fuState s = fuDisabled then c.fuToEmpty s else c.fuCheck s
  else
    let c := c.setFld F.FUS_CHAN_STATUS.RETRIES 0 s
    if c.fuLive s then
      (((c.assertPerst s).updFus s fun h => { h with disabling := true })).setFu s fuPreoff
    else (((c.setPg s false).assertPerst s).updFus s fun h => { h with disabling := false, coolOff := false }).setFu s
      fuDisabled

/-- FUS_CHAN_CFG after a write that reached it (R433, R463): a change of CLASS clamps the channel's other fields. -/
def Chip.writeFuCfg (c : Chip) (a : Access) (s : Nat) (v : Word) : Chip :=
  let k : RegKey := ⟨.FUS_CHAN_CFG, s, 0⟩
  let expert := c.isExpert a.who
  let was := c.reg .FUS_CHAN_CFG s
  let wasEn := wget was 31 31
  let count0 := c.fld F.FUS_CLAMP_SEEN.COUNT
  let c := if c.fuConfig s then c.storeReg a k 0 v (fuClamp false .FUS_CHAN_CFG)
    else
      let keep := wset was 31 31 (wget v 31 31)
      let c := if !expert || wset v 31 31 0 = wset was 31 31 0 then c else c.countClamp k
      c.storeReg a k 0 keep
  let c := if c.fuP s == bit was.toNat 30 then c
    else [Reg.FUS_CHAN_LIM, .FUS_CHAN_RAMP].foldl (fun c r =>
      let o := c.reg r s
      let n := fuClamp (c.fuP s) r o.toNat
      if n = o.toNat then c
      else (c.setReg r (word n) s).setFld F.FUS_CLAMP_SEEN.COUNT (min (count0 + 1) 65535)) c
  if expert && wget v 31 31 != 0 then
    if (c.fus1 s).disabling then c else c.fuEnable s true
  else if expert && (wasEn != 0 || c.fuState s != fuDisabled) then c.fuEnable s false
  else c.fuCheck s

/-- FUS_CHAN_CTL after a write that reached it: E_CLR, RELEASE, then ON or OFF (R436, R457, Table 13.8). An OFF in the
same write as an ON prevails. -/
def Chip.writeFuCtl (c : Chip) (s : Nat) (v : Word) : Chip :=
  let c := if wbit v 28 then c.updFus s fun h => { h with eClr := true } else c
  let c := if wbit v 29 then c.fuRelease s else c
  let c := if wbit v 31 then c.fuRequest s else c
  if wbit v 30 then (c.fuOff s).chanPcc s true else c

/-- FUS_CTL after a write that reached it (R458). -/
def Chip.writeFusCtl (c : Chip) (v : Word) : Chip :=
  if wbit v 31 then c.setFld F.FUS_HOLDUP_V.V_MIN 0xFFFF else c

end Sys2Proof.Machine
end

