-- ==== Sys2Proof/Machine/SegOps.lean ====
section
/-! DEFINITION. The shared operations of the legacy segment bridge (spec/12_legacy_segment.md). The meanings stand in
Machine/Legacy.lean. -/

namespace Sys2Proof.Machine

/-- A delayed read still waits for data. -/
def DelData.pending (d : DelData) : Bool := match d with | .waiting _ => true | _ => false

/-- The bridge changed. -/
def Chip.updLpb (c : Chip) (f : LpbH → LpbH) : Chip := { c with lpb := f c.lpb }

/-- The owner of the segment: a partition, or none for the internal root (R410). -/
def Chip.segOwner (c : Chip) : Option Nat :=
  let p := c.fld F.LPB_CFG.OWNER
  if p < 32 then some p else none

/-- A cause of R428 for the segment reset holds. -/
def Chip.segResetCause (c : Chip) : Bool :=
  !c.flag F.LPB_CFG.EN || c.opMode == 0xB || c.opMode == 0xC || c.fld F.PWR_STATUS.STATE != 0 ||
    c.flag F.FLT_CONTAIN_SEG.SEG || (match c.segOwner with | some p => (c.part p).inReset || (c.part p).hot | none => false)

/-- A violation of Table 12.4 with the slot of the partner, 0xF when none is known (R429); LPB_VIOL at most once per
1 ms, and LPB_SERR besides for SERR#. -/
def Chip.segViolation (c : Chip) (code slot : Nat) : Chip :=
  let c := c.setReg .LPB_VIOL_LAST (word (slot * 256 + code))
  let c := if code = 0x65 then c.raise 0x1A0 0x16 2 else c
  c.raiseLimited 4 msCycles 0x1A0 0x15 (violSev code) (slot * 256 + code)

/-- A request in I/O space. -/
def Packet.isIo (p : Packet) : Bool := p.kind == .ioRd || p.kind == .ioWr

/-- A read toward the segment. -/
def Packet.isRead (p : Packet) : Bool := p.kind == .memRd || p.kind == .memRdLk || p.kind == .ioRd

/-- The host-side base of a window; HBASE_HI is ignored for I/O (Table 12.7). -/
def Chip.segHbase (c : Chip) (w : Nat) : Nat :=
  if c.flag F.LPB_WIN_A.SPACE w then (c.reg .LPB_WIN_HBASE_LO w).toNat else c.pair .LPB_WIN_HBASE_LO .LPB_WIN_HBASE_HI w

/-- The window that a host-side request of a space lies in (R411). -/
def Chip.segWindow? (c : Chip) (io : Bool) (a : Nat) : Option Nat :=
  (List.range 8).find? fun w =>
    let size := 2 ^ c.fld F.LPB_WIN_A.SIZE w
    c.flag F.LPB_WIN_A.VALID w && c.flag F.LPB_WIN_A.SPACE w == io &&
      a / size == c.segHbase w / size

/-- A prefetch buffer of a window invalidated. -/
def Chip.pfDrop (c : Chip) (w : Nat) : Chip := c.updLpb fun h => { h with prefetch := h.prefetch.set none w none }

/-- A write at the head of the segment queue invalidates the prefetch buffer of its window (R418). -/
def Chip.segHead (c : Chip) : Chip :=
  match c.lpb.queue with
  | e :: _ =>
    let p := e.copy.pkt
    if p.isRead || p.isIo then c
    else match c.segWindow? false p.addr with
      | some w => c.pfDrop w
      | none => c
  | [] => c

/-- A queue entry leaves the segment queue and its copy is released (R414); another comes to the head (R418). -/
def Chip.segRelease (c : Chip) (id : Nat) : Chip :=
  let c := c.updLpb fun h => { h with
    queue := h.queue.filter fun e => e.copy.id != id
    active := if h.active == some id then none else h.active
    delayed := h.delayed.map fun r => { r with before := r.before.filter (· != id) } }
  (c.dropCopy id).segHead

/-- A completion with data for a request toward the segment: bytes from `addr` on, `rem` bytes still owed. Those of a request
that a squash has answered are discarded (R275). -/
def Chip.segCompletion (c : Chip) (k : Copy) (addr rem : Nat) (bs : List Byte) (poisoned : Bool) : Chip :=
  let last := rem ≤ bs.length
  let p : Packet := { kind := .cpl, cls := k.pkt.cls, rid := k.oRid, tag := k.oTag, status := .sc, hdrBytes := 12,
                      cid := c.completerId k.part k.dest, byteCount := rem, len := bs.length, addr, data := bs,
                      poisoned, lastCpl := last, locked := k.pkt.kind == .memRdLk }
  let squashed := c.answeredBySquash k
  let c := if last && k.flc.isSome then c.retireFlcReq k.hier k.pkt.rid k.pkt.tag else c
  if squashed then (if last then c.inc F.GLB_FLC_LATE.COUNT else c)
  else c.sendBack k.src k.part (if k.src.isPort then k.inFab else none) p

/-- LOCK# is asserted, or released, by the bridge (R420). -/
def Chip.lockLine (c : Chip) (on : Bool) : Chip :=
  if c.lpb.lockPin == on then c else (c.updLpb fun h => { h with lockPin := on }).emit (.lockPin on)

/-- An entry ends without its data (Table 12.2): a posted write is discarded, any other request is answered with a
status; a read that only its extension kept in the queue has been answered (R418), and the safe state answers nothing
(R488). -/
def Chip.segFail (c : Chip) (e : SegEntry) (st : CplStatus) : Chip :=
  let c := c.segRelease e.copy.id
  let c := if e.copy.pkt.kind = .memRdLk then c.lockLine false else c
  if e.copy.cat = .posted || c.safe || (e.copy.pkt.isRead && Nat.blt 0 e.done && e.copy.pkt.len ≤ e.done) then c
  else c.answerCopy e.copy st

/-- The lock ends and LOCK# is released. -/
def Chip.segUnlock (c : Chip) : Chip := ((c.updLpb fun h => { h with lock := none }).setFld F.LPB_STATUS.LOCKED 0).lockLine false

/-- RST# asserts (R428): LOCK# is released; delayed reads, prefetch buffers and posted entries are discarded;
non-posted entries are answered with Unsupported Request. The copies still in the Cellar queue toward the segment are handled as
those toward a link that is down (R100, R213). -/
def Chip.segReset (c : Chip) : Chip :=
  if c.flag F.LPB_STATUS.RST_ACTIVE then c
  else
    let c := (c.setFld F.LPB_STATUS.RST_ACTIVE 1).segUnlock
    let c := c.add F.LPB_DISCARD.COUNT c.lpb.delayed.length
    let es := c.lpb.queue
    let c := c.updLpb fun h => { h with prefetch := [], delayed := [], active := none, grant := none, grantFails := [] }
    let c := es.foldl (fun c e =>
      let c := if e.copy.cat = .posted then c.inc F.LPB_DISCARD.COUNT else c
      c.segFail e .ur) c
    (c.cel.copies.filter fun k => k.dest == .legacy && k.whole).foldl (fun c k => c.segFail { copy := k } .ur) c

/-- RST# asserts when a cause of R428 holds. -/
def Chip.segFollow (c : Chip) : Chip := if c.segResetCause then c.segReset else c

/-- The first host-side byte of a window, and the byte after its last. -/
def Chip.segWinRange (c : Chip) (w : Nat) : Nat × Nat :=
  let size := 2 ^ c.fld F.LPB_WIN_A.SIZE w
  let b := c.segHbase w / size * size
  (b, b + size)

/-- The segment address of a host-side address in a window (R411). -/
def Chip.segAddr (c : Chip) (w a : Nat) : Nat :=
  let size := 2 ^ c.fld F.LPB_WIN_A.SIZE w
  ((c.reg .LPB_WIN_SBASE w).toNat / size * size + a % size) % 2 ^ 32

/-- The burst boundary in bytes (R417). -/
def Chip.burstBytes (c : Chip) : Nat := 256 * 2 ^ c.fld F.LPB_CFG.BURST

/-- A window is prefetchable: PREF is ignored for I/O (R418, Table 12.7). -/
def Chip.segPref (c : Chip) (w : Nat) : Bool := c.flag F.LPB_WIN_A.PREF w && !c.flag F.LPB_WIN_A.SPACE w

/-- How many bytes beyond its end the bridge extends a read in window w (R418). A locked read is not extended: the buffers are
invalidated while LOCK# is asserted (DEDUCED, log entry 30). -/
def Chip.segExtra (c : Chip) (w : Nat) (p : Packet) : Nat :=
  if p.kind = .memRd && c.segPref w then min 512 ((c.segWinRange w).2 - (p.addr + p.len)) else 0

/-- The bytes of the next transaction of an entry: to its end with the extension, to the window end, or to the burst boundary of
the segment address, whichever comes first (R417, R418). -/
def Chip.segSpan (c : Chip) (w : Nat) (e : SegEntry) : Nat :=
  let p := e.copy.pkt
  min (min (p.len + c.segExtra w p - e.done) ((c.segWinRange w).2 - (p.addr + e.done)))
    (c.burstBytes - c.segAddr w (p.addr + e.done) % c.burstBytes)

/-- The bus command of an entry (R416, Table 12.1): 2 I/O Read, 3 I/O Write, 6 Memory Read, 7 Memory Write, 12 Memory Read
Multiple, 14 Memory Read Line. -/
def Packet.segCmd (p : Packet) : Nat :=
  if p.isIo then (if p.isRead then 2 else 3)
  else if !p.isRead then 7
  else if p.len ≤ 8 then 6 else if p.addr / 64 = (p.addr + p.len - 1) / 64 then 14 else 12

/-- The next copies of the Cellar queue enter the segment queue, in arrival order within a class, the oldest once it
is whole, and by classes in turn (R281, R414): up to 32 entries. An aged copy is discarded instead (R200). -/
def Chip.segTake (c : Chip) : Chip :=
  if 32 ≤ c.lpb.queue.length then c
  else
    let fresh (k : Copy) : Bool := k.dest == .legacy && !c.lpb.queue.any fun e => e.copy.id == k.id
    let order := (List.range 8).map fun i => (c.lpb.nextClass + i) % 8
    let head (cls : Nat) : Option Copy :=
      match c.cel.copies.find? fun k => fresh k && k.pkt.cls == cls with
      | some k => if k.whole then some k else none
      | none => none
    match order.findSome? head with
    | none => c
    | some k =>
      if c.aged k then c.ageOut k
      else
      ((c.updCopy k.id fun k => { k with started := true }).updLpb fun h =>
        { h with queue := h.queue ++ [{ copy := { k with started := true } }], nextClass := (k.pkt.cls + 1) % 8 }).segHead

/-- The segment queue filled from the Cellar queue. -/
def Chip.segFill (c : Chip) : Chip := (List.range 32).foldl (fun c _ => c.segTake) c

/-- The entry that the bridge starts next (R415, R420); `pass` lets a posted write pass a read that was answered with
Retry. While a lock is held a further MRdLk waits for the Unlock message (Table 12.5). -/
def Chip.segNext? (c : Chip) (pass : Bool) : Option SegEntry :=
  match c.lpb.lock with
  | some r => (c.lpb.queue.find? fun e => e.copy.pkt.rid == r).filter fun e => e.copy.pkt.kind != .memRdLk
  | none =>
    match c.lpb.queue with
    | [] => none
    | e :: rest =>
      if pass && e.stalled && e.copy.pkt.isRead then
        match rest.head? with
        | some w => if w.copy.cat = .posted then some w else some e
        | none => some e
      else some e

/-- The bytes that the prefetch buffer of window w holds of a read, when the read lies wholly within it (R418). -/
def Chip.segHeld? (c : Chip) (w : Nat) (e : SegEntry) : Option (List Byte) :=
  let p := e.copy.pkt
  match c.lpb.prefetch.get none w with
  | some b =>
    if p.kind = .memRd && e.done = 0 && b.addr ≤ p.addr && p.addr + p.len ≤ b.addr + b.data.length then
      some ((b.data.drop (p.addr - b.addr)).take p.len)
    else none
  | none => none

/-- Bytes from host-side address a on join the prefetch buffer of window w: they go on with the extension `more` of
the read that fills it, or are the first of one and replace what it holds; the buffer holds the 512 bytes of one
extension (R418). -/
def Chip.pfFill (c : Chip) (w a : Nat) (bs : List Byte) (more : Bool) : Chip :=
  if bs.isEmpty then c
  else c.updLpb fun h =>
    let b : PfBuf := match h.prefetch.get none w with
      | some b => if more && b.addr + b.data.length = a then { b with data := b.data ++ bs } else { addr := a, data := bs }
      | none => { addr := a, data := bs }
    { h with prefetch := h.prefetch.set none w (some b) }

/-- The entry with a transaction on the bus. -/
def Chip.segActive? (c : Chip) : Option SegEntry :=
  match c.lpb.active with
  | some id => c.lpb.queue.find? fun e => e.copy.id == id
  | none => none

/-- An entry of the segment queue changed. -/
def Chip.segUpd (c : Chip) (id : Nat) (f : SegEntry → SegEntry) : Chip :=
  c.updLpb fun h => { h with queue := h.queue.map fun e => if e.copy.id == id then f e else e }

/-- A transaction of an entry starts on the bus. A write that passes a stalled read takes that read's turn away: the bridge
returns to the read before another write may pass it (R415). -/
def Chip.segStart (c : Chip) (e : SegEntry) : Chip :=
  c.updLpb fun h => { h with
    active := some e.copy.id, slotLast := false
    queue := if h.lock.isNone && h.queue.head?.map (·.copy.id) != some e.copy.id then
        match h.queue with
        | r :: rest => { r with stalled := false } :: rest
        | [] => []
      else h.queue }

/-- The bridge has a transaction to start, and has priority over the slots after a slot's transaction (R427). -/
def Chip.segPriority (c : Chip) : Bool := c.lpb.slotLast && (c.segFill.segNext? false).isSome

/-- The requesting slot that is next in rotation, masked and broken ones skipped (R427). -/
def Chip.nextSlot? (c : Chip) (reqs : Nat) : Option Nat :=
  ((List.range 6).map fun i => (c.lpb.turn + i) % 6).find? fun s =>
    bit reqs s && !bit (c.fld F.LPB_ARB.REQ_MASK) s && !bit (c.fld F.LPB_ARB.BROKEN) s

/-- Where the bridge sends the INTx messages: through the owner's upstream port, with the Requester ID of its function, or to
Ecseric (R425). -/
def Chip.intxVia (c : Chip) : Option (Nat × Nat) :=
  match c.segOwner with
  | some p => (c.upPort? p).map fun u => (u, c.portRid u)
  | none => none

/-- The transaction on the bus is over. -/
def Chip.segIdle (c : Chip) : Chip := c.updLpb fun h => { h with active := none }

/-- A master abort of the entry on the bus (R419). -/
def Chip.segMasterAbort (c : Chip) (e : SegEntry) : Chip := (c.inc F.LPB_MABORT.COUNT).segFail e .ur

/-- The last byte of an entry has been transferred (Table 12.2). -/
def Chip.segComplete (c : Chip) (e : SegEntry) : Chip :=
  let k := e.copy
  if k.cat = .posted then c.segRelease k.id
  else
    let c := c.segRelease k.id
    if k.pkt.isRead then
      if k.pkt.kind = .memRdLk then
        (c.updLpb fun h => { h with lock := some k.pkt.rid, prefetch := [] }).setFld F.LPB_STATUS.LOCKED 1
      else c
    else c.answerCopy k .sc

/-- R426: a configuration cycle of a segment card: the data that it returned, none for a master abort. -/
def Chip.segCfgCycle (c : Chip) (write : Bool) (v : Word) (resp : Option Word) : Chip :=
  let dev := c.fld F.LPB_CFG_ADDR.DEV
  let c := c.emit (.bus (if write then 11 else 10) (dev * 0x10000 + c.fld F.LPB_CFG_ADDR.FUNC * 256 +
    c.fld F.LPB_CFG_ADDR.REG * 4) 4)
  let c := c.setFld F.LPB_CFG_ADDR.MABORT (b2n resp.isNone)
  if write then c.setReg .LPB_CFG_DATA v else c.setReg .LPB_CFG_DATA (resp.getD 0xFFFFFFFF)

end Sys2Proof.Machine
end

