-- ==== Sys2Proof/Machine/PartOps.lean ====
section
/-! DEFINITION. The shared operations of partitions, Flacons and link downs (spec/07, spec/14, spec/03): squashes,
partition resets, containment, synthesised completions. The meanings stand in Machine/Links.lean,
Machine/Flacon.lean and Machine/Faults.lean. -/

namespace Sys2Proof.Machine

/-! ### Flacons (R273 to R276) -/

/-- The device with a Flacon in a state. -/
def Chip.setFlc (c : Chip) (f s : Nat) : Chip := c.setFld F.GLB_FLC_A.STATE s f

/-- The Flacon request table entries of a Flacon. -/
def Chip.flcEntries (c : Chip) (f : Nat) : List FlcReq := c.flcReqs.filter fun e => e.flc == f

/-- Steps 1 to 3 of a squash (R274): requests through the Flacon are refused from now on, each entry without a
completion is answered with Unsupported Request and stays reserved, and the engines bound to the Flacon stop. -/
def Chip.squash (c : Chip) (f : Nat) : Chip :=
  if c.flcState f = 1 || c.flcState f = 2 then
    let owed := (c.flcEntries f).filter fun e => !e.reserved
    let c := { c with flcReqs := c.flcReqs.map fun (e : FlcReq) => if e.flc == f then { e with reserved := true } else e }
    let c := owed.foldl (fun c e =>
      let p : Packet := { kind := .cpl, cls := e.cls, rid := e.origRid, tag := e.origTag, status := .ur, hdrBytes := 12,
                          cid := c.mgmtRid e.backPart, byteCount := e.len }
      c.sendBack e.src (some e.backPart) e.fab p) c
    (c.resetJobEngines (c.jobsOfFlacon f)).setFlc f 4
  else c

/-- Every Flacon that a test names is squashed. -/
def Chip.squashAll (c : Chip) (fs : List Nat) : Chip := fs.foldl (fun c f => c.squash f) c

/-- The Flacons whose target is a port. -/
def Chip.flaconsOn (c : Chip) (n : Nat) : List Nat :=
  c.liveFlacons.filter fun f => !c.flag F.GLB_FLC_A.KIND f && c.fld F.GLB_FLC_A.TARGET f == n

/-- A downstream port shared with other partitions (R98, R107). -/
def Chip.sharedPort (c : Chip) (n : Nat) : Bool :=
  c.flaconMode && (c.flaconsOn n).any fun f => c.fld F.GLB_FLC_A.OWNER f != c.portPart n

/-- Each Flacon of a partition that has become unconfigured is squashed, and its outcome becomes FREE (Table 7.8). -/
def Chip.dropUnowned (c : Chip) : Chip :=
  (c.liveFlacons.filter fun f => !c.configured (c.fld F.GLB_FLC_A.OWNER f)).foldl (fun c f =>
    (c.squash f).updFlc f fun h => { h with remove := true }) c

/-! ### Configuration space under resets (Table 7.6, R623) -/

/-- The registers of a configuration space with sticky bits (PRESUMED: those that the specification marks so). -/
def stickyOffs : List Nat :=
  [0x104, 0x108, 0x10C, 0x110, 0x114, 0x118, 0x11C, 0x120, 0x124, 0x128, 0x138, 0x13C, 0x140, 0x144, 0x284, 0x288, 0x3C8]

/-- A function takes its Reset values, except sticky bits when `sticky`; Power Controller Control keeps its value
(Table 3.7). -/
def Chip.fnReset (c : Chip) (f : Fn) (sticky : Bool) : Chip :=
  let pcc := c.cfgBit f 0x88 10
  let gone (k : Nat) : Bool := k / 0x4000 == f.num && !(sticky && decide (k % 0x4000 ∈ stickyOffs))
  let c := { c with cfg := c.cfg.filter fun (e : Nat × Word) => !gone e.1 }
  match f with
  | .port n =>
    let c := (c.putCfgBit f 0x88 10 pcc).updPort n fun h =>
      { h with slotPending := [], ccOwed := false, attnLed := 0, pwrLed := 0, retrainAsked := false }
    if c.role n = 1 || c.cfgBit f 0x3C8 0 then c else c.putBitOf .FLT_CONTAIN_PORT n false
  | _ => c

/-! ### Link down (R479 to R482) -/

/-- The link of a port is up: DL_Active, or a Fleren link that is UP, in RETRAIN or in LP. -/
def Chip.linkUp (c : Chip) (n : Nat) : Bool :=
  if c.isFleren n then 4 ≤ c.lstate n && c.lstate n ≤ 6 else c.flag F.PRT_LINK_STATUS.DL_ACTIVE n

/-- The answer to a request that a link down leaves unanswered (R479): all-ones data for a read of a partition whose
LD_ALL1 is 1, else Unsupported Request. -/
def Chip.synthesise (c : Chip) (n : Nat) (k : Copy) (rem addr : Nat) : Chip :=
  let c := c.inc F.FLT_SYNTH_CNT.COUNT
  let ones := match k.part with
    | some p => c.flag F.GLB_PTN_CFG.LD_ALL1 p
    | none => false
  let read := k.pkt.kind == .memRd || k.pkt.kind == .memRdLk || k.pkt.kind == .ioRd || k.pkt.kind == .cfgRd
  if ones && read then c.answerOnes k rem addr (some n) else c.answerCopy k .ur (some n)

/-- Every tracked request of a port, then every non-posted copy queued for it, is answered; posted copies and
completions are discarded, the posted ones counted at the port, and deferred copies are cancelled with their first (R213,
R481). The second value is how many were answered. In
the safe state nothing is answered (R488). -/
def Chip.answerPort (c : Chip) (n : Nat) (fl : Bool) : Nat × Chip :=
  let ts := c.tracked n
  let here (k : Copy) : Bool := k.dest == .port n
  let qs := (c.cel.copies ++ c.cel.waiting).filter here
  let nps := qs.filter fun k => k.cat == .nonPosted && !k.started
  let lost := (qs.filter fun k => k.cat == .posted).length
  let c := qs.foldl (fun c k => c.cancelDeferred k) c
  let c := { c with cel := { c.cel with copies := c.cel.copies.filter fun k => !here k
                                        waiting := c.cel.waiting.filter fun k => !here k } }
  let c := { c with flt := { c.flt with track := c.flt.track.filterMap fun (e : Track) =>
    if e.port == n && !e.orphan then (if fl then some { e with orphan := true } else none) else some e } }
  let c := if lost = 0 then c else c.updPort n fun h => { h with drops := h.drops + lost }
  if c.safe then (0, c)
  else
    let c := ts.foldl (fun (c : Chip) e => c.synthesise n e.copy e.rem e.addr) c
    let c := nps.foldl (fun (c : Chip) k => c.synthesise n k k.pkt.len k.pkt.addr) c
    (ts.length + nps.length, c)

/-- A downstream or root port is in DPC containment. -/
def Chip.inDpc (c : Chip) (n : Nat) : Bool := c.cfgBit (.port n) 0x3C8 0

/-- DPC is entered with a trigger reason (R116): DPC Trigger Status, DPC Interrupt Status
when its interrupt is enabled, the port's FLT_CONTAIN_PORT bit, vector 1 and DPC_TRIG. Reason 3 is that of the
DPC Software Trigger (PRESUMED: the specification's encoding). -/
def Chip.dpcMark (c : Chip) (n reason : Nat) : Chip :=
  if c.inDpc n then c
  else
    let v := c.cfgAt (.port n) 0x3C8
    let int := c.cfgBit (.port n) 0x3C4 19
    let c := c.setCfg (.port n) 0x3C8 (v / 128 * 128 + (if reason = 3 then 0x27 else reason * 2 + 1) + 8 * b2n (int || bit v 3))
    let c := c.putBitOf .FLT_CONTAIN_PORT n true
    let c := if int then c.msix (.port n) 1 else c
    c.raise (portSrc n) 0x04 2 (reason % 4 * 256 + n) (c.partOfPort n)

/-- The port is contained by the collector's register (FLT_CONTAIN_PORT). -/
def Chip.portHeld (c : Chip) (n : Nat) : Bool := c.bitOf .FLT_CONTAIN_PORT n

/-- Surprise Down is reported, on downstream and root ports (R114, Table 3.1). -/
def Chip.surprise (c : Chip) (n cause : Nat) (wasDpc : Bool) : Bool :=
  c.role n != 1 && c.flag F.PRT_PORT_CFG2.SD_REPORT n && cause != 6 && !wasDpc && !c.safe &&
    !((c.slotChan? n).isSome && c.cfgBit (.port n) 0x88 10) && !c.absentRecently n &&
    !c.cfgBit (.port n) 0x80 4 && !c.cfgBit (.port n) 0x3C 22

/-- LINK_DOWN with its cause and the requests answered (Table 14.4). -/
def Chip.raiseDown (c : Chip) (n cause answered : Nat) : Chip :=
  c.raise (portSrc n) 0x01 2 (answered % 65536 * 2 ^ 32 + cause * 256 + n) (c.partOfPort n)

/-- The registers of a PCI Express port show a link that is down, with an LTSSM state. -/
def Chip.showDown (c : Chip) (n ltssm : Nat) : Chip :=
  let seen := b2n (c.flag F.PRT_LINK_STATUS.LINK_DOWN_SEEN n || c.flag F.PRT_LINK_STATUS.DL_ACTIVE n)
  c.setReg .PRT_LINK_STATUS (word (seen * 2 ^ 28 + 0xF * 2 ^ 24 + 7 * 2 ^ 21 + 7 * 2 ^ 18 + 5 * 2 ^ 15 +
    ltssm * 2 ^ 8)) n

/-- A request that leaves no trace: it was not sent in full. -/
def Chip.untrack (c : Chip) (id : Nat) : Chip :=
  { c with flt := { c.flt with track := c.flt.track.filter fun e => e.copy.id != id } }

/-- The rest of a Fleren copy that is being sent shrinks to its last word, and the parcel in which it ends is marked
(R141). -/
def Chip.markTail (c : Chip) (n id : Nat) : Chip :=
  (c.inc F.HWY_TAIL_MARK.COUNT).updFl n fun h =>
    { h with tx := h.tx.map fun i => if i.id == id then { i with bad := true, rem := min i.rem 8 } else i }

/-- A copy whose transmission has started ends marked at its tail (R198): a PCI Express egress nullifies it, a Fleren egress
sets TRAIL_BAD. -/
def Chip.cutTail (c : Chip) (m : Nat) (k : Copy) : Chip :=
  let c := c.untrack k.id
  if c.isFleren m then c.markTail m k.id
  else ((c.inc F.HWY_TAIL_MARK.COUNT).pulse (portUnit m) 0x1C).emit (.nullified m k.pkt)

/-- A copy of a bad packet ends (Table 5.6): marked at its tail while it is being sent, else discarded; the request of a
Flacon leaves its table. -/
def Chip.spoilOne (c : Chip) (k : Copy) : Chip :=
  let c := { c with cel := { c.cel with waiting := c.cel.waiting.filter fun w => w.id != k.id } }
  let c := if k.flc.isSome then c.retireFlcReq k.hier k.pkt.rid k.pkt.tag else c
  match k.dest with
  | .port m =>
    if k.started && !k.resend && c.isFleren m then (c.cutTail m k).updCopy k.id fun x => { x with again := false }
    else
      let c := (c.dropCopy k.id).updSch m fun h => { h with overran := h.overran.filter (· != k.id) }
      if k.started && !k.resend then c.cutTail m k else c.untrack k.id
  | _ => c.dropCopy k.id

/-- The copies of bad packets, those that a test names and that are not whole: each ends, also where it waits for a table
entry or behind a captured write (Table 5.6). -/
def Chip.spoil (c : Chip) (f : Copy → Bool) : Chip :=
  let bad (k : Copy) : Bool := f k && !k.whole
  let gone := (c.cel.copies ++ c.cel.waiting).filter bad
  let c := { c with cel := { c.cel with flcWaiting := c.cel.flcWaiting.filter fun k => !bad k
                                        capWaiting := c.cel.capWaiting.filter fun e => !bad e.2 } }
  gone.foldl (fun c k => c.spoilOne k) c

/-- Packets whose last byte has not come when the link that brings them goes down are lost (Table 5.6). -/
def Chip.ingressLost (c : Chip) (n : Nat) : Chip := c.spoil fun k => k.src == .port n

/-- The function of a partition's port is held at its Reset values by PERST_N, its DPC status with them (Table 7.6); the link
that PERST_N holds in Detect.Quiet is not contained for it, and trains when PERST_N deasserts (Table 3.4). -/
def Chip.heldInReset (c : Chip) (n : Nat) : Bool := c.role n != 2 && (c.part (c.portPart n)).perst

/-- A PCI Express link goes down: its registers, Data Link Layer State Changed, Surprise Down, the containment of its
role, the answers of R479 and R481, and one LINK_DOWN. A partition's Hot Reset is not part of it. -/
def Chip.pcieDown (c : Chip) (n cause ltssm : Nat) : Chip :=
  if !c.flag F.PRT_LINK_STATUS.DL_ACTIVE n then c.showDown n ltssm
  else
    let wasDpc := c.role n != 1 && c.inDpc n
    let sd := ltssm != 0x09 && ltssm != 0x0A && c.surprise n cause wasDpc
    let c := c.showDown n ltssm
    let c := c.updSch n fun h => { h with deficits := [] }
    let c := if c.role n = 1 then c else c.slotEvent n 8
    let c := if sd then c.aer n aerSurpriseDown else c
    let c := if c.safe then c
      else if c.heldInReset n then c
      else if c.role n = 1 then c.putBitOf .FLT_CONTAIN_PORT n true
      else c.dpcMark n 3
    let (k, c) := (c.ingressLost n).answerPort n false
    c.raiseDown n cause k

/-- A Fleren link goes down into DOWN, with 16 RESET blocks, or DISABLED (Table 4.11): every request of the port answered,
its tracker entries orphaned, what waited for its parcels discarded, and one LINK_DOWN; the port is held. -/
def Chip.flDownTo (c : Chip) (n cause s : Nat) : Chip :=
  let idle (c : Chip) : Chip :=
    ((((c.setLstate n s).portLanesOff n).setFld F.PRT_FL_STATUS.LANE_LOCK 0 n).setFld F.PRT_FL_STATUS.ALIGNED 0 n).setFld
      F.PRT_FL_STATUS.INIT_MISMATCH 0 n
  if !(4 ≤ c.lstate n && c.lstate n ≤ 6) then (if c.lstate n = s then c else idle c)
  else
    let c := if s = flDown then (List.range 16).foldl (fun c _ => c.sendBlock n .reset) c else c
    let c := (idle c).updSch n fun h => { h with deficits := [] }
    let c := (c.inc F.PRT_FL_RETRAIN_CNT.DOWNS n).updFl n fun h =>
      { h with tx := [], due := [], trail := none, receiving := none, lpiSent := false, lpiIdle := none, waking := false }
    let c := if c.safe then c else c.putBitOf .FLT_CONTAIN_PORT n true
    let (k, c) := (c.judgeMoves.ingressLost n).answerPort n true
    c.raiseDown n cause k

/-- The link of a port goes down, by its protocol. -/
def Chip.portDown (c : Chip) (n cause ltssm : Nat) : Chip :=
  if c.isFleren n then c.flDownTo n cause flDown else c.pcieDown n cause ltssm

/-! ### Partition resets (Tables 3.4 and 7.6, Table 16.9) -/

/-- The switch ports of a partition. -/
def Chip.portsOf (c : Chip) (p : Nat) : List Nat :=
  allPorts.filter fun n => c.isPcie n && c.role n != 2 && c.portPart n == p

/-- The registers of Table 16.9 that a PFR or HOT of a partition reaches. -/
def Chip.partSel (c : Chip) (p : Nat) (k : RegKey) : Bool :=
  let ports := c.portsOf p
  (decide (k.reg ∈ [Reg.GLB_PTN_STATUS, .GLB_PTN_RST_DROP]) && k.i == p) ||
    ports.any (fun n => (isPortReg k n && k.reg != .PRT_LINK_STATUS) || isSchPortReg k n ||
      (c.portLanes n).any (isLaneReg k)) ||
    (k.reg.block == .acd && (
      (decide (k.reg ∈ [Reg.ACD_JOB_CTL, .ACD_JOB_STATUS, .ACD_JOB_READY, .ACD_JOB_RECNO, .ACD_JOB_DONE, .ACD_JOB_ERR,
        .ACD_JOB_LOST, .ACD_JOB_GAP]) && c.jobPart (32 * k.i + k.j) == some p) ||
      (decide (k.reg ∈ [Reg.ACD_DST_PROD, .ACD_DST_DROP]) &&
        (rangeFrom (32 * k.i) 32).any fun j => c.jobPart j == some p && (c.jobWindows j).elem k.j)))

/-- What every reset of a partition's management function does: its Letterbox, its Flacons, its engines and its
stalled requests (Table 7.6, R493). -/
def Chip.partStop (c : Chip) (p : Nat) : Chip :=
  let c := (c.resetBoxOf p).squashAll (c.flaconsOf p)
  (c.resetJobEngines (c.jobsOfPart p)).squashStalled p

/-- The registers of a partition take their Reset values where Table 16.9 says so; its lanes' own state with them. -/
def Chip.partRegs (c : Chip) (p : Nat) : Chip :=
  let ports := c.portsOf p
  let c := c.resetRegs .low (c.partSel p)
  let c := ports.foldl (fun c n => c.setFld F.PRT_LINK_STATUS.LINK_DOWN_SEEN 0 n) c
  (ports.flatMap fun n => c.portLanes n).foldl (fun c l => c.updLane l fun h => { h with exitHeld := false }) c

/-- The registers of a port slot take their Reset values at a Secondary Bus Reset (Table 16.9), but for what shows its link;
LINK_DOWN_SEEN clears. -/
def Chip.portRegs (c : Chip) (n : Nat) : Chip :=
  (c.resetRegs .low fun k => isPortReg k n && k.reg != .PRT_LINK_STATUS).setFld F.PRT_LINK_STATUS.LINK_DOWN_SEEN 0 n

/-- A cause of Hot Reset of a downstream port begins: Hot Reset is sent on its link, which leaves DL_Active; one that is being
sent goes on (Table 3.4). -/
def Chip.sendHot (c : Chip) (n : Nat) (cause : HotCause) : Chip :=
  let own := cause == .ownBit
  let sent := (c.port n).hotSent
  let c := c.updPort n fun h =>
    { h with hotUp := h.hotUp || !own, hotOwn := h.hotOwn || own, hotSent := true, hotByOwn := h.hotByOwn || own }
  if sent then c else (c.emit (.hotReset n true)).pcieDown n 6 0x09

/-- The downstream links of a partition under a Hot Reset or a Secondary Bus Reset from above (Table 3.4); a port
shared with other partitions is not affected (R107). -/
def Chip.hotDown (c : Chip) (p : Nat) : Chip :=
  (c.downPorts p).foldl (fun c n => if c.sharedPort n then c else c.sendHot n .upstream) c

/-- Partition Hot Reset (Table 7.6, R272). -/
def Chip.partHotReset (c : Chip) (p : Nat) : Chip :=
  let ports := c.portsOf p
  let c := c.partStop p
  let c := (c.partRegs p).hotDown p
  let c := ports.foldl (fun c n => c.fnReset (.port n) true) c
  let c := (c.fnReset (.mgmt p) true).updPart p fun h => { h with hot := true, bus := 0 }
  c.segFollow

/-- The link of a port goes down for a cause; an upstream port's partition takes a Hot Reset (Table 3.4). -/
def Chip.linkDown (c : Chip) (n cause ltssm : Nat) : Chip :=
  let up := c.linkUp n
  let c := c.portDown n cause ltssm
  if up && c.isPcie n && c.role n == 1 && !c.safe && !(c.part (c.portPart n)).inReset then c.partHotReset (c.portPart n)
  else c

/-- The port of a lane whose exit from DEEP has failed takes its link down (R59), as a lane that has failed. -/
def Chip.exitFollow (c : Chip) (l : Nat) : Chip :=
  match c.laneOwner? l with
  | some n => if c.exitFailed l then c.linkDown n 2 0 else c
  | none => c

/-- Partition fundamental reset (Table 7.6, R272, R477): every link of the partition goes down, and the partition is in
reset until R106 is met. LINK_DOWN_SEEN is cleared before the links go down, so that a link it takes down sets it (DESIGN
CHOICE, log entry 52). -/
def Chip.partFundamental (c : Chip) (p : Nat) : Chip :=
  let ports := c.portsOf p
  let others := (c.downPorts p).flatMap fun n => c.flaconsOn n
  let c := c.updPart p fun h => { h with inReset := true, hot := false, flr := false, bus := 0 }
  let c := ((c.partStop p).squashAll others).partRegs p
  let c := ports.foldl (fun c n => c.pcieDown n 6 0x0C) c
  let c := ports.foldl (fun c n => c.fnReset (.port n) false) c
  let c := c.fnReset (.mgmt p) false
  let c := c.setReg .FLT_CONTAIN_PTN (word (clrBit (c.reg .FLT_CONTAIN_PTN).toNat p))
  c.segFollow

/-! ### Containment (R476, R477, Table 14.7) -/

/-- Containment of one port by its role. -/
def Chip.containPort (c : Chip) (n : Nat) : Chip :=
  if c.isFleren n then
    let c := c.putBitOf .FLT_CONTAIN_PORT n true
    if c.lstate n = flDisabled then c else c.flDownTo n 4 flDown
  else if c.isPcie n then
    if c.role n = 1 then
      if c.portHeld n then c
      else
        let up := c.linkUp n
        let c := (c.putBitOf .FLT_CONTAIN_PORT n true).linkDown n 4 0x0C
        if up || (c.part (c.portPart n)).inReset then c else c.partHotReset (c.portPart n)
    else if c.heldInReset n then c
    else (c.dpcMark n 3).linkDown n 4 0x0C
  else c

/-- Partition containment (R477). -/
def Chip.containPart (c : Chip) (p : Nat) : Chip :=
  if bit (c.reg .FLT_CONTAIN_PTN).toNat p then c
  else
    let c := c.setReg .FLT_CONTAIN_PTN (word (setBit (c.reg .FLT_CONTAIN_PTN).toNat p))
    let c := (c.downPorts p).foldl (fun c n => c.containPort n) c
    (c.resetJobEngines (c.jobsOfPart p)).squashAll (c.flaconsOf p)

/-! ### Training and the following of settings (R99, Table 4.11) -/

/-- The reset input of a port is deasserted and nothing holds its link. -/
def Chip.portFree (c : Chip) (n : Nat) : Bool :=
  !c.portHeld n && (c.isFleren n || c.role n == 2 || !(c.part (c.portPart n)).perst) &&
    (c.isFleren n || c.role n == 1 || !c.inDpc n) && !(c.port n).hotSent

/-- A PCI Express port trains (R99), its tile's reference running (R53, R54). -/
def Chip.trains (c : Chip) (n : Nat) : Bool :=
  c.isPcie n && c.tileEn (tileOf n) && c.flag F.SDS_REF_STATUS.REF_OK (tileOf n) && 1 ≤ c.opMode && c.opMode ≤ 9 && c.portFree n && !c.cfgBit (.port n) 0x80 4

/-- The training states that PRT_LINK_STATUS.LTSSM names on the way to L0. -/
def trainingStates : List Nat := [0x00, 0x01, 0x02, 0x03, 0x05, 0x06, 0x0B]

/-- PRT_LINK_STATUS.LTSSM as it reads (R99): which of its training states a port that trains is in is a free value of the
Hallway cycle; else the state that is held. -/
def Chip.ltssm (c : Chip) (n : Nat) : Nat :=
  let s := c.fld F.PRT_LINK_STATUS.LTSSM n
  if c.trains n && !c.flag F.PRT_LINK_STATUS.DL_ACTIVE n && s == 0 then
    trainingStates.getD (Config.freeWord [99, n, c.hwy] % 7) 0
  else s

/-- A Fleren port follows its settings (Table 4.11): from DISABLED to HUNT by a link reset when port and tile are
enabled in a mode from 0x1 to 0x9; to DISABLED when port or tile is disabled or the mode is 0xC or outside
0x1 to 0xB. -/
def Chip.flFollow (c : Chip) (n : Nat) : Chip :=
  let on := c.isFleren n && c.tileEn (tileOf n)
  if c.lstate n = flDisabled then
    if on && 1 ≤ c.opMode && c.opMode ≤ 9 && !c.safe then c.linkReset n else c
  else if !on || c.opMode = 0 || 0xB < c.opMode then
    (c.flDownTo n 6 flDisabled).portLanesOff n
  else c

/-- Every Fleren port follows its settings. -/
def Chip.flFollowAll (c : Chip) : Chip := allPorts.foldl (fun c n => c.flFollow n) c

/-- Every link is taken down for a cause: a change of mode, power state or enable (R114), or the safe state. -/
def Chip.allDown (c : Chip) (cause : Nat := 6) : Chip :=
  allPorts.foldl (fun c n =>
    if c.isFleren n then c.flDownTo n cause flDisabled
    else if c.isPcie n then c.linkDown n cause 0 else c) c

end Sys2Proof.Machine
end

