-- ==== Sys2Proof/Machine/TimOps.lean ====
section
/-! DEFINITION. The shared operations of chassis time: the count and its steps, following a source, outputs, timed
actions, the trigger matrix and event messages (spec/09_chassis_time.md). -/

namespace Sys2Proof.Machine

/-- The device with TIM changed. -/
def Chip.updTim (c : Chip) (f : TimH → TimH) : Chip := { c with tim := f c.tim }

/-- Chassis time in units of 0.5 ns. -/
def Chip.halfNs (c : Chip) : Nat := c.tim.count / 2 ^ 47 % 2 ^ 65

/-- A violation of Table 9.7 is recorded (R339): at the ingress port when it has one, else as TIM_VIOL. -/
def Chip.timViolation (c : Chip) (code : Nat) (port : Option Nat := none) : Chip :=
  let c := (c.setFld F.TIM_VIOL_LAST.PORT (port.getD 0x7F)).setFld F.TIM_VIOL_LAST.CODE code
  match port with
  | some n => c.violation n code
  | none => c.raise 0x190 0x11 0 code

/-! ### Gate lists under switches and steps (R319, R330) -/

/-- The shadow bank takes effect: at its entry 0 at t_sw, or in the phase of the time after a step. -/
def Chip.gclDoSwitch (c : Chip) (n : Nat) (stepped : Bool) : Chip :=
  match c.gclSwitch? n with
  | none => c
  | some t =>
    let before := c.openClasses n
    let b := 1 - c.gclBank n
    let q := if stepped then c.gclPhase n b c.ns else (0, c.gclTicks n b 0)
    let from_ := if stepped then c.ns else t
    let c := ((c.setFld F.SCH_GCL_STATUS.ACTIVE_BANK b n).setFld F.SCH_GCL_STATUS.PENDING 0 n).setFld F.SCH_GCL_CTL.EN 1 n
    let c := c.updSch n fun h => { h with run := true, entry := q.1, ends := from_ + q.2, switched := true }
    (c.countOverrun n before).trimAll n

/-- The list of a port goes on to its next entry; before its first entry it starts in the phase of the time (R318,
R330). -/
def Chip.gclAdvance (c : Chip) (n : Nat) : Chip :=
  let h := c.sch n
  if !c.gclEn n then c
  else
    let before := c.openClasses n
    let b := c.gclBank n
    let t := if h.run then h.ends else max c.ns (c.gclBase n b)
    let q := if h.run then c.gclNext n b h.entry t else c.gclPhase n b t
    let c := c.updSch n fun h => { h with run := true, entry := q.1, ends := t + q.2 }
    c.countOverrun n before

/-- SCH_GCL_CTL after a write that reached it (R318, R319, R321). -/
def Chip.writeGclCtl (c : Chip) (a : Access) (n : Nat) (v : Word) : Chip :=
  let k : RegKey := ⟨.SCH_GCL_CTL, n, 0⟩
  let was := c.gclEn n
  let c := c.storeReg a k k.tile v
  let en := c.gclEn n
  let c := if wbit v 29 || (!wbit v 31 && !en && !wbit v 30) then c.setFld F.SCH_GCL_STATUS.PENDING 0 n else c
  let c := if en && !was then
      c.updSch n fun h =>
        let q := c.gclPhase n (c.gclBank n) c.ns
        if c.ns < c.gclBase n (c.gclBank n) then { h with run := false, switched := false }
        else { h with run := true, entry := q.1, ends := c.ns + q.2, switched := false }
    else if !en then c.updSch n fun h => { h with run := false, entry := 0, switched := false }
    else c
  if !wbit v 30 then c
  else if c.flag F.SCH_GCL_STATUS.PENDING n then (c.countClamp k).setFld F.SCH_GCL_STATUS.ERROR 4 n
  else
    let b := 1 - c.gclBank n
    let len := c.gclLen n b
    let cyc := c.gclCycle n b
    let err := if len < 1 || 256 < len then 1 else if cyc < 64 then 2 else if 1000000000 < cyc then 3 else 0
    let c := c.setFld F.SCH_GCL_STATUS.ERROR err n
    if err != 0 then c
    else
      let base := c.gclBase n b
      let t := if c.ns + 1000 ≤ base then base else base + divUp (c.ns + 1000 - base) cyc * cyc
      (c.setPair .SCH_GCL_SWITCH_AT_LO .SCH_GCL_SWITCH_AT_HI t n).setFld F.SCH_GCL_STATUS.PENDING 1 n

/-- A write of a bank register after the gates of every write: only the shadow bank, and only while no switch waits. -/
def Chip.writeGclBank (c : Chip) (a : Access) (k : RegKey) (v : Word) : Chip :=
  if c.gclClosed k then c.countClamp k
  else c.storeReg a k k.tile v

/-! ### Outputs (R326, R327) -/

/-- The outputs are driven (R326). -/
def Chip.drives (c : Chip) : Bool := 1 ≤ c.opMode && c.opMode ≤ 10

/-- An output is driven: TRIG 0 to 15, STAR_OUT as 16 to 39. -/
def Chip.outOn (c : Chip) (o : Nat) : Bool := bit c.tim.steady o || c.tim.pulses.get 0 o != 0

/-- The registers show an output: its drive, and the level of a TRIG line, which a card may assert too. -/
def Chip.showOut (c : Chip) (o : Nat) : Chip :=
  let on := c.outOn o
  if o < 16 then
    let was := bit (c.fld F.TIM_TRIG_STATE.DRIVE) o
    let c := (c.setFld F.TIM_TRIG_STATE.DRIVE (putBit (c.fld F.TIM_TRIG_STATE.DRIVE) o on)).setFld F.TIM_TRIG_STATE.LEVEL
      (putBit (c.fld F.TIM_TRIG_STATE.LEVEL) o (on || bit c.tim.card o))
    if was == on then c
    else c.updTim fun h => { h with driven := h.driven.set [] o (c.hwy :: (h.driven.get [] o).filter fun t => Nat.ble c.hwy (t + 1044)) }
  else c.setFld F.TIM_STAR_STATE.DRIVE (putBit (c.fld F.TIM_STAR_STATE.DRIVE) (o - 16) on)

/-- An operation on an output: 0 ASSERT, 1 RELEASE, 2 PULSE of `width` half nanoseconds (R327). -/
def Chip.drive (c : Chip) (o op width : Nat) : Chip :=
  if !c.drives then c.inc F.TIM_ACT_LOST.COUNT
  else
    let now := if c.tim.opsAt = c.hwy then c.tim.ops else []
    let hits (x : Nat) : Bool := now.any fun e => e.1 == o && e.2 == x
    let c := c.updTim fun h => { h with ops := (o, op) :: now, opsAt := c.hwy }
    let c := if (op = 0 && hits 1) || (op = 1 && hits 0) then c.inc F.TIM_COLLIDE.COUNT else c
    let c := c.updTim fun h =>
      if op = 0 then { h with steady := setBit h.steady o }
      else if op = 1 then
        if hits 0 then h else { h with steady := clrBit h.steady o, pulses := h.pulses.set 0 o 0 }
      else { h with pulses := h.pulses.set 0 o (max (h.pulses.get 0 o) (c.hwy + width)) }
    c.showOut o

/-- Every output is released (R326). -/
def Chip.releaseOutputs (c : Chip) : Chip :=
  (List.range 40).foldl (fun c o => c.showOut o) (c.updTim fun h => { h with steady := 0, pulses := [] })

/-! ### Messages and fabric events (R335 to R338) -/

/-- A packet of a new header sent toward a chip of the fabric; false when it has no route. -/
def Chip.fabricSend (c : Chip) (dom chip vh colour : Nat) (part : Option Nat) (p : Packet) (h : FabHdr → FabHdr) : Chip :=
  let d := c.routeTo dom chip
  let hd := h (c.encap d dom chip vh colour .tim p)
  match c.egressOf d hd.spread with
  | (some n, c) =>
    let (id, c) := c.newId
    let p := { p with fab := some hd }
    let c := c.pulse 0xC02 0x10
    c.enqueue { id, pid := id, pkt := p, src := .tim, part, dest := .port n, stamp := c.ns, cells := p.cells,
                charge := .shared, bPath := d.bPath, st := { master := .firmware } }
  | (none, c) => c.noRoute dom chip part

/-- A posted packet of the device toward the Root Complex of a partition: through its upstream port, or over the
fabric to its home chip for a proxy partition (R269). -/
def Chip.sendHost (c : Chip) (p : Nat) (k : Packet) : Chip :=
  match c.upPort? p with
  | some u =>
    let (id, c) := c.newId
    c.enqueue { id, pid := id, pkt := k, src := .tim, part := some p, dest := .port u, stamp := c.ns, cells := k.cells,
                charge := .shared, oRid := k.rid, oTag := k.tag, st := { master := .firmware } }
  | none =>
    c.fabricSend (c.fld F.GLB_PTN_HOME.DOMAIN p) (c.fld F.GLB_PTN_HOME.CHIP p) (c.live F.FAB_VH_MAP.VH p)
      (c.fld F.GLB_PTN_CFG.COLOUR p) (some p) k id

/-- FLAGS of a message: TS_VALID and LATE. -/
def ActSpec.flags (x : ActSpec) : Nat := 1 + 2 * b2n x.late

/-- FRAC of a message. -/
def ActSpec.frac (x : ActSpec) : Nat := if x.tref % 2 = 1 then 0x8000 else 0

/-- A posted packet that a stopped lookup discards (R42). -/
def Chip.stopDrop (c : Chip) : Chip := { c with mode := { c.mode with stopDrops := c.mode.stopDrops + 1 } }

/-- An event message to one partition (R337); one that the partition refuses, in reset or contained (R272, R477), or
that a quiesce stops is lost (R42). -/
def Chip.sendEvent (c : Chip) (x : ActSpec) (p : Nat) : Chip :=
  if !c.configured p || c.partRefuses p then c.inc F.TIM_ACT_LOST.COUNT
  else if c.mode.stopped then c.stopDrop.inc F.TIM_ACT_LOST.COUNT
  else
    let seq := c.tim.seq.get 0 p
    let c := (c.pulse 0xC03 0x13).updTim fun h => { h with seq := h.seq.set 0 p ((seq + 1) % 256) }
    let t := x.tref / 2
    let data := leBytes 8 t ++ leBytes 4 (x.frac * 2 ^ 16 + x.line % 256 * 2 ^ 8) ++ leBytes 4 0
    c.sendHost p { kind := .msg, cls := c.fld F.TIM_CFG.EVT_CLASS, len := 16, hdrBytes := 16, data,
                   rid := c.mgmtRid p, msgCode := 0x7F, vendor := 0x1F9E,
                   vdh := 2 ^ 24 + x.arg % 256 * 2 ^ 16 + x.flags * 2 ^ 8 + seq }

/-- The matrix rules that match a source (R333), ascending. -/
def Chip.rulesFor (c : Chip) (kind src : Nat) (ok : Nat → Bool) : List Nat :=
  (List.range 64).filter fun r =>
    c.flag F.TIM_MTX_A.VALID r && c.fld F.TIM_MTX_A.SRC_KIND r == kind && c.fld F.TIM_MTX_A.SRC r == src && ok r

/-- Matching rules wait for their instants; one that has passed, or lies less than 150 ns ahead, is late. -/
def Chip.matchRules (c : Chip) (rs : List Nat) (tref line : Nat) (edge : Bool := false) : Chip :=
  rs.foldl (fun c r =>
    let at_ := tref + c.fld F.TIM_MTX_DELAY.DELAY r
    let late := Nat.blt at_ (c.halfNs + 300)
    let spec : ActSpec := {
      kind := c.fld F.TIM_MTX_A.DST_KIND r, target := c.fld F.TIM_MTX_A.TARGET r, op := c.fld F.TIM_MTX_A.OP r,
      width := c.fld F.TIM_MTX_B.WIDTH r, arg := c.fld F.TIM_MTX_B.ARG r, mask := (c.reg .TIM_MTX_MASK r).toNat,
      tref, line, late, edge, rank := 256 + r }
    let c := if late then (c.inc F.TIM_LATE.COUNT).pulse 0xC03 0x11 else c
    c.updTim fun h => { h with rules := h.rules ++ [{ rule := r, at_ := if late then max at_ c.halfNs else at_, spec }] }) c

/-- The partition of the hierarchy that a PCI Express port belongs to: its own, or the proxy partition to which a root
port is lent (R269). -/
def Chip.hierPart? (c : Chip) (n : Nat) : Option Nat :=
  if c.role n != 2 then some (c.portPart n)
  else (List.range 32).find? fun q => c.isProxy q && bit (c.reg .GLB_PTN_LEND q (n / 32)).toNat (n % 32)

/-- An event is taken in (R333, R336, R338). `src` is a partition, 32 for the fabric, 33 for a card of no partition;
`stamp` is in units of 0.5 ns. -/
def Chip.takeEvent (c : Chip) (code flags time frac line src : Nat) (port : Option Nat) (stamp : Nat) : Chip :=
  let timed := bit flags 0
  if timed && (Nat.blt (c.ns + 1000000000) time || Nat.blt (time + 1000000000) c.ns) then c.timViolation 0x47 port
  else
    let rs := c.rulesFor 1 code fun r =>
      if src = 32 then c.flag F.TIM_MTX_A.FAB_OK r else src < 32 && bit (c.reg .TIM_MTX_SRC_MASK r).toNat src
    if rs.isEmpty then (c.inc F.TIM_MSG_DENY.COUNT).timViolation 0x46 port
    else if c.opMode = 0xC then c
    else c.matchRules rs (if timed then 2 * time + b2n (decide (0x8000 ≤ frac)) else stamp) line

/-- An event message from a source of `takeEvent` by a port (R335, R336, R339, Table 9.8); the source's partition may refuse it
(R272, R477). -/
def Chip.takeEventMessage (c : Chip) (src n vdh : Nat) (data : List Byte) (stamp : Nat) : Chip :=
  if src < 32 && c.partRefuses src then c.inc F.GLB_PTN_RST_DROP.COUNT src
  else
  let c := c.pulse 0xC03 0x14
  if bits vdh 31 24 != 1 || data.length != 16 then c.timViolation 0x45 (some n)
  else
    let w (i : Nat) : Nat := leNat ((data.drop (4 * i)).take 4)
    c.takeEvent (bits vdh 23 16) (bits vdh 15 8) (w 1 * 2 ^ 32 + w 0) (w 2 / 2 ^ 16) (bits (w 2) 15 8) src (some n) stamp

/-- The body of an EVENT packet is taken in as an event from the fabric (R338). -/
def Chip.takeFabricEvent (c : Chip) (b : EventBody) (port : Option Nat) (stamp : Nat) : Chip :=
  let c := c.pulse 0xC03 0x14
  if bits b.w0 63 56 != 1 then c.timViolation 0x45 port
  else c.takeEvent (bits b.w0 55 48) (bits b.w0 47 40) b.w1 (bits b.w0 31 16) (bits b.w0 39 32) 32 port stamp

/-- A fabric event is sent (R338): to this chip itself when R227 says so. -/
def Chip.sendFabricEvent (c : Chip) (x : ActSpec) : Chip :=
  let dom := bits x.mask 15 0
  let chip := bits x.mask 21 16
  let b : EventBody := { w0 := 2 ^ 56 + x.arg % 256 * 2 ^ 48 + x.flags * 2 ^ 40 + x.line % 256 * 2 ^ 32 + x.frac * 2 ^ 16
                         w1 := x.tref / 2 % 2 ^ 64 }
  if c.mode.stopped then c.stopDrop.inc F.TIM_ACT_LOST.COUNT
  else
  let c := c.pulse 0xC03 0x13
  if c.routeTo dom chip = .here then c.takeFabricEvent b none c.halfNs
  else c.fabricSend dom chip 0 0 none { kind := .msg, cls := c.fld F.FAB_CFG.CTL_CLASS, hdrBytes := 24 }
    fun h => { h with typ := 3, lenWords := 2, spread := 0, event := b }

/-! ### Actions (Table 9.4) -/

/-- An action takes effect; one that cannot is counted in TIM_ACT_LOST (R326). `source` is the start kind of G3. -/
def Chip.act (c : Chip) (x : ActSpec) (source : Nat) : Chip :=
  let c := if source = 1 then c.pulse 0xC03 0x10 else c
  match x.kind with
  | 1 => c.drive (x.target % 16) x.op x.width
  | 2 => c.drive (16 + x.target % 24) x.op x.width
  | 3 =>
    let n := bits x.arg 15 8
    c.startJob (32 * (x.target % 12) + x.arg % 32) (if n = 0 then 1 else n)
      { kind := source, time := x.tref / 2, line := if source = 2 && x.edge then x.line else 0xFF, late := x.late, rank := x.rank }
  | 4 =>
    let s := x.target % 24
    if c.fuState s = fuLatched then c.inc F.TIM_ACT_LOST.COUNT else c.fuRequest s
  | 5 => ((List.range 32).filter fun p => bit x.mask p).foldl (fun c p => c.sendEvent x p) c
  | 6 => c.sendFabricEvent x
  | _ => c

/-- The action time of a slot in units of 0.5 ns (R322). -/
def Chip.slotTime (c : Chip) (a : Nat) : Nat :=
  2 * c.pair .TIM_ACT_TIME_LO .TIM_ACT_TIME_HI a + c.fld F.TIM_ACT_A.HALF a

/-- A slot is disarmed. -/
def Chip.disarm (c : Chip) (a : Nat) : Chip :=
  (c.setFld F.TIM_ACT_A.ARM 0 a).updTim fun h => { h with acts := h.acts.set none a none }

/-- A slot fires (R322 to R324, R328); in mode 0xC none does (R326). -/
def Chip.fireSlot (c : Chip) (a : Nat) : Chip :=
  match c.tim.acts.get none a with
  | none => c
  | some s =>
    if c.opMode = 0xC then c
    else
      let c := c.setFld F.TIM_ACT_A.FIRED 1 a
      let c := if s.late then ((c.setFld F.TIM_ACT_A.LATE 1 a).inc F.TIM_LATE.COUNT).pulse 0xC03 0x11 else c
      let c := c.act { kind := c.fld F.TIM_ACT_A.KIND a, target := c.fld F.TIM_ACT_A.TARGET a, op := c.fld F.TIM_ACT_A.OP a,
                       width := c.fld F.TIM_ACT_B.WIDTH a, arg := c.fld F.TIM_ACT_B.ARG a,
                       mask := (c.reg .TIM_ACT_MASK a).toNat, tref := s.next, late := s.late, rank := a } 1
      let p := 2 * (c.reg .TIM_ACT_PERIOD a).toNat
      let left := c.fld F.TIM_ACT_COUNT.COUNT a - 1
      let c := if s.unlimited || p = 0 then c else c.setFld F.TIM_ACT_COUNT.COUNT left a
      if p = 0 || (!s.unlimited && left = 0) then c.disarm a
      else
        let next := s.next + p
        let now := c.halfNs
        let t0 := c.slotTime a
        let next := if now < next then next else t0 + ((now - t0) / p + 1) * p
        c.updTim fun h => { h with acts := h.acts.set none a (some { s with next, late := false }) }

/-- A slot whose ARM is 1 is armed (R322, R323); one whose time has passed fires at once. -/
def Chip.armSlot (c : Chip) (slot : Nat) : Chip :=
  if c.flag F.TIM_ACT_A.ARM slot then
    let t := c.slotTime slot
    let late := Nat.blt t c.halfNs
    let e : TimAct := { next := t, unlimited := c.fld F.TIM_ACT_COUNT.COUNT slot == 0, late }
    let c := c.updTim fun h => { h with acts := h.acts.set none slot (some e) }
    if late then c.fireSlot slot else c
  else c

/-- TIM_ACT_A after a write that reached it (R323, R325): while ARM is 1 only ARM, FIRED and LATE take the write. -/
def Chip.writeActA (c : Chip) (a : Access) (slot : Nat) (v : Word) : Chip :=
  let k : RegKey := ⟨.TIM_ACT_A, slot, 0⟩
  let old := (c.regs.get k).toNat
  let armed := bit old 31
  if armed then
    let asked := v.toNat
    let v' := bits asked 31 29 * 2 ^ 29 + old % 2 ^ 29
    let c := if v' != asked && c.isExpert a.who then c.countClamp k else c
    let c := c.storeReg a k 0 (word v')
    if c.flag F.TIM_ACT_A.ARM slot then c else c.disarm slot
  else (c.storeReg a k 0 v (actClamp 24 23 16 14)).armSlot slot

/-- A write of another register of a slot: dropped while the slot is armed; a PERIOD of 1 to 999 becomes 1,000. -/
def Chip.writeAct (c : Chip) (a : Access) (k : RegKey) (v : Word) : Chip :=
  if c.flag F.TIM_ACT_A.ARM k.i then c.countClamp k
  else c.storeReg a k 0 v fun n => if k.reg = .TIM_ACT_PERIOD && 1 ≤ n && n ≤ 999 then 1000 else n

/-- TIM_MTX_A after a write that reached it. -/
def Chip.writeMtxA (c : Chip) (a : Access) (r : Nat) (v : Word) : Chip :=
  c.storeReg a ⟨.TIM_MTX_A, r, 0⟩ 0 v mtxClamp

/-! ### The count (R305, R315, R328 to R330) -/

/-- Adding a signed amount to the count. -/
def Chip.addCount (c : Chip) (d : Int) : Chip :=
  c.updTim fun h => { h with count := (((h.count : Int) + d) % ((2 ^ 112 : Nat) : Int)).toNat }

/-- A slew ends. -/
def Chip.endSlew (c : Chip) : Chip := (c.updTim fun h => { h with slew := 0 }).setFld F.TIM_ADJ_CTL.BUSY 0

/-- A slew of an amount starts, or replaces the one in progress. -/
def Chip.slewBy (c : Chip) (d : Int) : Chip :=
  (c.updTim fun h => { h with slew := d }).setFld F.TIM_ADJ_CTL.BUSY (b2n (d != 0))

/-- The chassis time of the next SYNC edge after a time (R313). -/
def Chip.nextEdge (c : Chip) (ns : Nat) : Nat :=
  let p := c.fld F.TIM_SYNC_CFG.PERIOD * 1000
  (ns / p + 1) * p

/-- A step from a time to another keeps what the source has announced: the edge of a frame sent is still the next one, or with
no frame out the sequence of edges goes on (R313). -/
def Chip.keepsEdge (c : Chip) (old new : Nat) : Bool :=
  match c.tim.sent with
  | some e => c.nextEdge new == e || new == e
  | none => c.nextEdge new == c.nextEdge old

/-- A step is recorded: a slew ends, STEP_COUNT rises, STEP_SEEN sets and TIM_STEP shows its size (R315). -/
def Chip.stepSeen (c : Chip) (ns : Int) : Chip :=
  ((c.endSlew.incWrap F.TIM_STATUS.STEP_COUNT).setFld F.TIM_STATUS.STEP_SEEN 1).setPair .TIM_STEP_LO .TIM_STEP_HI (unsigned 64 ns)

/-- A step of the count by a signed amount (R315, R328 to R330): the slew ends, the step is recorded, gate lists run on to
the end of their cycles, and what a forward step skips happens at the step. -/
def Chip.timeStep (c : Chip) (d : Int) : Chip :=
  let old := c.ns
  let oldHalf := c.halfNs
  let sum : Int := (c.tim.count : Nat) + d
  let ns : Int := sum / 2 ^ 48 - (old : Nat)
  let nowHalf := (sum / 2 ^ 47).toNat
  let c := (c.addCount d).stepSeen ns
  let c := if c.keepsEdge old c.ns then c else c.updTim fun h => { h with stepDue := true, sent := none }
  let move (e : Nat × SchPort) : Nat × SchPort :=
    if e.2.run then (e.1, { e.2 with ends := unsigned 64 ((e.2.ends : Int) + ns) }) else e
  let c := { c with sched := { c.sched with ports := c.sched.ports.map move } }
  if d ≤ 0 then c
  else
    let skipped (t : Nat) : Bool := Nat.blt oldHalf t && Nat.blt t nowHalf
    let late (r : MtxAct) : MtxAct := if skipped r.at_ && !r.spec.late then { r with spec := { r.spec with late := true } } else r
    let newLate := (c.tim.rules.filter fun r => skipped r.at_ && !r.spec.late).length
    let c := ((c.add F.TIM_LATE.COUNT newLate).pulse 0xC03 0x11 newLate).updTim fun h => { h with rules := h.rules.map late }
    let slots := (List.range 256).filter fun a => match c.tim.acts.get none a with
      | some s => skipped s.next
      | none => false
    let c := slots.foldl (fun c a =>
      (c.updTim fun h => { h with acts := h.acts.set none a ((h.acts.get none a).map fun s => { s with late := true }) }).fireSlot
        a) c
    allPorts.foldl (fun c n => match c.gclSwitch? n with
      | some t => if Nat.ble (2 * t) nowHalf then c.gclDoSwitch n true else c
      | none => c) c

/-- GO is applied, with a STEP value (R315). -/
def Chip.timGo (c : Chip) (step : Bool) : Chip :=
  let ofs := c.sfld F.TIM_OFS_ADJ.OFS * ((2 ^ 48 : Nat) : Int)
  if step then c.timeStep ofs else c.slewBy ofs

/-- SET is applied. -/
def Chip.timSet (c : Chip) : Chip :=
  c.timeStep (((c.pair .TIM_SET_LO .TIM_SET_HI * 2 ^ 48 : Nat) : Int) - (c.tim.count : Nat))

/-- TIM_ADJ_CTL after a write that reached it: dropped while SRC is 0 (R314). -/
def Chip.writeAdjCtl (c : Chip) (a : Access) (v : Word) : Chip :=
  let k : RegKey := ⟨.TIM_ADJ_CTL, 0, 0⟩
  if !c.timFree then c.countClamp k
  else
    let c := c.storeReg a k 0 v
    let step := c.flag F.TIM_ADJ_CTL.STEP
    if wbit v 29 then
      let c := c.timSet
      if wbit v 31 then c.updTim fun h => { h with go := some step } else c
    else if wbit v 31 then c.timGo step
    else c

/-- A discipline register after a write that reached it: dropped while SRC is 0 (R314). -/
def Chip.writeTimDisc (c : Chip) (a : Access) (k : RegKey) (v : Word) : Chip :=
  if c.timFree then c.storeReg a k 0 v else c.countClamp k

/-- A change of SRC moves TIM between following and SOURCE (Table 9.2, R314); `was` is SRC before. -/
def Chip.srcFollow (c : Chip) (was : Bool) : Chip :=
  let now := c.timFree
  if was == now then c
  else
    let c := if now then c.setFld F.TIM_STATUS.STATE 4 else c.endSlew.setFld F.TIM_STATUS.STATE 0
    c.updTim fun h => { h with go := none, frame := none, edge := none, blind := 0, good := 0, odd := [], sent := none }

/-- TIM_CFG after a write that reached it. -/
def Chip.writeTimCfg (c : Chip) (a : Access) (v : Word) : Chip := (c.storeReg a ⟨.TIM_CFG, 0, 0⟩ 0 v).srcFollow c.timFree

/-- What the count gains in a Hallway cycle besides a slew: half a nanosecond, corrected by TIM_RATE_ADJ while SRC is 1
(R305, R315). -/
def Chip.increment (c : Chip) : Int :=
  2 ^ 47 + (if c.timFree then c.sfld F.TIM_RATE_ADJ.RATE * 2 ^ 47 / 65536000000 else 0)

/-- One Hallway cycle of chassis time, in PS0 (R316). -/
def Chip.timTick (c : Chip) : Chip :=
  if c.fld F.PWR_STATUS.STATE != 0 then c
  else
    let most : Int := (2 ^ 47 * c.fld F.TIM_CFG.SLEW_PPM / 1000000 : Nat)
    let d := clampI (-most) most c.tim.slew
    let left := c.tim.slew - d
    let c := (c.addCount (c.increment + d)).updTim fun h => { h with slew := left }
    let c := if d != 0 && left = 0 then c.setFld F.TIM_ADJ_CTL.BUSY 0 else c
    match c.tim.go with
    | some step => (c.updTim fun h => { h with go := none }).timGo step
    | none => c

/-- A return to PS0 (R316), as after a forward step whose size nothing states, a free value; `lost` when the count did not
survive. The count of an SRC of 1 goes on from where it stood, so that the step skips no action (DEDUCED, log entry 49). -/
def Chip.timReturn (c : Chip) (lost : Bool) : Chip :=
  let c := (c.stepSeen (c.freeVal % 2 ^ 63 : Nat)).drawn
  let c := if c.timFree then (if lost then c.updTim fun h => { h with count := 0 } else c)
    else c.setFld F.TIM_STATUS.STATE 0
  c.updTim fun h => { h with frame := none, edge := none, blind := 0, good := 0, odd := [], sent := none, stepDue := true }

/-! ### Following a source (R308 to R312) -/

/-- PERIOD in µs. -/
def Chip.period (c : Chip) : Nat := c.fld F.TIM_SYNC_CFG.PERIOD

/-- STATE of TIM (Table 9.2). -/
def Chip.timState (c : Chip) : Nat := c.fld F.TIM_STATUS.STATE

/-- TIM leaves ACQUIRE or LOCKED for HOLDOVER. -/
def Chip.toHoldover (c : Chip) : Chip :=
  if c.timState = 1 || c.timState = 2 then c.setFld F.TIM_STATUS.STATE 3 else c

/-- A frame that has waited longer than PERIOD for its edge is discarded (violation 0x41). -/
def Chip.dropStaleFrame (c : Chip) : Chip :=
  match c.tim.frame with
  | some f => if f.since + c.period * usCycles < c.hwy then
      (c.updTim fun h => { h with frame := none }).timViolation 0x41 else c
  | none => c

/-- A TOD frame has been received (R309, Table 9.7). -/
def Chip.todFrame (c : Chip) (bs : List Byte) : Chip :=
  let b0 := (bs.headD 0).toNat
  if bs.length != 9 || bits b0 7 6 != 2 || bits b0 5 4 != 1 || crc8 (bs.take 8) != ((bs.drop 8).headD 0).toNat then
    (c.inc F.TIM_TOD_ERR.COUNT).timViolation 0x40
  else
    let edge := leNat ((bs.drop 1).take 7)
    let c := c.dropStaleFrame
    if !bit b0 3 then (c.updTim fun h => { h with odd := [] }).toHoldover
    else
      let c := c.setFld F.TIM_STATUS.SRC_QUAL (b0 % 4)
      let off := match c.tim.edge with
        | some e => let p := e + c.period
          Nat.blt (c.fld F.TIM_SYNC_CFG.LOCK_NS) ((if edge ≤ p then p - edge else edge - p) * 1000)
        | none => false
      let take (c : Chip) (step : Bool) : Chip :=
        c.updTim fun h => { h with frame := some { edge, step, since := c.hwy }, odd := [] }
      if c.timState = 2 && off && !bit b0 2 then
        match c.tim.odd with
        | e2 :: e1 :: _ =>
          if e2 == e1 + c.period && edge == e2 + c.period then take c true
          else (c.updTim fun h => { h with odd := edge :: (if edge == e2 + c.period then [e2] else []) }).timViolation 0x43
        | [e2] => (c.updTim fun h => { h with odd := edge :: (if edge == e2 + c.period then [e2] else []) }).timViolation 0x43
        | [] => (c.updTim fun h => { h with odd := [edge] }).timViolation 0x43
      else take c (bit b0 2)

/-- The nine characters of a frame (Table 9.1), for an edge in ns. -/
def todBytes (edge qual : Nat) (valid step : Bool) : List Byte :=
  let head := BitVec.ofNat 8 (0x90 + 8 * b2n valid + 4 * b2n step + qual % 4) :: leBytes 7 (edge / 1000)
  head ++ [BitVec.ofNat 8 (crc8 head)]

/-- The size of an integer. -/
def absI (x : Int) : Nat := x.natAbs

/-- A SYNC edge while TIM follows (R311, Table 9.2); an accepted STEP frame has moved the instant at which it is due.
Times are in units of 1/16 ns. -/
def Chip.syncEdge (c : Chip) : Chip :=
  let c := c.dropStaleFrame
  let fr := c.tim.frame
  let tloc : Int := (c.halfNs * 8 : Nat) - (c.fld F.TIM_DELAY_COMP.SYNC_COMP : Int)
  let predicted := c.tim.edge.map (· + c.period)
  let astray := match predicted with
    | some p => Nat.blt (c.period * 2000) (absI (tloc - (p * 16000 : Nat)))
    | none => false
  if c.timState = 2 && astray && !fr.any (·.step) then c.timViolation 0x44
  else
    let edge := match fr with
      | some f => f.edge
      | none => predicted.getD (c.freeVal % 2 ^ 56)
    let c := if fr.isNone && predicted.isNone then c.drawn else c
    let err : Int := tloc - (edge * 16000 : Nat)
    let c := c.setReg .TIM_SYNC_ERR (word (unsigned 32 (clampI (-2147483648) 2147483647 err)))
    let near := Nat.ble (absI err) (c.fld F.TIM_SYNC_CFG.LOCK_NS * 16)
    let far := Nat.blt (c.fld F.TIM_CFG.STEP_NS * 16) (absI err)
    let before := c.tim.good
    let c := c.updTim fun h => { h with frame := none, edge := some edge, blind := if fr.isNone then h.blind + 1 else 0,
                                        good := if near then h.good + 1 else 0 }
    let c := if fr.isNone then c.timViolation 0x42 else c
    let amount : Int := -err * 2 ^ 44
    let step (c : Chip) : Chip := ((c.timeStep amount).updTim fun h => { h with good := 0 }).setFld F.TIM_STATUS.STATE 1
    let ok := c.flag F.TIM_STATUS.CLK100_OK
    match c.timState with
    | 0 => if ok && fr.isSome then step c else c
    | 3 =>
      if ok && fr.isSome then
        if far || fr.any (·.step) then step c else (c.slewBy amount).setFld F.TIM_STATUS.STATE 1
      else c
    | 4 => c
    | st =>
      if 3 ≤ c.tim.blind then c.toHoldover
      else if far || fr.any (·.step) then step c
      else
        let locked := near && (st == 2 || Nat.ble 3 before)
        (c.slewBy amount).setFld F.TIM_STATUS.STATE (if locked then 2 else 1)

/-! ### Trigger inputs (R331, R332) -/

/-- The device's own drive of a line changed within 10 ns of an instant, in Hallway cycles (R332). -/
def Chip.selfEdge (c : Chip) (line at_ : Nat) : Bool :=
  (c.tim.driven.get [] line).any fun t => Nat.ble t (at_ + 20) && Nat.ble at_ (t + 20)

/-- A read of TIM_TS_LO (R331, R618): the oldest entry, shown by TIM_TS_HI and TIM_TS_INFO; it is removed when `take`. -/
def Chip.readTs (c : Chip) (take : Bool) : Chip :=
  let put (c : Chip) (e : TsEntry) (valid : Bool) (left : Nat) : Chip :=
    let c := c.setPair .TIM_TS_LO .TIM_TS_HI (e.time / 2)
    c.setReg .TIM_TS_INFO (word (b2n valid * 2 ^ 31 + c.fld F.TIM_TS_INFO.OVERFLOW * 2 ^ 30 + b2n e.self * 2 ^ 29 +
      b2n e.release * 2 ^ 28 + e.line * 2 ^ 24 + e.time % 2 * 2 ^ 23 + min left 63 * 2 ^ 16))
  match c.tim.fifo with
  | [] => put c { time := 0, self := false, release := false, line := 0 } false 0
  | e :: es =>
    let c := if take then c.updTim fun h => { h with fifo := es } else c
    put c e true c.tim.fifo.length

end Sys2Proof.Machine
end

