-- ==== Sys2Proof/Machine/ModeOps.lean ====
section
/-! DEFINITION. Operating modes: the prerequisites, the transitions and the quiesce (R28 to R43), the enables of the
tiles, and the move of the PLL references (R562). -/

namespace Sys2Proof.Machine

/-! ### Prerequisites (Table 1.3 and the rules that add to it) -/

/-- Enabled PCI Express ports of a role. -/
def Chip.rolePorts (c : Chip) (r : Nat) : List Nat := allPorts.filter fun n => c.isPcie n && c.role n == r

/-- Enabled Fleren ports. -/
def Chip.flerenPorts (c : Chip) : List Nat := allPorts.filter c.isFleren

/-- The port counts and the Flacons of a mode's row of Table 1.3. -/
def Chip.rowMet (c : Chip) (m : Nat) : Bool :=
  let up := (c.rolePorts 1).length
  let root := (c.rolePorts 2).length
  let fl := c.flerenPorts.length
  let within (lo hi n : Nat) : Bool := Nat.ble lo n && Nat.ble n hi
  let active := c.liveFlacons.any fun f => c.fld F.GLB_FLC_A.STATE f == 1
  match m with
  | 1 => up == 1 && root == 0 && fl == 0
  | 2 => within 2 32 up && root == 0 && fl == 0
  | 3 => within 1 32 up && root == 0 && fl == 0 && active
  | 4 => up == 0 && within 1 96 root && within 0 95 fl
  | 5 => within 1 32 up && within 1 95 root && fl == 0
  | 6 | 7 => within 0 32 up && within 0 95 root && Nat.ble 1 fl
  | 8 => within 0 32 up && within 0 94 root && Nat.ble 2 fl
  | _ => false

/-- The settings of ports and partitions (R37, R51, R89, R97, R109, R151, R185). -/
def Chip.portsMet (c : Chip) (m : Nat) : Bool :=
  let ports := allPorts.filter c.portEn
  let ups := (c.rolePorts 1).map c.portPart
  let downs := (c.rolePorts 0).map c.portPart
  let chans := (ports.filter fun n => c.flag F.PRT_HP_CFG.HP_EN n).map fun n => c.fld F.PRT_HP_CFG.FUS_CHAN n
  ports.all (fun n => bit (c.fld F.GLB_TILE_EN.TILE_EN) (tileOf n)) &&
    c.flerenPorts.all (fun n => !c.flag F.SDS_REF_CFG.SSC (tileOf n) && Nat.ble (c.credSum n) 512) &&
    !hasRepeat (ports.flatMap c.portLanes) && !hasRepeat ups && downs.all ups.elem && !hasRepeat chans &&
    (m != 1 || downs.all fun p => ups.all (· == p)) &&
    (ports.filter c.isPcie).all (fun n => Nat.ble 37 (c.fld F.CEL_PORT_CFG.IN_MIN n)) &&
    Nat.ble (c.fld F.CEL_SHARED_CFG.CPL_RSV * 16 + 1632 + c.reservedCells) 393216

/-- Entries that are VALID in the committed VH map. -/
def Chip.vhEntries (c : Chip) : List Nat := (List.range 32).filter fun p => c.live F.FAB_VH_MAP.VALID p == 1

/-- The conditions of the fabric modes (R218, R224, R270). -/
def Chip.fabricMet (c : Chip) (m : Nat) : Bool :=
  let id (s : Nat) : Nat := c.fld F.FAB_ID.DOMAIN s
  let proxies := (List.range 32).filter fun p => c.flag F.GLB_PTN_CFG.PROXY p
  let rdps := (List.range 32).filter fun p => (List.range 8).any fun r => c.flag F.GLB_PTN_RDP.VALID p r
  let lends (p n : Nat) : Bool := bit (c.reg .GLB_PTN_LEND p (n / 32)).toNat (n % 32)
  let lent := (c.rolePorts 2).flatMap fun n => ((List.range 32).filter fun p => lends p n).map fun p => (n, p)
  m < 6 ||
    (c.flag F.FAB_ID.VALID 0 &&
      (m != 8 || (c.flag F.FAB_ID.VALID 1 && id 0 != id 1 &&
        c.flerenPorts.any (fun n => !c.bitOf .FAB_SIDE n) && c.flerenPorts.any (fun n => c.bitOf .FAB_SIDE n))) &&
      !hasRepeat (c.vhEntries.map fun p => c.live F.FAB_VH_MAP.VH p) &&
      proxies.all (fun p => !(allPorts.any fun n => c.isPcie n && c.role n != 2 && c.portPart n == p) &&
        c.flag F.GLB_PTN_HOME.VALID p && c.vhEntries.elem p) &&
      rdps.all c.vhEntries.elem && !hasRepeat (lent.map (·.1)) && lent.all fun q => proxies.elem q.2)

/-- The legacy segment (R410). -/
def Chip.segMet (c : Chip) (m : Nat) : Bool :=
  let wins := (List.range 8).filter fun w => c.flag F.LPB_WIN_A.VALID w
  let size (w : Nat) : Nat := 2 ^ c.fld F.LPB_WIN_A.SIZE w
  let seg (w : Nat) : Nat × Nat :=
    let b := (c.reg .LPB_WIN_SBASE w).toNat / size w * size w
    (b, b + size w)
  let meets (x y : Nat × Nat) : Bool := Nat.blt x.1 y.2 && Nat.blt y.1 x.2
  let clash := wins.any fun w => wins.any fun v => Nat.blt w v &&
    c.flag F.LPB_WIN_A.SPACE w == c.flag F.LPB_WIN_A.SPACE v &&
    (meets (c.segWinRange w) (c.segWinRange v) || meets (seg w) (seg v))
  let usize := 2 ^ c.fld F.LPB_UP_A.SIZE
  let ub := (c.reg .LPB_UP_SBASE).toNat / usize * usize
  let up := c.flag F.LPB_UP_A.VALID && wins.any fun w => !c.flag F.LPB_WIN_A.SPACE w && meets (seg w) (ub, ub + usize)
  !c.flag F.LPB_CFG.EN ||
    ((match c.segOwner with
      | some p => (c.upPort? p).isSome
      | none => Nat.ble 4 m) && !clash && !up)

/-- The rules that refuse every transition to a mode from 0x1 to 0x8 with PREREQ (R51, R89, R109, R151, R185, R218, R270,
R291, R410). -/
def Chip.settingsMet (c : Chip) (m : Nat) : Bool :=
  c.portsMet m && c.fabricMet m && c.segMet m && c.schPrereq

/-- The configuration meets a mode's row of Table 1.3 and every rule that refuses the transition with PREREQ. -/
def Chip.prereqMet (c : Chip) (m : Nat) : Bool := c.rowMet m && c.settingsMet m

/-! ### Transitions -/

/-- FAB_DRT_A.SIDE is 0 outside mode 0x8, live or not (Table 6.9). -/
def Chip.sidesOff (c : Chip) : Chip :=
  let off (k : RegKey) (w : Word) : Word := if k.reg = .FAB_DRT_A then word (clrBit w.toNat 30) else w
  { c with regs := c.regs.change off, fab := { c.fab with live := c.fab.live.change off } }

/-- The mode takes a new value with a result (R38); BUSY clears. -/
def Chip.setMode (c : Chip) (m result : Nat) : Chip :=
  let c := if c.opMode = 8 && m != 8 then c.sidesOff else c
  let c := (c.setFld F.GLB_MODE.PREV_MODE c.opMode).setFld F.GLB_MODE.MODE m
  let c := (c.setFld F.GLB_MODE.LAST_RESULT result).setFld F.GLB_MODE.BUSY 0
  { c with mode := { c.mode with target := none, stopped := false, wakeHeld := false } }

/-- A mode comes into effect: forwarding and what starts with it in 0x1 to 0x8; every link down at 0xA to 0x9, while one
that 0xB has kept stays (Table 1.7, Table 4.11); outputs released in 0xB and 0xC. -/
def Chip.enterMode (c : Chip) (m result : Nat) : Chip :=
  let was := c.opMode
  let c := c.setMode m result
  if isForwarding m then
    ((c.endLaneTests.divideCellar.shapersFull.metersFull.recheckJobs).flFollowAll).segFollow
  else if m = 9 then (if was = 0xA then c.allDown else c).flFollowAll.segFollow
  else if m = 0xA then c.segFollow
  else c.releaseOutputs.segFollow

/-- A request that Table 1.7 refuses. -/
def Chip.refuseMode (c : Chip) (result : Nat) : Chip := c.setFld F.GLB_MODE.LAST_RESULT result

/-- The transition from 0xB back to PREV_MODE (Table 1.7): the row is not checked again, the rules that refuse every
transition to a forwarding mode are. -/
def Chip.resumeMode (c : Chip) : Chip :=
  let m := c.fld F.GLB_MODE.PREV_MODE
  let c := { c with mode := { c.mode with wakeHeld := false } }
  if isForwarding m && !c.settingsMet m then c.refuseMode 2 else c.enterMode m 0

/-- A quiesce starts (R42). -/
def Chip.startQuiesce (c : Chip) (m : Nat) : Chip :=
  { c.setFld F.GLB_MODE.BUSY 1 with mode := { c.mode with target := some m, stopped := true } }

/-- A request for a mode while BUSY is 0 (Table 1.7). -/
def Chip.requestMode (c : Chip) (m : Nat) : Chip :=
  let now := c.opMode
  if m = 0xC || now = 0xC then c.refuseMode 1
  else if (now = 9 || now = 0xA) && isForwarding m then
    if c.prereqMet m then c.enterMode m 0 else c.refuseMode 2
  else if isForwarding now && (m = 0xA || m = 0xB) then c.startQuiesce m
  else if now = 0xA && m = 9 then c.enterMode 9 0
  else if (now = 9 || now = 0xA) && m = 0xB then c.enterMode 0xB 0
  else if now = 0xB && m = c.fld F.GLB_MODE.PREV_MODE && c.fld F.PWR_STATUS.STATE = 0 then c.resumeMode
  else c.refuseMode 1

/-- GLB_MODE after a write that reached it (R32, R33, Table 1.8): every write starts a request; while BUSY is 1 it is
dropped and counted. REQ_MODE holds the clamped value of a request that is then refused too: DEDUCED, log entry 36. -/
def Chip.writeMode (c : Chip) (a : Access) (v : Word) : Chip :=
  let k : RegKey := ⟨.GLB_MODE, 0, 0⟩
  if !c.isExpert a.who then c.storeReg a k 0 v
  else if c.flag F.GLB_MODE.BUSY then c.countClamp k
  else
    let c := c.storeReg a k 0 v
    c.requestMode (c.fld F.GLB_MODE.REQ_MODE)

/-- Every engine has stopped: none runs a record, and the emitter holds nothing, but for what is stalled with MASTER_OFF
(R123). -/
def Chip.enginesStopped (c : Chip) : Bool :=
  c.acd.engs.all (fun (e : Nat × EngH) => e.2.hand.isNone || c.engState e.1 == enMaster) &&
    (c.acd.engs.all fun (e : Nat × EngH) => e.2.out.all c.outOff) &&
    c.acd.emits.all fun x => x.dests.all fun q => c.windowOff x.job q.1

/-- Step 5 of R42 holds. -/
def Chip.quiesced (c : Chip) : Bool :=
  c.cel.copies.isEmpty && c.cel.waiting.isEmpty && c.cel.flcWaiting.isEmpty && c.cel.meterHeld.isEmpty &&
    c.flt.track.all (·.orphan) && c.flcReqs.all (·.reserved) && c.lpb.queue.isEmpty &&
    c.flt.dev.all (·.quarantined) && c.enginesStopped

/-- A copy that had not left step 8 at the stop of a quiesce (R42 step 2): a posted one is discarded and counted, a
request answered with Unsupported Request; a completion is discarded as an aged one where the limit ends its wait. -/
def Chip.stopHeld (c : Chip) (k : Copy) : Chip :=
  match k.cat with
  | .posted => c.stopDrop
  | .nonPosted => c.answerCopy k .ur
  | .completion => c.fate k

/-- Step 6 of R42: what is left in the Cellar and is not being sent is discarded as aged, what never entered it as after
the stop, running engines are reset, and those whose write is held by its meter (Table 8.1). -/
def Chip.forceQuiesce (c : Chip) : Chip :=
  let c := c.updLpb fun h => { h with queue := [], active := none, delayed := h.delayed.map fun r => { r with before := [] } }
  let sending (k : Copy) : Bool := k.started && match k.dest with | .port _ => true | _ => false
  let held := c.cel.copies.filter (fun k => !sending k) ++ c.cel.waiting.filter (·.deferred)
  let outside := c.cel.waiting.filter (fun k => !k.deferred) ++ c.cel.flcWaiting ++ c.cel.meterHeld.flatMap (·.copies)
  let c := { c with cel := { c.cel with copies := c.cel.copies.filter sending, waiting := [], flcWaiting := [], meterHeld := [] } }
  let c := outside.foldl (fun c k => c.stopHeld k) (held.foldl (fun c k => c.fate k) c)
  let busy := c.acd.engs.filterMap fun (e : Nat × EngH) =>
    if (e.2.hand.isSome && c.engState e.1 != enMaster) || c.engState e.1 == enMeter || e.2.out.any (fun o => !c.outOff o) then
      some e.1 else none
  let c := busy.foldl (fun c e => c.engineReset e) c
  { c with acd := { c.acd with emits := c.acd.emits.filter fun x => x.dests.all fun q => c.windowOff x.job q.1 } }

/-- The safe state's entry as the mode logic sees it (Tables 1.7 and 1.8). -/
def Chip.enterSafeMode (c : Chip) : Chip :=
  let r := if c.flag F.GLB_MODE.BUSY then 4 else c.fld F.GLB_MODE.LAST_RESULT
  (c.setMode 0xC r).releaseOutputs

/-! ### Tiles and references -/

/-- The lowest-numbered enabled tile whose reference runs. -/
def Chip.goodRef? (c : Chip) : Option Nat :=
  allTiles.find? fun t => bit (c.fld F.GLB_TILE_EN.TILE_EN) t && c.flag F.SDS_REF_STATUS.REF_OK t

/-- The tile in use as the PLL reference has lost its reference: the PLLs move, or run free (R562). -/
def Chip.hrefMove (c : Chip) (t : Nat) : Chip :=
  if c.fld F.PWR_STATUS.HREF_NOW != t then c
  else match c.goodRef? with
    | some u => c.setFld F.PWR_STATUS.HREF_NOW u
    | none => c

/-- The lanes of a tile stop. -/
def Chip.tileLanesOff (c : Chip) (t : Nat) : Chip := (rangeFrom (16 * t) 16).foldl (fun c l => c.laneOff l) c

/-- A tile is disabled (R37): its PCI Express links go down, its Fleren links are DISABLED (Table 4.11), and its lanes stop. -/
def Chip.tileDown (c : Chip) (t : Nat) : Chip :=
  let down (c : Chip) (n : Nat) : Chip :=
    if c.isPcie n then c.linkDown n 6 0 else if c.isFleren n then c.flDownTo n 6 flDisabled else c
  ((rangeFrom (8 * t) 8).foldl down c).tileLanesOff t

/-- GLB_TILE_EN after a write that reached it (R37): only in modes 0x9 and 0xA; a tile that is disabled stops. -/
def Chip.writeTileEn (c : Chip) (a : Access) (v : Word) : Chip :=
  let k : RegKey := ⟨.GLB_TILE_EN, 0, 0⟩
  if !c.configMode then c.countClamp k
  else
    let was := c.fld F.GLB_TILE_EN.TILE_EN
    let c := c.cycSync.storeReg a k 0 v
    let now := c.fld F.GLB_TILE_EN.TILE_EN
    let off := allTiles.filter fun t => bit was t && !bit now t
    let c := off.foldl (fun c t => c.tileDown t) c
    c.flFollowAll

end Sys2Proof.Machine
end

