-- ==== Sys2Proof/Machine/HwyOps.lean ====
section
/-! DEFINITION. The ingress header lookup (spec/05_hallway_cellar.md, Table 5.1, with the routing of spec/07, the checks
of spec/03 and the gates of spec/11). The meanings of the commands that enter it stand in Machine/Hallway.lean,
Machine/Fleren.lean, Machine/Emit.lean and Machine/LegacyUp.lean. -/

namespace Sys2Proof.Machine

/-- A packet in the lookup, as step 2 of Table 5.1 classifies it. -/
structure Look where
  pkt : Packet
  src : Src
  stamp : Nat
  /-- The partition of its requester, none for the internal root; the hierarchy in which its Requester ID and tag stand
  (`Copy.hier`). -/
  part : Option Nat
  hier : Nat
  st : Standing
  oRid : Nat
  oTag : Nat
  fab : Option FabHdr := none
  flc : Option Nat := none
  touch : List Nat := []
  whole : Bool := true
  /-- The number of the received packet, and where it begins in its first parcel cell (`Copy.rx`, `Copy.off`). -/
  rx : Option Nat := none
  off : Nat := 0
  /-- The meter of an engine's destination window (R292). -/
  meter : Option Nat := none
  bPath : Nat := 0
  deriving DecidableEq, Repr, Inhabited

/-- The number of a hierarchy (`Copy.hier`). -/
def hierNum (p : Option Nat) : Nat := p.getD 32

/-- The port that a packet came in by. -/
def Look.inPort? (x : Look) : Option Nat :=
  match x.src with
  | .port n => some n
  | _ => none

/-- The copy that a packet makes toward a destination: the first uses the parcel cells of a Fleren port in place, a further
one new cells (R179). -/
def Look.copy (x : Look) (id pid : Nat) (d : Dest) (first : Bool) : Copy :=
  let inPlace := first && !x.touch.isEmpty
  let len := match x.fab with | some h => if inPlace then 8 * (1 + h.lenWords) else 0 | none => 0
  { id, pid, pkt := x.pkt, src := x.src, part := x.part, dest := d, stamp := x.stamp,
    cells := if inPlace then 0 else x.pkt.cells, touch := if inPlace then x.touch else [],
    off := if inPlace then x.off else 0, len, rx := x.rx,
    charge := .shared, first, whole := x.whole, st := x.st, oRid := x.oRid, oTag := x.oTag, hier := x.hier,
    inFab := x.fab, flc := x.flc, bPath := x.bPath }

/-- A packet is refused: a non-posted request is answered with a status, as one that would have gone to a destination
(R203); any other packet is discarded. -/
def Chip.refuse (c : Chip) (x : Look) (d : Dest) (st : CplStatus := .ur) : Chip :=
  if x.pkt.cat = .nonPosted then c.answerCopy (x.copy 0 0 d true) st else c

/-- A packet is refused at the port that received it. -/
def Chip.refuseHere (c : Chip) (x : Look) (st : CplStatus := .ur) : Chip :=
  c.refuse x (match x.inPort? with | some n => .port n | none => .mgmt) st

/-- A violation recorded at the port that a packet came in by, when it came by one. -/
def Chip.violHere (c : Chip) (x : Look) (code : Nat) : Chip :=
  match x.inPort? with
  | some n => c.violation n code (hdr := some x.pkt)
  | none => c

/-- An AER report at the PCI Express port that a packet came in by. -/
def Chip.aerHere (c : Chip) (x : Look) (b : Nat) : Chip :=
  match x.inPort? with
  | some n => if c.isPcie n then c.aer n b (some x.pkt) else c
  | none => c

/-! ### Step 4: routing (R249, R269, R412, R624) -/

/-- What step 4 finds: destinations, a chip of the fabric, a function of the device itself, the Flacon aperture at an
offset, a request that a function's absence refuses (R248), or nothing. -/
inductive Hit where
  | dests (ds : List Dest)
  | remote (dom chip : Nat)
  | own
  | aperture (off : Nat)
  | refused
  | none
  deriving DecidableEq, Repr, Inhabited

/-- The 8 KiB BAR of a switch port function, or of a remote one by its shadow (Table 3.12, R268). -/
def Chip.fnBar (c : Chip) (f : Fn) (a : Nat) : Bool :=
  let b := c.barBase f 0x10 0x2000
  c.memEn f && b ≤ a && a < b + 0x2000

/-- The BAR of the function of a port. -/
def Chip.portBar (c : Chip) (n a : Nat) : Bool := c.fnBar (.port n) a

/-- A bridge claims an address in I/O space. -/
def Chip.ioClaims (c : Chip) (f : Fn) (a : Nat) : Bool :=
  let w := c.cfgAt f 0x1C
  let u := c.cfgAt f 0x30
  let lo := bits u 15 0 * 2 ^ 16 + bits w 7 4 * 2 ^ 12
  let hi := bits u 31 16 * 2 ^ 16 + bits w 15 12 * 2 ^ 12 + 0xFFF
  c.cfgBit f 0x04 0 && lo ≤ a && a ≤ hi

/-- A bridge claims a memory or I/O request. -/
def Chip.claims (c : Chip) (f : Fn) (p : Packet) : Bool :=
  if p.isIo then c.ioClaims f p.addr else c.bridgeClaims f p.addr

/-- Remote downstream port function r of a partition as a destination (R267, R268). -/
def Chip.rdpHit (c : Chip) (p r : Nat) : Hit :=
  .remote (c.fld F.GLB_PTN_RDP.DOMAIN p r) (c.fld F.GLB_PTN_RDP.CHIP p r)

/-- The root port for which a configuration request to a remote downstream port function of a partition goes out. -/
def Chip.rootPort? (c : Chip) (p : Nat) (k : Packet) : Option Nat :=
  let cfg := k.kind == .cfgRd || k.kind == .cfgWr
  if cfg && k.idRoute / 256 == c.internalBus p && k.idRoute / 8 % 32 == 16 then some (c.fld F.GLB_PTN_RDP.PORT p (k.idRoute % 8))
  else none

/-- The root ports lent to a proxy partition (R267). -/
def Chip.lentPorts (c : Chip) (q : Nat) : List Nat :=
  allPorts.filter fun m => c.isPcie m && c.role m == 2 && bit (c.reg .GLB_PTN_LEND q (m / 32)).toNat (m % 32)

/-- The root ports of the internal root: those lent to no proxy partition. -/
def Chip.rootPorts (c : Chip) : List Nat :=
  allPorts.filter fun m => c.isPcie m && c.role m == 2 && (c.hierPart? m).isNone

/-- A request of a partition lies in a window of the segment that it owns (R412). -/
def Chip.segHit (c : Chip) (part : Option Nat) (p : Packet) : Option Nat :=
  if c.segOwner = part then c.segWindow? p.isIo p.addr else none

/-- A memory or I/O request of a partition with an upstream port; one from below that the upstream function's own windows hold
and nothing below claims matches no window. `n` is the PCI Express port of the partition that it
came in by. -/
def Chip.routeMem (c : Chip) (p u : Nat) (n : Option Nat) (k : Packet) : Hit :=
  let above := n == some u
  let inside := !above || c.claims (.port u) k
  let down := (c.downPorts p).find? fun m => c.claims (.port m) k
  let rdp := (List.range (c.rdpCount p)).find? fun r => c.claims (.rdp p r) k || (!k.isIo && c.fnBar (.rdp p r) k.addr)
  let bar := if k.isIo then none else c.mgmtBar? p k.addr
  let own := !k.isIo && (c.portsOf p).any fun m => (m == u || inside) && c.portBar m k.addr
  match (if inside then bar else none) with
  | some (4, off) => .aperture off
  | some _ => .own
  | none =>
    if own then .own
    else match (if inside then down else none) with
      | some m =>
        if n == some m then
          if c.cfgBit (.port m) 0x384 20 then .dests [.port u] else .none
        else .dests [.port m]
      | none =>
        match (if inside then rdp else none) with
        | some r => c.rdpHit p r
        | none =>
          if (c.segHit (some p) k).isSome then .dests [.legacy]
          else if above || c.claims (.port u) k then .none else .dests [.port u]

/-- A request or completion of a partition that names a bus, device and function. -/
def Chip.routeId (c : Chip) (p u : Nat) (n : Option Nat) (id : Nat) : Hit :=
  let bus := id / 256
  let above := n == some u
  if bus = c.secBus (.port u) then
    if id % 256 = 0 then .own
    else if id / 8 % 32 = 16 then (if id % 8 < c.rdpCount p then c.rdpHit p (id % 8) else .refused)
    else if (c.internalFn? p (id / 8 % 32) (id % 8)).isSome then .own else .refused
  else if above && bus = c.priBus (.port u) then .own
  else if !c.busClaims (.port u) bus then (if above then .none else .dests [.port u])
  else match (c.downPorts p).find? fun m => n != some m && c.busClaims (.port m) bus with
    | some m => .dests [.port m]
    | none => match (List.range (c.rdpCount p)).find? fun r => c.busClaims (.rdp p r) bus with
      | some r => c.rdpHit p r
      | none => .none

/-- The home chip of a proxy partition. -/
def Chip.homeHit (c : Chip) (q : Nat) : Hit := .remote (c.fld F.GLB_PTN_HOME.DOMAIN q) (c.fld F.GLB_PTN_HOME.CHIP q)

/-- A packet at a proxy chip (R268, R269). -/
def Chip.routeProxy (c : Chip) (q : Nat) (n : Option Nat) (k : Packet) : Hit :=
  let ms := (c.lentPorts q).filter fun m => n != some m
  let byId (id : Nat) : Option Nat := ms.find? fun m => c.busClaims (.port m) (id / 256)
  match k.kind with
  | .cfgRd | .cfgWr => match byId k.idRoute with
    | some m => .dests [.port m]
    | none => .dests [.mgmt]
  | .cpl => match byId k.rid with
    | some m => .dests [.port m]
    | none => c.homeHit q
  | .msg => if k.msgRoute = 2 then (match byId k.idRoute with | some m => .dests [.port m] | none => c.homeHit q)
    else c.homeHit q
  | _ =>
    if (c.lentPorts q).any fun m => !k.isIo && c.portBar m k.addr then .dests [.mgmt]
    else match ms.find? fun m => c.claims (.port m) k with
      | some m => .dests [.port m]
      | none => c.homeHit q

/-- A request that Bus Master Enable governs: memory or I/O. -/
def Packet.isMemIo (p : Packet) : Bool :=
  match p.kind with
  | .memWr | .memRd | .memRdLk | .ioWr | .ioRd | .atomic | .dmWr => true
  | _ => false

/-- A memory request (R386). -/
def Packet.isMem (p : Packet) : Bool := p.isMemIo && !p.isIo

/-- The Pantry to which Ecseric maps an address of the internal root (R624). -/
def Chip.pantryMap? (c : Chip) (a : Nat) : Option Nat :=
  allTiles.find? fun t =>
    let b := c.barBase (.pantry t) 0x10 pantrySize
    c.memEn (.pantry t) && Nat.ble b a && Nat.blt a (b + pantrySize)

/-- A configuration register that only Ecseric reaches (R96, R624): on bus 0 of the internal root, by device and function
number, the functions of the root ports P0 to P95, and from 96 on the maps of the Pantries. -/
def Chip.rootFn? (c : Chip) (id : Nat) : Option Fn :=
  if id / 256 != 0 then none
  else if id < 96 then (if c.isPcie id && c.role id == 2 then some (.port id) else none)
  else if id < 108 then some (.pantry (id - 96))
  else none

/-- A request of the internal root (R624); `n` is the port that it came in by. -/
def Chip.routeRoot (c : Chip) (n : Option Nat) (k : Packet) : Hit :=
  let ms := c.rootPorts.filter fun m => n != some m
  let cfg := k.kind == .cfgRd || k.kind == .cfgWr
  let mem := k.kind != .msg && !cfg
  if n.isNone && cfg && (c.rootFn? k.idRoute).isSome then .own
  else if n.isNone && k.isMem && c.rootPorts.any (fun m => c.portBar m k.addr) then .own
  else match ms.find? fun m => mem && c.claims (.port m) k with
  | some m => .dests [.port m]
  | none =>
    if cfg && n.isNone then
      match ms.find? fun m => c.busClaims (.port m) (k.idRoute / 256) with
      | some m => .dests [.port m]
      | none => .none
    else match (if k.isMem then c.pantryMap? k.addr else none) with
      | some t => .dests [.pantry t]
      | none => if mem && (c.segHit none k).isSome then .dests [.legacy] else .dests [.mgmt]

/-- Where a message of a partition with an upstream port goes by its routing (R249). -/
def Chip.routeMsg (c : Chip) (p u : Nat) (n : Option Nat) (k : Packet) : Hit :=
  let above := n == some u
  match k.msgRoute with
  | 1 => c.routeMem p u n k
  | 2 => c.routeId p u n k.idRoute
  | 3 => if above then .dests ((c.downPorts p).map Dest.port) else .none
  | 4 => .own
  | _ => if above then .none else .dests [.port u]

/-- Step 4 of Table 5.1 for a request of a hierarchy. -/
def Chip.resolve (c : Chip) (part : Option Nat) (n : Option Nat) (k : Packet) : Hit :=
  match part with
  | none => if k.kind = .msg && k.msgRoute = 4 then .own else c.routeRoot n k
  | some p =>
    if c.isProxy p then (if k.kind = .msg && k.msgRoute = 4 then .own else c.routeProxy p n k)
    else match c.upPort? p with
      | none => .none
      | some u =>
        match k.kind with
        | .msg => c.routeMsg p u n k
        | .cfgRd | .cfgWr => c.routeId p u n k.idRoute
        | _ => c.routeMem p u n k

/-! ### Multicast (R86, R226) -/

/-- The multicast group of an address by the Multicast capability of a port's function. -/
def Chip.mcGroup? (c : Chip) (n a : Nat) : Option Nat :=
  let ctl := c.cfgAt (.port n) 0x324
  let lo := c.cfgAt (.port n) 0x328
  let idx := lo % 64
  let base := c.cfgAt (.port n) 0x32C * 2 ^ 32 + lo / 4096 * 4096
  let g := (a - base) / 2 ^ idx
  if bit ctl 31 && 12 ≤ idx && base ≤ a && g ≤ bits ctl 21 16 then some g else none

/-- A bit of a 64-bit vector of the Multicast capability. -/
def Chip.mcBit (c : Chip) (f : Fn) (off g : Nat) : Bool := c.cfgBit f (off + 4 * (g / 32)) (g % 32)

/-- The function of a partition by whose Multicast capability a packet is judged: that of the port it came in by, else that
of the partition's upstream port. -/
def Chip.mcFn? (c : Chip) (p : Nat) (n : Option Nat) : Option Nat := n.orElse fun _ => c.upPort? p

/-- The address of a copy that leaves by a port: the overlay of that port's function. -/
def Chip.mcOverlay (c : Chip) (n a : Nat) : Nat :=
  let lo := c.cfgAt (.port n) 0x348
  let s := lo % 64
  let b := c.cfgAt (.port n) 0x34C * 2 ^ 32 + lo / 64 * 64
  if s < 6 then a else b / 2 ^ s * 2 ^ s + a % 2 ^ s

/-- The egress ports of a group: those of the partition whose functions receive it, other than the ingress. -/
def Chip.mcPorts (c : Chip) (p g : Nat) (n : Option Nat) : List Nat :=
  (c.portsOf p).filter fun m => n != some m && c.cfgBit (.port m) 0x324 31 && c.mcBit (.port m) 0x330 g

/-- Remote downstream port functions of a partition that a group names: no copy crosses the fabric (R226). -/
def Chip.mcRemote (c : Chip) (p g : Nat) : Nat :=
  ((List.range (c.rdpCount p)).filter fun r => c.cfgBit (.rdp p r) 0x324 31 && c.mcBit (.rdp p r) 0x330 g).length

/-- Multicast copies are discarded and counted by the tile of their ingress (R86, R226); 12 stands for the internal
requesters that have no tile. -/
def Chip.mcDiscard (c : Chip) (x : Look) (k : Nat) : Chip :=
  let t := match x.src with | .port n => tileOf n | .engine e => e / 128 | _ => 12
  if k = 0 then c else { c with cel := { c.cel with mcDrops := c.cel.mcDrops.set 0 t (c.cel.mcDrops.get 0 t + k) } }

/-- More than 16 ports: one MC_FANOUT for the group until its settings change (R86). -/
def Chip.mcWide (c : Chip) (t p g : Nat) : Chip :=
  if (c.part p).mcRaised.elem g then c
  else (c.updPart p fun h => { h with mcRaised := g :: h.mcRaised }).raise (tileSrc t 13) 0x06 0 (p * 256 + g) (some p)

/-! ### Step 5: ACS and Bus Master Enable (R118, R119, Table 3.1) -/

/-- Where the ACS controls of a downstream port let a packet of its card go: a peer destination may be redirected to the
upstream port of the hierarchy `p` in which it is routed (R263), and `rid` is the Requester ID that the card gave; none is a
violation. -/
def Chip.acs (c : Chip) (n p rid : Nat) (k : Packet) (d : Dest) : Option Dest :=
  let ctl (b : Nat) : Bool := c.cfgBit (.port n) 0x384 (16 + b)
  let bus := rid / 256
  let up := match c.upPort? p with | some u => Dest.port u | none => d
  let peer := match d with | .port m => c.isPcie m && c.role m == 0 && m != n | _ => false
  if k.kind = .cpl then (if peer && ctl 3 && !k.relaxed then some up else some d)
  else if ctl 0 && !c.busClaims (.port n) bus then none
  else if ctl 1 && k.translated && k.isMem then none
  else if peer then
    let blocked := ctl 5 && (match d with | .port m => c.cfgBit (.port n) (0x388 + 4 * (m / 32)) (m % 32) | _ => false)
    if ctl 6 && k.translated then some d
    else if ctl 2 then (if ctl 5 && !blocked then some d else some up)
    else if blocked then none else some d
  else some d

/-! ### Step 6: gates -/

/-- The gate of a destination and the address that it judges (Table 11.1, R386, R387): memory requests, and I/O toward the
segment. -/
def Chip.gateOf? (c : Chip) (d : Dest) (k : Packet) : Option (Nat × Nat) :=
  match d with
  | .port m => if k.isMem && c.isPcie m && c.role m != 1 then some (m, k.addr) else none
  | .pantry t => if k.isMem then some (96 + t, k.addr) else none
  | .legacy => match (if k.isMemIo then c.segWindow? k.isIo k.addr else none) with
    | some w => some (111, c.segAddr w k.addr)
    | none => none
  | .mgmt => none
  | .requester _ => none

/-- How a request acts on memory (R392). -/
def Packet.gateReads (p : Packet) : Bool := p.kind == .memRd || p.kind == .memRdLk || p.kind == .ioRd || p.kind == .atomic
/-- A write, a DMWr, an AtomicOp. -/
def Packet.gateWrites (p : Packet) : Bool := p.kind == .memWr || p.kind == .dmWr || p.kind == .ioWr || p.kind == .atomic

/-- The check of step 6 on a copy's access: whether it passes, and the device with a denial captured, under the Requester ID as
received, 0 for firmware (Table 11.8). -/
def Chip.gateAllows (c : Chip) (d : Dest) (k : Packet) (st : Standing) (rid : Nat) (part : Option Nat) : Bool × Chip :=
  match c.gateOf? d k with
  | none => (true, c)
  | some (g, a) =>
    match c.gate g { st := st, addr := a, reads := k.gateReads, writes := k.gateWrites, plain := k.isIo,
                     rid := (if st.master = .firmware then 0 else rid), part := part } with
    | (none, c) => (true, c)
    | (some _, c) => (false, c)

/-! ### Steps 5 and 6 for one destination -/

/-- The violations that the destination decides (R85, R87, Table 3.9 0x07, 0x0F, 0x12): the code, 0 for the MRdLk that
R85 answers without one. -/
def Chip.destViol? (c : Chip) (k : Packet) (d : Dest) : Option Nat :=
  let inside := match d with | .port _ => false | _ => true
  if k.ide && inside then some 0x12
  else if k.poisoned && inside then some 0x07
  else if k.kind = .dmWr then
    match d with
    | .legacy => none
    | .port m => if c.isPcie m && c.cfgBit (.port m) 0x368 1 then some 0x0F else none
    | _ => some 0x0F
  else if k.kind = .memRdLk && d != .legacy then some 0
  else none

/-- A posted request is discarded at a port whose link is not in DL_Active, and counted there (R100), or at the segment in reset
(R428). -/
def Chip.countDrop (c : Chip) (x : Look) (d : Dest) : Chip :=
  match d with
  | .port m => if x.pkt.cat = .posted then c.updPort m fun h => { h with drops := h.drops + 1 } else c
  | .legacy => if x.pkt.cat = .posted then c.inc F.LPB_DISCARD.COUNT else c
  | _ => c

/-- Steps 5 and 6 of Table 5.1, and R100, for one destination: where the copy goes, or none when it is answered or
discarded. -/
def Chip.passes (c : Chip) (x : Look) (d0 : Dest) : Option Dest × Chip :=
  let k := x.pkt
  let card : Option Nat := match x.inPort? with
    | some n => if c.isPcie n && c.role n == 0 then some n else none
    | none => none
  let to_ := match card with | some n => c.acs n (x.part.getD (c.portPart n)) (if x.flc.isSome then x.oRid else k.rid) k d0 | none => some d0
  match c.destViol? k (to_.getD d0) with
  | some 0 => (none, (c.aerHere x aerUr).refuse x d0)
  | some 7 => (none, c.violHere x 7)
  | some v => (none, (c.violHere x v).refuse x d0)
  | none =>
    match to_ with
    | none => (none, (c.violHere x 0x06).refuseHere x)
    | some d =>
      let offCard := match card with | some n => k.isMemIo && !c.bme (.port n) | none => false
      let offUp := match d with
        | .port u => if k.isMemIo && c.isPcie u && c.role u == 1 && !c.bme (.port u) then some u else none
        | _ => none
      let dead := match d with | .port m => !c.linkLive m | .legacy => c.flag F.LPB_STATUS.RST_ACTIVE | _ => false
      if offCard then (none, (c.aerHere x aerUr).refuseHere x)
      else match offUp with
        | some u => (none, (c.aer u aerUr (some k)).refuse x d)
        | none =>
          if dead then (none, (c.countDrop x d).refuse x d)
          else
            match c.gateAllows d k x.st x.oRid x.part with
            | (true, c) => (some d, c)
            | (false, c) =>
              let c := match x.src with
                | .port n => c.pulse (tileUnit (tileOf n)) 0x1A
                | .engine e => c.pulse (tileUnit (e / 128)) 0x1A
                | _ => c
              let c := if x.st.master = .host || x.st.master = .card then c.aerHere x aerUr else c
              (none, c.refuse x d)

/-! ### Step 7: meters (R292 to R296) -/

/-- What step 7 does with a packet. -/
inductive Metered where
  | pass
  | held (ctx : Nat)
  | dropped
  deriving DecidableEq, Repr, Inhabited

/-- The first meter of a packet, its pre-colour and its length. -/
def Chip.firstMeter? (c : Chip) (x : Look) : Option (Nat × Nat × Nat) :=
  if x.pkt.kind = .cpl then none
  else match x.src with
    | .port n =>
      let k := x.pkt.cls
      if c.flag F.SCH_FLOW_MAP.VALID n k then
        some (c.fld F.SCH_FLOW_MAP.CTX n k, bits (c.fld F.SCH_PORT_CFG.PRECOLOUR n) (2 * k + 1) (2 * k),
          x.pkt.bytes + c.overhead n)
      else none
    | .engine _ => x.meter.map fun m => (m, 0, x.pkt.bytes)
    | _ => none

/-- Step 7 of Table 5.1. -/
def Chip.meter (c : Chip) (x : Look) : Metered × Chip :=
  match c.firstMeter? x with
  | none => (.pass, c)
  | some (m, pre, len) =>
    let (v, c) := c.meterChain m pre len
    let c := match x.src with
      | .port n => if v.colour = 1 then c.pulse (portUnit n) 0x16 else if v.colour = 2 then c.pulse (portUnit n) 0x17 else c
      | _ => c
    if !v.drop then (.pass, c.countColour v)
    else match x.src with
      | .port n => (.dropped, (c.countColour v).inc F.SCH_METER_DROP.COUNT (tileOf n))
      | _ => (.held m, c)

/-! ### Step 8 -/

/-- A packet of a PCI Express port takes the local path (R20). -/
def Chip.local? (c : Chip) (x : Look) (d : Dest) (single : Bool) : Bool :=
  match x.src, d with
  | .port n, .port m =>
    single && c.isPcie n && tileOf n == tileOf m && (c.queue d x.pkt.cls).isEmpty && c.gateOpen m x.pkt.cls &&
      c.gateFits m x.pkt.cls (c.txTime m x.pkt.bytes)
  | _, _ => false

/-- The copies of a packet toward its destinations, each with the packet as it carries it, under the packet's number `pid` and
numbers of their own from `id` on. -/
def Look.copies (x : Look) (now id pid : Nat) (ds : List (Dest × Packet)) : List Copy :=
  ds.mapIdx fun i e => { ({ x with pkt := e.2 }).copy (id + i) pid e.1 (i == 0) with seen := now }

/-- The copies of a packet enter step 8: the further ones, and then the first, which is charged to its source (R189). -/
def Chip.enter (c : Chip) (ks : List Copy) : Chip :=
  match ks with
  | [] => c
  | k :: more => (more.foldl (fun c w => c.enqueue w) c).enqueue k

/-- n fresh identifiers, from the first on. -/
def Chip.newIds (c : Chip) (n : Nat) : Nat × Chip :=
  (c.cel.nextId, { c with cel := { c.cel with nextId := c.cel.nextId + n } })

/-- A packet that has passed steps 4 to 7 enters step 8. -/
def Chip.place (c : Chip) (x : Look) (ds : List (Dest × Packet)) (single : Bool) : Chip :=
  let (pid, c) := c.newIds (ds.length + 1)
  let near (k : Copy) : Copy := if c.local? x k.dest single then { k with charge := .none, cells := 0 } else k
  c.enter ((x.copies c.ns (pid + 1) pid ds).map near)

/-- Steps 5 to 8 of Table 5.1 for the destinations of a packet, each with the packet as its copy carries it. -/
def Chip.toDests (c : Chip) (x : Look) (ds : List (Dest × Packet)) : Chip :=
  if !c.admitting then
    match ds with
    | [] => c
    | (d, _) :: _ => if x.pkt.cat = .posted then c.stopDrop else c.refuse x d
  else
    let (live, c) := ds.foldl (fun (q : List (Dest × Packet) × Chip) e =>
      match q.2.passes { x with pkt := e.2 } e.1 with
      | (some d, c) => (q.1 ++ [(d, e.2)], c)
      | (none, c) => (q.1, c)) ([], c)
    match live with
    | [] => c
    | (d, _) :: _ =>
      match c.meter x with
      | (.pass, c) => c.place x live (ds.length == 1)
      | (.dropped, c) => c.refuse x d .ca
      | (.held m, c) =>
        match x.src with
        | .engine e =>
          let (pid, c) := c.newIds (live.length + 1)
          let h : HeldWrite := { eng := e, meter := m, copies := x.copies c.ns (pid + 1) pid live }
          Chip.showStall { c with cel := { c.cel with meterHeld := c.cel.meterHeld ++ [h] } } e
        | _ => c

/-- The completion timer of a request of the device takes account of its path (R483). -/
def Chip.pathLimit (c : Chip) (x : Look) (bPath : Nat) : Chip :=
  if x.src.isPort || x.pkt.cat != .nonPosted then c
  else
    let far (e : DevReq) : DevReq :=
      if e.who == x.src && e.part == x.part && e.tag == x.oTag then { e with limit := max e.limit (4 * bPath) } else e
    { c with flt := { c.flt with dev := c.flt.dev.map far } }

/-- A packet for a chip of the fabric: encapsulated under the VH of its partition (R222, R223), which stands in the entry
whether or not it is VALID (DESIGN CHOICE, log entry 47); with no route it is answered as R230 gives, and so is one whose
destination is this chip's own side, to which no port leads (DESIGN CHOICE, log entry 47). -/
def Chip.toRemote (c : Chip) (x : Look) (dom chip : Nat) : Chip :=
  match x.part with
  | none => c.refuseHere x
  | some p =>
    let d := c.routeTo dom chip
    let h := c.encap d dom chip (c.live F.FAB_VH_MAP.VH p) x.st.colour x.src x.pkt
    let c := c.pathLimit x d.bPath
    match c.egressOf d h.spread with
    | (some n, c) => (c.pulse 0xC02 0x10).toDests { x with bPath := d.bPath } [(.port n, { x.pkt with fab := some h })]
    | (none, c) => (c.noRoute dom chip (some p)).refuse x .mgmt

/-! ### Flacons (R261 to R264) -/

/-- The first tag of a hierarchy's allocator that no request holds, from a free value on (R251, R485). -/
def Chip.newTag? (c : Chip) (p : Option Nat) : Option Nat :=
  let used (t : Nat) : Bool := (c.flcReqs.any fun e => some e.tagPart == p && e.newTag == t) ||
    c.flt.dev.any fun e => e.part == p && e.tag == t
  let t0 := c.freeVal % 16384
  ((List.range 16384).find? fun i => !used ((t0 + i) % 16384)).map fun i => (t0 + i) % 16384

/-- Free entries of the Flacon request table (R264). -/
def Chip.flcFree (c : Chip) : Nat := 8192 - c.flcReqs.length

/-- A request through a Flacon takes a table entry when it is non-posted, and leaves with a Requester ID and a tag of
the partition `tagPart`; with no entry or tag free, or behind an older one of its source and class that waits for one, it
waits (R205, R262 to R264). `again` is the request as it waits. -/
def Chip.flaconSend (c : Chip) (x : Look) (again : Copy) (f tagPart backPart : Nat)
    (go : Chip → Look → Chip) : Chip :=
  let rid := c.mgmtRid tagPart
  let x := { x with pkt := { x.pkt with rid }, hier := tagPart, flc := some f }
  if x.pkt.cat != .nonPosted then go c x
  else
    let older (w : Copy) : Bool := w.src == x.src && w.pkt.cls == x.pkt.cls
    match (if 0 < c.flcFree && !c.cel.flcWaiting.any older then c.newTag? (some tagPart) else none) with
    | none =>
      let (id, c) := c.newId
      { c with cel := { c.cel with flcWaiting := c.cel.flcWaiting ++ [{ again with id }] } }
    | some tag =>
      let e : FlcReq := { flc := f, newRid := rid, newTag := tag, origRid := x.oRid, origTag := x.oTag, tagPart, backPart,
                          src := x.src, fab := x.fab, cls := x.pkt.cls, len := x.pkt.len }
      go { c.drawn with flcReqs := c.flcReqs ++ [e] } { x with pkt := { x.pkt with tag } }

/-- A request through a Flacon that refuses it (R274, step 1). -/
def Chip.flaconRefuse (c : Chip) (x : Look) (d : Dest) : Chip := (c.inc F.GLB_FLC_REFUSED.COUNT).refuse x d

/-- Flacon f's entry is not ACTIVE and not FREE. -/
def Chip.flcRefuses (c : Chip) (f : Nat) : Bool := 2 ≤ c.flcState f

/-- The Flacon of a partition's aperture at an offset (R261). -/
def Chip.apertureFlc? (c : Chip) (p off : Nat) : Option Nat :=
  (c.flaconsOf p).find? fun f =>
    let lo := c.fld F.GLB_FLC_C.APER_OFS f * 4096
    lo ≤ off && off < lo + 2 ^ c.fld F.GLB_FLC_A.SIZE f

/-- A partition refuses a packet (R272, R477): counted; a non-posted request is answered. -/
def Chip.resetDrop (c : Chip) (x : Look) (p : Nat) (d : Dest) : Chip := (c.inc F.GLB_PTN_RST_DROP.COUNT p).refuse x d

/-- Whether a partition's management function keeps PASIDs (R256). -/
def Chip.pasidOn (c : Chip) (p : Nat) : Bool := c.cfgBit (.mgmt p) 0x15C 16

/-- A request that hits BAR4 (R256, R258, R261, R262, R265); the hierarchy that it goes to may refuse it (R272). -/
def Chip.toAperture (c : Chip) (x : Look) (p off : Nat) : Chip :=
  if !c.flaconMode then c.refuse x .mgmt
  else match c.apertureFlc? p off with
    | none => (c.violHere x 0x05).refuseHere x
    | some f =>
      let kind1 := c.flag F.GLB_FLC_A.KIND f
      let tgt := c.fld F.GLB_FLC_A.TARGET f
      let addr := (c.pair .GLB_FLC_BASE_LO .GLB_FLC_BASE_HI f + (off - c.fld F.GLB_FLC_C.APER_OFS f * 4096)) % 2 ^ 64
      let d : Dest := if kind1 then .pantry tgt else .port tgt
      if c.flcRefuses f then c.flaconRefuse x d
      else
        let st : Standing := { master := .flacon, colour := c.fld F.GLB_FLC_A.COLOUR f }
        let again := x.copy 0 0 .mgmt true
        let home := c.portPart tgt
        let keep := kind1 || c.pasidOn home
        let x := { x with pkt := { x.pkt with addr, pasid := if keep then some (c.fld F.GLB_FLC_B.PASID f) else none,
                                              exec := false, priv := false }, st }
        if !kind1 && c.partRefuses home then c.resetDrop x home d
        else if kind1 then
          let x := { x with pkt := { x.pkt with addr := addr % pantrySize } }
          c.toDests x [(d, x.pkt)]
        else c.flaconSend x again f home p fun c x => c.toDests x [(d, x.pkt)]

/-! ### Steps 4 to 8 for a request -/

/-- The form of an event message (R335). -/
def Packet.isEvent (k : Packet) : Bool := k.kind == .msg && k.msgCode == 0x7F && k.vendor == 0x1F9E

/-- An event message is one that the device takes in: a card's, or a host's routed by ID to the management function of its
partition (R336). -/
def Chip.eventForMe (c : Chip) (x : Look) : Bool :=
  match x.inPort? with
  | some n => (c.isPcie n && c.role n != 1) ||
      (x.pkt.msgRoute == 2 && match x.part with | some p => x.pkt.idRoute == c.mgmtRid p | none => false)
  | none => false

/-- An event message takes its way to the Root Complex of a proxy partition (R269, R337); no other is forwarded (R336). -/
def Chip.eventPasses (c : Chip) (x : Look) (ds : List Dest) : Bool :=
  x.fab.isSome && match x.part.bind c.upPort? with | some u => ds == [.port u] | none => false

/-- A message that ends at the port that received it, or at a management function (Table 3.9, 0x0D; R336, R420). -/
def Chip.ownMsg (c : Chip) (x : Look) : Chip :=
  let k := x.pkt
  let ignored := k.msgCode ∈ [0x00, 0x14, 0x19, 0x40, 0x41, 0x43, 0x44, 0x45, 0x47, 0x48, 0x50, 0x7F]
  match c.destViol? k .mgmt with
  | some v => c.violHere x v
  | none =>
  if k.isEvent then
    if !c.eventForMe x then c
    else if !c.admitting then c.stopDrop.inc F.TIM_ACT_LOST.COUNT
    else match x.inPort? with
      | some n => c.takeEventMessage (if c.isPcie n then (c.hierPart? n).getD 33 else x.part.getD 33) n k.vdh k.data c.halfNs
      | none => c
  else if ignored then c
  else c.violHere x 0x0D

/-- A packet for a multicast group of its partition: copies to its ports, cut to the 16 lowest; `f` is the port whose function
judges it, `n` the PCI Express port of the partition that it came in by (R86, R226). One that Block All, or Block Untranslated,
keeps back is discarded and reported. -/
def Chip.toGroup (c : Chip) (x : Look) (f p g : Nat) (n : Option Nat) : Chip :=
  if c.mcBit (.port f) 0x338 g || (c.mcBit (.port f) 0x340 g && !x.pkt.translated) then (c.aer f aerMcBlocked (some x.pkt)).refuseHere x
  else
    let ms := c.mcPorts p g n
    let t := match x.src with | .port i => tileOf i | .engine e => e / 128 | _ => tileOf f
    let c := if 16 < ms.length then c.mcWide t p g else c
    let c := c.mcDiscard x (ms.length - 16 + c.mcRemote p g)
    c.toDests x ((ms.take 16).map fun m => (.port m, { x.pkt with addr := c.mcOverlay m x.pkt.addr }))

/-- The first destination of a hit, for the Completer ID of a refusal. -/
def Hit.dest (h : Hit) : Dest :=
  match h with
  | .dests (d :: _) => d
  | _ => .mgmt

/-- A request lies in a window of the segment, and another target holds its address too: one that it resolves to, or a
window of a downstream port, remote ones and the requester's own among them (R412). -/
def Chip.overlaps (c : Chip) (part : Option Nat) (k : Packet) (h : Hit) : Bool :=
  let below := match part with
    | some p => (c.downPorts p).any (fun m => c.claims (.port m) k) || (List.range (c.rdpCount p)).any fun r => c.claims (.rdp p r) k
    | none => false
  k.isMemIo && (c.segHit part k).isSome && (below || match part, h with
    | some p, .dests [.port m] => !(c.upPort? p == some m)
    | none, .dests [.port _] => true
    | _, .own => true
    | _, .aperture _ => true
    | _, _ => false)

/-- The link of a PCI Express port runs in flit mode, with 14-bit tags; else tags have 10 bits. -/
def Chip.tagBits (c : Chip) (n : Nat) : Nat := if c.flag F.PRT_LINK_STATUS.FLIT n then 14 else 10

/-- A request for one of the device's own functions has a tag wider than the partner's (Table 3.9, 0x0E). -/
def Chip.wideTag (c : Chip) (x : Look) : Bool :=
  match x.src with
  | .port n => c.isPcie n && x.pkt.cat == .nonPosted && Nat.ble (2 ^ c.tagBits n) x.oTag
  | _ => false

/-- A request of a hierarchy for a function of the device itself passes steps 5 and 6 and goes to the Porch of the upstream
port: it takes no cell and meets no meter (R24). -/
def Chip.toOwn (c : Chip) (x : Look) : Chip :=
  if c.wideTag x then c.violHere x 0x0E
  else match c.passes x .mgmt with
  | (none, c) => c
  | (some d, c) =>
    let (id, c) := c.newId
    c.push { x.copy id id d true with cells := 0, touch := [], charge := .none }

/-- A request of a partition's own host for one of the partition's own functions while the partition refuses packets: a
containment lets it pass (R477); after PERST_N has deasserted a configuration request is answered with Request Retry Status
(R272). -/
def Chip.ownRefused (c : Chip) (x : Look) (p : Nat) : Chip :=
  let h := c.part p
  let cfg := x.pkt.kind == .cfgRd || x.pkt.kind == .cfgWr
  if !h.inReset && !h.hot then c.toOwn x
  else if h.rrs && !h.hot && cfg then (c.inc F.GLB_PTN_RST_DROP.COUNT p).refuse x .mgmt .rrs
  else c.resetDrop x p .mgmt

/-- Step 4 and what follows for a request of a hierarchy (R174, R224); `n` is the PCI Express port that received it. -/
def Chip.lookReq (c : Chip) (x : Look) (n : Option Nat) : Chip :=
  let k := x.pkt
  let judge := match x.part with
    | some p => if k.kind == PktKind.memWr && x.flc.isNone && !c.isProxy p then c.mcFn? p n else none
    | none => none
  let group := judge.bind fun f => c.mcGroup? f k.addr
  let hit := c.resolve x.part n k
  let c := if c.overlaps x.part k hit then c.setFld F.LPB_STATUS.OVERLAP 1 else c
  let refusing := match x.part with | some p => if c.partRefuses p then some p else none | none => none
  let mine : Bool := match n, x.part with | some m, some p => c.upPort? p == some m && hit == .own && k.kind != .msg | _, _ => false
  match refusing with
  | some p => if mine then c.ownRefused x p else c.resetDrop x p hit.dest
  | none =>
    match group, judge, x.part with
    | some g, some f, some p => c.toGroup x f p g n
    | _, _, _ =>
      match hit with
      | .none => (c.violHere x 0x05).refuseHere x
      | .refused => c.refuse x .mgmt
      | .own => if k.kind == PktKind.msg then c.ownMsg x else c.toOwn x
      | .aperture off => match x.part with | some p => c.toAperture x p off | none => c
      | .remote dom chip =>
        let x := match x.part with | some p => { x with pkt := { k with rootPort := c.rootPort? p k } } | none => x
        match x.fab, x.inPort? with
        | some _, some i => if c.isFleren i then (c.fabViolation i 0x33).refuseHere x else c.toRemote x dom chip
        | _, _ => c.toRemote x dom chip
      | .dests ds =>
        let across := match ds, c.segHit x.part k with
          | [.legacy], some w => Nat.blt (c.segWinRange w).2 (k.addr + k.len)
          | _, _ => false
        if across then (c.violHere x 0x05).refuseHere x
        else if k.isEvent && !c.eventPasses x ds then c
        else c.toDests x (ds.map fun d => match d with
            | .pantry _ => (d, { k with addr := k.addr % pantrySize })
            | _ => (d, k))

/-! ### Completions -/

/-- The tag of a completion is withheld for a request that timed out (R485). -/
def Chip.quarantined? (c : Chip) (part : Option Nat) (tag : Nat) : Option DevReq :=
  c.flt.dev.find? fun e => e.quarantined && e.part == part && e.tag == tag

/-- The home chip's shadow of a remote downstream port function follows a configuration write to it whose Successful
Completion is forwarded (R268). -/
def Chip.shadowWrite (c : Chip) (e : Track) (st : CplStatus) : Chip :=
  let q := e.copy.pkt
  match e.copy.part with
  | some p =>
    let r := q.idRoute % 8
    let off := q.addr % 4096
    let be := (((List.range 4).filter q.laneOn).map (2 ^ ·)).sum
    if q.kind = .cfgWr && st = .sc && q.idRoute / 256 = c.internalBus p && q.idRoute / 8 % 32 = 16 && r < c.rdpCount p then
      c.cfgStore (.rdp p r) off be (leNat q.data)
    else c
  | none => c

/-- The source of the messages of a device requester (Tables 14.1 and 14.2). -/
def Src.devSource : Src → Nat
  | .engine e => tileSrc (e / 128) 17
  | .segment => 0x1A2
  | _ => 0x1C1

/-- A completion for a requester inside the device takes cells until it is handed over: of the management reservation for
firmware, else of the pool (R184, R193). `back` is the hierarchy that its request's tag is of. -/
def Chip.handIn (c : Chip) (x : Look) (s : Src) (p : Packet) (back : Option Nat) : Chip :=
  let (id, c) := c.newId
  (c.enqueue { ({ x with pkt := p }).copy id id (.requester s) true with part := back }).giveIn s

/-- A completion goes to where its request came from. `x` carries it as it was received; `e` is the tracker entry. -/
def Chip.cplToOrigin (c : Chip) (x : Look) (src : Src) (fab : Option FabHdr) (back : Option Nat) : Chip :=
  let k := x.pkt
  match src with
  | .port m =>
    if c.isFleren m then
      match fab with
      | some h =>
        let d := c.routeTo h.srcDomain h.srcChip
        let h' := c.encap d h.srcDomain h.srcChip h.vh h.colour x.src k
        match c.egressOf d h'.spread with
        | (some n, c) => c.place x [(.port n, { k with fab := some h' })] true
        | (none, c) => c.noRoute h.srcDomain h.srcChip back
      | none => c
    else if c.linkLive m then
      let d := match x.inPort? with
        | some n => if c.isPcie n && c.role n == 0 then (c.acs n (back.getD (c.portPart n)) k.rid k (.port m)).getD (.port m) else .port m
        | none => .port m
      c.place x [(d, k)] true
    else c
  | .device | .tim => c
  | s => c.handIn x s k back

/-- The header type of function 0 of device 16 shows that there are more (R248). -/
def Chip.patchHeader (c : Chip) (e : Track) (k : Packet) : Packet :=
  let q := e.copy.pkt
  match e.copy.part with
  | some p =>
    if q.kind = .cfgRd && k.status = .sc && q.rootPort.isSome && q.idRoute % 256 = 128 && q.addr % 4096 / 4 = 3 &&
        Nat.blt 1 (c.rdpCount p) then
      { k with data := leBytes k.data.length (setBit (leNat k.data) 23) }
    else k
  | none => k

/-- A completion that came in by a port, of a hierarchy (R262, R275, R482, R485, Table 3.9 0x04 and 0x11). -/
def Chip.lookCpl (c : Chip) (x : Look) : Chip :=
  let k := x.pkt
  let part := if x.hier < 32 then some x.hier else none
  if c.orphaned x.hier k.rid k.tag then
    let c := c.inc F.FLT_UNEXP_CPL.COUNT
    { c with flt := { c.flt with track := c.flt.track.filter fun e => !(e.orphan && e.is x.hier k.rid k.tag) } }
  else match c.trackFind? x.hier k.rid k.tag with
    | none => c.violHere x 0x04
    | some e =>
      let k := c.patchHeader e k
      let x := { x with pkt := k }
      let cfg := e.copy.pkt.kind == .cfgRd || e.copy.pkt.kind == .cfgWr
      let dev := match e.copy.src with | .engine _ | .firmware | .segment => true | _ => false
      if k.status = .rrs && !cfg then c.violHere x 0x11
      else
        let done := (c.trackCpl x.hier k.rid k.tag k.data.length k.lastCpl).shadowWrite e k.status
        match (if dev then c.quarantined? part k.tag else none) with
        | some q =>
          let c := done.inc F.FLT_UNEXP_CPL.COUNT
          let c := { c with flt := { c.flt with dev := c.flt.dev.filter fun r => r != q } }
          c.raise q.who.devSource 0x08 0 (k.rid * 65536 + k.tag % 16384) part
        | none =>
          let late := c.flcReqs.any fun r => r.is x.hier k.rid k.tag && r.reserved
          let poisonedIn := k.poisoned && (match e.copy.src with | .engine _ | .firmware => true | _ => false)
          if k.ide && dev then c.violHere x 0x12
          else if poisonedIn then c.violHere x 0x07
          else if late then (if k.lastCpl then done.retireFlcReq x.hier k.rid k.tag else done).inc F.GLB_FLC_LATE.COUNT
          else
            let refusing := match e.copy.part with | some p => if c.partRefuses p then some p else none | none => none
            match refusing with
            | some p => done.inc F.GLB_PTN_RST_DROP.COUNT p
            | none =>
              match c.flcReqs.find? fun r => r.is x.hier k.rid k.tag with
              | some r =>
                let done := if k.lastCpl then done.retireFlcReq x.hier k.rid k.tag else done
                let k := { k with rid := r.origRid, tag := r.origTag }
                done.cplToOrigin { x with pkt := k, oRid := k.rid, oTag := k.tag } r.src r.fab (some r.backPart)
              | none => done.cplToOrigin x e.copy.src e.copy.inFab e.copy.part

end Sys2Proof.Machine
end

