-- ==== Sys2Proof/Machine/IngressOps.lean ====
section
/-! DEFINITION. Where packets enter the lookup: ports, with capture (R347 to R351) and card Flacons (R263); the fabric
(R220 to R230, R241, R242); engine writes (R373); the device's own requests. -/

namespace Sys2Proof.Machine

/-! ### Capture (R347 to R351) -/

/-- Capture rule r of a tile, by 64 t + r. -/
def Chip.capFld (c : Chip) (f : Fld) (r : Nat) : Nat := c.fld f (r / 64) (r % 64)

/-- The window of a rule: its first address and the one past its last. -/
def Chip.capWindow (c : Chip) (r : Nat) : Nat × Nat :=
  let b := c.pair .ACD_CAP_WBASE_LO .ACD_CAP_WBASE_HI (r / 64) (r % 64)
  (b, b + 64 * c.capFld F.ACD_CAP_WLEN.WLEN r)

/-- A posted memory write received on a port matches a rule (R347). -/
def Chip.capMatches (c : Chip) (n r : Nat) (p : Packet) : Bool :=
  let m := c.capFld F.ACD_CAP_RID.MASK r
  let w := c.capWindow r
  c.capFld F.ACD_CAP_A.EN r == 1 && c.capFld F.ACD_CAP_A.SLOT r == n % 8 &&
    Nat.land p.rid m == Nat.land (c.capFld F.ACD_CAP_RID.RID r) m && w.1 ≤ p.addr && p.addr < w.2 &&
    (c.capFld F.ACD_CAP_A.PASID_VALID r == 0 || p.pasid == some (c.capFld F.ACD_CAP_PASID.PASID r))

/-- The rule that takes a write: the lowest-numbered that matches. -/
def Chip.capRule? (c : Chip) (n : Nat) (p : Packet) : Option Nat :=
  if p.kind == .memWr then (rangeFrom (64 * tileOf n) 64).find? fun r => c.capMatches n r p else none

/-- The job of a rule, by 32 t + j. -/
def Chip.capJob (c : Chip) (r : Nat) : Nat := 32 * (r / 64) + c.capFld F.ACD_CAP_A.JOB r

/-- The next byte of a job's ring would land in a record that is not free (R351). -/
def Chip.capBlocked (c : Chip) (j : Nat) : Bool :=
  let len := c.recLen j
  let slots := c.ringBytes j / len
  let num := (c.job j).filled / len
  (c.job j).recs.any fun q => q.num != num && q.num % slots == num % slots

/-- One byte passes the fill point of a job's ring: `b` is what it stores, if anything; `lost` marks its record
(R348, R351). A record is ready with its last byte; one that has lost bytes is discarded then. -/
def Dev.capByte (d : Dev) (j : Nat) (b : Option Byte) (lost gap : Bool) (stamp : Nat) : Dev :=
  let c := d.chip
  let len := c.recLen j
  let at_ := (c.job j).filled
  let num := at_ / len
  let d := match b with
    | some v => d.pantryWrite (j / 32) (c.jfld F.ACD_JOB_RING.BASE j * 64 + at_ % c.ringBytes j) [v]
    | none => d
  let has : Bool := (c.job j).recs.any fun q => q.num == num
  let full := (at_ + 1) % len == 0
  d.onChip fun c =>
    let recs := if has then (c.job j).recs else (c.job j).recs ++ [{ num, first := stamp }]
    let mark (q : RingRec) : RingRec := if q.num == num then
      { q with lost := q.lost || lost, gap := q.gap || gap, last := stamp, ready := full } else q
    let recs := recs.map mark
    let dead := full && recs.any fun q => q.num == num && q.lost
    let c := c.updJob j fun h => { h with filled := at_ + 1,
                                          recs := if dead then recs.filter fun q => q.num != num else recs }
    if dead then c.inc F.ACD_JOB_LOST.CAP_DROP (j / 32) (j % 32)
    else if full then c.incWrap F.ACD_JOB_READY.COUNT (j / 32) (j % 32) else c

/-- The rest of a write is discarded and the fill point advances by its length (R351, DROP). -/
def Dev.capLose (j stamp : Nat) : Dev → Bool → List (Byte × Bool) → Dev
  | d, _, [] => d
  | d, gap, _ :: bs => Dev.capLose j stamp (d.capByte j none true gap stamp) false bs

/-- The bytes of a write pass the fill point until one would land in a record that is not free: under DROP the rest is
lost, under STALL it is what the result holds. -/
def Dev.capRun (j stamp : Nat) (drop : Bool) : Dev → Bool → List (Byte × Bool) → Dev × List (Byte × Bool)
  | d, _, [] => (d, [])
  | d, gap, (b, on) :: bs =>
    if d.chip.capBlocked j then
      if drop then (Dev.capLose j stamp d gap ((b, on) :: bs), []) else (d, (b, on) :: bs)
    else Dev.capRun j stamp drop (d.capByte j (if on then some b else none) false gap stamp) false bs

/-- The bytes of a write with their lanes. -/
def Packet.byteLanes (p : Packet) : List (Byte × Bool) := p.data.zip ((List.range p.data.length).map p.laneOn)

/-- What of a captured write is still to be placed is placed; what must wait under STALL waits (R351). -/
def Dev.capPlace (d : Dev) (r : Nat) (k : Copy) (gap : Bool) : Dev :=
  let j := d.chip.capJob r
  if d.chip.ringBytes j < d.chip.recLen j || d.chip.recLen j = 0 then d
  else
    let gap := gap || d.chip.acd.gapDue.elem r
    let (d, rest) := Dev.capRun j k.stamp (d.chip.capFld F.ACD_CAP_A.POLICY r == 1) d gap k.pkt.byteLanes
    let owes : Bool := gap && rest.length == k.pkt.byteLanes.length
    let d := d.onChip fun c => { c with acd := { c.acd with
      gapDue := (c.acd.gapDue.filter (· != r)) ++ (if owes then [r] else []) } }
    if rest.isEmpty then d
    else
      let k := { k with pkt := { k.pkt with data := rest.map (·.1), lanes := rest.map (·.2) } }
      d.onChip fun c => { c with cel := { c.cel with capWaiting := (some r, k) :: c.cel.capWaiting } }

/-- A write that a rule takes (R348 to R351). -/
def Dev.captureWrite (d : Dev) (n r : Nat) (k : Copy) : Dev :=
  let c := d.chip
  let (lo, hi) := c.capWindow r
  let p := k.pkt
  let end_ := p.addr + p.data.length
  let room := hi - p.addr
  let gap := match c.acd.expected.get none r with | some a => a != p.addr | none => false
  let next := if hi ≤ end_ then lo else end_
  let c := c.inc F.ACD_CAP_HITS.COUNT (r / 64) (r % 64)
  let c := { c with acd := { c.acd with expected := c.acd.expected.set none r (some next) } }
  let c := if gap then c.inc F.ACD_JOB_GAP.COUNT (c.capJob r / 32) (c.capJob r % 32) else c
  let c := if hi < end_ then
      ((c.setFld F.PRT_VIOL_LAST.CODE 0x50 n).inc F.PRT_VIOL_COUNT.COUNT n).raiseViol (tileSrc (tileOf n) 18) n 0x50
        (c.partOfPort n)
    else c
  ({ d with chip := c }).capPlace r { k with pkt := { p with data := p.data.take room } } gap

/-- How a packet arrives: its R18 stamp, the parcel cells that it touches and its place in the first, whether its last byte
has come with every check, and its number. -/
structure Arr where
  stamp : Nat
  touch : List Nat := []
  off : Nat := 0
  whole : Bool := true
  rx : Option Nat := none
  deriving DecidableEq, Repr, Inhabited

/-- The packets of a port wait behind a captured write (R351). -/
def Chip.capBehind (c : Chip) (n : Nat) : Bool := c.cel.capWaiting.any fun e => e.2.src == .port n

/-- A packet waits behind a captured write of its port. -/
def Chip.capWait (c : Chip) (k : Copy) : Chip :=
  { c with cel := { c.cel with capWaiting := c.cel.capWaiting ++ [(none, k)] } }

/-! ### Packets of a PCI Express port -/

/-- A memory request crosses a 4 KiB boundary (R391). -/
def Packet.crosses (p : Packet) : Bool := p.isMem && 4096 < p.addr % 4096 + max p.len p.data.length

/-- The partner violation of a packet as it is received (Table 3.9: 0x01, 0x08, 0x0C). -/
def Chip.rxViol? (c : Chip) (n : Nat) (p : Packet) : Option Nat :=
  if p.malformed || Nat.blt (c.maxPayload (.port n)) p.data.length || p.crosses then some 0x01
  else if c.role n = 1 then none
  else if p.kind == .cfgRd || p.kind == .cfgWr then some 0x08
  else if p.kind == .memRdLk then some 0x0C
  else none

/-- A packet of a port as step 2 classifies it: the partition of the hierarchy, master and colour (R250, R390). -/
def Chip.portLook (c : Chip) (n : Nat) (p : Packet) (a : Arr) : Look :=
  let part := c.hierPart? n
  let colour := match part with | some q => c.fld F.GLB_PTN_CFG.COLOUR q | none => 0
  { pkt := { p with fab := none }, src := .port n, stamp := a.stamp, part, hier := hierNum part,
    st := { master := if c.role n = 1 then .host else .card, colour }, oRid := p.rid, oTag := p.tag, whole := a.whole,
    rx := a.rx }

/-- The Flacon that a card's request selects by port and PASID (R263). -/
def Chip.cardFlc? (c : Chip) (n : Nat) (p : Packet) : Option Nat :=
  match p.pasid with
  | some q => if c.flaconMode && c.role n == 0 && (p.isMemIo || (p.kind == .msg && p.msgRoute != 4 && !p.isEvent)) then
      (c.flaconsOn n).find? fun f => c.fld F.GLB_FLC_B.PASID f == q else none
  | none => none

/-- A card's request through a Flacon is routed in the owner's hierarchy (R255, R256, R263, R272, Table 7.8). -/
def Chip.cardFlacon (c : Chip) (x : Look) (n f : Nat) : Chip :=
  let o := c.fld F.GLB_FLC_A.OWNER f
  let home := c.portPart n
  let up : Dest := match c.upPort? o with | some u => .port u | none => .mgmt
  let off := x.pkt.isMemIo && (!c.bme (.port n) || (c.flcState f ≤ 2 && !c.bme (.mgmt o)))
  if c.partRefuses o then c.resetDrop x o up
  else if off then (c.aer n aerUr (some x.pkt)).refuseHere x
  else if c.flcRefuses f then c.flaconRefuse x up
  else
    let again := x.copy 0 0 .mgmt true
    let x := { x with part := some o, st := { master := .flacon, colour := c.fld F.GLB_FLC_A.COLOUR f },
                      pkt := if c.pasidOn o then x.pkt else { x.pkt with pasid := none, exec := false, priv := false } }
    c.flaconSend x again f o home fun c x => c.lookReq x none

/-- A request of a port at steps 4 to 8. -/
def Chip.portReq (c : Chip) (x : Look) (n : Nat) : Chip :=
  match c.cardFlc? n x.pkt with
  | some f => c.cardFlacon x n f
  | none =>
    if x.pkt.isEvent && c.role n != 1 then c.ownMsg x
    else c.lookReq x (some n)

/-- A write that a capture rule takes into the Pantry of its tile, unless its partition refuses packets, the lookup has
stopped, or it is poisoned or an IDE TLP (R22, R87, R174 step 3). -/
def Dev.capTake (d : Dev) (n r : Nat) (x : Look) : Dev :=
  let c := d.chip
  match x.part.filter fun q => c.partRefuses q with
  | some q => d.onChip fun c => c.inc F.GLB_PTN_RST_DROP.COUNT q
  | none =>
    if !c.admitting then d.onChip Chip.stopDrop
    else match c.destViol? x.pkt (.pantry (tileOf n)) with
      | some v => d.onChip fun c => c.violHere x v
      | none => (d.onChip fun c => c.pulse (tileUnit (tileOf n)) 0x11).captureWrite n r (x.copy 0 0 .mgmt true)

/-- A packet received on a PCI Express port with a live link passes the lookup. -/
def Dev.portIn (d : Dev) (n : Nat) (p : Packet) (a : Arr) : Dev :=
  let d := d.onChip fun c => (c.pulse (portUnit n) 0x10).pulse (tileUnit (tileOf n)) 0x10
  let c := d.chip
  let x := c.portLook n p a
  if c.capBehind n then d.onChip fun c => c.capWait (x.copy 0 0 .mgmt true)
  else match c.rxViol? n p with
    | some 1 => d.onChip fun c => c.violHere x 1
    | some v => d.onChip fun c => (c.violHere x v).refuseHere x
    | none =>
      if p.kind == .cpl then d.onChip fun c => c.lookCpl x
      else match c.capRule? n p with
        | some r => d.capTake n r x
        | none => d.onChip fun c => c.portReq x n

/-! ### Packets of the fabric (R220 to R230) -/

/-- The answer of R230: a non-posted TLP is answered toward its source under its VH. -/
def Chip.fabAnswer (c : Chip) (n : Nat) (p : Packet) (h : FabHdr) (st : CplStatus := .ur) : Chip :=
  if h.typ = 1 && p.cat == .nonPosted then
    let part := c.vhPart? h.vh
    let q : Packet := { kind := .cpl, cls := p.cls, rid := p.rid, tag := p.tag, status := st, hdrBytes := 12,
                        cid := match part with | some q => c.mgmtRid q | none => 0, byteCount := p.len }
    c.sendBack (.port n) part (some h) q
  else c

/-- A TLP of the fabric as step 2 classifies it (R224). -/
def Chip.fabLooks (c : Chip) (n : Nat) (p : Packet) (h : FabHdr) (a : Arr) : Look :=
  let part := c.vhPart? h.vh
  { pkt := { p with fab := none }, src := .port n, stamp := a.stamp, part, hier := part.getD (64 + h.vh),
    st := { master := .fabric, colour := h.colour }, oRid := p.rid, oTag := p.tag, fab := some h, touch := a.touch,
    off := a.off, whole := a.whole, rx := a.rx }

/-- A TLP of the fabric re-enters the lookup at step 4 of its VH's partition (R224). -/
def Chip.fabLook (c : Chip) (n : Nat) (p : Packet) (h : FabHdr) (a : Arr) : Chip :=
  match c.vhPart? h.vh with
  | none => ((c.inc F.FAB_VH_MISS.COUNT).fabViolation n 0x32).fabAnswer n p h
  | some _ => if p.kind == .cpl then c.lookCpl (c.fabLooks n p h a) else c.lookReq (c.fabLooks n p h a) none

/-- A completion in transit answers a request that this chip forwarded (R42 step 6). -/
def Chip.owedInTransit (c : Chip) (p : Packet) (h : FabHdr) : Bool := (c.trackFind? (64 + h.vh) p.rid p.tag).isSome

/-- A packet is forwarded to another chip (R227 to R229): HOPS counts down, meters apply, and a completion in transit
retires the request that it ends (R482); one of a request forwarded before a stop passes in every mode (R42). A packet
of TYPE 0x2 or 0x3 goes on in class CTL_CLASS (R221), and DISC from the management reservation (R241). -/
def Chip.fabForward (c : Chip) (n : Nat) (p : Packet) (h : FabHdr) (d : RouteDec) (a : Arr) : Chip :=
  let disc := h.typ = 2
  if !disc && (c.opMode = 7 || c.opMode = 4) then (c.inc F.FAB_TRANSIT_DROP.COUNT).fabAnswer n p h
  else if !disc && !(c.admitting || (p.cat == .completion && (isForwarding c.opMode || c.owedInTransit p h))) then
    (if p.cat == .posted then c.stopDrop else c).fabAnswer n p h
  else
    match c.egressOf d (if h.typ = 1 then h.spread else 0) with
    | (none, c) => (c.noRoute h.dstDomain h.dstChip (c.vhPart? h.vh)).fabAnswer n p h
    | (some m, c) =>
      if h.hops ≤ 1 then (c.inc F.FAB_TTL_DROP.COUNT).fabAnswer n p h
      else
        let hier := 64 + h.vh
        let cpl : Bool := h.typ = 1 && p.kind == .cpl
        if cpl && c.orphaned hier p.rid p.tag then
          let c := c.inc F.FLT_UNEXP_CPL.COUNT
          { c with flt := { c.flt with track := c.flt.track.filter fun e => !(e.orphan && e.is hier p.rid p.tag) } }
        else
          let c := (if cpl then c.trackCpl hier p.rid p.tag p.data.length p.lastCpl else c).pulse 0xC02 0x10
          let cls := if h.typ = 1 then p.cls else c.fld F.FAB_CFG.CTL_CLASS
          let x : Look := { c.fabLooks n p h a with
            pkt := { p with cls, fab := some { h with hops := h.hops - 1 } },
            part := if h.typ = 1 then c.vhPart? h.vh else none, hier, touch := if disc then [] else a.touch, bPath := d.bPath }
          if disc then c.place x [(.port m, x.pkt)] true
          else match c.meter x with
            | (.pass, c) => c.place x [(.port m, x.pkt)] true
            | (_, c) => c.fabAnswer n p h .ca

/-! ### DISC (R241, R242) -/

/-- A DISC packet leaves by a port whose link is up, from the management reservation. -/
def Chip.discSend (c : Chip) (m : Nat) (h : FabHdr) : Chip :=
  if !c.flUp m then c
  else
    let (id, c) := c.newId
    let p : Packet := { kind := .msg, cls := c.fld F.FAB_CFG.CTL_CLASS, hdrBytes := 32, fab := some { h with lenWords := 3 } }
    c.enqueue { id, pid := id, pkt := p, src := .firmware, part := none, dest := .port m, stamp := c.ns, cells := p.cells,
                charge := .mgmt, st := { master := .firmware }, hier := 64 }

/-- A relay over a hop port: a forwarding step (R228). -/
def Chip.discHop (c : Chip) (m : Nat) (h : FabHdr) : Chip :=
  if h.hops ≤ 1 then c.inc F.FAB_TTL_DROP.COUNT else c.discSend m { h with hops := h.hops - 1 }

/-- A DISC response is routed or relayed (R241); one that has come home ends the READ it answers (R622). -/
def Chip.discResponse (c : Chip) (n : Nat) (p : Packet) (h : FabHdr) (a : Arr) : Chip :=
  let k := h.disc.hopIdx
  if 2 ≤ k then c.discHop (h.disc.hops.getD (k - 1) 0) { h with disc := { h.disc with hopIdx := k - 1 } }
  else
    let h := { h with disc := { h.disc with hopIdx := 0 } }
    match c.routeTo h.dstDomain h.dstChip with
    | .here => { c with fab := { c.fab with discOut := c.fab.discOut.erase h.disc.tag } }
    | d => c.fabForward n p h d a

/-- The response to a DISC request, sent on the ingress port. -/
def Chip.discRespond (c : Chip) (n : Nat) (h : FabHdr) (status : Nat) (data : Word) : Chip :=
  let id := c.sideId (c.portSide n)
  c.discSend n { h with hops := c.fld F.FAB_CFG.HOPS_INIT, dstDomain := h.srcDomain, dstChip := h.srcChip,
                        srcDomain := id.1, srcChip := id.2,
                        disc := { h.disc with op := h.disc.op + 0x80, status, data } }

/-- The modes in which DISC packets are handled (R241). -/
def Chip.discMode (c : Chip) : Bool := c.opMode == 4 || (6 ≤ c.opMode && c.opMode ≤ 10)

/-- What a DISC request comes to at this chip: nothing more, or its execution. A port with DUP_ID is no live hop (DESIGN
CHOICE, log entry 47). -/
def Chip.discRequest (c : Chip) (n : Nat) (p : Packet) (h : FabHdr) (a : Arr) : Bool × Chip :=
  let c := c.pulse 0xC02 0x14
  let b := h.disc
  let d := c.routeTo h.dstDomain h.dstChip
  if b.hopIdx = 0 && d != .here then (false, c.fabForward n p h d a)
  else if !c.flag F.FAB_CFG.DISC_EN && (b.hopIdx = 0 || b.hopIdx ≥ b.hopCnt) then (false, c)
  else if b.hopIdx < b.hopCnt then
    let m := b.hops.getD b.hopIdx 0
    if !c.memberLive m then (false, c.discRespond n h 3 0)
    else
      let hops := (b.hops ++ List.replicate (8 - b.hops.length) 0).set b.hopIdx n
      (false, c.discHop m { h with disc := { b with hops, hopIdx := b.hopIdx + 1 } })
  else if b.op = 1 || b.op = 2 then (true, c)
  else (false, c.fabViolation n 0x38)

/-- A DISC response (Table 6.4); every other OP is a request, which the chip that would execute it refuses (0x38). -/
def DiscBody.isResponse (b : DiscBody) : Bool := b.op == 0x81 || b.op == 0x82

/-- A packet as it was before its forwarding steps. -/
def Packet.unhopped (p : Packet) : Packet := { p with fab := p.fab.map fun h => { h with hops := 0 } }

/-- This chip has sent a packet by a Fleren port. -/
def Chip.hasSent (c : Chip) (p : Packet) : Bool :=
  c.outs.any fun o => match o with
    | .parcel _ _ _ ps _ _ => ps.any fun q => q.unhopped == p.unhopped
    | _ => false

/-- A packet carries this chip's own identity as its source, and this chip did not send it (0x37); a DISC packet on its hops
is relayed whatever its source (R241). -/
def Chip.ownIdentity (c : Chip) (p : Packet) (h : FabHdr) : Bool :=
  (c.sides.any fun s => c.flag F.FAB_ID.VALID s && c.sideId s == (h.srcDomain, h.srcChip)) &&
    !(h.typ == 2 && Nat.blt 0 h.disc.hopIdx) && !c.hasSent p

/-- The framing, type, form and source of a fabric packet (Table 6.7): the code of its violation. -/
def Chip.fabViol? (c : Chip) (p : Packet) (h : FabHdr) : Option Nat :=
  if h.lenWords = 0 || 521 < h.lenWords then some 0x31
  else if h.typ != 1 && h.typ != 2 && h.typ != 3 then some 0x30
  else if h.typ = 1 && (p.malformed || p.crosses) then some 0x35
  else if c.ownIdentity p h then some 0x37
  else none

/-- A fabric packet received on a Fleren port (R220 to R230, R338, Table 6.7). The capture of a posted write and the
execution of a DISC request are not part of it: `fabCap?` and `discRequest` say when they are due. -/
def Chip.fabIn (c : Chip) (n : Nat) (p : Packet) (h : FabHdr) (a : Arr) : Chip :=
  match c.fabViol? p h with
  | some 0x31 => (c.fabViolation n 0x31).linkDown n 6 0
  | some v => c.fabViolation n v
  | none =>
    if h.typ = 2 then
      if !c.discMode then c
      else if h.disc.isResponse then c.discResponse n p h a
      else (c.discRequest n p h a).2
    else match c.routeTo h.dstDomain h.dstChip with
      | .here =>
        let c := c.pulse 0xC02 0x11
        if h.typ = 3 && h.lenWords != 2 then c.timViolation 0x45 (some n)
        else if h.typ = 3 then
          if c.admitting then c.takeFabricEvent h.event (some n) (2 * a.stamp) else c.stopDrop.inc F.TIM_ACT_LOST.COUNT
        else c.fabLook n p h a
      | d => c.fabForward n p h d a

/-- The capture rule of the tile that takes a posted write of a fabric packet (step 3 of Table 5.1, R347). -/
def Chip.fabCap? (c : Chip) (n : Nat) (p : Packet) (h : FabHdr) : Option Nat :=
  if h.typ = 1 && (c.fabViol? p h).isNone then c.capRule? n p else none

/-- A packet of a Fleren port without a fabric header is dropped as reserved. -/
def Dev.flerenIn (d : Dev) (n : Nat) (p : Packet) (a : Arr) : Dev :=
  match p.fab with
  | some h => d.onChip fun c => (c.pulse (tileUnit (tileOf n)) 0x10).fabIn n p h a
  | none => d.onChip fun c => c.fabViolation n 0x30

/-! ### The device's own requests -/

/-- The Requester ID and colour of a partition's own requests, zero for the internal root (R251, R373). -/
def Chip.ownId (c : Chip) (part : Option Nat) : Nat × Nat :=
  match part with
  | some p => (c.mgmtRid p, c.fld F.GLB_PTN_CFG.COLOUR p)
  | none => (0, 0)

/-- A write or read of an engine through a window of a job (R265, R373). -/
def Chip.engineLook (c : Chip) (e j w : Nat) (p : Packet) : Look :=
  let t := j / 32
  let part := c.windowPart j w
  let f := if c.jfld F.ACD_JOB_CFG.FLC_VALID j = 1 && part == c.jobPart j then some (c.jfld F.ACD_JOB_CFG.FLC j) else none
  let id := c.ownId part
  let keep := match part with | some q => c.pasidOn q | none => false
  let st : Standing := match f with
    | some f => { master := .flacon, colour := c.fld F.GLB_FLC_A.COLOUR f }
    | none => { master := .engine, colour := id.2 }
  { pkt := { p with rid := id.1, cls := c.fld F.ACD_DST_A.CLASS t w,
                    pasid := if keep then f.map fun f => c.fld F.GLB_FLC_B.PASID f else none },
    src := .engine e, stamp := c.ns, part, hier := hierNum part, st, oRid := id.1, oTag := p.tag,
    meter := if c.flag F.ACD_DST_A.METER_VALID t w && p.kind == .memWr then some (c.fld F.ACD_DST_A.METER t w) else none }

/-- A request of an engine enters the lookup: routed in the hierarchy of the window's partition, or to the Pantry that
a PANTRY window names (R372). -/
def Chip.engineEnter (c : Chip) (e j w : Nat) (p : Packet) : Chip :=
  let x := c.engineLook e j w p
  let c := c.pulse (tileUnit (e / 128)) 0x10
  let refusing := match x.part with | some q => if c.partRefuses q then some q else none | none => none
  if c.flag F.ACD_DST_A.KIND (j / 32) w then
    let d : Dest := .pantry (c.fld F.ACD_DST_A.TILE (j / 32) w)
    match refusing with
    | some q => c.resetDrop x q d
    | none => c.toDests x [(d, { x.pkt with addr := p.addr % pantrySize })]
  else c.lookReq x none

/-- A request of an engine waits to be admitted: at step 7 or 8, or for a Flacon request table entry (R189, R264, R296). -/
def Chip.engWaits (c : Chip) (e : Nat) : Bool :=
  let mine (k : Copy) : Bool := k.src == .engine e
  (c.cel.waiting.any fun k => mine k && !k.deferred) || c.cel.flcWaiting.any mine || c.engHeldWrite e

/-- A posted write of a source lies in the queues toward the segment: the far target has not accepted it (R414). -/
def Chip.segOwes (c : Chip) (s : Src) : Bool := c.cel.copies.any fun k => k.src == s && k.dest == .legacy && k.cat == .posted

/-- A write of the device goes to the segment. -/
def Chip.goesToSeg (c : Chip) (part : Option Nat) (p : Packet) : Bool :=
  p.cat == .posted && c.resolve part none p == .dests [.legacy]

/-- What an engine has next to send must wait: for a request of its own before it, or for Bus Master Enable. -/
def Chip.outHeld (c : Chip) (e : Nat) (o : EngOut) : Bool :=
  c.engWaits e || c.outOff o || match o.pkt with
    | some p => !c.flag F.ACD_DST_A.KIND (o.job / 32) o.win && c.goesToSeg (c.windowPart o.job o.win) p && c.segOwes (.engine e)
    | none => false

/-- A request of an engine enters the lookup, or its notification is signalled (R375). -/
def Chip.outGo (c : Chip) (e : Nat) (o : EngOut) : Chip :=
  match o.pkt with
  | some p => c.engineEnter e o.job o.win p
  | none => match c.windowPart o.job o.win with
    | some p => if c.partRefuses p then c else c.msix (.mgmt p) (c.fld F.ACD_DST_A.NOTIFY_VEC (o.job / 32) o.win)
    | none => c

/-- What an engine sends: at once, or behind what it has still to send (R189). -/
def Chip.engineOut (c : Chip) (e : Nat) (o : EngOut) : Chip :=
  if (c.eng e).out.isEmpty && !c.outHeld e o then c.outGo e o
  else c.updEng e fun h => { h with out := h.out ++ [o] }

/-- A request of an engine through a window of a job. -/
def Chip.engineSend (c : Chip) (e j w : Nat) (p : Packet) : Chip := c.engineOut e { job := j, win := w, pkt := some p }

/-- What an engine has still to send goes on, up to what must wait. -/
def Chip.engineDrain (e : Nat) : Nat → Chip → Chip
  | 0, c => c
  | fuel + 1, c =>
    match (c.eng e).out with
    | [] => c
    | o :: os => if c.outHeld e o then c else Chip.engineDrain e fuel ((c.updEng e fun h => { h with out := os }).outGo e o)

/-- Every engine goes on with what it has still to send. -/
def Chip.drainEngines (c : Chip) : Chip :=
  (c.acd.engs.filter fun (e : Nat × EngH) => !e.2.out.isEmpty).foldl (fun c (e : Nat × EngH) =>
    (Chip.engineDrain e.1 e.2.out.length c).showStall e.1) c

/-- A request of firmware enters the lookup through the management port (R25, R120, R175). -/
def Chip.firmwareSend (c : Chip) (part : Option Nat) (p : Packet) : Chip :=
  let id := c.ownId part
  let x : Look := { pkt := { p with rid := id.1 }, src := .firmware, stamp := c.ns, part, hier := hierNum part,
                    st := { master := .firmware, colour := id.2 }, oRid := p.rid, oTag := p.tag }
  (c.pulse 0xC00 0x10).lookReq x none

/-- A non-posted request of the device takes a tag and starts its completion timer (R251, R483); none when every tag is
held. -/
def Chip.devTag (c : Chip) (part : Option Nat) (who : Src) (addr len : Nat) : Option Nat × Chip :=
  match c.newTag? part with
  | none => (none, c)
  | some t =>
    let e : DevReq := { part, tag := t, who, addr, len, limit := c.fld F.FLT_CPL_TO.TIMEOUT }
    (some t, { c.drawn with flt := { c.flt with dev := c.flt.dev ++ [e] } })

/-- The next read of a FW_LOAD_HOST is issued on the partition's behalf, none while no tag is free (R120, R502). -/
def Chip.loadIssue (c : Chip) (n : Nat) (h : HostLoad) : Option Chip :=
  let at_ := h.base + h.got.length
  let m := c.maxRead (.mgmt n)
  let len := min (h.total - h.got.length) (m - at_ % m)
  match c.devTag (some n) .firmware at_ len with
  | (none, _) => none
  | (some t, c) =>
    let c := { c.setFld F.LBX_STATUS.MASTER_OFF 0 n with lbx := { c.lbx with load := some { h with tag := some t } } }
    some ((c.pulse 0xC06 0x12).firmwareSend (some n) { kind := .memRd, addr := at_ % 2 ^ 64, len, tag := t })

end Sys2Proof.Machine
end

