-- ==== Sys2Proof/Machine/HallOps.lean ====
section
/-! DEFINITION. The shared operations of the egress side (spec/05_hallway_cellar.md): retries of admission, the sending of
copies, the Pantry queues, the age sweep; and meters that hold (R296). The meanings stand in Machine/Hallway.lean. -/

namespace Sys2Proof.Machine

/-! ### Retries (R188 to R190, R264, R296) -/

/-- Removing a copy from those that wait at step 8. -/
def Chip.unwait (c : Chip) (id : Nat) : Chip :=
  { c with cel := { c.cel with waiting := c.cel.waiting.filter fun k => k.id != id } }

/-- A denied request of a host or card is logged as Unsupported Request by the function that received it (R404). -/
def Chip.logCopy (c : Chip) (k : Copy) : Chip :=
  match k.src with
  | .port n => if c.isPcie n && (k.st.master == Master.host || k.st.master == Master.card) then c.aer n aerUr (some k.pkt) else c
  | _ => c

/-- The gate of the target of a request that has not left step 8, asked again: the copy goes on, or is answered and logged as a
denied one (R401, R404). -/
def Chip.regate (c : Chip) (k : Copy) : Bool × Chip :=
  if k.cat = .completion then (true, c)
  else match c.gateAllows k.dest k.pkt k.st k.oRid k.part with
    | (true, c) => (true, c)
    | (false, c) =>
      let c := ((c.unwait k.id).dropCopy k.id).logCopy k
      (false, if k.cat = .nonPosted then c.answerCopy k .ur else c)

/-- GAT_COMMIT after a write that reached it: dropped while a commit is PENDING (R403); what lies in a guarantee or in receive
slots and is not being sent is judged again under the new rules (R401). -/
def Chip.writeGatCommit (c : Chip) (v : Word) : Chip :=
  if !bit v.toNat 31 then c
  else if c.fld F.GAT_COMMIT_STATUS.STATE = 1 then c.countClamp ⟨.GAT_COMMIT, 0, 0⟩
  else (c.cel.copies.filter fun k => k.unadmitted && !k.started).foldl (fun c k => (c.regate k).2) c.commitGates

/-- A copy that waits at step 8 would pass an older one of its source, class and destination (R205). -/
def Chip.passing (c : Chip) (k : Copy) : Bool :=
  ((c.cel.waiting.takeWhile fun w => w.id != k.id).any k.before) || c.behindTable k

/-- A packet of a Fleren port whose parcels have still to come, by the packet's number. -/
def Chip.inParcels (c : Chip) (k : Copy) : Bool :=
  match k.src with
  | .port n => c.isFleren n && k.rx.isSome
  | _ => false

/-- A waiting copy enters the Cellar when it is admitted now; `blocked` are the sources with an older packet that is
not. One that had not left step 8 when a quiesce stopped the lookup ends there (R42 step 2); completions and what the device
originates are still admitted. -/
def Chip.retryOne (q : List Src × Chip) (k : Copy) : List Src × Chip :=
  let (blocked, c) := q
  if c.mode.stopped && k.cat != .completion && k.src != .device then (blocked, (c.unwait k.id).stopHeld k)
  else if (blocked.elem k.src && k.cat != .completion) || c.passing k then (k.src :: blocked, c)
  else match c.regate k with
    | (false, c) => (blocked, c)
    | (true, c) =>
      let c' := (c.unwait k.id).takeIn k
      if c'.cel.waiting.any (fun w => w.id == k.id) then (k.src :: blocked, c) else (blocked, c')

/-- A copy in a guarantee or in receive slots enters the shared pool when the test passes; copies of its packet that are
deferred go first. A posted copy toward the segment stays (R414). -/
def Chip.promoteOne (q : List Src × Chip) (k : Copy) : List Src × Chip :=
  let (blocked, c) := q
  let siblings := c.cel.waiting.any fun w => w.deferred && w.pid == k.pid
  let alone := { c with cel := { c.cel with copies := c.cel.copies.filter fun x => x.id != k.id } }
  if blocked.elem k.src || k.segPosted then q
  else if siblings || !alone.admits k then (k.src :: blocked, c)
  else (blocked, c.updCopy k.id fun x => { x with charge := .shared })

/-- Admission is retried, oldest packet of each source first (R190). -/
def Chip.retryAdmission (c : Chip) : Chip :=
  let held := c.cel.copies.filter fun k => k.charge == .guarantee || k.charge == .slots
  let q := held.foldl Chip.promoteOne ([], c)
  ((c.cel.waiting.filter fun k => !k.deferred).foldl Chip.retryOne ([], q.2)).2

/-- The oldest deferred copy that the test admits, and that passes none of its path, is written from the first copy (R189,
R207). -/
def Chip.writeDeferred (c : Chip) : Chip :=
  let due (k : Copy) : Bool :=
    k.deferred && (k.whole || !c.inParcels k) && c.descOk k && c.admits k && !c.passing k
  match c.cel.waiting.find? due with
  | none => c
  | some k => match c.regate k with
    | (false, c) => c
    | (true, c) => ((c.pulse 0xC00 0x12).unwait k.id).takeIn { k with whole := true }

/-- The packet of a copy as it stood in the lookup. -/
def Copy.look (k : Copy) : Look :=
  { pkt := k.pkt, src := k.src, stamp := k.stamp, part := k.part, hier := k.hier, st := k.st, oRid := k.oRid, oTag := k.oTag,
    fab := k.inFab, flc := none, touch := k.touch, whole := k.whole, rx := k.rx, off := k.off, bPath := k.bPath }

/-- The oldest request that waits for a table entry passes the lookup from step 4 on once one is free (R264), before what has
come after it from its source. -/
def Chip.retryTable (c : Chip) : Chip :=
  match c.cel.flcWaiting with
  | [] => c
  | k :: ks =>
    if c.flcFree = 0 then c
    else
      let younger (w : Copy) : Bool := w.src == k.src && Nat.blt k.id w.id
      let after := c.cel.waiting.filter younger
      let c := { c with cel := { c.cel with flcWaiting := [], waiting := c.cel.waiting.filter fun w => !younger w } }
      let c := match k.src with
        | .port n => if c.isPcie n then c.portReq k.look n else c.lookReq k.look none
        | _ => c.lookReq k.look none
      { c with cel := { c.cel with flcWaiting := c.cel.flcWaiting ++ ks, waiting := c.cel.waiting ++ after } }

/-- An engine write held by its meter is metered again; one that passes is counted once and continues to step 8, its copies
judged by their gates again (R296). While the lookup is stopped it stays held (Table 8.1). -/
def Chip.remeter (c : Chip) (h : HeldWrite) : Chip :=
  let hold (c : Chip) : Chip := { c with cel := { c.cel with meterHeld := c.cel.meterHeld ++ [h] } }
  if c.mode.stopped then hold c
  else
    let (v, c') := c.meterChain h.meter 0 ((h.copies.map fun k => k.pkt.bytes).headD 0)
    if v.drop then hold c'
    else
      let c := (c'.countColour v).inc F.SCH_METER_HOLD.COUNT (h.eng / 128)
      let (ks, c) := h.copies.foldl (fun (q : List Copy × Chip) k => match q.2.regate k with
        | (true, c) => (q.1 ++ [{ k with first := q.1.isEmpty }], c)
        | (false, c) => (q.1, c)) ([], c)
      c.enter ks

/-- A tick of the meters: every bucket accrues, and each held write is metered again; engines whose write has passed go on
(R296, R297). -/
def Chip.tokenTick (c : Chip) : Chip :=
  let c := c.meterTick
  let held := c.cel.meterHeld
  let c := held.foldl Chip.remeter { c with cel := { c.cel with meterHeld := [] } }
  ((held.map (·.eng)).filter fun e => !c.engHeldWrite e).foldl (fun c e => c.showStall e) c |>.drainEngines

/-! ### Sending (R192 to R201, R282) -/

/-- What partner credit and the ingress say at a selection: copies whose last cell has been written with every check
done, which for a packet in parcels their commits say, and copies without partner credit. A request waits in the same
way while the tracker is full or an orphan holds its Requester ID and tag (R482). -/
def Chip.note_ (c : Chip) (d : Dest) (arrived blocked : List Nat) : Chip :=
  let held (k : Copy) : Bool := match d with
    | .port n => k.cat == .nonPosted && (c.trackFree (tileOf n) == 0 || c.orphaned k.hier k.pkt.rid k.pkt.tag)
    | _ => false
  let mark (k : Copy) : Copy :=
    if k.dest == d then
      { k with whole := k.whole || (arrived.elem k.id && !c.inParcels k), blocked := blocked.elem k.id || held k }
    else k
  { c with cel := { c.cel with copies := c.cel.copies.map mark } }

/-- A queue of a port holds a copy that awaits its resend: none behind it leaves (R209). -/
def Chip.resending (c : Chip) (n k : Nat) : Bool := (c.queue (.port n) k).any (·.resend)

/-- A PCI Express port is sending a copy. -/
def Chip.sending (c : Chip) (n : Nat) : Bool := c.cel.copies.any fun k => k.dest == .port n && k.started && !k.resend

/-- The next copy of a PCI Express port starts (R282); aged copies that would be selected are discarded first (R200). -/
def Chip.startNext (n : Nat) : Nat → Chip → Chip
  | 0, c => c
  | fuel + 1, c =>
    match c.select n fun k => !c.resending n k with
    | (some (_, x), c') =>
      match x.copy with
      | none => c
      | some k =>
        if c.aged k then Chip.startNext n fuel (c.ageOut k)
        else ((c'.pulse (portUnit n) (if k.whole then 0x1B else 0x1A)).updCopy k.id fun x => { x with started := true }).trackSent n k
    | (none, c') => c'

/-- A copy leaves its port: its cells are free and its overrun is over. -/
def Chip.leave (c : Chip) (n id : Nat) : Chip :=
  (c.dropCopy id).updSch n fun h => { h with overran := h.overran.filter (· != id) }

/-- A copy has been read for transmission (R192), has run out of data, or its packet was found bad (R196 to R198): the last
byte of a packet in parcels waits for their CRC. -/
def Chip.sent (c : Chip) (id : Nat) (how : Ending) : Chip :=
  match (c.cel.copies ++ c.cel.waiting).find? fun k => k.id == id with
  | none => c
  | some k =>
    let bad (c : Chip) : Chip := c.spoil fun x => x.pid == k.pid
    match how with
    | .good =>
      match k.dest with
      | .port n =>
        if !c.isFleren n && k.started && !k.resend && (k.whole || !c.inParcels k) then
          ((c.pulse (portUnit n) 0x11 k.onWire.length).leave n id).emitAll (k.onWire.map (.tlp n))
        else c
      | _ => c
    | .underrun =>
      match k.dest with
      | .port n =>
        if !c.isFleren n && k.started && !k.resend && !k.whole then
          (((c.inc F.HWY_UNDERRUN.COUNT).pulse (portUnit n) 0x1C).updCopy id fun x => { x with resend := true }).emit (.nullified n k.pkt)
        else c
      | _ => c
    | .bad => if k.whole || c.inParcels k then c else bad c
    | .malformed =>
      if k.whole || c.inParcels k then c
      else
        let c := bad c
        match k.src with
        | .port i => if c.isPcie i then c.violation i 0x01 else c
        | _ => c

/-- A nullified copy is sent again in full (R197): its last cell is written, its gate is open and no other copy is being
sent. -/
def Chip.resend (c : Chip) (id : Nat) : Chip :=
  match c.cel.copies.find? fun k => k.id == id && k.resend with
  | none => c
  | some k =>
    match k.dest with
    | .port n =>
      if k.held || (c.inParcels k && !k.whole) || c.sending n || !c.gateOpen n k.pkt.cls then c
      else c.updCopy id fun x => { x with resend := false, whole := true }
    | _ => c

/-- Aged copies leave the head of a queue, up to the first that is not aged (R200). -/
def Chip.sweepQueue (d : Dest) (cls : Nat) : Nat → Chip → Chip
  | 0, c => c
  | fuel + 1, c =>
    match (c.queue d cls).head? with
    | none => c
    | some k => if c.aged k then Chip.sweepQueue d cls fuel (c.ageOut k) else c

/-- The sweep of every egress queue and every Pantry queue (R200). -/
def Chip.sweep (c : Chip) : Chip :=
  let swept (d : Dest) : Bool := match d with
    | .port _ => true
    | .pantry _ => true
    | _ => false
  let qs := ((c.cel.copies.map fun k => (k.dest, k.pkt.cls)).filter fun q => swept q.1).eraseDups
  qs.foldl (fun c q => Chip.sweepQueue q.1 q.2 (c.queue q.1 q.2).length c) c

/-- An uncorrectable error in a cell (R181): each copy that lies in it, in the Cellar or waiting
anywhere at ingress, is marked or discarded as an
aged packet (Table 5.6). -/
def Chip.cellError (c : Chip) (cell : Nat) : Chip :=
  let c := c.inc F.CEL_ECC_UNCORR.COUNT
  let c := c.setReg .CEL_ECC_ADDR (word (2 ^ 31 + cell))
  let lies (k : Copy) : Bool := (c.cellsAt k).elem cell
  let hit := (c.cel.copies ++ c.cel.waiting).filter lies
  let outside := c.cel.flcWaiting.filter lies ++ (c.cel.capWaiting.map (·.2)).filter lies
  let part := match hit ++ outside with | k :: _ => k.part | [] => none
  let c := c.raise 0x180 0x0B 1 cell part
  let c := { c with cel := { c.cel with flcWaiting := c.cel.flcWaiting.filter fun k => !lies k
                                        capWaiting := c.cel.capWaiting.filter fun e => !lies e.2 } }
  let c := outside.foldl (fun c k => c.fate k) c
  hit.foldl (fun c k =>
    match k.dest with
    | .port n =>
      if k.started && !k.resend then
        if c.isFleren n then (c.cutTail n k).updCopy k.id fun x => { x with again := false } else (c.leave n k.id).cutTail n k
      else (c.unwait k.id).discardCopy k
    | _ => (c.unwait k.id).discardCopy k) c

/-! ### The Pantry queues (R176, R281, R378) -/

/-- The completion that answers a read with data, cut as completions of the device are (R480). -/
def Chip.answerData (c : Chip) (k : Copy) (bs : List Byte) : Chip :=
  let mps := c.cplMps k.src k.part
  (cutAt mps bs.length k.pkt.addr bs.length).foldl (fun c q =>
    let off := q.1 - k.pkt.addr
    let p : Packet := { kind := .cpl, cls := k.pkt.cls, rid := k.oRid, tag := k.oTag, status := .sc, hdrBytes := 12,
                        cid := c.completerId k.part k.dest, byteCount := bs.length - off, len := q.2, addr := q.1,
                        data := (bs.drop off).take q.2, lastCpl := off + q.2 == bs.length }
    c.sendBack k.src k.part (if k.src.isPort then k.inFab else none) p) c

/-- The Pantry of a tile takes a copy: writes are stored, reads are answered with the bytes present, and any other
request with Unsupported Request. -/
def Dev.pantryTake (d : Dev) (t : Nat) (k : Copy) : Dev :=
  let d := d.onChip fun c => c.dropCopy k.id
  match k.pkt.kind with
  | .memWr => d.pantryPost t k.pkt.addr k.pkt.data k.pkt.lanes (some k.seen)
  | .memRd => d.onChip fun c => c.answerData k (d.mem.pantryRead t k.pkt.addr k.pkt.len)
  | .cpl | .msg => d
  | _ => d.onChip fun c => c.answerCopy k .ur

/-- A queue that is served round robin gives up its next copy (R281); an aged one is discarded instead. -/
def Dev.serve (d : Dev) (dest : Dest) (i : Nat) (take : Dev → Copy → Dev) : Dev :=
  match d.chip.roundRobin? dest i with
  | none => d
  | some k =>
    if !k.whole then d
    else if d.chip.aged k then d.onChip fun c => c.ageOut k
    else take (d.onChip fun c => c.served i k.pkt.cls) k

end Sys2Proof.Machine
end

