-- ==== Sys2Proof/Machine/FlOps.lean ====
section
/-! DEFINITION. The shared operations of a running Fleren link (spec/04_fleren_link.md): parcels sent and received, escalation,
bring-up, low power. The meanings stand in Machine/Fleren.lean. -/

namespace Sys2Proof.Machine

/-! ### Escalation (R161 to R163) -/

/-- A retrain starts (Table 4.11): HUNT, ALIGN and INIT begin again over the same sequence state. -/
def Chip.startRetrain (c : Chip) (n : Nat) : Chip :=
  let c := (c.inc F.PRT_FL_RETRAIN_CNT.RETRAINS n).setLstate n flRetrain
  c.flHunting n

/-- A counted retrain, or link down when RT_COUNT passes RETRAIN_M: cause 0 replay count, 1 lock lost, 2 RETRAIN
written. -/
def Chip.retrain (c : Chip) (n cause : Nat) : Chip :=
  let k := min (c.fld F.PRT_FL_STATUS.RT_COUNT n + 1) 8
  let c := c.setFld F.PRT_FL_STATUS.RT_COUNT k n
  if (c.flp n).retrainM < k then c.linkDown n 3 0
  else (c.startRetrain n).raise (portSrc n) 0x05 0 (n + k * 256 + cause * 4096)

/-- The lanes of a Fleren port start their exit from STANDBY or DEEP, or from OFF where a reference that was lost is back. -/
def Chip.flLanesWake (c : Chip) (n : Nat) : Chip :=
  (c.portLanes n).foldl (fun c l =>
    let ref := c.flag F.SDS_REF_STATUS.REF_OK (laneTile l)
    if c.laneState l = lnStandby || (c.laneState l = lnOff && ref) then c.laneActivate l (c.flp n).rate
    else c.laneWake l) c

/-- The retrain that ends LP, which does not count (R168). -/
def Chip.leaveLp (c : Chip) (n : Nat) : Chip :=
  if c.lstate n != flLp then c
  else
    let c := c.flLanesWake n
    if (c.portLanes n).any fun l => c.exitFailed l || c.laneState l == lnOff then c.linkDown n 2 0 else c.startRetrain n

/-- A parcel in the replay buffer with its number. -/
def Chip.sentParcel? (c : Chip) (n s : Nat) : Option Parcel := (c.flp n).replay.find? fun p => p.seq == s

/-- Changing a parcel of the replay buffer. -/
def Chip.updSent (c : Chip) (n s : Nat) (f : Parcel → Parcel) : Chip :=
  c.updFl n fun h => { h with replay := h.replay.map fun p => if p.seq == s then f p else p }

/-- A parcel of the replay buffer becomes due (R146, R163): `counts` unless a NAK WINDOW named it. One whose replay
count has reached N is not resent whatever makes it due: F2 retrains, F1 goes down. -/
def Chip.becomeDue (c : Chip) (n s : Nat) (counts : Bool) : Chip :=
  match c.sentParcel? n s with
  | none => c
  | some p =>
    if p.due then c.updSent n s fun q => { q with counts := q.counts || counts }
    else if (c.flp n).replayN ≤ p.replays then
      if (c.flp n).f1 then c.linkDown n 3 0 else c.retrain n 0
    else c.updSent n s fun q => { q with due := true, counts }

/-! ### Sending (R139 to R146) -/

/-- The bytes of a packet in parcels: its fabric header and the LEN words of its body (R139, Table 6.1). -/
def Packet.wire (p : Packet) : Nat :=
  match p.fab with
  | some h => 8 * (1 + h.lenWords)
  | none => 8 * (1 + p.bodyWords)

/-- The filling of one parcel: its words, the packets that end in it, whether the last of them is bad, and the bytes left. -/
structure Fill where
  words : List (BitVec 64) := []
  pkts : List Packet := []
  bad : Bool := false
  room : Nat := 256
  deriving DecidableEq, Repr, Inhabited

/-- Bytes of a packet that may go into a parcel with `room` bytes left. -/
def Chip.itemTake (c : Chip) (i : TxItem) (room : Nat) : Nat :=
  if i.bad || c.cel.copies.any (fun k => k.id == i.id && k.whole) then min room i.rem else min room (i.rem - 8)

/-- The next words of a packet that is being carried, m bytes of it. -/
def TxItem.words (i : TxItem) (m : Nat) : List (BitVec 64) :=
  ((i.pkt.words.drop ((i.pkt.wire - i.rem) / 8)).take (m / 8)).map (BitVec.ofNat 64)

/-- The last byte of a copy has gone into a parcel: it leaves, or waits to be forwarded again after its tail mark (R150). -/
def Chip.itemEnd (c : Chip) (n : Nat) (i : TxItem) : Chip :=
  if i.bad && c.cel.copies.any fun k => k.id == i.id && k.again then c.updCopy i.id fun k => { k with started := false }
  else c.leave n i.id

/-- A parcel of class k is filled: the packet already begun, then copies of the class in the order of their queue. -/
def Chip.fillParcel (n k : Nat) : Nat → Fill → Chip → Fill × Chip
  | 0, f, c => (f, c)
  | fuel + 1, f, c =>
    if f.room = 0 || f.bad then (f, c)
    else match (c.flp n).tx.find? fun i => i.cls == k with
      | some i =>
        let m := c.itemTake i f.room
        if m = 0 then (f, c)
        else if m < i.rem then
          ({ f with words := f.words ++ i.words m, room := f.room - m },
           c.updFl n fun h => { h with tx := h.tx.map fun x => if x.id == i.id then { x with rem := x.rem - m } else x })
        else
          let c := (c.itemEnd n i).updFl n fun h => { h with tx := h.tx.filter fun x => x.id != i.id }
          Chip.fillParcel n k fuel
            { words := f.words ++ i.words m, pkts := f.pkts ++ [i.pkt], bad := i.bad, room := f.room - m } c
      | none =>
        match (c.head? (.port n) k).filter fun x => x.whole || c.cutThrough n x with
        | none => (f, c)
        | some x =>
          if c.aged x then Chip.fillParcel n k fuel f (c.ageOut x)
          else
            let c := (c.updCopy x.id fun y => { y with started := true }).trackSent n x
            Chip.fillParcel n k fuel f (c.updFl n fun h =>
              { h with tx := h.tx ++ [{ cls := k, pkt := x.pkt, rem := x.pkt.wire, id := x.id }] })

/-- The bytes that the CRC of a parcel covers (R138). -/
def parcelBytes (cls seq : Nat) (ws : List (BitVec 64)) : List Byte :=
  BitVec.ofNat 8 (16 + cls % 8) :: leBytes 2 seq ++ ws.flatMap fun w => leBytes 8 w.toNat

/-- The CRC-32 of a parcel (R138). -/
def parcelCrc (cls seq : Nat) (ws : List (BitVec 64)) : Nat := crc32 (parcelBytes cls seq ws)

/-- A parcel leaves (R136, R137): its head, and its data blocks; its trailer is owed to the next control block. -/
def Chip.sendParcel (c : Chip) (n : Nat) (p : Parcel) : Chip :=
  let c := (c.sendBlock n (.parcel p.cls p.seq)).emit (.parcel n p.seq p.cls p.pkts p.trailBad p.words)
  (c.streamed n 32).updFl n fun h => { h with trail := some (parcelCrc p.cls p.seq p.words, p.trailBad) }

/-- The sender may send a new parcel of a class: room in the replay buffer, the window beyond the oldest parcel that has
been NAKed, and credit (R145). -/
def Chip.maySend (c : Chip) (n k : Nat) : Bool :=
  let h := c.flp n
  let nakOk := match h.replay.find? fun p => p.naked with
    | some p => Nat.blt (seqD (c.txNext n) p.seq) h.window
    | none => true
  Nat.blt (seqD (c.txNext n) (c.txOld n)) 512 && nakOk &&
    seqD (h.released.get 0 k) (h.consumed.get 0 k) != 0

/-- A new parcel leaves when the schedulers select a class (R145, R282); false when nothing may go. -/
def Chip.newParcel (n : Nat) : Nat → Chip → Bool × Chip
  | 0, c => (false, c)
  | fuel + 1, c =>
    match c.select n (c.maySend n) with
    | (none, c) => (false, c)
    | (some (k, x), c') =>
      match x.copy.filter fun y => c.aged y with
      | some y => Chip.newParcel n fuel (c.ageOut y)
      | none =>
        let (f, c) := Chip.fillParcel n k 600 {} c'
        let s := c.txNext n
        let words := f.words ++ List.replicate (32 - f.words.length) 0
        let p : Parcel := { seq := s, cls := k, pkts := f.pkts, trailBad := f.bad, words, timer := true }
        let c := c.updFl n fun h => { h with replay := h.replay ++ [p]
                                             consumed := h.consumed.set 0 k ((h.consumed.get 0 k + 1) % 65536) }
        (true, ((c.setFld F.PRT_FL_SEQ.TX_NEXT ((s + 1) % 65536) n).pulse (portUnit n) 0x11 |>.pulse (tileUnit (tileOf n)) 0x15).sendParcel n p)

/-- The oldest parcel that is due is resent (R145, R162). -/
def Chip.resendParcel? (c : Chip) (n : Nat) : Option Chip :=
  match (c.flp n).replay.find? fun p => p.due with
  | none => none
  | some p =>
    let c := c.updSent n p.seq fun q =>
      { q with due := false, counts := false, timer := true, replays := q.replays + b2n q.counts }
    some (((c.inc F.PRT_FL_REPLAY_CNT.COUNT n).pulse (portUnit n) 0x18).sendParcel n p)

/-- Traffic waits at a Fleren port. -/
def Chip.flTraffic (c : Chip) (n : Nat) : Bool := !(c.flp n).tx.isEmpty || c.cel.copies.any fun k => k.dest == .port n

/-- The low-power handshake is complete at an end: its lanes are placed in the deep lane state, without block lock (R167).
ALIGNED stays as it was (DESIGN CHOICE, log entry 47). -/
def Chip.enterLp (c : Chip) (n : Nat) : Chip :=
  let c := (c.portLanes n).foldl (fun c l => c.laneDeep l) c
  (((c.setLstate n flLp).setFld F.PRT_FL_STATUS.LANE_LOCK 0 n).updFl n fun h =>
    { h with lpiSent := false, lpiIdle := none, hunt := [] }).judgeMoves

/-- A link in LP is woken by this end: the wake pattern starts (R168). -/
def Chip.flWake (c : Chip) (n : Nat) : Chip :=
  if c.lstate n = flLp && !(c.flp n).waking then (c.flLanesWake n).updFl n fun h => { h with waking := true } else c

/-- An IDLE block leaves; the accepter of low power counts 16 of them (R167). -/
def Chip.idleBlock (c : Chip) (n : Nat) : Chip :=
  match (c.flp n).lpiIdle with
  | none => c.sendBlock n .idle
  | some k =>
    if c.flTraffic n then (c.enterLp n).flWake n
    else if k ≤ 1 then (c.sendBlock n .idle).enterLp n
    else (c.sendBlock n .idle).updFl n fun h => { h with lpiIdle := some (k - 1) }

/-- The next block of the INIT exchange: INDEX 0 to 7 in turn, then one IDLE (R157, R159). -/
def Chip.initBlock (c : Chip) (n : Nat) : Chip :=
  let i := (c.flp n).initNext
  if i = 8 then (c.sendBlock n .idle).updFl n fun h => { h with initNext := 0 }
  else
    let seen := i == 0 && (c.flp n).matched
    let c := (c.sendBlock n (.init i (c.initValue n i))).updFl n fun h =>
      { h with initNext := i + 1, initSent := h.initSent + b2n seen }
    if c.initDone n then c.flEnterUp n else c

/-- What a Fleren port sends at a parcel boundary (R145, R157): IDLE while it hunts or aligns; in UP what is due, a
retransmission, a new parcel, or IDLE; an end that has sent ACCEPT sends nothing else. -/
def Chip.flBoundary (c : Chip) (n : Nat) : Chip :=
  if c.inHunt n || c.inAlign n then c.sendBlock n .idle
  else if c.inInit n then c.initBlock n
  else if c.lstate n != flUpState then c
  else match (c.flp n).firstDue? with
    | some b =>
      let c := (c.updFl n fun h => { h with due := h.due.erase b }).sendBlock n b
      if b = .lpi true then c.updFl n fun h => { h with lpiIdle := some 16 } else c
    | none =>
      if (c.flp n).lpiIdle.isSome then c.idleBlock n
      else match c.resendParcel? n with
        | some c => c
        | none => match Chip.newParcel n 64 c with
          | (true, c) => c
          | (false, c) => c.idleBlock n

/-! ### Receiving (R147 to R149) -/

/-- A parcel in a slot. -/
def Chip.slot? (c : Chip) (n s : Nat) : Option Parcel := (c.flp n).slots.find? fun p => p.seq == s

/-- Slots of a class that are occupied. -/
def Chip.slotsUsed (c : Chip) (n k : Nat) : Nat := ((c.flp n).slots.filter fun p => p.cls == k).length

/-- SACK, which F1 does not send. -/
def Chip.sack (c : Chip) (n s : Nat) : Chip := if (c.flp n).f1 then c else c.flSend n (.sack s)

/-- The numbers strictly between the highest seen and s are NAKed as MISSING, and s becomes the highest (R147). -/
def Chip.missing (c : Chip) (n s : Nat) : Chip :=
  let on := match (c.flp n).rxHigh with
    | none => true
    | some r => decide (seqD s r ∈ rangeFrom 1 511)
  if !on then c
  else
    let from_ := match (c.flp n).rxHigh with
      | none => c.rxCommit n
      | some r => (r + 1) % 65536
    let c := (List.range (seqD s from_)).foldl (fun c i => c.flSend n (.nak ((from_ + i) % 65536) 1)) c
    c.updFl n fun h => { h with rxHigh := some s }

/-- Copies that a parcel which has failed its CRC holds part of (Table 5.6, R150): those of packets that begin in it, and that
of the packet which its class has open. -/
def Chip.failing (c : Chip) (n : Nat) (p : Parcel) (k : Copy) : Bool :=
  let begun := p.early.any fun e => e.isSome && e == k.rx
  let open_ := match (c.flp n).open_.get none p.cls with
    | some o => o.looked && o.rx.isSome && o.rx == k.rx
    | none => false
  p.seq == c.rxCommit n && k.src == .port n && !k.whole && (begun || open_)

/-- A copy of a parcel that has failed its CRC is held; one that is being sent is marked at its tail, and will be forwarded
again (Table 5.6, R150). -/
def Chip.holdCopy (c : Chip) (k : Copy) : Chip :=
  match k.dest with
  | .port m =>
    if k.started && !k.resend && !k.again then
      (c.cutTail m k).updCopy k.id fun x => { x with held := true, again := true, started := c.isFleren m }
    else c.updCopy k.id fun x => { x with held := true }
  | _ => c.updCopy k.id fun x => { x with held := true }

/-- The parcel in a slot has come with a bad CRC, or not in full: what has been forwarded of it is held (R148, R150). -/
def Chip.parcelBad (c : Chip) (n s : Nat) : Chip :=
  match c.slot? n s with
  | none => c
  | some p => if p.good then c else (c.cel.copies.filter (c.failing n p)).foldl Chip.holdCopy c

/-- A parcel that was arriving ends with fewer or more than 32 data blocks (R137, 0x26). -/
def Chip.cutShort (c : Chip) (n : Nat) : Chip :=
  match (c.flp n).receiving with
  | none => c
  | some r =>
    let c := (((c.updFl n fun h => { h with receiving := none }).flViolation n 0x26).flSend n (.nak r.seq 5))
    if r.keep then c.parcelBad n r.seq else c

/-- A PARCEL head in UP (R147, R154). -/
def Chip.parcelHead (c : Chip) (n cls s : Nat) : Chip :=
  let h := c.flp n
  let d := seqD s (c.rxCommit n)
  let drop (c : Chip) : Chip := c.updFl n fun h => { h with receiving := some { seq := s, cls, keep := false } }
  let keep (c : Chip) : Chip := c.updFl n fun h => { h with receiving := some { seq := s, cls, keep := true } }
  let c :=
    if d < h.window then
      match c.slot? n s with
      | some p => if p.good then ((drop c).inc F.PRT_FL_DUP.COUNT n).sack n s else keep c
      | none =>
        if h.cred cls ≤ c.slotsUsed n cls then ((drop c).flSend n (.nak s 4)).flViolation n 0x21
        else
          let (id, c) := c.newSlot n cls
          keep (c.updFl n fun h => { h with slots := h.slots ++ [{ seq := s, cls, cell := id, time := c.ns }] })
    else if d < 512 then
      let c := (drop c).flSend n (.nak s 3)
      if h.f1 then c.flViolation n 0x2C else c
    else if 65024 ≤ d then ((drop c).inc F.PRT_FL_DUP.COUNT n).flSend n (.ack ((c.rxCommit n + 65535) % 65536))
    else ((drop c).flSend n (.nak (c.rxCommit n) 2)).flViolation n 0x20
  if d < 512 then c.missing n s else c

/-- Some lower number of the window is not held good yet. -/
def Chip.beyondGap (c : Chip) (n s : Nat) : Bool :=
  let r := c.rxCommit n
  (List.range (seqD s r)).any fun i => !(c.flp n).slots.any fun p => p.good && p.seq == (r + i) % 65536

/-- The link's FEC mode is LIGHT (R132). -/
def FlH.light (h : FlH) : Bool := wget h.cfg 29 28 == 1

/-- 0x27 for each of k data blocks outside a parcel. -/
def Chip.strayBlocks (c : Chip) (n : Nat) : Nat → Chip
  | 0 => c
  | k + 1 => (c.flViolation n 0x27).strayBlocks n k

/-- The trailer of a parcel has come after its 32 data blocks (R133, R148): the CRC decides, and a damaged frame or a trailer
that cannot be read counts as a failure of it. NAK answers the failure also where the head was discarded (DEDUCED, log
entry 16). -/
def Chip.parcelEnd (c : Chip) (n : Nat) (r : RxHead) (b : ParcelBody) (crc : Nat) (trailBad readable : Bool) : Chip :=
  let c := c.updFl n fun h => { h with receiving := none }
  if !readable || crc != parcelCrc r.cls r.seq b.words then
    let c := (c.inc F.PRT_FL_CRC_ERR.COUNT n).flSend n (.nak r.seq 0)
    if r.keep then c.parcelBad n r.seq else c
  else if !r.keep then c
  else match c.slot? n r.seq with
    | none => c
    | some p =>
      if p.good then (c.inc F.PRT_FL_DUP.COUNT n).sack n r.seq
      else
        let c := (c.pulse (portUnit n) 0x10).updFl n fun h => { h with slots := h.slots.map fun q =>
          if q.seq == r.seq then { q with body := b, trailBad, good := true } else q }
        if c.beyondGap n r.seq then c.sack n r.seq else c

/-- Data blocks and the trailer that follows them (R132, R133, R137, 0x26, 0x27); only LIGHT has FEC frames. A 33rd data block
ends the parcel, and the blocks after it lie outside one. -/
def Chip.parcelTrailer (c : Chip) (n : Nat) (b : ParcelBody) (crc : Nat) (trailBad readable : Bool) (corr uncorr blocks : Nat) :
    Chip :=
  let light := (c.flp n).light
  let c := if light then (c.add F.PRT_FL_FEC_CORR.COUNT corr n).add F.PRT_FL_FEC_UNCORR.COUNT uncorr n else c
  match (c.flp n).receiving with
  | none => c.strayBlocks n blocks
  | some r =>
    if blocks = 32 then c.parcelEnd n r b crc trailBad (readable && !(light && Nat.blt 0 uncorr))
    else (c.cutShort n).strayBlocks n (blocks - 33)

/-- The parcel that is next to commit is held good. -/
def Chip.nextCommit? (c : Chip) (n : Nat) : Option Parcel :=
  (c.flp n).slots.find? fun p => p.good && p.seq == c.rxCommit n

/-- A packet that begins or goes on in a parcel's cell has still to pass the lookup: its words have not all come. -/
def Chip.opens (c : Chip) (n cell : Nat) : Bool :=
  (c.flp n).open_.any fun e => match e.2 with
    | some o => !o.looked && o.cells.elem cell
    | none => false

/-- A packet that touches the parcel's cell is not admitted: it holds its slot in its queue, waits for a descriptor, a
Flacon table entry or a captured write, or has still to pass the lookup (R191). -/
def Chip.cellBusy (c : Chip) (n : Nat) (p : Parcel) : Bool :=
  let here (k : Copy) : Bool := k.src == .port n && k.touch.elem p.cell && !k.deferred
  (c.cel.copies.any fun k => here k && k.charge == .slots) || c.cel.waiting.any here || c.cel.flcWaiting.any here ||
    (c.cel.capWaiting.any fun e => here e.2) || c.opens n p.cell

/-- The parcel that is next to commit commits, its packets admitted or discarded (R149, R152). -/
def Chip.commit (c : Chip) (n : Nat) (p : Parcel) : Chip :=
  let r := (p.seq + 1) % 65536
  let c := (c.setFld F.PRT_FL_SEQ.RX_COMMIT r n).updFl n fun h =>
    { h with slots := h.slots.filter (fun q => q.seq != p.seq), unacked := h.unacked + 1
             freed := h.freed.set 0 p.cls ((h.freed.get 0 p.cls + 1) % 65536) }
  let h := c.flp n
  let c := c.flSend n (.credit p.cls (h.creditCount p.cls))
  if h.ackEvery ≤ h.unacked then (c.flSend n (.ack p.seq)).updFl n fun h => { h with unacked := 0 } else c

/-- The ACK that is due within 100 ns of a commit (R149). -/
def Chip.ackDue (c : Chip) (n : Nat) : Chip :=
  if (c.flp n).unacked = 0 then c
  else (c.flSend n (.ack ((c.rxCommit n + 65535) % 65536))).updFl n fun h => { h with unacked := 0 }

/-! ### Control blocks received (R143, R146, R153) -/

/-- ACK: every parcel up to s leaves the replay buffer. -/
def Chip.ackIn (c : Chip) (n s : Nat) : Chip :=
  if 32768 ≤ seqD ((c.txNext n + 65535) % 65536) s then c.flViolation n 0x24
  else c.updFl n fun h => { h with replay := h.replay.filter fun p => 32768 ≤ seqD s p.seq }

/-- NAK. -/
def Chip.nakIn (c : Chip) (n s reason : Nat) : Chip :=
  let c := c.pulse (portUnit n) 0x19
  if 6 ≤ reason then c.flViolation n 0x25
  else if reason = 2 && seqD (c.txNext n) (c.txOld n) < seqD s (c.txOld n) then c.linkDown n 3 0
  else match c.sentParcel? n s with
    | none => c.flViolation n 0x23
    | some _ => (c.updSent n s fun p => { p with naked := true }).becomeDue n s (reason != 3)

/-- SACK. -/
def Chip.sackIn (c : Chip) (n s : Nat) : Chip :=
  if (c.flp n).f1 then c.flViolation n 0x2C
  else match c.sentParcel? n s with
    | none => c.flViolation n 0x23
    | some _ => c.updSent n s fun p => { p with sacked := true, timer := false }

/-- CREDIT. -/
def Chip.creditIn (c : Chip) (n k count : Nat) : Chip :=
  let h := c.flp n
  if 32768 ≤ seqD count (h.released.get 0 k) || 512 < seqD count (h.consumed.get 0 k) then c.flViolation n 0x22
  else c.updFl n fun h => { h with released := h.released.set 0 k count }

/-! ### Bring-up (R155 to R159) -/

/-- The lanes of a Fleren port's width, all of them in block lock. -/
def Chip.allLocked (c : Chip) (n : Nat) : Bool :=
  (List.range (2 ^ c.fld F.PRT_PORT_CFG.WIDTH n)).all fun i => bit (c.fld F.PRT_FL_STATUS.LANE_LOCK n) i

/-- A lane gains block lock; with the last one the link is in ALIGN. -/
def Chip.lockLane (c : Chip) (n i : Nat) : Chip :=
  let c := c.setFld F.PRT_FL_STATUS.LANE_LOCK (setBit (c.fld F.PRT_FL_STATUS.LANE_LOCK n) i) n
  if c.inHunt n && c.allLocked n then c.flAdvance n flAlign else c

/-- A lane loses block lock (R161, R163): F2 in UP retrains, F1 in UP waits for F1_LOCK_T, and bring-up hunts again. -/
def Chip.loseLock (c : Chip) (n i : Nat) : Chip :=
  if !c.isFleren n || !bit (c.fld F.PRT_FL_STATUS.LANE_LOCK n) i then c
  else
    let c := c.setFld F.PRT_FL_STATUS.LANE_LOCK (clrBit (c.fld F.PRT_FL_STATUS.LANE_LOCK n) i) n
    if c.lstate n = flUpState then (if (c.flp n).f1 then c else c.retrain n 1)
    else if c.inAlign n || c.inInit n then
      let keep := c.fld F.PRT_FL_STATUS.LANE_LOCK n
      let hunt := (c.flp n).hunt
      (((c.flHunting n).setFld F.PRT_FL_STATUS.LANE_LOCK keep n).updFl n fun h => { h with hunt }).flAdvance n flHunt
    else c

/-- A lane of a link that receives, by its number in the link. -/
def Chip.hunts (c : Chip) (n i : Nat) : Bool :=
  c.isFleren n && Nat.ble 1 (c.lstate n) && Nat.ble (c.lstate n) 5 && Nat.blt i (c.flWidth n)

/-- Changing the hunt of a lane. -/
def Chip.updHunt (c : Chip) (n i : Nat) (f : HuntH → HuntH) : Chip :=
  c.updFl n fun h => { h with hunt := h.hunt.set default i (f (h.hunt.get default i)) }

/-- One sync header at the candidate position of a lane that hunts (R155): 64 valid ones in a row are block lock, and an invalid
one slips the candidate by one bit of the block, or of the FEC frame in LIGHT. -/
def Chip.huntHeader (n i : Nat) (c : Chip) (s : Nat) : Chip :=
  let h := (c.flp n).hunt.get default i
  if !c.hunts n i || bit (c.fld F.PRT_FL_STATUS.LANE_LOCK n) i then c
  else if s = 1 || s = 2 then
    if 63 ≤ h.good then (c.updHunt n i fun h => { h with good := 0, seen := 0, bad := 0 }).lockLane n i
    else c.updHunt n i fun h => { h with good := h.good + 1 }
  else
    let bitsOf := if (c.flp n).light then 1400 else 66
    c.updHunt n i fun h => { h with good := 0, slips := (h.slips + 1) % bitsOf }

/-- One sync header of a lane in block lock (R155): 16 invalid ones in a window of 64 lose it. -/
def Chip.lockHeader (n i : Nat) (c : Chip) (s : Nat) : Chip :=
  let h := (c.flp n).hunt.get default i
  let bad := h.bad + b2n (s != 1 && s != 2)
  if !c.hunts n i || !bit (c.fld F.PRT_FL_STATUS.LANE_LOCK n) i then c
  else if h.seen < 63 then c.updHunt n i fun h => { h with seen := h.seen + 1, bad }
  else
    let c := c.updHunt n i fun h => { h with seen := 0, bad := 0 }
    if 16 ≤ bad then c.loseLock n i else c

/-- The port and the logical number of a lane of a Fleren link (R91). -/
def Chip.flLane? (c : Chip) (l : Nat) : Option (Nat × Nat) :=
  match c.laneOwner? l with
  | some n =>
    let i := (c.logicalLanes n (c.fld F.PRT_PORT_CFG.WIDTH n) (c.flag F.PRT_PORT_CFG.REVERSE n)).findIdx (· == l)
    if c.isFleren n then some (n, i) else none
  | none => none

/-- What leads to loss of block lock on a lane: FAILED, or the loss of its CDR lock (R52, R72, R163). -/
def Chip.laneLockLost (c : Chip) (l : Nat) : Chip :=
  match c.flLane? l with
  | some (n, i) => c.loseLock n i
  | none => c

/-- The markers of a lane so far are no longer consecutive: a marker with a wrong CHECK came between (R156). -/
def Chip.marksLost (c : Chip) (n lane : Nat) : Chip :=
  c.updFl n fun h => { h with marks := h.marks.set default lane default }

/-- A deskew marker with correct CHECK on a lane in ALIGN (R156): the link aligns when every lane has had two in a row, of
successive MCOUNT, and their conditions hold; otherwise 0x29 or 0x2A restarts alignment. Lanes whose markers are one
behind are waited for. -/
def Chip.deskewIn (c : Chip) (n lane no width mcount skew : Nat) : Chip :=
  let w := c.flWidth n
  if !c.inAlign n || w ≤ lane then c
  else
    let old := (c.flp n).marks.get default lane
    let next := old.run != 0 && mcount == (old.mcount + 1) % 4096
    let moved := old.run != 0 && old.lane != no
    let run := if next then old.run + 1 else 1
    let c := c.updFl n fun h => { h with marks := h.marks.set default lane { lane := no, mcount, run } }
    let h := c.flp n
    let restart (c : Chip) (code : Nat) : Chip := (c.updFl n fun h => { h with marks := [] }).flViolation n code
    let ms := (List.range w).map fun i => h.marks.get default i
    let nos := ms.map (·.lane)
    let ready := ms.all fun m => 2 ≤ m.run
    let behind := ms.any fun m => (m.mcount + 1) % 4096 == mcount
    if width != c.fld F.PRT_PORT_CFG.WIDTH n || moved then restart c 0x29
    else if !ready then c
    else if ms.all (fun m => m.mcount == mcount) then
      if hasRepeat nos || nos.any (fun x => w ≤ x) then restart c 0x29
      else if 64 < skew then restart c 0x2A
      else
        let map : Table Nat := (List.range w).zip nos
        (((c.setFld F.PRT_FL_STATUS.ALIGNED 1 n).updFl n fun h => { h with laneMap := map }).flAdvance n flInit)
    else if behind && ms.all (fun m => m.mcount == mcount || (m.mcount + 1) % 4096 == mcount) then c
    else restart c 0x29

/-- An INIT block with correct CHECK (R157 to R159, 0x28, 0x2B). -/
def Chip.initIn (c : Chip) (n i v : Nat) : Chip :=
  let h := c.flp n
  let running := c.lstate n == flUpState || c.lstate n == flRetrain
  let other := match h.partnerEpoch with | some e => e != v | none => false
  if running && i == 1 && other then (c.flViolation n 0x2B).linkDown n 0 0
  else if !c.inInit n then c
  else
    let c := c.updFl n fun h => { h with initRx := h.initRx.set 65536 i v }
    if i != 0 then c
    else if !c.initMatches n v then
      (((c.updFl n fun h => { h with matched := false, partnerSeen := false })).setFld F.PRT_FL_STATUS.INIT_MISMATCH 1
        n).flViolation n 0x28
    else
      let c := (c.setFld F.PRT_FL_STATUS.INIT_MISMATCH 0 n).updFl n fun h =>
        { h with matched := true, partnerSeen := h.partnerSeen || bit v 15 }
      if c.initDone n then c.flEnterUp n else c

/-! ### Low power (R166 to R168) -/

/-- An LPI block. -/
def Chip.lpiIn (c : Chip) (n : Nat) (accept : Bool) : Chip :=
  let h := c.flp n
  if h.f1 then c.flViolation n 0x2C
  else if c.lstate n != flUpState then c
  else if accept then
    if h.lpiSent then
      let c := c.enterLp n
      if c.flTraffic n then c.flWake n else c
    else c
  else if h.replay.isEmpty && !c.flTraffic n then c.flSend n (.lpi true)
  else c

/-- LP_IDLE µs have passed without a parcel (R166). -/
def Chip.lpIdle (c : Chip) (n : Nat) : Chip :=
  let h := c.flp n
  if h.lpIdle != 0 && c.lstate n == flUpState && h.replay.isEmpty && h.due.isEmpty && h.lpiIdle.isNone then
    (c.flSend n (.lpi false)).updFl n fun h => { h with lpiSent := true }
  else c

/-- Activity on a lane of a link in LP: the partner's wake pattern (R168). -/
def Chip.wakeSeen (c : Chip) (l : Nat) : Chip :=
  match c.flLane? l with
  | some (n, _) => c.leaveLp n
  | none => c

/-! ### PRT_FL_CTL and limits -/

/-- RETRAIN written: a counted retrain from UP, ignored in F1 and elsewhere. -/
def Chip.askRetrain (c : Chip) (n : Nat) : Chip :=
  if c.lstate n = flUpState && !(c.flp n).f1 then c.retrain n 2 else c

/-- LINK_RESET written: the link goes down from UP, RETRAIN or LP. -/
def Chip.askLinkReset (c : Chip) (n : Nat) : Chip :=
  if 4 ≤ c.lstate n && c.lstate n ≤ 6 then c.linkDown n 6 0 else c

/-- PRT_FL_CTL after a write that reached it; LINK_RESET prevails. -/
def Chip.writeFlCtl (c : Chip) (n : Nat) (v : Word) : Chip :=
  if wbit v 1 then c.askLinkReset n else if wbit v 0 then c.askRetrain n else c

/-- 1 ms in DOWN has passed; the completions owed have been issued and nothing holds the port (Tables 4.11 and 4.14). -/
def Chip.downOver (c : Chip) (n : Nat) : Chip :=
  if c.lstate n != flDown || c.portHeld n || ((c.cel.copies ++ c.cel.waiting).any fun k => k.synthFor == some n) then c
  else if c.isFleren n && c.tileEn (tileOf n) && !c.safe && 1 ≤ c.opMode && c.opMode ≤ 11 then c.linkReset n
  else c.setLstate n flDisabled

end Sys2Proof.Machine
end

