-- ==== Sys2Proof/Machine/FlcOps.lean ====
section
/-! DEFINITION. The shared operations of Flacon commands (spec/07_partitions_flacons.md). The meanings stand in
Machine/Flacon.lean. -/

namespace Sys2Proof.Machine

/-- The slot of an entry in its owner's BAR4 (R261): its first offset and the one past its last. -/
def Chip.flcSlot (c : Chip) (f : Nat) : Nat × Nat :=
  let lo := c.fld F.GLB_FLC_C.APER_OFS f * 4096
  (lo, lo + 2 ^ c.fld F.GLB_FLC_A.SIZE f)

/-- The checks of Table 7.5 on an ASSIGN, in their order; 0 when all pass. -/
def Chip.assignResult (c : Chip) (f : Nat) : Nat :=
  let kind := c.flag F.GLB_FLC_A.KIND f
  let owner := c.fld F.GLB_FLC_A.OWNER f
  let target := c.fld F.GLB_FLC_A.TARGET f
  let others := c.liveFlacons.filter (· != f)
  let slot := c.flcSlot f
  if !(c.configMode || c.flaconMode) then 1
  else if c.flcState f != 0 then 2
  else if !(c.configured owner && (c.upPort? owner).isSome) then 3
  else if !(if kind then Nat.blt target 12 && c.tileEn target else c.isPcie target && c.role target == 0) then 4
  else if others.any fun g => c.flag F.GLB_FLC_A.KIND g == kind && c.fld F.GLB_FLC_A.TARGET g == target &&
      c.fld F.GLB_FLC_B.PASID g == c.fld F.GLB_FLC_B.PASID f then 5
  else if c.fld F.GLB_PTN_CFG.APER_SIZE owner = 0 || c.bar4Size owner < slot.2 then 6
  else if others.any fun g => c.fld F.GLB_FLC_A.OWNER g == owner && Nat.blt slot.1 (c.flcSlot g).2 &&
      Nat.blt (c.flcSlot g).1 slot.2 then 7
  else 0

/-- The squash of an entry that is ACTIVE or DRAINING ends in RETIRING, or at once when nothing has to retire. -/
def Chip.flcRetired (c : Chip) (f : Nat) : Chip :=
  if c.flcState f = 4 && (c.flcEntries f).isEmpty then
    (c.setFlc f (if (c.flc f).remove then 0 else 1)).updFlc f fun _ => {}
  else c

/-- RESET or REMOVE of an entry that is not FREE (Tables 7.7 and 7.8). -/
def Chip.flcEnd (c : Chip) (f : Nat) (remove now : Bool) : Chip :=
  let active := c.flcState f == 1
  let c := c.updFlc f fun h => { h with remove := remove || (h.remove && !active) }
  if now then c.squash f
  else if active then c.setFlc f 2
  else c

/-- Every engine bound to a Flacon has stopped. -/
def Chip.flcEnginesIdle (c : Chip) (f : Nat) : Bool :=
  (c.jobsOfFlacon f).all fun j => (c.jobEngines j).all fun e => c.engState e == enIdle || c.engState e == enDisabled

/-- GLB_FLC_CMD after a write that reached it (R259). -/
def Chip.writeFlcCmd (c : Chip) (v : Word) : Chip :=
  let op := bits v.toNat 31 30
  let f := bits v.toNat 11 0
  if c.flag F.GLB_FLC_STATUS.BUSY then c.countClamp ⟨.GLB_FLC_CMD, 0, 0⟩
  else if op = 0 then c
  else
    let r := if op = 1 then c.assignResult f else if c.flcState f = 0 then 2 else 0
    let c := (c.setFld F.GLB_FLC_STATUS.RESULT r).setFld F.GLB_FLC_STATUS.INDEX f
    if r != 0 then c
    else
      let c := c.setReg .GLB_FLC_CMD (word (op * 2 ^ 30 + b2n (bit v.toNat 29) * 2 ^ 29 + f))
      if op = 1 then (c.setFlc f 1).updFlc f fun _ => {} else c.flcEnd f (op == 3) (bit v.toNat 29)

/-- A draining entry with no table entry and no engine at work enters RETIRING, which it may leave at once. -/
def Chip.drainDone (c : Chip) (f : Nat) : Chip :=
  if c.flcState f = 2 && (c.flcEntries f).isEmpty && c.flcEnginesIdle f then c.setFlc f 4 else c

/-- The entry of the request table of a tag, in the hierarchy whose allocator gave it. -/
def Chip.flcReqOf? (c : Chip) (p tag : Nat) : Option FlcReq := c.flcReqs.find? fun e => e.tagPart == p && e.newTag == tag

/-- A reserved entry retires QUARANTINE ms after its answer (R275); no completion of it is awaited any longer (R266). -/
def Chip.flcQuarantineOver (c : Chip) (p tag : Nat) : Chip :=
  match c.flcReqOf? p tag with
  | some e =>
    if e.reserved then
      let gone (t : Track) : Bool := t.is p e.newRid tag && !t.orphan
      { c.retireFlcReq p e.newRid tag with flt := { c.flt with track := c.flt.track.filter fun t => !gone t } }
    else c
  | none => c

/-- An entry of an ACTIVE Flacon is freed QUARANTINE ms after its request left (R266). -/
def Chip.flcStale (c : Chip) (p tag : Nat) : Chip :=
  match c.flcReqOf? p tag with
  | some e =>
    if !e.reserved && c.flcState e.flc = 1 then
      let gone (t : Track) : Bool := t.is p e.newRid tag && !t.orphan
      let c := (c.retireFlcReq p e.newRid tag).inc F.GLB_FLC_STALE.COUNT
      { c with flt := { c.flt with track := c.flt.track.filter fun t => !gone t } }
    else c
  | none => c

end Sys2Proof.Machine
end

