-- ==== Sys2Proof/Machine/EmitOps.lean ====
section
/-! DEFINITION. The shared operations of engine reads and of the emitter (R366 to R377), and of requests that Bus Master
Enable holds back (R120 to R123). The meanings stand in Machine/Emit.lean and Machine/Links.lean. -/

namespace Sys2Proof.Machine

/-- Cutting n bytes from an address at 4 KiB boundaries and at m bytes (R373): address and length of each piece. -/
def burstCut (m : Nat) : Nat → Nat → Nat → List (Nat × Nat)
  | 0, _, _ => []
  | fuel + 1, a, n =>
    if n = 0 then []
    else
      let l := max 1 (min n (min m (4096 - a % 4096)))
      (a, l) :: burstCut m fuel (a + l) (n - l)

/-- The largest payload, or read, of the device's requests for a partition (R251); 128 bytes for the internal root. -/
def Chip.ownSize (c : Chip) (part : Option Nat) (read : Bool) : Nat :=
  match part with
  | some p => if read then c.maxRead (.mgmt p) else c.maxPayload (.mgmt p)
  | none => 128

/-- The reads of a FETCH, each with a tag of the window's partition; none when a tag is missing (R485). -/
def Chip.fetchTags (c : Chip) (part : Option Nat) (e base group : Nat) : List (Nat × Nat) → Nat →
    Option (List (FetchRead × Nat)) × Chip
  | [], _ => (some [], c)
  | (a, l) :: ps, off =>
    match c.devTag part (.engine e) a l with
    | (none, c) => (none, c)
    | (some t, c) =>
      match c.fetchTags part e base group ps (off + l) with
      | (some rs, c) => (some (({ tag := t, part, off := base + off, len := l, group }, a) :: rs), c)
      | (none, c) => (none, c)

/-- The FETCH at an engine's PC is issued through a window: its reads enter the lookup; none when a tag is missing. -/
def Chip.issueFetch (c : Chip) (i x : Nat) : Option Chip :=
  let w := c.insn i
  let j := c.handJob i
  let t := j / 32
  let len := (c.gA i w).toNat
  let off := (c.eng i).ip / 8
  let part := c.windowPart j x
  let base := (c.pair .ACD_DST_BASE_LO .ACD_DST_BASE_HI t x + (c.gB i w).toNat) % 2 ^ 64
  let group := (c.eng i).fetchNext
  match c.fetchTags part i off group (burstCut (c.ownSize part true) len base len) 0 with
  | (none, _) => none
  | (some rs, c) =>
    let c := c.updEng i fun h => { h with fetches := h.fetches ++ rs.map (·.1), fetchNext := group + 1 }
    let c := rs.foldl (fun c r => c.engineSend i j x { kind := .memRd, addr := r.2, len := r.1.len, tag := r.1.tag }) c
    some ((c.pulse (engUnit i) 0x1C).nextPc i)

/-- The report of an emission (Table 10.7). -/
def Emission.report (x : Emission) (k : Nat) : List Byte :=
  leBytes 4 k ++ leBytes 4 (x.len * 2 ^ 16 + x.status * 2 ^ 8 + x.flags % 256) ++ leBytes 8 x.first

/-- One window of an emission: its data, its report, PROD and the notification (R372, R373, R375, R377). -/
def Dev.emitWindow (d : Dev) (x : Emission) (w k : Nat) : Dev :=
  let c := d.chip
  let t := x.job / 32
  let part := c.windowPart x.job w
  let slot := k % 2 ^ c.fld F.ACD_DST_B.SLOTS t w
  let data := match x.half with
    | some h => d.mem.pantryRead t (c.halfBase x.eng x.job h) x.len
    | none => []
  let base := c.pair .ACD_DST_BASE_LO .ACD_DST_BASE_HI t w + slot * 64 * c.fld F.ACD_DST_B.SLOT_SIZE t w
  let rpt := c.pair .ACD_DST_RPT_LO .ACD_DST_RPT_HI t w + slot * 16
  let send (c : Chip) (a : Nat) (bs : List Byte) : Chip :=
    (burstCut (c.ownSize part false) bs.length a bs.length).foldl (fun c q =>
      c.engineSend x.eng x.job w
        { kind := .memWr, addr := q.1 % 2 ^ 64, len := q.2, data := (bs.drop (q.1 - a)).take q.2 }) c
  let rptEn := c.flag F.ACD_DST_A.RPT_EN t w
  let c := send c base data
  let c := if rptEn then send c rpt (x.report k) else c
  let c := c.incWrap F.ACD_DST_PROD.PROD t w
  let n := c.fld F.ACD_DST_B.NOTIFY_N t w
  let c := if part.isSome && rptEn && n != 0 && (k + 1) % 2 ^ 32 % n == 0 then
      c.engineOut x.eng { job := x.job, win := w, pkt := none } else c
  { d with chip := c }

/-- The windows of an emission that may be written now, once its engine and the other engines of its job have sent what they
had to (R189, R383): those that nothing holds back (R121), and that no earlier emission of the tile has still to write. -/
def Chip.emitReady (c : Chip) (x : Emission) : List (Nat × Nat) :=
  let before := c.acd.emits.takeWhile fun y => y != x
  let busy (e : Nat) : Bool := !(c.eng e).out.isEmpty || c.engHeldWrite e
  if busy x.eng || (c.jobEngines x.job).any busy then [] else x.dests.filter fun q => !c.windowOff x.job q.1 &&
    !before.any fun y => y.job / 32 == x.job / 32 && y.dests.any fun r => r.1 == q.1

/-- An emission is left with fewer windows, and leaves the emitter with the last of them. -/
def Chip.emitLeft (c : Chip) (x : Emission) (ds : List (Nat × Nat)) : Chip :=
  { c with acd := { c.acd with emits := c.acd.emits.flatMap fun y =>
      if y == x then (if ds.isEmpty then [] else [{ x with dests := ds }]) else [y] } }

/-- The windows of an emission that may be written are written. -/
def Dev.emitSome (d : Dev) (x : Emission) (ds : List (Nat × Nat)) : Dev :=
  ds.foldl (fun d q => d.emitWindow x q.1 q.2) (d.onChip fun c => c.emitLeft x (x.dests.filter fun q => !ds.elem q))

/-! ### Bus Master Enable (R120 to R123, R254) -/

/-- A Letterbox's request that stalled is issued: a read of FW_LOAD_HOST; the cycle of an LPB_CONFIG goes with its own command,
and what has stalled after it waits for that. -/
def Dev.resumeBox (d : Dev) (n : Nat) (k : Copy) : Option Dev :=
  if k.pkt.kind != .memRd then none
  else match d.chip.lbx.load with
    | some h => if h.box == n && h.tag.isNone then (d.chip.loadIssue n h).map fun c => { d with chip := c } else some d
    | none => some d

/-- A stalled request is issued; none while no tag is free for it. -/
def Dev.resumeOne (d : Dev) (k : Copy) : Option Dev :=
  match k.src with
  | .engine e =>
    if k.pkt.kind = .memWr then
      let q := (k.pkt.addr, k.pkt.len)
      match d.chip.acd.emits.find? fun x => x.eng == e && x.dests.elem q with
      | some x => some (d.emitSome x [q])
      | none => some d
    else
      match d.chip.slotWindow? (d.chip.handJob e) (insnD (d.chip.insn e) % 4) with
      | some x => (d.chip.issueFetch e x).map fun c => { d with chip := c }
      | none => some d
  | _ =>
    if k.id != 0 then d.resumeBox (k.id - 1) k
    else if d.chip.goesToSeg k.part k.pkt && d.chip.segOwes .firmware then none
    else if k.pkt.cat = .nonPosted then
      match d.chip.devTag k.part .firmware k.pkt.addr k.pkt.len with
      | (some t, c) => some { d with chip := c.firmwareSend k.part { k.pkt with tag := t } }
      | (none, _) => none
    else some (d.onChip fun c => c.firmwareSend k.part k.pkt)

/-- Stalled requests are issued in their order, up to one that finds no tag (R122). -/
def Dev.resumeGo (p : Nat) : List Copy → Dev → Dev
  | [], d => d.onChip fun c => c.updPart p fun h => { h with stalled := [] }
  | k :: ks, d =>
    match d.resumeOne k with
    | some d => Dev.resumeGo p ks d
    | none => d.onChip fun c => c.updPart p fun h => { h with stalled := k :: ks }

/-- What stalled for a partition resumes in its order, unless its Bus Master Enable is 0. -/
def Dev.resumeMaster (d : Dev) (p : Nat) : Dev :=
  if p < 32 && d.chip.busOff (some p) then d
  else
    let d := d.onChip Chip.drainEngines
    let ks := (d.chip.part p).stalled
    let es := (ks.filterMap fun k => match k.src with | .engine e => some e | _ => none).eraseDups
    (Dev.resumeGo p ks d).onChip fun c => es.foldl (fun c e => c.showStall e) c

end Sys2Proof.Machine
end

