-- ==== Sys2Proof/Machine/LinkOps.lean ====
section
/-! DEFINITION. The shared operations of PCI Express links and slots (spec/03_pcie_ports.md), and what configuration writes
set off: Secondary Bus Reset, Link Disable, FLR, Slot Control, DPC, Bus Master Enable. The meanings stand in
Machine/Links.lean. -/

namespace Sys2Proof.Machine

/-! ### Links (R82, R91, R92, R99, R101, R104) -/

/-- The lanes of a link take its width and rate: the logical lanes used are ACTIVE, the port's others OFF (R47, R92). -/
def Chip.useLanes (c : Chip) (n w r : Nat) (rev : Bool) : Chip :=
  let used := c.logicalLanes n w rev
  (c.portLanes n).foldl (fun c l => if used.elem l then c.laneActivate l r else c.laneOff l) c

/-- Link bandwidth notification (R95): Link Bandwidth Management Status sets when Retrain Link asked for the change, else
Link Autonomous Bandwidth Status; vector 0 is signalled when the bit's interrupt enable is 1. -/
def Chip.bandwidth (c : Chip) (n : Nat) : Chip :=
  if c.role n = 1 then c
  else
    let asked := (c.port n).retrainAsked
    let b := if asked then 30 else 31
    let was := c.cfgBit (.port n) 0x80 b
    let c := (c.updPort n fun h => { h with retrainAsked := false }).putCfgBit (.port n) 0x80 b true
    if !was && c.cfgBit (.port n) 0x80 (if asked then 10 else 11) then c.msix (.port n) 0 else c

/-- A link that is up passes Recovery to another rate or width (R82, R92): flit mode stays as negotiated, and without it the
rate stays at 32 GT/s or below. -/
def Chip.linkChange (c : Chip) (n w r : Nat) : Chip :=
  let r := if c.flag F.PRT_LINK_STATUS.FLIT n then r else min r 4
  let new := c.fld F.PRT_LINK_STATUS.NEG_RATE n != r || c.fld F.PRT_LINK_STATUS.NEG_WIDTH n != w
  let c := (((c.setFld F.PRT_LINK_STATUS.NEG_RATE r n).setFld F.PRT_LINK_STATUS.NEG_WIDTH w n).setFld
    F.PRT_LINK_STATUS.L0P_WIDTH 7 n).setFld F.PRT_LINK_STATUS.PM_STATE 0 n
  let c := (c.setFld F.PRT_LINK_STATUS.LTSSM 0x04 n).useLanes n w r (c.flag F.PRT_LINK_STATUS.REVERSED n)
  if new || (c.port n).retrainAsked then c.bandwidth n else c

/-- A port reaches L0 and DL_Active, advertising its credits (R186), with a width, a rate, the partner's offer of flit
mode and the order of its lanes; a link that is up reaches L0 again with another width or rate. -/
def Chip.linkUpAt (c : Chip) (n w r : Nat) (flit rev : Bool) : Chip :=
  if !c.trains n || c.fld F.PRT_PORT_CFG.WIDTH n < w || c.fld F.PRT_PORT_CFG.MAX_RATE n < r then c
  else if c.flag F.PRT_LINK_STATUS.DL_ACTIVE n then c.linkChange n w r
  else
    let rev := c.flag F.PRT_PORT_CFG.REVERSE n || rev
    let flit := Nat.ble 5 r || (c.flag F.PRT_PORT_CFG2.FLIT_LOW n && flit)
    let seen := c.fld F.PRT_LINK_STATUS.LINK_DOWN_SEEN n
    let c := c.setReg .PRT_LINK_STATUS (word (2 ^ 31 + b2n flit * 2 ^ 30 + b2n rev * 2 ^ 29 + seen * 2 ^ 28 + r * 2 ^ 24 +
      w * 2 ^ 21 + 7 * 2 ^ 18 + 0x04 * 2 ^ 8)) n
    let c := (c.useLanes n w r rev).advertise n
    if c.role n = 1 then c else c.slotEvent n 8

/-- The active lanes of a port's link: those of its negotiated width that L0p has not idled. -/
def Chip.linkLanes (c : Chip) (n : Nat) : List Nat :=
  let l0p := c.fld F.PRT_LINK_STATUS.L0P_WIDTH n
  c.logicalLanes n (if l0p = 7 then c.fld F.PRT_LINK_STATUS.NEG_WIDTH n else l0p) (c.flag F.PRT_LINK_STATUS.REVERSED n)

/-- Entry to L1 (0), L1.1 (1) or L1.2 (2): STANDBY, or the deep lane state in L1.2 (R101, R102). -/
def Chip.enterL1 (c : Chip) (n sub : Nat) : Chip :=
  if !c.flag F.PRT_LINK_STATUS.DL_ACTIVE n || c.fld F.PRT_LINK_STATUS.PM_STATE n != 0 || (sub != 0 && !c.flag F.PRT_PORT_CFG2.L1SS_EN n)
  then c
  else
    let c := (c.linkLanes n).foldl (fun c l => if sub = 2 then c.laneDeep l else c.laneStandby l) c
    (c.setFld F.PRT_LINK_STATUS.PM_STATE (2 + sub) n).setFld F.PRT_LINK_STATUS.LTSSM 0x08 n

/-- The link returns to L0 from L1, or from Recovery: its lanes leave STANDBY, or start their exit from DEEP; an exit that
fails takes the link down (R59). -/
def Chip.leaveL1 (c : Chip) (n : Nat) : Chip :=
  let pm := c.fld F.PRT_LINK_STATUS.PM_STATE n
  let idle := 2 ≤ pm && pm ≤ 4
  if !c.flag F.PRT_LINK_STATUS.DL_ACTIVE n || !(idle || c.fld F.PRT_LINK_STATUS.LTSSM n = 5) then c
  else
    let rate := c.fld F.PRT_LINK_STATUS.NEG_RATE n
    let c := if idle then (c.linkLanes n).foldl (fun c l =>
      if c.laneState l = lnStandby then c.laneActivate l rate else c.laneWake l) c else c
    if (c.linkLanes n).any c.exitFailed then c.linkDown n 2 0
    else (c.setFld F.PRT_LINK_STATUS.PM_STATE 0 n).setFld F.PRT_LINK_STATUS.LTSSM 0x04 n

/-- The link narrows or widens in L0p, to a width code no wider than negotiated (R104). -/
def Chip.l0pWidth (c : Chip) (n w : Nat) : Chip :=
  let neg := c.fld F.PRT_LINK_STATUS.NEG_WIDTH n
  let pm := c.fld F.PRT_LINK_STATUS.PM_STATE n
  let l0p := c.fld F.PRT_LINK_STATUS.L0P_WIDTH n
  let narrower := w < (if l0p = 7 then neg else l0p)
  if !c.flag F.PRT_LINK_STATUS.DL_ACTIVE n || !c.flag F.PRT_LINK_STATUS.FLIT n ||
      (narrower && !c.flag F.PRT_PORT_CFG2.L0P_EN n) || 1 < pm || neg < w then c
  else
    let rev := c.flag F.PRT_LINK_STATUS.REVERSED n
    let rate := c.fld F.PRT_LINK_STATUS.NEG_RATE n
    let on := c.logicalLanes n w rev
    let c := (c.logicalLanes n neg rev).foldl (fun c l =>
      if on.elem l then (if c.laneState l = lnStandby then c.laneActivate l rate else c)
      else if c.laneState l = lnActive then c.laneStandby l else c) c
    if w = neg then
      ((c.setFld F.PRT_LINK_STATUS.L0P_WIDTH 7 n).setFld F.PRT_LINK_STATUS.PM_STATE 0 n).setFld F.PRT_LINK_STATUS.LTSSM 0x04 n
    else
      ((c.setFld F.PRT_LINK_STATUS.L0P_WIDTH w n).setFld F.PRT_LINK_STATUS.PM_STATE 1 n).setFld F.PRT_LINK_STATUS.LTSSM 0x07 n

/-- A port returns to Detect without reaching L0 (R99). -/
def Chip.trainFail (c : Chip) (n : Nat) (numbers : Bool) : Chip :=
  if !c.isPcie n || c.flag F.PRT_LINK_STATUS.DL_ACTIVE n then c
  else
    let c := (c.inc F.PRT_TRAIN_FAIL.COUNT n).setFld F.PRT_LINK_STATUS.LTSSM 0 n
    if numbers then c.violation n 0x10 else c

/-- The LTSSM of a port that nothing holds any longer shows Detect.Quiet. -/
def Chip.freeLtssm (c : Chip) (n : Nat) : Chip :=
  if c.isPcie n && !c.flag F.PRT_LINK_STATUS.DL_ACTIVE n && c.portFree n then c.setFld F.PRT_LINK_STATUS.LTSSM 0 n else c

/-! ### Resets (Tables 3.4 and 7.6) -/

/-- Assertion of PERST_N of a partition. -/
def Chip.perstAssert (c : Chip) (p : Nat) : Chip :=
  let c := (c.updPart p fun h => { h with perst := true, rrs := false }).partFundamental p
  (c.downPorts p).foldl (fun c n => match c.slotChan? n with | some s => c.assertPerst s | none => c) c

/-- PERST_N waits for the exit from PS1 or PS2 (Table 16.12). -/
def Chip.perstWaits (c : Chip) : Bool := c.fld F.PWR_STATUS.STATE = 1 || c.fld F.PWR_STATUS.STATE = 2

/-- A change of PERST_N that waits: the last level counts. -/
def Chip.perstHold (c : Chip) (p : Nat) (low : Bool) : Chip :=
  { c with pwr := { c.pwr with perstHeld := c.pwr.perstHeld.filter (·.1 != p) ++ [(p, low)] } }

/-- Deassertion of PERST_N: links may train, and configuration requests are answered with Request Retry Status until the
restore is done (R106). -/
def Chip.perstDeassert (c : Chip) (p : Nat) : Chip :=
  if !(c.part p).perst then c
  else
    let c := c.updPart p fun h => { h with perst := false, rrs := true }
    let c := (c.portsOf p).foldl (fun c n => c.freeLtssm n) c
    (c.downPorts p).foldl (fun c n => match c.slotChan? n with | some s => c.tryPerst s | none => c) c

/-- The levels that PERST_N has at the exit from PS1 or PS2, where they differ from those last applied. -/
def Chip.perstApply (c : Chip) : Chip :=
  c.pwr.perstHeld.foldl (fun c e =>
    if e.2 == (c.part e.1).perst then c else if e.2 then c.perstAssert e.1 else c.perstDeassert e.1)
    { c with pwr := { c.pwr with perstHeld := [] } }

/-- Ecseric has restored the partition after a fundamental reset, or its management function after an FLR. -/
def Chip.partRestored (c : Chip) (p : Nat) : Chip :=
  if (c.part p).perst then c
  else (c.updPart p fun h => { h with rrs := false, inReset := false, flr := false }).stallEngines p

/-- The Flacons that a partition owns on a port. -/
def Chip.ownFlaconsOn (c : Chip) (p n : Nat) : List Nat := (c.flaconsOn n).filter fun f => c.fld F.GLB_FLC_A.OWNER f == p

/-- A cause of Hot Reset of a port ends. -/
def Chip.endHot (c : Chip) (n : Nat) (cause : HotCause) : Chip :=
  c.updPort n fun h => match cause with
    | .upstream => { h with hotUp := false }
    | .ownBit => { h with hotOwn := false }

/-- Secondary Bus Reset of a switch port function is written (Table 3.4, R107). `root`: by the internal root, or by an Ecseric
command from the Owner, which alone start a Hot Reset of a shared port; its Flacons are squashed, because its link goes
down. -/
def Chip.writeSbr (c : Chip) (n : Nat) (on : Bool) (root : Bool := false) : Chip :=
  let was := c.cfgBit (.port n) 0x3C 22
  let c := c.putCfgBit (.port n) 0x3C 22 on
  let p := c.portPart n
  if !c.isPcie n || was == on then c
  else if c.role n = 1 then
    if !on then (if (c.part p).hot then c else (c.downPorts p).foldl (fun c m => c.endHot m .upstream) c)
    else
      let others := (c.portsOf p).filter fun m => m != n
      let c := ((c.partStop p).portRegs n).hotDown p
      let c := others.foldl (fun c m => c.fnReset (.port m) true) c
      ((c.fnReset (.mgmt p) true).updPart p fun h => { h with bus := 0 }).segFollow
  else if !on then c.endHot n .ownBit
  else
    let home := c.role n == 0
    let shared := c.sharedPort n
    let c := if home then c.squashAll (if root then c.flaconsOn n else c.ownFlaconsOn p n) else c
    if home && shared && !root then c
    else
      let c := (c.portRegs n).sendHot n .ownBit
      match c.slotChan? n with
      | some s => if c.flag F.PRT_PORT_CFG2.SBR_PERST n then c.assertPerst s else c
      | none => c

/-- Hot Reset sent on a link ends: no cause lasts and 2 ms have passed. -/
def Chip.hotEnd (c : Chip) (n : Nat) : Chip :=
  let h := c.port n
  if !h.hotSent || h.hotUp || h.hotOwn then c
  else
    let c := (c.updPort n fun h => { h with hotSent := false, hotByOwn := false }).emit (.hotReset n false)
    let c := c.setFld F.PRT_LINK_STATUS.LTSSM (if c.portFree n then 0 else 0x0C) n
    match c.slotChan? n with
    | some s => c.tryPerst s
    | none => c

/-- The interval of a partition Hot Reset ends (R272). -/
def Chip.partResetEnd (c : Chip) (p : Nat) : Chip :=
  if !(c.part p).hot then c
  else
    let c := (c.updPart p fun h => { h with hot := false }).stallEngines p
    let held := (c.upPort? p).any fun u => c.cfgBit (.port u) 0x3C 22
    if held then c else (c.downPorts p).foldl (fun c n => c.endHot n .upstream) c

/-- Hot Reset, or Link Disable, received from the partner (Table 3.4). -/
def Chip.hotReceived (c : Chip) (n : Nat) (disable : Bool) : Chip :=
  if !c.isPcie n then c
  else if c.role n = 1 then if disable then c.linkDown n 0 0x0A else c.linkDown n 0 0x09
  else c.violation n 0x09

/-- Link Disable is written. -/
def Chip.writeLinkDisable (c : Chip) (n : Nat) (on : Bool) : Chip :=
  let was := c.cfgBit (.port n) 0x80 4
  if !c.isPcie n || c.role n = 1 || was == on then c
  else
    let c := c.putCfgBit (.port n) 0x80 4 on
    if on then c.linkDown n 6 0x0A else c.setFld F.PRT_LINK_STATUS.LTSSM (if c.portFree n then 0 else 0x0C) n

/-- A Function Level Reset of a management function (Table 7.6). -/
def Chip.partFlr (c : Chip) (p : Nat) : Chip :=
  (((c.fnReset (.mgmt p) true).partStop p).updPart p fun h => { h with flr := true }).stallEngines p

/-! ### Slot Control (R111, R112, R115) -/

/-- An indicator follows its control: 0b01 low, 0b10 blinking, 0b11 released; 0b00 is reserved, and what it shows is a
free value. -/
def Chip.indicator (c : Chip) (v : Nat) : Nat × Chip :=
  match v with
  | 1 => (1, c)
  | 2 => (2, c)
  | 3 => (0, c)
  | _ => (c.freeVal % 3, c.drawn)

/-- A Slot Control write is carried out: the indicators, then power. Bit 16 of v says that Power Controller Control is
written: a 1 is an off command also where it holds 1 already (R436). -/
def Chip.slotCtl (c : Chip) (n : Nat) (v : Nat) : Chip :=
  match c.slotChan? n with
  | none => c
  | some s =>
    let old := c.cfgAt (.port n) 0x88
    let was := c.hpPending n
    let c := (c.setCfg (.port n) 0x88 (old / 65536 * 65536 + Nat.land v 0x17FF)).hpFollow n was
    let att := bits v 7 6 != bits old 7 6
    let pwr := bits v 9 8 != bits old 9 8
    let pcc := bit v 10 != bit old 10
    let c := if att then
        let (k, c) := c.indicator (bits v 7 6)
        c.updPort n fun h => { h with attnLed := k }
      else c
    let c := if pwr then
        let (k, c) := c.indicator (bits v 9 8)
        c.updPort n fun h => { h with pwrLed := k }
      else c
    let c := if bit v 10 && (pcc || bit v 16) then c.fuOff s else if pcc then c.fuRequest s else c
    if att || pwr || pcc then c.updPort n fun h => { h with ccOwed := true } else c

/-- A Slot Control write: it waits while Command Completed is owed, or behind one that waits. -/
def Chip.writeSlotCtl (c : Chip) (n v : Nat) : Chip :=
  if (c.port n).ccOwed || !(c.port n).slotPending.isEmpty then c.updPort n fun h => { h with slotPending := h.slotPending ++ [word v] } else c.slotCtl n v

/-- The Slot Control value that a new write starts from: the last one written. -/
def Chip.slotWord (c : Chip) (n : Nat) : Nat :=
  match (c.port n).slotPending.getLast? with
  | some w => w.toNat % 65536
  | none => c.cfgAt (.port n) 0x88 % 65536

/-- The waiting writes are carried out in their order, up to one that owes Command Completed (R112). -/
def Chip.slotDrain (n : Nat) : List Word → Chip → Chip
  | [], c => c
  | w :: ws, c =>
    if (c.port n).ccOwed then c
    else Chip.slotDrain n ws ((c.updPort n fun h => { h with slotPending := ws }).slotCtl n w.toNat)

/-- Command Completed sets, and the waiting writes go on. -/
def Chip.commandDone (c : Chip) (n : Nat) : Chip :=
  if !(c.port n).ccOwed then c
  else
    let c := (c.updPort n fun h => { h with ccOwed := false }).slotEvent n 4
    Chip.slotDrain n (c.port n).slotPending c

/-- A write of 1 to Power Fault Detected. -/
def Chip.clearPowerFault (c : Chip) (n : Nat) : Chip :=
  match c.slotChan? n with
  | none => c
  | some s => (c.putCfgBit (.port n) 0x88 17 false).fuRelease s

/-! ### DPC (R116, R117) -/

/-- DPC containment of a downstream or root port: marked, and its link held down. -/
def Chip.dpcEnter (c : Chip) (n reason : Nat) : Chip :=
  if !c.isPcie n || c.role n = 1 || c.inDpc n then c
  else
    let c := c.dpcMark n reason
    if c.linkUp n then c.linkDown n 4 0x0C else c.setFld F.PRT_LINK_STATUS.LTSSM 0x0C n

/-- DPC Trigger Enable. -/
def Chip.dpcEnable (c : Chip) (n : Nat) : Nat := bits (c.cfgAt (.port n) 0x3C4) 17 16

/-- An unmasked uncorrectable error of the port that DPC Trigger Enable selects. -/
def Chip.dpcError (c : Chip) (n : Nat) : Bool :=
  (List.range 32).any fun b => c.cfgBit (.port n) 0x104 b && !c.cfgBit (.port n) 0x108 b &&
    (c.dpcEnable n == 2 || c.cfgBit (.port n) 0x10C b)

/-- A DPC trigger by its reason: 0 an error of the port, 1 ERR_NONFATAL received, 2 ERR_FATAL received. -/
def Chip.dpcTrigger (c : Chip) (n reason : Nat) : Chip :=
  let on := match reason with
    | 0 => (c.dpcEnable n == 1 || c.dpcEnable n == 2) && c.dpcError n
    | 1 => c.dpcEnable n == 2
    | _ => c.dpcEnable n == 1 || c.dpcEnable n == 2
  if on then c.dpcEnter n reason else c

/-- The DPC Software Trigger. -/
def Chip.dpcSoftware (c : Chip) (n : Nat) : Chip := if c.dpcEnable n = 0 then c else c.dpcEnter n 3

/-- Completions that a link down of a port owes and that have not left yet (R117). -/
def Chip.owes (c : Chip) (n : Nat) : Bool := (c.cel.copies ++ c.cel.waiting).any fun k => k.synthFor == some n

/-- DPC is released, and the link may train. -/
def Chip.dpcFree (c : Chip) (n : Nat) : Chip :=
  let c := (c.setCfg (.port n) 0x3C8 (c.cfgAt (.port n) 0x3C8 / 128 * 128)).putBitOf .FLT_CONTAIN_PORT n false
  (c.updPort n fun h => { h with dpcReleaseHeld := false }).freeLtssm n

/-- A write of 1 to DPC Trigger Status: at once when no completion is owed, else with the last of them. -/
def Chip.dpcRelease (c : Chip) (n : Nat) : Chip :=
  if !c.inDpc n then c
  else if c.owes n then c.updPort n fun h => { h with dpcReleaseHeld := true }
  else c.dpcFree n

/-- A held release takes effect with the last completion owed. -/
def Chip.dpcReleased (c : Chip) (n : Nat) : Chip :=
  if (c.port n).dpcReleaseHeld && !c.owes n then c.dpcFree n else c

/-! ### Bus Master Enable (R120 to R123, R254) -/

/-- What follows a change of Bus Master Enable in effect of a function. -/
def Dev.bmeFollow (d : Dev) (f : Fn) (was : Bool) : Dev :=
  let now := d.chip.bme f
  match f with
  | .mgmt p => if was && !now then d.onChip fun c => c.stallEngines p else if !was && now then d.resumeMaster p else d
  | _ => d

/-- Bus Master Enable of a function is written. -/
def Dev.writeBme (d : Dev) (f : Fn) (on : Bool) : Dev :=
  let was := d.chip.bme f
  (d.onChip fun c => c.putCfgBit f 0x04 2 on).bmeFollow f was

/-- The function that a command names. -/
def BmeFn.fn : BmeFn → Fn
  | .port n => .port n.val
  | .mgmt p => .mgmt p.val

end Sys2Proof.Machine
end

