-- ==== Sys2Proof/Machine/FltOps.lean ====
section
/-! DEFINITION. The fault collector (spec/14_faults_containment.md): the log, the actions of a severity, containment, the
safe state, injection, and the timers of the device's own requests. The meanings stand in Machine/Faults.lean. -/

namespace Sys2Proof.Machine

/-! ### The log (R472) -/

/-- PROD − CONS = 1,024. -/
def Chip.logFull (c : Chip) : Bool := (c.fld F.FLT_LOG_PROD.PROD + 2048 - c.fld F.FLT_LOG_CONS.CONS) % 2048 == 1024

/-- While no Owner exists Ecseric forwards and consumes what the log holds (R472). -/
def Chip.ownerlessLog (c : Chip) : Chip :=
  if c.owner?.isNone && c.lbx.ready && c.fld F.FLT_LOG_PROD.PROD != c.fld F.FLT_LOG_CONS.CONS then
    let c := if c.flag F.LBX_CTL.FLT_FWD 32 && !c.safe then c.smbAlert else c
    c.consumeLog
  else c

/-- An entry is written, DW0 to DW3 of Table 14.3 and the meta word of Table 14.9; when the log is full the message is lost
(R470). While no Owner exists Ecseric consumes it. -/
def Chip.logWrite (c : Chip) (m : FaultMsg) (sev flags : Nat) : Chip :=
  if c.logFull then c.logLost
  else
    let e := c.fld F.FLT_LOG_PROD.PROD % 1024
    let dw0 := m.source * 2 ^ 22 + m.kind * 2 ^ 14 + sev * 2 ^ 12 + (m.part.getD 0) % 32 * 2 ^ 7
    let w4 := b2n m.forced * 2 ^ 31 + b2n m.part.isSome * 2 ^ 30 + flags
    let c := [dw0, m.handle, m.handle / 2 ^ 32, m.time, w4].zipIdx.foldl (fun c w => c.setReg .FLT_LOG_W (word w.1) e w.2) c
    let c := c.incWrap F.FLT_LOG_PROD.PROD
    (c.setFld F.FLT_STATUS.LOG_FULL (b2n c.logFull)).ownerlessLog

/-! ### Containment (Table 14.7) -/

/-- What CONTAIN acts on. -/
inductive Scope where
  | ports (ns : List Nat)
  | jobs (js : List Nat)
  | channel (s : Nat)
  | segment
  | partition (p : Nat)
  | nothing
  deriving DecidableEq, Repr, Inhabited

/-- The configured ports of a tile with a lane from `lo`, for n lanes. -/
def Chip.portsOnLanes (c : Chip) (t lo n : Nat) : List Nat :=
  (rangeFrom (8 * t) 8).filter fun k => c.portEn k && (c.portLanes k).any fun l => lo ≤ l && l < lo + n

/-- The enabled jobs of a tile whose ring, staging area or program stores hold the address of ACD_ECC_ADDR. -/
def Chip.jobsAt (c : Chip) (t x : Nat) : List Nat :=
  (tileJobs t).filter fun j => c.jobEn j &&
    (if bit x 30 then (c.jobEngines j).elem (128 * t + bits x 27 21)
     else
       let a := bits x 20 0
       let ring := c.jfld F.ACD_JOB_RING.BASE j * 64
       let stage := c.jfld F.ACD_JOB_STAGE.STAGE j * 64
       (ring ≤ a && a < ring + c.ringBytes j) ||
         (stage ≤ a && a < stage + 2 * c.jfld F.ACD_JOB_SET.COUNT j * c.halfBytes j))

/-- The jobs of a tile that a message of sources 15 to 18 touches: the one that holds its address, the one that it names,
else every enabled job. -/
def Chip.jobScope (c : Chip) (t : Nat) (m : FaultMsg) : List Nat :=
  if m.kind = 0x12 || (m.kind = 0x1C && m.source % 32 = 15) then c.jobsAt t m.handle
  else if m.kind = 0x13 then [32 * t + m.handle % 32].filter c.jobEn
  else (tileJobs t).filter c.jobEn

/-- The scope of a message; LINK_DOWN takes that of R479, at its event. -/
def Chip.scopeOf (c : Chip) (m : FaultMsg) : Scope :=
  let t := m.source / 32
  let j := m.source % 32
  if m.kind = 0x01 then .nothing
  else if m.source < 0x180 && j < 8 then .ports (if c.portEn (8 * t + j) then [8 * t + j] else [])
  else if m.source < 0x180 && 8 ≤ j && j ≤ 11 then .ports (c.portsOnLanes t (16 * t + 4 * (j - 8)) 4)
  else if m.source < 0x180 && (j = 12 || j = 22) then .ports (c.portsOnLanes t (16 * t) 16)
  else if m.source < 0x180 && 15 ≤ j && j ≤ 18 then .jobs (c.jobScope t m)
  else if 0x1A8 ≤ m.source && m.source ≤ 0x1BF then .channel (m.source - 0x1A8)
  else if m.source = 0x1A0 then .segment
  else match m.part with
    | some p => .partition p
    | none => .nothing

/-- A scope with nothing in it. -/
def Scope.isEmpty : Scope → Bool
  | .ports ns => ns.isEmpty
  | .jobs js => js.isEmpty
  | .nothing => true
  | _ => false

/-- A Fuse Box channel is LATCHED by CONTAIN, with Power Fault Detected. -/
def Chip.containChan (c : Chip) (s : Nat) : Chip :=
  if c.fuState s = fuLatched then c
  else
    let c := (((c.gateOff s).setPg s false).assertPerst s).setFu s fuLatched
    let c := (c.setFld F.FUS_CHAN_STATUS.REQ_PEND 0 s).updFus s fun h => { h with coolOff := false, disabling := false }
    (c.inc F.FUS_CHAN_TRIPS.LATCHES s).chanEvent s 1

/-- Containment of a scope (R476). -/
def Chip.contain (c : Chip) : Scope → Chip
  | .ports ns => ns.foldl (fun c n => c.containPort n) c
  | .jobs js => js.foldl (fun c j => c.jobDisable j) c
  | .channel s => c.containChan s
  | .segment => (c.setFld F.FLT_CONTAIN_SEG.SEG 1).segFollow
  | .partition p => c.containPart p
  | .nothing => c

/-! ### The safe state (R487, R488) -/

/-- FAULT_N asserts (R475). -/
def Chip.assertFaultN (c : Chip) : Chip :=
  { c.setFld F.FLT_STATUS.FAULT_N_ACT 1 with pwr := { c.pwr with faultN := true } }

/-- Nothing is left of the packets in the device, and nothing is answered. -/
def Chip.discardAll (c : Chip) : Chip :=
  let c := { c with cel := { c.cel with copies := [], waiting := [], flcWaiting := [], meterHeld := [], capWaiting := [] } }
  { c with acd := { c.acd with emits := [] } }

/-- Entry to the safe state for a source and kind (Table 14.8). -/
def Chip.enterSafe (c : Chip) (source kind : Nat) : Chip :=
  if c.safe then c
  else
    let c := ((c.setFld F.FLT_SAFE_CAUSE.SOURCE source).setFld F.FLT_SAFE_CAUSE.KIND kind).assertFaultN
    let c := (c.setFld F.FLT_STATUS.SAFE 1).setFld F.FLT_STATUS.SAFE_SEEN 1
    let c := { c.enterSafeMode.setFld F.PWR_STATUS.ENTERING 0 with pwr := { c.pwr with entering := none } }
    let c := (allPorts.filter c.portEn).foldl (fun c n => c.putBitOf .FLT_CONTAIN_PORT n true) c
    let c := c.allDown 4
    let c := c.updLpb fun h => { h with queue := h.queue.filter fun e => e.copy.cat == .posted }
    let c := c.segReset
    let busy := c.acd.engs.filterMap fun (e : Nat × EngH) => if e.2.hand.isSome then some e.1 else none
    let c := (busy.foldl (fun c e => c.engineReset e) c).discardAll
    { c with lbx := { c.lbx with ready := false } }

/-! ### The collector (R469 to R475) -/

/-- The final severity of a message (R471). -/
def Chip.finalSev (c : Chip) (m : FaultMsg) : Nat :=
  if m.kind = 0x28 then 3
  else if c.flag F.FLT_SRC.SEV_OVR_EN m.source then c.fld F.FLT_SRC.SEV_OVR m.source
  else m.sev

/-- A message of its source is masked (R471). -/
def Chip.maskedMsg (c : Chip) (m : FaultMsg) : Bool := m.kind != 0x28 && c.flag F.FLT_SRC.MASK m.source

/-- The action bits of a message of a final severity (Table 14.6, R471, R473, R486, R488). -/
def Chip.actionsOf (c : Chip) (m : FaultMsg) (sev : Nat) : Nat :=
  let log := if m.kind = 0x01 then 1 else 0
  if c.safe then 1
  else if c.maskedMsg m then log
  else if m.forced then
    let a := if c.flag F.FLT_CFG.FORCE_DRY then 1 else c.fld F.FLT_ACT.ACT sev
    if m.source = 0x1DD || m.source = 0x1DE then Nat.lor a 32 else a
  else Nat.lor (c.fld F.FLT_ACT.ACT sev) log

/-- NOTIFY (R474). -/
def Chip.notifyFault (c : Chip) (m : FaultMsg) : Chip :=
  let v := c.fld F.FLT_CFG.NOTIFY_VEC
  let own := c.owner?
  let c := match own with
    | some p => if p < 32 then c.msix (.mgmt p) v else c
    | none => c
  let c := match m.part with
    | some p => if own = some p then c else c.msix (.mgmt p) v
    | none => c
  if c.flag F.LBX_CTL.FLT_FWD 32 && c.lbx.ready then c.smbAlert else c

/-- The collector takes a message: it is counted by its final severity, logged, and acted on. -/
def Chip.takeFault (c : Chip) (m : FaultMsg) : Chip :=
  let sev := c.finalSev m
  let c := c.inc F.FLT_SEV_CNT.COUNT sev
  if c.maskedMsg m && m.kind != 0x01 then c
  else
    let act := c.actionsOf m sev
    let scope := if bit act 4 then c.scopeOf m else .nothing
    let contained := m.kind = 0x01 || !scope.isEmpty
    let traced := bit act 3 && c.silState == 1
    let flags := b2n contained * 2 ^ 29 + b2n traced * 2 ^ 28 + b2n (bit act 5) * 2 ^ 27
    let c := if bit act 0 && !m.unlogged then c.logWrite m sev flags else c
    let c := if bit act 1 then c.notifyFault m else c
    let c := if bit act 2 then c.assertFaultN else c
    let c := if bit act 3 then c.silTrigger m.source m.kind false else c
    let c := c.contain scope
    let c := c.pulse 0xC06 0x11
    if bit act 5 then c.enterSafe m.source m.kind else c

/-- The message that the collector takes next: of the lowest source, the one raised first (R469). -/
def Chip.nextFault? (c : Chip) : Option FaultMsg :=
  c.flt.intake.foldl (fun best m =>
    match best with
    | none => some m
    | some b => if m.source < b.source then some m else some b) none

/-- FLT_SELF (R487, R580, Table 14.10): it passes by the intake and the action table. -/
def Chip.faultSelf (c : Chip) (source addr : Nat) : Chip :=
  let m : FaultMsg := { source, kind := 0x28, sev := 3, handle := addr, time := c.ns }
  let traced := c.silState == 1
  let c := c.inc F.FLT_SEV_CNT.COUNT 3
  let c := c.logWrite m 3 (b2n traced * 2 ^ 28 + b2n (!c.safe) * 2 ^ 27)
  (c.silTrigger source 0x28 false).enterSafe source 0x28

/-- A number that is a source ID (R465). -/
def isSource (s : Nat) : Bool := if s < 0x180 then s % 32 < 24 else s ≤ 0x1DF

/-- A write to FLT_FORCE_n that reached the register (R486). -/
def Chip.writeForce (c : Chip) (a : Access) (n : Nat) (v : Word) : Chip :=
  if !c.isExpert a.who then c.countDropped
  else
    let on := ((List.range 32).filter fun b => bit v.toNat b).map (32 * n + ·)
    let c := if on.all isSource then c else c.countClamp ⟨.FLT_FORCE, n, 0⟩
    (on.filter isSource).foldl (fun c s =>
      c.enqueueFault { source := s, kind := 0x2A, sev := c.fld F.FLT_SRC.FORCE_SEV s, forced := true, time := c.ns }) c

/-! ### Releases -/

/-- A write to FLT_STATUS: SAFE_SEEN, and FAULT_N outside the safe state (R475). -/
def Chip.writeFltStatus (c : Chip) (a : Access) (v : Word) : Chip :=
  let safe := c.safe
  let c := c.storeReg a ⟨.FLT_STATUS, 0, 0⟩ 0 (if safe then word (clrBit v.toNat 29) else v)
  if wbit v 29 && !safe then { c with pwr := { c.pwr with faultN := false } } else c

/-- A write to FLT_CONTAIN_PTN: partition containment is released (R477). -/
def Chip.writeContainPtn (c : Chip) (a : Access) (v : Word) : Chip := c.storeReg a ⟨.FLT_CONTAIN_PTN, 0, 0⟩ 0 v

/-- A write to FLT_CONTAIN_PORT_i (Table 14.7): a downstream or root port is released under R117 alone, and nothing is
released in the safe state (R489). -/
def Chip.writeContainPort (c : Chip) (a : Access) (i : Nat) (v : Word) : Chip :=
  let held (b : Nat) : Bool := let n := 32 * i + b; c.isPcie n && c.role n != 1
  let v' := if c.safe then 0 else (List.range 32).foldl (fun v b => if held b then clrBit v b else v) v.toNat
  let c := c.storeReg a ⟨.FLT_CONTAIN_PORT, i, 0⟩ 0 (word v')
  ((List.range 32).filter fun b => bit v' b).foldl (fun c b => c.freeLtssm (32 * i + b)) c

/-- A write to FLT_CONTAIN_SEG: the segment is released (Table 14.7). -/
def Chip.writeContainSeg (c : Chip) (a : Access) (v : Word) : Chip := c.storeReg a ⟨.FLT_CONTAIN_SEG, 0, 0⟩ 0 v

/-- A write to CTR_SNAP: FREEZE is stored, then SNAP and CLEAR act. -/
def Chip.writeSnap (c : Chip) (a : Access) (v : Word) : Chip := (c.cycSync.storeReg a ⟨.CTR_SNAP, 0, 0⟩ 0 v).ctrSnapBits v

/-! ### Completion timers and orphans (R482 to R485) -/

/-- The request of a device requester times out: it is answered with Unsupported Request, counted and reported, and its tag
is quarantined. -/
def Chip.requestTimeout (c : Chip) (part : Option Nat) (tag : Nat) : Chip :=
  match c.flt.dev.find? fun e => !e.quarantined && e.part == part && e.tag == tag with
  | none => c
  | some e =>
    let dev := c.flt.dev.map fun (r : DevReq) => if r == e then { r with quarantined := true } else r
    let c := { c with flt := { c.flt with dev } }
    let p : Packet := { kind := .cpl, status := .ur, hdrBytes := 12, tag, byteCount := e.len,
                        rid := match part with | some q => c.mgmtRid q | none => 0 }
    let c := (c.deliver e.who e.part p).inc F.FLT_CPL_TO_CNT.COUNT
    c.raise e.who.devSource 0x07 1 e.addr part

/-- 4 × limit has passed without the completion of a request that timed out: its tag returns to the allocator, and its
tracker entry is free. -/
def Chip.quarantineOver (c : Chip) (part : Option Nat) (tag : Nat) : Chip :=
  match c.quarantined? part tag with
  | none => c
  | some e =>
    let mine (t : Track) : Bool := t.copy.src == e.who && t.copy.oTag == tag && t.copy.part == part
    { c with flt := { c.flt with dev := c.flt.dev.filter fun r => r != e, track := c.flt.track.filter fun t => !mine t } }

/-- An orphan retires. -/
def Chip.orphanRetire (c : Chip) (hier rid tag : Nat) : Chip :=
  match c.flt.track.find? fun e => e.orphan && e.is hier rid tag with
  | none => c
  | some e => { c with flt := { c.flt with track := c.flt.track.erase e } }

end Sys2Proof.Machine
end

