-- ==== Sys2Proof/Machine/PwrOps.lean ====
section
/-! DEFINITION. Power states, supply and temperature monitors, the Attic, resets and the boot (spec/16_power_resets.md, the
boot of spec/15_letterbox_firmware.md). The meanings stand in Machine/Power.lean. -/

namespace Sys2Proof.Machine

/-- The power unit changed. -/
def Chip.updPwr (c : Chip) (f : PwrH → PwrH) : Chip := { c with pwr := f c.pwr }

/-- The power state, 0 to 4. -/
def Chip.ps (c : Chip) : Nat := c.fld F.PWR_STATUS.STATE

/-! ### The Attic (R551 to R554) -/

/-- Bytes of the Attic. -/
def atticSize : Nat := 0x10000

/-- The device with bytes written to the Attic. -/
def Dev.atticPut (d : Dev) (x : Nat) (bs : List Byte) : Dev := { d with mem := { d.mem with attic := Cells.putAll d.mem.attic x bs } }

/-- A write of the Attic; it is held while WARN is 1 (R542). -/
def Dev.atticWrite (d : Dev) (x : Nat) (bs : List Byte) : Dev :=
  if d.chip.flag F.PWR_SUPPLY.WARN then d.onChip fun c => c.updPwr fun h => { h with atticHeld := h.atticHeld ++ [(x, bs)] }
  else d.atticPut x bs

/-- A word in the Attic. -/
def Mem.atticWord (m : Mem) (x : Nat) : Nat := leNat (Cells.getAll m.attic x 4)

/-- The CRC of the Attic's contents. -/
def Mem.atticCrc (m : Mem) : Nat := crc32 (Cells.getAll m.attic 0 0xFFFC)

/-- The hardware save (Table 16.7, R552). -/
def Dev.atticSave (d : Dev) : Dev :=
  let c := d.chip
  let mode := c.opMode + c.fld F.GLB_MODE.PREV_MODE * 2 ^ 12
  let ws := [0x41545431, mode, (c.reg .PWR_RTC_LO).toNat, (c.reg .PWR_RTC_HI).toNat]
  let d := d.atticPut 0xFF00 (ws.flatMap (leBytes 4) ++ List.replicate 0xEC 0)
  d.atticPut 0xFFFC (leBytes 4 d.mem.atticCrc)

/-- The Attic loses its contents. -/
def Dev.atticLost (d : Dev) : Dev := { d with mem := { d.mem with attic := [] } }

/-- The check at an exit from PS3 (R553): the saved fields are restored, or COLD_START sets; MAGIC is cleared. -/
def Dev.atticCheck (d : Dev) : Dev :=
  let ok := d.mem.atticWord 0xFF00 == 0x41545431 && d.mem.atticWord 0xFFFC == d.mem.atticCrc
  let saved := d.mem.atticWord 0xFF04
  let d := d.atticPut 0xFF00 [0, 0, 0, 0]
  d.onChip fun c =>
    if ok then (c.setFld F.GLB_MODE.MODE (bits saved 3 0)).setFld F.GLB_MODE.PREV_MODE (bits saved 15 12)
    else (c.setFld F.PWR_STATUS.COLD_START 1).updPwr fun h => { h with atticBad := true }

/-! ### Throttle, supply and temperature (R541 to R546) -/

/-- WARN and THROTTLE follow their causes. -/
def Chip.throttleFollow (c : Chip) : Chip :=
  let warn := c.pwr.warnVdd || c.pwr.warnVaon
  (c.setFld F.PWR_SUPPLY.WARN (b2n warn)).setFld F.PWR_SUPPLY.THROTTLE (b2n (warn || c.pwr.hot))

/-- SUPPLY_WARN with the lowest level seen of a rail, 0 VDD or 1 VAON. -/
def Chip.raiseSupply (c : Chip) (rail : Nat) : Chip :=
  let mv := if rail = 0 then c.fld F.PWR_SUPPLY_MIN.VDD_MIN else c.fld F.PWR_SUPPLY_MIN.VAON_MIN
  c.raise (0x1CA + rail) 0x20 1 (mv * 2 ^ 48 + rail)

/-- A rail has fallen below its warning level, down to `mv` so far (R542). -/
def Chip.supplyWarn (c : Chip) (rail mv : Nat) : Chip :=
  let f := if rail = 0 then F.PWR_SUPPLY_MIN.VDD_MIN else F.PWR_SUPPLY_MIN.VAON_MIN
  let c := c.setFld f (min (c.fld f) mv)
  let c := (c.setFld F.PWR_SUPPLY.WARN_SEEN 1).setFld F.PWR_SUPPLY.RAIL rail
  let c := (c.updPwr fun h => if rail = 0 then { h with warnVdd := true } else { h with warnVaon := true }).throttleFollow
  if c.coreUp then c.raiseSupply rail
  else c.updPwr fun h => { h with warnOwed := if h.warnOwed.elem rail then h.warnOwed else h.warnOwed ++ [rail] }

/-- A rail has recovered (R543): Attic writes that were held proceed once WARN is 0. -/
def Dev.supplyRecovered (d : Dev) (rail : Nat) : Dev :=
  let d := d.onChip fun c =>
    (c.updPwr fun h => if rail = 0 then { h with warnVdd := false } else { h with warnVaon := false }).throttleFollow
  if d.chip.flag F.PWR_SUPPLY.WARN then d
  else
    let ws := d.chip.pwr.atticHeld
    let d := d.onChip fun c => c.updPwr fun h => { h with atticHeld := [] }
    ws.foldl (fun d w => d.atticPut w.1 w.2) d

/-- A temperature reading, 12 bits in two's complement (R545). -/
def Chip.temperature (c : Chip) (t : Nat) : Chip :=
  let c := c.setFld F.PWR_TEMP.TEMP t
  let v := signed 12 t
  let warn : Int := c.fld F.PWR_CFG.T_WARN
  let throt : Int := c.fld F.PWR_CFG.T_THROT
  let again := match c.pwr.thermalAt with
    | some at_ => Nat.ble (at_ + 1000 * msCycles) c.hwy
    | none => true
  let c := if v ≤ warn then c.updPwr fun h => { h with thermalAt := none }
    else if again && c.coreUp then (c.raise 0x1CE 0x21 1 t).updPwr fun h => { h with thermalAt := some c.hwy }
    else c
  (if throt < v then c.updPwr fun h => { h with hot := true }
    else if v ≤ throt - 40 then c.updPwr fun h => { h with hot := false }
    else c).throttleFollow

/-- A write to PWR_SUPPLY: clearing WARN_SEEN restarts both minima (R543). -/
def Chip.writeSupply (c : Chip) (a : Access) (v : Word) : Chip :=
  let c := c.storeReg a ⟨.PWR_SUPPLY, 0, 0⟩ 0 v
  if wbit v 30 then c.setReg .PWR_SUPPLY_MIN 0xFFFFFFFF else c

/-! ### Resets (R555 to R560, Table 16.9) -/

/-- What a reset of the core leaves of the state that no register shows: the level of each PERST_N, the flash, the TAP, the
model's own clock and trace. -/
def Chip.restart (c : Chip) : Chip :=
  let pins (e : Nat × PartH) : Option (Nat × PartH) :=
    if e.2.perst then some (e.1, { perst := true, inReset := true }) else none
  { c with heldLo := [], snaps := [], cfg := [], mode := {}, lanes := [], ports := [], fl := [], cel := {}, fab := {},
           parts := c.parts.filterMap pins, flcs := [], flcReqs := [], flt := {}, gat := {}, tim := {}, sched := {}, acd := {},
           lpb := {}, ctr := { since := c.hwy }, sil := {},
           lbx := { slotA := c.lbx.slotA, slotB := c.lbx.slotB, storeA := c.lbx.storeA, storeB := c.lbx.storeB } }

/-- A lifecycle transition that is pending takes effect (R588). -/
def Chip.lifecycleNext (c : Chip) : Chip :=
  match c.dbg.lcPending with
  | some s => { c.setFld F.GAT_LIFECYCLE.STATE s with dbg := { c.dbg with lcPending := none } }
  | none => c

/-- A debug access in progress is abandoned with STATUS ERROR (Table 17.7). -/
def Chip.dropDebug (c : Chip) : Chip :=
  if c.dbg.busy.isSome then { c with dbg := { c.dbg with busy := none, status := 3 } } else c

/-- The TAP, which VDDH feeds, loses its power (R583, R611): it comes up in Test-Logic-Reset (DEDUCED, log entry 38). -/
def Chip.tapOff (c : Chip) : Chip := { c with dbg := { c.dbg with ir := 1, boundary := [] } }

/-- A reset of the whole chip (POR or RST) with a cause for PWR_RESET_CAUSE: registers by their survival codes, every output
released, and the boot is due. A trace that Sillage was taking is kept (Table 17.3); the crystal goes on running through a
chip reset, and the PLLs take the reference that PWR_CFG.HREF prefers. -/
def Dev.resetChip (d : Dev) (ev : ResetEv) (cause : Nat) : Dev :=
  let pins := d.chip.seatPins
  let m := d.mem
  let mem := if ev = .por then Mem.mk [] [] [] else { m with attic := Cells.putAll m.attic 0xFF00 [0, 0, 0, 0] }
  let d := { d with mem }
  d.onChip fun c =>
    let xtal := c.fld F.PWR_STATUS.XTAL_OK
    let sil := c.silState
    let p := c.pwr
    let c := p.perstHeld.foldl (fun c e => c.updPart e.1 fun h => { h with perst := e.2 }) c
    let c := ((c.dropDebug.resetRegs ev fun _ => true).restart).lifecycleNext
    let kept : FusH := if ev = .por then {} else c.fusKept
    let c := if ev = .por then c.tapOff else c
    let c := { c with fus := kept }.showPins pins
    let c := { c with pwr := { resetN := p.resetN, vddLow := p.vddLow, chipRst := p.chipRst, vaonCell := p.vaonCell,
                               railsBad := p.railsBad || !p.coreOn, coreOn := true, slotOn := true, rtcFrac := p.rtcFrac } }
    let c := c.setFld F.PWR_STATUS.HREF_NOW (c.fld F.PWR_CFG.HREF)
    let c := if ev = .por then c else c.setFld F.PWR_STATUS.XTAL_OK xtal
    let c := if sil = 1 || sil = 2 then c.setFld F.FLT_SIL_STATUS.STATE (if ev = .por then 0 else 3) else c
    c.setFld F.PWR_RESET_CAUSE.CAUSE cause

/-- A register that Table 16.9 counts with FUS: those of its block, and the counters of the Fuse Box channels, which Table 17.1
holds there. -/
def RegKey.ofFus (k : RegKey) : Bool := k.reg.block == .fus || (k.reg.block == .tct && Nat.ble 0xC10 k.i)

/-- The hidden part of the counters of the Fuse Box channels: group 14 of the clocks. -/
def CtrH.ofFus (h : CtrH) : CtrH :=
  { cycles := Table.set 0 [] 14 (h.cycles.get 0 14), since := h.since, snap := Table.set 0 [] 14 (h.snap.get 0 14),
    held := h.held.filter fun q => Nat.ble 0xC10 q.1 }

/-- The core domain loses its power: every register outside PWR, and outside FUS when the SLOT domain stays on, takes its
Reset value (R17). -/
def Dev.loseCore (d : Dev) (slot : Bool) : Dev :=
  let pins := d.chip.seatPins
  let keeps (k : RegKey) : Bool := k.reg.block == .pwr || (slot && k.ofFus)
  let d := d.onChip fun c =>
    let ctr := c.cycSync.ctr.ofFus
    let c := (c.dropDebug.resetRegs .por fun k => !keeps k).restart.tapOff
    if slot then { c with ctr } else { c with fus := {} }.showPins pins
  { d with mem := { d.mem with pantry := [], fw := [] } }

/-! ### The boot (R514 to R518, R522, R525, Table 15.10) -/

/-- A word of an image slot; past its end the flash reads erased. -/
def flashWord (ws : List Word) (i : Nat) : Nat := (ws.getD i 0xFFFFFFFF).toNat

/-- Bytes of an image slot, from an offset. -/
def flashBytes (ws : List Word) (x n : Nat) : List Nat :=
  (rangeFrom x n).map fun a => bits (flashWord ws (a / 4)) (8 * (a % 4) + 7) (8 * (a % 4))

/-- SVN of an image. -/
def imageSvn (ws : List Word) : Nat := flashWord ws 2 % 256

/-- The first three checks of R516 but SVN: MAGIC, LENGTH and the key digest. -/
def imageHeader (ws : List Word) : Bool :=
  flashWord ws 0 == 0x45435352 && Nat.ble 4 (flashWord ws 3) && Nat.ble (flashWord ws 3) 4190208 &&
    Config.keyOk (flashBytes ws 0x40 97)

/-- The signature of an image verifies. -/
def imageSigned (ws : List Word) : Bool :=
  Config.sigOk (flashBytes ws 0x40 97) (flashBytes ws 0 0x100 ++ flashBytes ws 0x1000 (flashWord ws 3)) (flashBytes ws 0x100 96)

/-- An image passes the first three checks of R516. -/
def Chip.imageFit (c : Chip) (ws : List Word) : Bool := imageHeader ws && Nat.ble (c.fld F.LBX_FW_STATUS.MIN_SVN) (imageSvn ws)

/-- An image is accepted (R516). -/
def Chip.imageOk (c : Chip) (ws : List Word) : Bool := c.imageFit ws && imageSigned ws

/-- The words of an image slot, 0 A or 1 B. -/
def Chip.slotImage (c : Chip) (s : Nat) : List Word := if s = 0 then c.lbx.slotA else c.lbx.slotB

/-- The slot that is tried first (R516). -/
def Chip.firstSlot (c : Chip) : Nat :=
  let a := c.imageFit c.lbx.slotA
  let b := c.imageFit c.lbx.slotB
  if b && (!a || Nat.blt (flashWord c.lbx.slotA 1) (flashWord c.lbx.slotB 1)) then 1 else 0

/-- The valid copy of the store with the higher GEN, with its number (R525). -/
def Chip.bestStore? (c : Chip) : Option (Nat × StoreCopy) :=
  match c.lbx.storeA, c.lbx.storeB with
  | some a, some b => if a.gen < b.gen then some (1, b) else some (0, a)
  | some a, none => some (0, a)
  | none, some b => some (1, b)
  | none, none => none

/-- The fields of a register that the store covers (R522). -/
def RegKey.storedFields (k : RegKey) : List FieldRow :=
  let blocks := [Blk.glb, .tim, .fus, .lpb, .gat, .fab, .cel, .flt, .sds, .prt, .sch, .acd]
  let covered (f : FieldRow) : Bool := f.acc.stores && (f.surv == .pfr || f.surv == .pfrAtt)
  if decide (k.reg.block ∈ blocks) || k.reg = .LBX_ELECT_CFG || k.reg = .LBX_SMB_CFG then k.reg.fields.filter covered else []

/-- A register word with the stored fields of another. -/
def RegKey.withStored (k : RegKey) (old new : Word) : Word :=
  k.storedFields.foldl (fun w f => wset w f.hi f.lo (wget new f.hi f.lo)) old

/-- A stored setting reaches its register, and what it decides follows (R79, R246, R312, R322). -/
def Chip.putStored (c : Chip) (e : RegKey × Word) : Chip :=
  let was := c.timFree
  let c := if e.1.reg = .GLB_TILE_EN then c.cycSync else c
  let c := { c with regs := c.regs.set e.1 (e.1.withStored (c.regs.get e.1) e.2) }
  match e.1.reg with
  | .TIM_CFG => c.srcFollow was
  | .SDS_LN_TXEQ => (c.mainFollow e.1.i).txFollow e.1.i
  | .TIM_ACT_A => c.armSlot e.1.i
  | .FAB_DRT_A => c.setFld F.FAB_DRT_A.SIDE 0 e.1.i
  | .FLT_SIL_CFG => { c with regs := c.regs.erase e.1 }.writeSilCfg e.2
  | _ => c

/-- Ecseric applies the settings of a store copy: gate settings and LOCK bits with one commit, then the rest; what starts
with a setting starts last (R517, R522). -/
def Chip.applyStore (c : Chip) (x : StoreCopy) : Chip :=
  let last (k : RegKey) : Bool := decide (k.reg ∈ [Reg.FUS_CHAN_CFG, .ACD_JOB_CFG, .SCH_GCL_CTL, .TIM_ACT_A])
  let a : Access := { who := .fw }
  let c := (x.regs.filter fun (e : RegKey × Word) => isGateReg e.1.reg).foldl Chip.putStored c
  let c := x.locks.foldl (fun c (e : RegKey × Word) => { c with regs := c.regs.set e.1 (c.regs.get e.1 ||| e.2) }) c
  let c := c.commitGates
  let c := (x.regs.filter fun (e : RegKey × Word) => !isGateReg e.1.reg && !last e.1).foldl Chip.putStored c
  let c := c.routeCommit
  (x.regs.filter fun (e : RegKey × Word) => last e.1).foldl (fun c (e : RegKey × Word) =>
    match e.1.reg with
    | .FUS_CHAN_CFG => c.writeFuCfg a e.1.i e.2
    | .ACD_JOB_CFG => c.writeJobCfg a (32 * e.1.i + e.1.j) e.2
    | .TIM_ACT_A => c.putStored e
    | _ => c.writeGclCtl a e.1.i e.2) c

/-- Ecseric restores the partitions whose PERST_N is deasserted (R106). -/
def Chip.restoreParts (c : Chip) : Chip :=
  { c with parts := c.parts.map fun (e : Nat × PartH) =>
      if e.2.perst then e else (e.1, { e.2 with inReset := false, rrs := false, flr := false }) }

/-- The transition at the end of a boot (Table 1.7): toward the stored target mode, or after an exit from PS3 toward
PREV_MODE. -/
def Chip.bootMode (c : Chip) (store : Option StoreCopy) (resume : Bool) : Chip :=
  if resume then
    let m := c.fld F.GLB_MODE.PREV_MODE
    if !isForwarding m || c.prereqMet m then c.enterMode m 0 else c.enterMode 9 2
  else match store with
    | none => c.setFld F.GLB_MODE.LAST_RESULT 2
    | some x =>
      if x.mode = 9 then c.setFld F.GLB_MODE.LAST_RESULT 0
      else if isForwarding x.mode && c.prereqMet x.mode then c.enterMode x.mode 0
      else c.setFld F.GLB_MODE.LAST_RESULT 2

/-- What Ecseric does after a boot: without an Owner it consumes the entries that stood in the log (R472), and it
reports a failed check of the Attic, a brown-out, warnings of a supply in PS3. -/
def Chip.bootReports (c : Chip) : Chip :=
  let c := c.ownerlessLog
  let c := if c.pwr.atticBad then c.raise 0x1CD 0x2B 1 else c
  let c := if c.pwr.brownOut then c.raise 0x1CC 0x2C 1 else c
  let c := c.pwr.warnOwed.foldl (fun c r => c.raiseSupply r) c
  c.updPwr fun h => { h with atticBad := false, brownOut := false, warnOwed := [] }

/-- In RETURN Ecseric erases both store copies and the firmware area of the Attic before it reads them (Table 17.6). -/
def Dev.eraseReturn (d : Dev) : Dev :=
  if d.chip.lifecycle != 2 then d
  else
    let d := d.atticPut 0 (List.replicate 0xFF00 0)
    d.onChip fun c => { c with lbx := { c.lbx with storeA := none, storeB := none } }

/-- The boot of Table 15.10. `resume` says that it follows an exit from PS3 without COLD_START. -/
def Dev.boot (d : Dev) (resume : Bool) : Dev :=
  let d := d.onChip fun c => c.updPwr fun h => { h with bootDue := false }
  let first := d.chip.firstSlot
  let order := [first, 1 - first]
  match order.find? fun s => d.chip.imageOk (d.chip.slotImage s) with
  | none =>
    d.onChip fun c =>
      let c := order.foldl (fun c s => c.raise 0x1D9 0x25 1 s) c
      ((if resume then c.enterMode 9 2 else c).setFld F.LBX_FW_STATUS.RECOVERY 1).bootReports
  | some s =>
    let ws := d.chip.slotImage s
    let body := (flashBytes ws 0x1000 (flashWord ws 3)).map (BitVec.ofNat 8)
    let d : Dev := { d with mem := { d.mem with fw := Cells.putAll [] 0 body } }
    let d := d.onChip fun c =>
      let c := if s = first then c else c.raise 0x1D9 0x25 1 first
      let c := ((c.setFld F.LBX_FW_STATUS.SLOT s).setFld F.LBX_FW_STATUS.ACCEPTED (2 ^ s)).setFld F.LBX_FW_STATUS.SVN (imageSvn ws)
      c.setFld F.LBX_FW_VERSION.VERSION (flashWord ws 1)
    let d := d.eraseReturn
    d.onChip fun c =>
      let st := c.bestStore?
      let valid := b2n c.lbx.storeA.isSome + 2 * b2n c.lbx.storeB.isSome
      let c := c.setFld F.LBX_STORE_STATUS.VALID valid
      let c := match st with
        | some (n, x) =>
          let c := (c.setFld F.LBX_STORE_STATUS.APPLIED n).setFld F.LBX_STORE_GEN.GEN x.gen
          { c.applyStore x with lbx := { c.lbx with expertMask := x.mask } }
        | none => c
      let c := { c.restoreParts with lbx := { c.lbx with ready := true } }
      (c.bootMode (st.map (·.2)) resume).bootReports

/-- The boot runs once nothing holds the core any longer. -/
def Dev.tryBoot (d : Dev) : Dev := if d.chip.coreUp && d.chip.pwr.bootDue then d.boot false else d

/-! ### Wake sources (R547 to R549) -/

/-- A lane is armed. -/
def Chip.laneArmed (c : Chip) (l : Nat) : Bool :=
  c.flag F.PWR_WAKE_EN.LANE && c.flag F.SDS_LN_PWR.WAKE_ARM l &&
    (rangeFrom (8 * (l / 16)) 8).any fun n => c.portEn n && (c.portLanes n).elem l

/-- The armed lanes. -/
def Chip.armedLanes (c : Chip) : List Nat := (List.range 192).filter c.laneArmed

/-- A Fleren port is armed for the wake pattern. -/
def Chip.portArmed (c : Chip) (n : Nat) : Bool :=
  c.flag F.PWR_WAKE_EN.FLEREN && c.isFleren n && (c.portLanes n).any c.laneArmed

/-- The sum of Table 16.4 for the present settings, in units of 5 µA. -/
def Chip.lpLoad (c : Chip) : Nat :=
  let lanes := c.armedLanes
  let quads := (lanes.map (· / 4)).eraseDups
  let ports := allPorts.filter c.portArmed
  let chans := (List.range 24).filter fun s => c.flag F.FUS_CHAN_CFG.WAKE s && c.flag F.FUS_CHAN_CFG.EN s
  2 * (120 + 1 + 600 + 2 * b2n (c.flag F.PWR_WAKE_EN.ALARM)) + 17 * lanes.length + 60 * quads.length + 24 * ports.length +
    4 * chans.length

/-- PWR_LP_BUDGET as it reads, in units of 10 µA; which way a half is rounded is free. -/
def Chip.lpBudget (c : Chip) : Nat := (c.lpLoad + Config.freeWord [0x539, c.lpLoad] % 2) / 2

/-- A wake source is armed in a power state (Table 16.6). -/
def Chip.wakeArmed (c : Chip) (src idx st : Nat) : Bool :=
  let off := st == 3 || st == 4
  match src with
  | 1 => st != 4 && (if off then c.pwr.armedLanes.elem idx else c.laneArmed idx)
  | 2 => st != 4 && (if off then c.pwr.armedPorts.elem idx else c.portArmed idx)
  | 3 => true
  | 4 => st != 4 && idx < 24 && c.flag F.PWR_WAKE_EN.FUSE && c.flag F.FUS_CHAN_CFG.WAKE idx
  | 5 => st != 4 && c.flag F.PWR_WAKE_EN.ALARM
  | 6 => st == 1 || st == 2
  | _ => false

/-- The record of a wake event (R548). -/
def Chip.recordWake (c : Chip) (src idx st : Nat) : Chip :=
  let c := c.setReg .PWR_WAKE_LAST (word (2 ^ 31 + st * 2 ^ 24 + src * 2 ^ 20 + idx % 1024))
  c.setPair .PWR_WAKE_RTC_LO .PWR_WAKE_RTC_HI (c.pair .PWR_RTC_LO .PWR_RTC_HI)

/-- A further event of an exit in progress. -/
def Chip.pendWake (c : Chip) (src : Nat) : Chip :=
  c.setReg .PWR_WAKE_PEND (word (setBit (c.reg .PWR_WAKE_PEND).toNat src))

/-- An entry is abandoned with a code. -/
def Chip.abandonEntry (c : Chip) (code : Nat) : Chip :=
  ((c.setFld F.PWR_STATUS.ENTERING 0).setFld F.PWR_STATUS.ENTRY_FAIL code).updPwr fun h => { h with entering := none }

/-- An exit from a low-power state starts (Table 16.2). -/
def Chip.startExit (c : Chip) (st : Nat) : Chip :=
  let c := (c.cycSync.setFld F.PWR_STATUS.EXITING 1).updPwr fun h => { h with leaving := some st }
  if st = 2 then
    let c := c.updPwr fun h => { h with mgmtAwake := true }
    (List.range 192).foldl (fun c l => (c.laneWake l).exitFollow l) c
  else if 3 ≤ st then
    c.updPwr fun h => { h with coreOn := true, slotOn := true, railsBad := true }
  else c

/-- A firing of a source is a wake event: the source is armed in the state that is left or held, and in PS0 the mode waits
for an entry (R43, R547, Table 16.6). -/
def Chip.wakes (c : Chip) (src idx : Nat) : Bool :=
  !(c.held && c.ps != 4) && c.wakeArmed src idx c.ps && (c.ps != 0 || c.opMode == 0xB)

/-- A wake event (R43, R547, R548, Table 16.12). -/
def Chip.wake (c : Chip) (src idx : Nat) : Chip :=
  let st := c.ps
  if !c.wakes src idx then c
  else if c.pwr.leaving.isSome then c.pendWake src
  else if st = 0 then
    let c := c.recordWake src idx 0
    let c := if c.pwr.entering.isSome then c.abandonEntry 3 else c
    { c with mode := { c.mode with wakeHeld := true } }
  else (c.recordWake src idx st).startExit st

/-- Two sources fire in one always-on cycle: the lower code of those that are armed is recorded, and where both are, both
bits are set in WAKE_PEND (R548). -/
def Chip.wakeBoth (c : Chip) (src idx src' idx' : Nat) : Chip :=
  if !c.wakes src idx then c.wake src' idx'
  else if !c.wakes src' idx' then c.wake src idx
  else ((if src' < src then c.wake src' idx' else c.wake src idx).pendWake src).pendWake src'

/-! ### Entry (R529 to R532, R539) -/

/-- A write to PWR_CTL: TARGET, GO and CHIP_RST (R529, R557). -/
def Dev.writePwrCtl (d : Dev) (a : Access) (v : Word) : Dev :=
  let k : RegKey := ⟨.PWR_CTL, 0, 0⟩
  let d := d.onChip fun c =>
    let c := (c.storeReg a k 0 v).setFld F.PWR_CTL.CHIP_RST 0
    if !wbit v 31 then c
    else if c.opMode = 0xB && !c.flag F.GLB_MODE.BUSY && !c.mode.wakeHeld && c.ps = 0 && c.pwr.entering.isNone && c.pwr.leaving.isNone then
      ((c.setFld F.PWR_STATUS.ENTRY_FAIL 0).setFld F.PWR_STATUS.ENTERING 1).updPwr fun h =>
        { h with entering := some (c.fld F.PWR_CTL.TARGET) }
    else c.countClamp k
  if wbit v 30 && d.chip.isExpert a.who then
    (d.resetChip .rst 5).onChip fun c => c.updPwr fun h => { h with chipRst := true }
  else d

/-- The links allow an entry to PS1 or PS2 (R530). -/
def Chip.linksIdle (c : Chip) (st : Nat) : Bool :=
  allPorts.all fun n =>
    if c.isFleren n then decide (c.lstate n ∈ [flLp, flDown, flDisabled])
    else if c.isPcie n && c.flag F.PRT_LINK_STATUS.DL_ACTIVE n then
      let pm := c.fld F.PRT_LINK_STATUS.PM_STATE n
      if st = 1 then 2 ≤ pm && pm ≤ 4 else pm == 4
    else true

/-- The entry is over and the device is in its state. -/
def Chip.entered (c : Chip) (st : Nat) : Chip :=
  ((c.cycSync.setFld F.PWR_STATUS.ENTERING 0).setFld F.PWR_STATUS.STATE st).updPwr fun h =>
    { h with entering := none, mgmtAwake := false }

/-- The steps of R532 for PS3 and PS4; in PS4 the crystal stops (Table 16.10, R549). -/
def Dev.enterDeep (d : Dev) (st : Nat) : Dev :=
  let lanes := d.chip.armedLanes
  let ports := allPorts.filter d.chip.portArmed
  let d := d.onChip fun c =>
    let c := (List.range 32).foldl (fun c p => if c.configured p then c.partFundamental p else c) c
    c.allDown.segReset
  let d := if st = 3 then d.atticSave else d.atticLost
  let d := if st = 3 then d else d.onChip Chip.fuReleaseAll
  let d := d.onChip fun c => if st = 4 then (c.entered st).setFld F.PWR_STATUS.XTAL_OK 0 else c.entered st
  (d.loseCore (st == 3)).onChip fun c => c.updPwr fun h =>
    { h with coreOn := false, slotOn := st == 3, armedLanes := if st = 3 then lanes else [],
             armedPorts := if st = 3 then ports else [], bootDue := true }

/-- The entry in progress goes on as far as it may. -/
def Dev.proceedEntry (d : Dev) : Dev :=
  let c := d.chip
  match c.pwr.entering with
  | none => d
  | some st =>
    if c.opMode != 0xB || c.mode.wakeHeld || c.flag F.PWR_SUPPLY.WARN then d
    else if st ≤ 2 then if c.linksIdle st then d.onChip fun c => (c.entered st).segFollow else d
    else if st = 3 && 4400 < c.lpLoad then d.onChip fun c => c.abandonEntry 2
    else if c.dbg.busy.isSome then d
    else d.enterDeep st

/-- ENTRY_TMO has passed since GO (R531, R543). -/
def Chip.entryTimeout (c : Chip) : Chip :=
  if c.pwr.entering.isNone then c else c.abandonEntry (if c.flag F.PWR_SUPPLY.WARN then 4 else 1)

/-! ### Exit (R535) -/

/-- The core rails are good: at power-on the retention cell is copied; on an exit the Attic is checked. -/
def Dev.railsGood (d : Dev) : Dev :=
  if !d.chip.pwr.railsBad || !d.chip.pwr.coreOn then d
  else
    let d := d.onChip fun c => c.updPwr fun h => { h with railsBad := false }
    match d.chip.pwr.leaving with
    | some 3 => d.atticCheck
    | some _ => d.onChip fun c => c.setFld F.PWR_STATUS.COLD_START 1
    | none =>
      let d := if d.chip.pwr.vaonCell then d.onChip fun c =>
          (c.setFld F.PWR_RESET_CAUSE.CAUSE 4).updPwr fun h => { h with vaonCell := false } else d
      d.tryBoot

/-- The last step of an exit, `us` microseconds after the wake: chassis time counts again (R316), and a start that waited for
PS0 is tested (R460). -/
def Dev.exitDone (d : Dev) (us : Nat) : Dev :=
  let finish (d : Dev) : Dev := d.onChip fun c =>
    (((c.cycSync.setFld F.PWR_STATUS.STATE 0).setFld F.PWR_STATUS.EXITING 0).setFld F.PWR_EXIT_LAST.TIME (min us (2 ^ 24 - 1))).updPwr
      fun h => { h with leaving := none, armedLanes := [], armedPorts := [] }
  let back (d : Dev) (lost : Bool) : Dev := d.onChip fun c => c.timReturn lost
  match d.chip.pwr.leaving with
  | none => d
  | some st =>
    if st ≤ 2 then (back (finish d) false).onChip fun c => c.perstApply.resumeMode.fuCheckAll
    else if d.chip.pwr.railsBad then d
    else
      let cold := d.chip.flag F.PWR_STATUS.COLD_START
      let d := if cold && !d.chip.pwr.brownOut then d.onChip fun c => c.setFld F.PWR_RESET_CAUSE.CAUSE 8 else d
      let d := back (finish d) true
      let d := if cold then d.tryBoot else if d.chip.coreUp then d.boot true else d
      d.onChip Chip.fuCheckAll

/-- A brown-out (R540), on an exit from PS3 up to step 4 of Table 16.2 (Table 16.12). -/
def Dev.brownOut (d : Dev) : Dev :=
  let mark (d : Dev) : Dev := (d.atticLost).onChip fun c =>
    ((c.setFld F.PWR_RESET_CAUSE.CAUSE 7).setFld F.PWR_STATUS.COLD_START 1).updPwr fun h => { h with brownOut := true }
  match d.chip.pwr.leaving with
  | some 3 => if !d.chip.pwr.railsBad then d else (mark d).onChip fun c => (c.setReg .GLB_MODE (RegKey.reset ⟨.GLB_MODE, 0, 0⟩)).updPwr fun h => { h with leaving := some 4 }
  | some _ => d
  | none =>
    if d.chip.ps = 3 then
      let d := ((mark d).onChip Chip.fuReleaseAll).loseCore false
      d.onChip fun c => ((c.setFld F.PWR_STATUS.STATE 4).setFld F.PWR_STATUS.XTAL_OK 0).updPwr fun h =>
        { h with slotOn := false, armedLanes := [], armedPorts := [] }
    else if d.chip.ps = 4 then mark d
    else d

/-! ### The clock of the RTC, the alarm (R549) -/

/-- One Hallway cycle of the RTC. -/
def Chip.rtcTick (c : Chip) : Chip :=
  if !c.flag F.PWR_STATUS.XTAL_OK || c.ps = 4 then c
  else
    let f := c.pwr.rtcFrac + 32768
    if f < 2000000000 then c.updPwr fun h => { h with rtcFrac := f }
    else (c.setPair .PWR_RTC_LO .PWR_RTC_HI ((c.pair .PWR_RTC_LO .PWR_RTC_HI + 1) % 2 ^ 48)).updPwr fun h =>
      { h with rtcFrac := f - 2000000000 }

/-- The alarm fires once. -/
def Chip.alarm (c : Chip) : Chip :=
  if !c.flag F.PWR_ALARM_CTL.EN || !c.flag F.PWR_STATUS.XTAL_OK || c.ps = 4 then c
  else
    let c := (c.setFld F.PWR_ALARM_CTL.EN 0).setFld F.PWR_ALARM_CTL.FIRED 1
    if c.ps = 0 then c else c.wake 5 0

/-! ### Faults in a low-power state (R550, Table 16.12) -/

/-- The collector's next message in the power state of the device: one of severity uncorrected-contained or fatal in PS1 or
PS2 wakes the device and is taken in PS0; any other wakes the management domain in PS2. -/
def Chip.collect (c : Chip) : Chip :=
  match c.nextFault? with
  | none => c
  | some m =>
    let low := c.ps == 1 || c.ps == 2
    if low && Nat.ble 2 (c.finalSev m) && !c.maskedMsg m then
      if c.pwr.leaving.isSome then c else c.wake 6 m.source
    else
      let c := if c.ps = 2 then c.cycSync.updPwr fun h => { h with mgmtAwake := true } else c
      { c with flt := { c.flt with intake := c.flt.intake.erase m } }.takeFault m

end Sys2Proof.Machine
end

