-- ==== Sys2Proof/Machine/BusOps.lean ====
section
/-! DEFINITION. The register bus behind BAR0 (R3 to R13, R614 to R620): which writes a register takes and how, what a read
returns and does, and the windows of the Pantry. -/

namespace Sys2Proof.Machine

/-! ### Conditions and clamps of plain registers (R504, R620) -/

/-- The tile through which an offset reaches a register instance (R299). -/
def busTile (k : RegKey) (off : Nat) : Nat := if 0x1000000 ≤ off then tileAt off else k.tile

/-! ### Effects of plain writes -/

/-- A change of a port's configuration takes a live link down, and its Fleren state follows (R90, R99); lanes that no enabled
port owns any longer are OFF (Table 2.3). -/
def Chip.portCfgWrite (c : Chip) (a : Access) (n : Nat) (v : Word) : Chip :=
  let k : RegKey := ⟨.PRT_PORT_CFG, n, 0⟩
  let new := c.storeReg a k k.tile v (c.clampTo k)
  if new.reg .PRT_PORT_CFG n = c.reg .PRT_PORT_CFG n then new
  else
    let off := c.isFleren n && !(new.isFleren n && new.tileEn (tileOf n))
    let live := c.portEn n && (c.flag F.PRT_LINK_STATUS.DL_ACTIVE n || (4 ≤ c.lstate n && c.lstate n ≤ 6))
    let c := if off then c.flDownTo n 6 flDisabled else if live then c.linkDown n 6 0 else c
    let had := if c.portEn n then c.portLanes n else []
    let c := ((c.storeReg a k k.tile v (c.clampTo k)).flFollow n).freeLtssm n
    (had.filter fun l => (c.laneOwner? l).isNone).foldl (fun c l => c.laneOff l) c

/-- A pending handover whose target has stopped being configured is cancelled (Table 15.11). -/
def Chip.handoverFollow (c : Chip) : Chip :=
  if c.flag F.LBX_OWNER.HO_PEND && c.fld F.LBX_OWNER.HO_TARGET < 32 && (c.upPort? (c.fld F.LBX_OWNER.HO_TARGET)).isNone then
    c.cancelHandover
  else c

/-- Storing a plain register, and what follows from its new value. -/
def Chip.plainWrite (c : Chip) (a : Access) (k : RegKey) (t : Nat) (v : Word) : Chip :=
  if !c.accepts k then c.countClamp k t
  else
    let rule := c.flag F.ACD_CAP_A.EN k.i k.j
    let v := word (c.segBase k (c.cleared k v.toNat))
    let c := c.storeReg a k t v (c.clampTo k)
    match k.reg with
    | .GLB_PTN_CFG => c.handoverFollow
    | .LPB_CFG => c.segFollow
    | .FLT_LOG_CONS => c.setFld F.FLT_STATUS.LOG_FULL (b2n c.logFull)
    | .ACD_CAP_A =>
      if !rule && c.flag F.ACD_CAP_A.EN k.i k.j then
        { c with acd := { c.acd with expected := c.acd.expected.set none (64 * k.i + k.j) none } }
      else c
    | _ => c

/-- The HI write of a 64-bit pair updates both halves (R6); `held` is the LO value that was held. -/
def Chip.pairWrite (c : Chip) (lo hi : RegKey) (t : Nat) (held : Option Word) (v : Word) : Chip :=
  let l := held.getD (c.regs.get lo)
  let n := v.toNat * 2 ^ 32 + l.toNat
  let m := c.pairMask lo n
  let c := { c with regs := (c.regs.set lo (word m)).set hi (word (m / 2 ^ 32)) }
  if lo.reg = .GLB_FLC_BASE_LO && m != n then c.countClamp hi t else c

/-- A LO value held for a pair, by the LO register. -/
def Chip.heldFor (c : Chip) (lo : RegKey) : Option Word := (c.heldLo.find? fun e => e.1 == lo).map (·.2)

/-- Holding a LO value; a second one replaces it (R6). -/
def Chip.holdLo (c : Chip) (lo : RegKey) (v : Word) : Chip :=
  { c with heldLo := (lo, v) :: c.heldLo.filter fun e => e.1 != lo }

/-- A field of the register takes a stored value. -/
def Reg.writable (r : Reg) : Bool := r.fields.any fun f => f.acc.stores

/-- The lane of SDS_LN_TXEQ is in an equalisation phase: its port shows Recovery.Equalization. -/
def Chip.inEq (c : Chip) (l : Nat) : Bool :=
  (rangeFrom (8 * (l / 16)) 8).any fun n => c.isPcie n && (c.portLanes n).elem l && c.ltssm n == 6

/-- A configuration cycle of the segment that an access makes by itself: what the card answers is free. -/
def Chip.segCfgFree (c : Chip) (write : Bool) (v : Word) : Chip :=
  let x := c.freeVal
  let y := c.drawn.freeVal
  c.drawn.drawn.segCfgCycle write v (if x % 2 = 0 then none else some (word y))

/-- The own effect of a write that passed, of a register that only the chip is concerned in. -/
def Chip.regWrite (c : Chip) (a : Access) (k : RegKey) (t : Nat) (v : Word) : Chip :=
  match k.reg with
  | .GLB_MODE => c.writeMode a v
  | .GLB_TILE_EN => c.writeTileEn a v
  | .GLB_FLC_CMD => c.writeFlcCmd v
  | .FLT_STATUS => c.writeFltStatus a v
  | .FLT_CONTAIN_PTN => c.writeContainPtn a v
  | .FLT_CONTAIN_PORT => c.writeContainPort a k.i v
  | .FLT_CONTAIN_SEG => c.writeContainSeg a v
  | .FLT_FORCE => c.writeForce a k.i v
  | .FLT_SIL_CFG => c.writeSilCfg v
  | .FLT_SIL_CTL => if wbit v 31 then c.silTrigger 0 0 true else c
  | .PWR_SUPPLY => c.writeSupply a v
  | .TIM_CFG => c.writeTimCfg a v
  | .TIM_RATE_ADJ | .TIM_OFS_ADJ => c.writeTimDisc a k v
  | .TIM_ADJ_CTL => c.writeAdjCtl a v
  | .TIM_ACT_A => c.writeActA a k.i v
  | .TIM_ACT_B | .TIM_ACT_PERIOD | .TIM_ACT_COUNT | .TIM_ACT_MASK => c.writeAct a k v
  | .TIM_MTX_A => c.writeMtxA a k.i v
  | .FUS_CTL => c.writeFusCtl v
  | .FUS_CHAN_CFG => c.writeFuCfg a k.i v
  | .FUS_CHAN_CTL => c.writeFuCtl k.i v
  | .LPB_CFG_DATA => c.segCfgFree true v
  | .CTR_SNAP => c.writeSnap a v
  | .GAT_COMMIT => c.writeGatCommit v
  | .FAB_ROUTE_COMMIT => c.writeRouteCommit v
  | .SDS_LN_TXEQ => c.writeTxeq a k.i v (c.inEq k.i)
  | .SDS_LN_RXCTL => c.writeRxctl a k.i v
  | .SDS_LN_EYE_CTL => c.writeEye a k.i v
  | .PRT_PORT_CFG => if c.configMode then ((c.portCfgWrite a k.i v).handoverFollow).dropUnowned else c.countClamp k
  | .PRT_FL_CTL => c.writeFlCtl k.i v
  | .SCH_PORT_CFG | .SCH_NOTE_MAP | .SCH_Q_CFG | .SCH_FLOW_MAP | .SCH_CTX_A | .SCH_CTX_CIR | .SCH_CTX_PIR | .SCH_CTX_CBS
  | .SCH_CTX_PBS => c.writeSch a k t v
  | .SCH_GCL_CTL => c.writeGclCtl a k.i v
  | .SCH_GCL_LEN | .SCH_GCL_ENT => c.writeGclBank a k v
  | .ACD_JOB_CFG => c.writeJobCfg a (32 * k.i + k.j) v
  | .ACD_JOB_CTL => c.writeJobCtl (32 * k.i + k.j) v
  | .ACD_LOAD_CTL => c.writeLoadCtl a k.i v
  | r =>
    match r.hiOf, r.loOf with
    | some _, _ => if !r.writable then c else if c.accepts k then c.holdLo k v else c.countClamp k t
    | _, some lo =>
      if !r.writable then c
      else
        let kl : RegKey := { k with reg := lo }
        if c.accepts k then (c.pairWrite kl k t (c.heldFor kl) v).dropHeld k else c.countClamp k t
    | none, none => c.plainWrite a k t v

/-- The own effect of a write that passed. -/
def Dev.regWrite (d : Dev) (a : Access) (k : RegKey) (t : Nat) (v : Word) : Dev :=
  if k.reg = .PWR_CTL then d.writePwrCtl a v else d.onChip fun c => c.regWrite a k t v

/-! ### What a read returns (R4, R5, R8, R618) -/

/-- Queued records of a job (ACD_JOB_STATUS.PENDING). -/
def Chip.jobPending (c : Chip) (j : Nat) : Nat :=
  let h := c.job j
  min 64 (if c.jfld F.ACD_JOB_CFG.SRC j = 1 then h.starts.length else (h.recs.filter fun r => r.ready && !r.busy).length)

/-- The word of a register instance as it stands, with the fields that show other state. -/
def Chip.viewReg (c : Chip) (k : RegKey) : Word :=
  let v := c.regs.get k
  match k.reg with
  | .ACD_PS_SCALE_HI => word (v.toNat / 2 * 2)
  | .CEL_POOL_STATUS => word c.sharedFree
  | .CEL_NP_USE => word c.npShared
  | .CEL_PORT_USE => word (divUp (c.inShared (.port k.i)) 16 % 65536 * 65536 + c.minUsed (.port k.i) % 65536)
  | .CEL_Q_USE => word (c.qUsed (.port k.i) k.j)
  | .HWY_DESC_FREE => word (c.descFree k.i)
  | .LBX_VIEW => word (c.lbxStatus k.i)
  | .PWR_LP_BUDGET => word c.lpBudget
  | .FLT_TRACK_FREE => word (c.trackFree k.i)
  | .FLT_STATUS => wset v F.FLT_STATUS.LOG_FULL.hi F.FLT_STATUS.LOG_FULL.lo (b2n c.logFull)
  | .GLB_FLC_REQ_FREE => word c.flcFree
  | .GLB_PTN_STATUS =>
    word (b2n (c.configured k.i) * 2 ^ 31 + b2n (c.partRefuses k.i) * 2 ^ 30 + (c.downPorts k.i).length * 2 ^ 17 +
      c.rdpCount k.i * 2 ^ 13 + (c.flaconsOf k.i).length)
  | .FAB_FL_BUDGET => if c.isFleren k.i then c.reg .PRT_FL_BUDGET k.i else 0
  | .FAB_GRP_LIVE =>
    word ((c.members k.i).mapIdx fun m n => if c.memberLive n then 2 ^ m else 0).sum
  | .PRT_LINK_STATUS => wset v F.PRT_LINK_STATUS.LTSSM.hi F.PRT_LINK_STATUS.LTSSM.lo (c.ltssm k.i)
  | .SDS_QUAD_STATUS => word (c.quadOn k.i)
  | .TIM_NOW_LO => word (c.ns % 2 ^ 32)
  | .TIM_NOW_HI => word (c.ns / 2 ^ 32)
  | .TIM_NOW_FRAC => word (c.tim.count / 2 ^ 32 % 65536 * 65536)
  | .SCH_CTX_YELLOW => if c.fld F.SCH_CTX_A.KIND k.i = 2 then 0 else v
  | .SCH_GCL_STATUS => wset v 7 0 (match (c.gclNow k.i).1 with | some q => q.2 | none => 0)
  | .ACD_JOB_STATUS => wset (wset v 15 8 (c.jobRunning (32 * k.i + k.j))) 6 0 (c.jobPending (32 * k.i + k.j))
  | .ACD_ENG_STATUS =>
    match c.jobOf? k.i with
    | some j => wset (wset v 27 27 1) 26 22 (j % 32)
    | none => wset v 27 22 0
  | .LPB_STATUS => wset (wset v 21 16 c.lpb.queue.length) 15 12 c.lpb.delayed.length
  | .TCT_CYC_LO => word (c.cycleCount k.i)
  | .TCT_CYC_HI => word (c.cycleCount k.i / 2 ^ 32)
  | .TCT_CYC_SNAP_LO => word (c.cycleSnap k.i)
  | .TCT_CYC_SNAP_HI => word (c.cycleSnap k.i / 2 ^ 32)
  | .TIM_TS_LO => match c.tim.fifo with | e :: _ => word (e.time / 2) | [] => 0
  | _ => v

/-- The registers that a read of a LO register copies into the snapshot (R5, R305). -/
def Reg.partners (r : Reg) : List Reg :=
  match r with
  | .TIM_NOW_LO => [.TIM_NOW_HI, .TIM_NOW_FRAC]
  | .TIM_TS_LO => []
  | r => match r.hiOf with | some h => [h] | none => []

/-- What a register shows to a read: the snapshot, where a LO read has taken one. -/
def Chip.shown (c : Chip) (k : RegKey) : Word :=
  match c.snaps.find? fun e => e.1 == k with
  | some e => e.2
  | none => c.viewReg k

/-- A read of LO takes the snapshot. -/
def Chip.takeSnap (c : Chip) (k : RegKey) : Chip :=
  k.reg.partners.foldl (fun c r =>
    let h : RegKey := { k with reg := r }
    { c with snaps := (h, c.viewReg h) :: c.snaps.filter fun e => e.1 != h }) c

/-- A read that passed its gate: the enabled bytes, with what the read does. One with fewer than four byte enables shows the
present value and leaves the snapshot alone (R4). -/
def Chip.regRead (c : Chip) (a : Access) (k : RegKey) : Word × Chip :=
  let c := if k.reg = .LPB_CFG_DATA && c.readActs a then c.segCfgFree false 0 else c
  let v := if a.full then c.shown k else c.viewReg k
  let out := word (enabledBytes a.be (k.reg.readWord v.toNat))
  let c := if a.full then (if k.reg = .TIM_TS_LO then c.readTs (c.readActs a) else c.takeSnap k) else c
  let c := if c.isOwner a.who then { c with regs := c.regs.set k (word (k.reg.clearedWord a.be (c.regs.get k).toNat)) } else c
  (out, c)

/-! ### Accesses by offset -/

/-- How an access ended: denied by a gate with a reason, or with data. -/
structure BusAns where
  deny : Option Nat := none
  data : Word := 0
  deriving DecidableEq, Repr, Inhabited

/-- An access of the Pantry window judged by gate 96 + t alone (R616). -/
def Chip.pantryView (c : Chip) (a : Access) (x : Nat) (write : Bool) : GateAccess := c.gateView a x write

/-- A write of a BAR0 offset (R614, R616). A partial or foreign write to an offset of a block counts as dropped whether or not a
register lies there (R4, R13); an offset outside every block counts nothing (R614). -/
def Dev.busWrite (d : Dev) (a : Access) (off : Nat) (v : Word) : BusAns × Dev :=
  match pantryAt off with
  | some (t, x) =>
    if !d.chip.isOwner a.who then ({}, d.onChip Chip.countDropped)
    else
      match d.chip.gate (96 + t) (d.chip.pantryView a x true) with
      | (some r, c) => ({ deny := some r }, { d with chip := c })
      | (none, c) => ({}, { d with chip := c }.pantryPost t x (leBytes 4 v.toNat) ((List.range 4).map (bit a.be)))
  | none =>
    match d.chip.keyAt off with
    | none =>
      if !a.full || !d.chip.isOwner a.who then ({}, if (blockAt off).isSome then d.onChip Chip.countDropped else d)
      else
        let (r, c) := d.chip.gate 109 (d.chip.gateView a off true)
        ({ deny := r }, { d with chip := c })
    | some k =>
      match d.chip.passAt a k off v with
      | (.ok, c) => ({}, { d with chip := c }.regWrite a k (busTile k off) v)
      | (.denied r, c) => ({ deny := some r }, { d with chip := c })
      | (.dropped, c) => ({}, { d with chip := c })

/-- A read of a BAR0 offset (R614, R616). -/
def Dev.busRead (d : Dev) (a : Access) (off : Nat) : BusAns × Dev :=
  match pantryAt off with
  | some (t, x) =>
    match d.chip.gate (96 + t) (d.chip.pantryView a x false) with
    | (some r, c) => ({ deny := some r }, { d with chip := c })
    | (none, c) => ({ data := word (enabledBytes a.be (leNat (d.mem.pantryRead t x 4))) }, { d with chip := c })
  | none =>
    match d.chip.gate 109 (d.chip.gateView a off false) with
    | (some r, c) => ({ deny := some r }, { d with chip := c })
    | (none, c) =>
      match c.keyAt off with
      | none => ({}, { d with chip := c })
      | some k => let (w, c) := c.regRead a k; ({ data := w }, { d with chip := c })

end Sys2Proof.Machine
end

