-- ==== Sys2Proof/Machine/LbxOps.lean ====
section
/-! DEFINITION. The windows of the Letterboxes and the execution of their commands (R492 to R503, R519 to R525). The
meanings of the commands stand in Machine/Letterbox.lean. -/

namespace Sys2Proof.Machine

/-! ### Windows (Table 15.2, R494, R495) -/

/-- A Letterbox exists: those of partitions only with an upstream port (R492). -/
def Chip.boxExists (c : Chip) (n : Nat) : Bool := (32 ≤ n && n < 34) || (c.upPort? n).isSome

/-- A window error is counted. -/
def Chip.lbxDrop (c : Chip) : Chip := c.inc F.LBX_DROP.COUNT

/-- A command is in progress. -/
def Chip.boxBusy (c : Chip) (n : Nat) : Bool := c.flag F.LBX_STATUS.BUSY n

/-- A word appended to the request queue (R495). -/
def Chip.boxReq (c : Chip) (n : Nat) (v : Word) : Chip :=
  if c.boxBusy n || 16 ≤ (c.box n).req.length then (c.setFld F.LBX_STATUS.OVERFLOW 1 n).lbxDrop
  else c.updBox n fun b => { b with req := b.req ++ [v] }

/-- The oldest reply word removed; an empty queue gives 0 and UNDERRUN. -/
def Chip.boxRsp (c : Chip) (n : Nat) : Word × Chip :=
  match (c.box n).rsp with
  | w :: ws => (w, c.updBox n fun b => { b with rsp := ws })
  | [] => (0, c.setFld F.LBX_STATUS.UNDERRUN 1 n)

/-- The LENs that Table 15.5 allows; none for an opcode that it does not name. For FLACON the operation of the GLB_FLC_CMD
value decides. -/
def lenOk? (ws : List Word) : Option Bool :=
  let n := ws.length - 1
  match boxOp ws with
  | 0x01 | 0x03 | 0x04 | 0x06 | 0x07 | 0x09 | 0x11 | 0x30 | 0x31 | 0x42 | 0x43 | 0x44 => some (n == 0)
  | 0x02 | 0x05 | 0x08 | 0x10 | 0x12 | 0x25 => some (n == 1)
  | 0x13 | 0x22 => some (n == 2)
  | 0x23 | 0x24 | 0x40 => some (n == 3)
  | 0x20 => some (n == 4)
  | 0x21 => some (match ws with | [_, v] => wget v 31 30 != 1 | [_, v, _, _, _, _, _] => wget v 31 30 == 1 | _ => false)
  | 0x41 => some (2 ≤ n && n ≤ 15)
  | _ => none

/-- The opcodes that are served in recovery mode (R518). -/
def inRecovery (op : Nat) : Bool := op == 1 || op == 0x41 || op == 0x42 || op == 0x43

/-- The answers that need no command: BAD_LEN (R495) and BAD_OPCODE (R500), and RECOVERY for what recovery mode does not serve
(R518). -/
def ringCode? (recovery : Bool) (ws : List Word) : Option Nat :=
  match ws with
  | [] => some 0x8003
  | h :: _ => if ws.length != 1 + wget h 23 20 then some 0x8003
    else if recovery && !inRecovery (boxOp ws) then some 0x8014
    else match lenOk? ws with | none => some 0x8002 | some true => none | some false => some 0x8003

/-- The management domain is awake and Ecseric serves a Letterbox. -/
def Chip.fwRuns (c : Chip) (n : Nat) : Bool := c.fwReady n && (c.ps ≤ 1 || (c.ps == 2 && c.pwr.mgmtAwake))

/-- Ecseric, or the boot ROM in recovery mode, runs and is awake. -/
def Chip.fwAwake (c : Chip) : Bool :=
  !c.safe && (c.lbx.ready || c.flag F.LBX_FW_STATUS.RECOVERY) && (c.ps ≤ 1 || (c.ps == 2 && c.pwr.mgmtAwake))

/-- RING (R494 step 3, R495, R496); clearing DONE of Letterbox 32 releases SMBALERT# (R497). -/
def Chip.ring (c : Chip) (n : Nat) : Chip :=
  if c.boxBusy n then c.lbxDrop
  else
    let ws := (c.box n).req
    let alert := c.lbx.smbAlert && !(n == 32 && c.flag F.LBX_STATUS.DONE n)
    let c := { (c.setFld F.LBX_STATUS.BUSY 1 n).setFld F.LBX_STATUS.DONE 0 n with lbx := { c.lbx with smbAlert := alert } }
    let c := if c.ps = 2 then c.cycSync.updPwr fun h => { h with mgmtAwake := true } else c
    match ringCode? (c.flag F.LBX_FW_STATUS.RECOVERY) ws with
    | some k => c.updBox n fun b => { b with req := [], rsp := [], cmd := ws, todo := false, result := some (k, []) }
    | none =>
      let c := c.updBox n fun b => { b with req := [], rsp := [], cmd := ws, todo := true, result := none }
      { c with lbx := { c.lbx with order := c.lbx.order.filter (· != n) ++ [n] } }

/-- Clearing DONE of Letterbox 32 releases SMBALERT# (R497). -/
def Chip.clearStatus (c : Chip) (n : Nat) (v : Word) : Chip :=
  let old := (c.reg .LBX_STATUS n).toNat
  let clr := (([29, 27, 26].filter (wbit v)).map (2 ^ ·)).sum
  let c := c.setReg .LBX_STATUS (word (old - Nat.land old clr)) n
  if n = 32 && wbit v 29 then { c with lbx := { c.lbx with smbAlert := false } } else c

/-- LBX_CTL written; FLT_FWD exists in Letterbox 32 alone. -/
def Chip.writeBoxCtl (c : Chip) (n : Nat) (v : Word) : Chip :=
  c.setReg .LBX_CTL (word (b2n (wbit v 31) * 2 ^ 31 + b2n (n == 32 && wbit v 30) * 2 ^ 30 + bits v.toNat 5 0)) n

/-- A write of a window register; one without all four byte enables is dropped (R4). -/
def Chip.windowWrite (c : Chip) (n off be : Nat) (v : Word) : Chip :=
  if !c.boxExists n then c
  else if be % 16 != 15 then c.countDropped
  else match off with
    | 0x00 => c.boxReq n v
    | 0x08 => if wbit v 0 then c.ring n else c
    | 0x10 => c.clearStatus n v
    | 0x14 => c.writeBoxCtl n v
    | _ => c

/-- A read of a window register, with its effect when all four byte enables are set (R4). -/
def Chip.windowRead (c : Chip) (n off be : Nat) : Word × Chip :=
  let out (w : Word) : Word := word (enabledBytes be w.toNat)
  if !c.boxExists n then (0, c)
  else match off with
    | 0x04 => if be % 16 = 15 then c.boxRsp n else (out ((c.box n).rsp.headD 0), c)
    | 0x0C => (out (c.reg .LBX_ACK n), c)
    | 0x10 => (out (word (c.lbxStatus n)), c)
    | 0x14 => (out (c.reg .LBX_CTL n), c)
    | _ => (0, c)

/-! ### Execution (R494, R498 to R503) -/

/-- The requesters that Table 15.5 names for a command. -/
inductive LbxWho where
  | any
  /-- Letterboxes 0 to 32. -/
  | cand
  /-- The Owner; Letterbox 33 counts as the Owner in OPEN. -/
  | owner
  /-- The Owner alone: the commands that Letterbox 33 is never served. -/
  | holder
  /-- The Owner of index 0 to 31. -/
  | hostOwner
  /-- The Owner at the expert level. -/
  | expert
  deriving DecidableEq, Repr, Inhabited

/-- The code that refuses a command of a Letterbox (R500, R585). -/
def Chip.whoCode? (c : Chip) (n : Nat) (w : LbxWho) : Option Nat :=
  let own := c.owner? == some n
  let debug := n == 33 && c.lifecycle == 0
  match w with
  | .any => none
  | .cand => if n ≤ 32 then none else some 0x8005
  | .owner => if own || debug then none else some 0x8005
  | .holder => if own then none else some 0x8005
  | .hostOwner => if own && n < 32 then none else some 0x8005
  | .expert => if debug then none else if !own then some 0x8005 else if c.flag F.LBX_OWNER.EXPERT then none else some 0x8006

/-- Ecseric executes the command of a Letterbox next: an opcode that waits there, first of those that wait, or one that has
begun already. -/
def Chip.lbxDue (c : Chip) (n op : Nat) : Bool :=
  c.fwRuns n && (c.box n).todo && boxOp (c.box n).cmd == op && (c.lbx.order.head? == some n || !c.lbx.order.elem n)

/-- A command of a Letterbox has begun: it no longer waits in the order of the RINGs. -/
def Chip.lbxBegun (c : Chip) (n : Nat) : Bool := !c.lbx.order.elem n

/-- The argument words of a command. -/
def Chip.lbxArgs (c : Chip) (n : Nat) : List Nat := (c.box n).cmd.tail.map BitVec.toNat

/-- An argument of a command. -/
def Chip.lbxArg (c : Chip) (n i : Nat) : Nat := (c.lbxArgs n).getD i 0

/-- Ecseric executes a command of a Letterbox: it answers what its requester may not send (R500, R518), and carries out the
rest. A command that has begun goes on under the ownership that it started with (Table 15.11). -/
def Dev.command (d : Dev) (n op : Nat) (w : LbxWho) (f : Dev → Dev) : Dev :=
  let c := d.chip
  if !c.lbxDue n op then d
  else if c.lbxBegun n then f d
  else
    let c := { c with lbx := { c.lbx with order := c.lbx.order.tail } }.pulse 0xC06 0x10
    let rec_ := c.flag F.LBX_FW_STATUS.RECOVERY
    match (if rec_ then (if inRecovery op then none else some 0x8014) else c.whoCode? n w) with
    | some k => { d with chip := c.boxResult n k }
    | none => f { d with chip := c }

/-- The same for a command that concerns the device without its memories. -/
def Dev.commandC (d : Dev) (n op : Nat) (w : LbxWho) (f : Chip → Chip) : Dev := d.command n op w fun d => d.onChip f

/-- The acknowledgement (R494 steps 5 and 6, R495, R498). A MODE_SET is acknowledged once its transition is over. -/
def Chip.boxAck (c : Chip) (n : Nat) : Chip :=
  let ended := c.lbx.modeSet.elem n && !c.flag F.GLB_MODE.BUSY
  let c := if ended then
      { c with lbx := { c.lbx with modeSet := c.lbx.modeSet.filter (· != n) } }.boxResult n (c.fld F.GLB_MODE.LAST_RESULT)
        [c.reg .GLB_MODE]
    else c
  match (c.box n).result with
  | none => c
  | some (code, ws) =>
    if !c.fwRuns n then c
    else
      let head := ((c.box n).cmd.headD 0).toNat
      let tag := bits head 15 0
      let reply := if code = 0x8003 then [] else word (bits head 31 24 * 2 ^ 24 + ws.length * 2 ^ 20 + tag) :: ws
      let c := c.updBox n fun b => { b with rsp := reply, cmd := [], todo := false, result := none }
      let c := c.setReg .LBX_ACK (word (tag * 65536 + code)) n
      ((((c.setFld F.LBX_STATUS.DONE 1 n).setFld F.LBX_STATUS.BUSY 0 n).setFld F.LBX_STATUS.MASTER_OFF 0 n)).notifyBox n

/-! ### Ecseric's accesses (R500, R501) -/

/-- Who sends the commands of a Letterbox. -/
def boxWho (n : Nat) : Who := if h : n < 32 then .part ⟨n, h⟩ else if n = 32 then .bmc else .debug

/-- Ecseric's access for a Letterbox: with the standing of its requester before the register, as FIRMWARE before the
gate. -/
def boxAccess (n : Nat) : Access := { who := boxWho n, viaFw := true }

/-- Ecseric's access on its own behalf. -/
def fwAccess : Access := { who := .fw, viaFw := true }

/-- An offset in BAR0 that a command may name. -/
def offsetOk (off : Nat) : Bool := off % 4 == 0 && Nat.blt off (2 ^ 28)

/-- The word at an offset, without the effects of a read: the readback of a write. -/
def Dev.peek (d : Dev) (off : Nat) : Word :=
  match pantryAt off with
  | some (t, x) => word (leNat (d.mem.pantryRead t x 4))
  | none =>
    match d.chip.keyAt off with
    | some k => word (k.reg.readWord (d.chip.shown k).toNat)
    | none => 0

/-- Writes of Ecseric on its own behalf, in order, until a gate denies one. -/
def Dev.fwWrites : Dev → List (RegKey × Word) → Option Nat × Dev
  | d, [] => (none, d)
  | d, (k, v) :: ws =>
    match d.busWrite fwAccess (k.addr k.tile) v with
    | (r, d) => match r.deny with
      | some x => (some x, d)
      | none => Dev.fwWrites d ws

/-- A command that Ecseric carries out by writes, and what it answers when none was denied. -/
def Dev.byWrites (d : Dev) (n : Nat) (ws : List (RegKey × Word)) (f : Dev → Dev) : Dev :=
  match d.fwWrites ws with
  | (some r, d) => d.onChip fun c => c.boxResult n 0x8009 [word r]
  | (none, d) => f d

/-- The word of a register instance as a command's reply carries it. -/
def Chip.replyReg (c : Chip) (r : Reg) (i : Nat := 0) : Word := word (r.readWord (c.shown ⟨r, i, 0⟩).toNat)

/-- OK with reply words. -/
def Chip.boxOk (c : Chip) (n : Nat) (ws : List Word := []) : Chip := c.boxResult n 0 ws

/-! ### The persistent store (R522 to R524) -/

/-- The settings that the store covers, as they stand. -/
def Chip.storeRegs (c : Chip) : RegFile := c.regs.filter fun e => !e.1.storedFields.isEmpty

/-- The LOCK bits of the gate rules. -/
def Chip.storeLocks (c : Chip) : RegFile :=
  c.regs.filterMap fun e => match e.1.reg with
    | .GAT_GATE_CFG => if wget e.2 31 31 = 1 then some (e.1, 0x80000000) else none
    | .GAT_RGN_C => if wget e.2 30 30 = 1 then some (e.1, 0x40000000) else none
    | _ => none

/-- The estimate of R523 in mJ for a body of n bytes. -/
def storeEstimate (n : Nat) : Nat := 20 + 15 * divUp (n + 4096) 65536 + divUp n 16384

/-- The hold-up check of R523. -/
def Chip.holdupOk (c : Chip) (n : Nat) : Bool := 3 * storeEstimate n ≤ 2 * c.fld F.FUS_HOLDUP_E.E_MJ

/-- The answer to a STORE_COMMIT. -/
def Chip.storeResult (c : Chip) (n code : Nat) (ws : List Word := []) : Chip :=
  let c := c.setFld F.LBX_STORE_STATUS.LAST_CODE code
  if (c.box n).todo && boxOp (c.box n).cmd == 0x30 && c.lbxBegun n then c.boxResult n code ws else c

/-- A refused commit is reported. -/
def Chip.storeRefused (c : Chip) (n code : Nat) (ws : List Word := []) : Chip :=
  (c.storeResult n code ws).raise 0x1D5 0x26 0 code

/-- The copy that a commit writes (R524). -/
def Chip.storeTarget (c : Chip) : Nat :=
  match c.lbx.storeA, c.lbx.storeB with
  | some a, some b => if a.gen < b.gen then 0 else 1
  | some _, none => 1
  | _, _ => 0

/-- VALID and GEN follow the copies. -/
def Chip.storeShow (c : Chip) : Chip :=
  let g := match c.bestStore? with | some (_, x) => x.gen | none => 0
  (c.setFld F.LBX_STORE_STATUS.VALID (b2n c.lbx.storeA.isSome + 2 * b2n c.lbx.storeB.isSome)).setFld F.LBX_STORE_GEN.GEN g

/-- A copy of the store put in its place. -/
def Chip.putStore (c : Chip) (k : Nat) (x : Option StoreCopy) : Chip :=
  let c := if k = 0 then { c with lbx := { c.lbx with storeA := x } } else { c with lbx := { c.lbx with storeB := x } }
  c.storeShow

/-- The start of a commit: the checks of R523, then the header of the copy to be written is erased. The length of the body,
the expert mask and the target mode that Ecseric stores are free values. -/
def Chip.storeStart (c : Chip) (n : Nat) : Chip :=
  let length := 4 * (c.freeVal % 261121)
  let mask := c.drawn.freeVal % 2 ^ 33
  let mode := c.drawn.drawn.freeVal % 16
  if c.lbx.committing.isSome then c.storeResult n 0x8001
  else if c.flag F.PWR_SUPPLY.WARN then c.storeRefused n 0x8010
  else
    let c := c.drawn.drawn.drawn
    if !c.holdupOk length then
      c.storeRefused n 0x800F [word (c.fld F.FUS_HOLDUP_E.E_MJ), word (storeEstimate length)]
    else
      let k := c.storeTarget
      let gen := match c.bestStore? with | some (_, x) => x.gen + 1 | none => 1
      let x : StoreCopy := { gen := gen % 2 ^ 32, length, mode, mask, regs := c.storeRegs, locks := c.storeLocks }
      let c := (c.putStore k none).setFld F.LBX_STORE_STATUS.COMMITTING 1
      { c with lbx := { c.lbx with committing := some (n, k, x) } }

/-- The end of a commit: the header is programmed, or the flash reported an error. -/
def Chip.storeEnd (c : Chip) (n : Nat) (flashOk : Bool) : Chip :=
  match c.lbx.committing with
  | none => c
  | some (_, k, x) =>
    let c := { c.setFld F.LBX_STORE_STATUS.COMMITTING 0 with lbx := { c.lbx with committing := none } }
    if flashOk then (c.putStore k (some x)).storeResult n 0 [word x.gen, word k] else c.storeResult n 0x8011

/-- STORE_COMMIT as Ecseric carries it out: its start, and then its end. A commit that is programming flash completes even
when its Letterbox has been reset, or no longer exists (Table 15.11). -/
def Dev.storeCommit (d : Dev) (n : Nat) (flashOk : Bool) : Dev :=
  match d.chip.lbx.committing with
  | some (m, _, _) =>
    if m = n && d.chip.fwAwake && d.chip.lbxBegun n then d.onChip fun c => c.storeEnd n flashOk
    else d.commandC n 0x30 .owner fun c => c.storeStart n
  | none => d.commandC n 0x30 .owner fun c => c.storeStart n

/-! ### Firmware update (R519 to R521) -/

/-- The slot that is not running. -/
def Chip.targetSlot (c : Chip) : Nat := 1 - c.fld F.LBX_FW_STATUS.SLOT

/-- An image put into a slot. -/
def Chip.putImage (c : Chip) (s : Nat) (ws : List Word) : Chip :=
  if s = 0 then { c with lbx := { c.lbx with slotA := ws } } else { c with lbx := { c.lbx with slotB := ws } }

/-- An update session starts unless one is open: the header of the target slot is erased. -/
def Chip.sessionStart (c : Chip) : Chip :=
  if c.flag F.LBX_FW_STATUS.SESSION then c
  else
    let c := (c.setFld F.LBX_FW_STATUS.SESSION 1).putImage c.targetSlot []
    { c with lbx := { c.lbx with loaded := [] } }

/-- Bytes of an image slot (Table 15.8). -/
def slotBytes : Nat := 0x400000

/-- FW_LOAD_CHUNK: the words go to the offset that follows the last one. -/
def Chip.loadChunk (c : Chip) (n : Nat) : Chip :=
  let off := c.lbxArg n 0
  let ws := (c.lbxArgs n).tail.map word
  let next := if c.flag F.LBX_FW_STATUS.SESSION then 4 * c.lbx.loaded.length else 0
  if off != next || Nat.blt slotBytes (next + 4 * ws.length) then c.boxResult n 0x8004
  else
    let c := c.sessionStart
    let c := { c with lbx := { c.lbx with loaded := c.lbx.loaded ++ ws } }
    c.boxOk n [word (4 * c.lbx.loaded.length)]

/-- A FW_FINISH that failed: the session ends, and the target slot is not accepted (R520, Table 15.13). -/
def Chip.finishFails (c : Chip) (n code : Nat) : Chip :=
  (c.endSession.setFld F.LBX_FW_STATUS.ACCEPTED (clrBit (c.fld F.LBX_FW_STATUS.ACCEPTED) c.targetSlot)).boxResult n code

/-- FW_FINISH: the loaded image is checked under R516 and its header programmed. -/
def Chip.fwFinish (c : Chip) (n : Nat) (flashOk : Bool) : Chip :=
  let ws := c.lbx.loaded
  let min_ := c.fld F.LBX_FW_STATUS.MIN_SVN
  if !c.flag F.LBX_FW_STATUS.SESSION then c.boxResult n 0x800D
  else if !imageHeader ws then c.finishFails n 0x8012
  else if imageSvn ws < min_ then c.finishFails n 0x8013
  else if !imageSigned ws then c.finishFails n 0x8012
  else if !flashOk then c.finishFails n 0x8011
  else
    let t := c.targetSlot
    let c := (c.putImage t ws).endSession
    let c := c.setFld F.LBX_FW_STATUS.ACCEPTED (setBit (c.fld F.LBX_FW_STATUS.ACCEPTED) t)
    let c := if c.flag F.LBX_FW_STATUS.RECOVERY then { c with lbx := { c.lbx with resetDue := true } } else c
    c.boxOk n [word (flashWord ws 1), word (imageSvn ws)]

/-- FW_SVN_COMMIT (R521). -/
def Chip.svnCommit (c : Chip) (n : Nat) : Chip :=
  let svn := c.fld F.LBX_FW_STATUS.SVN
  if svn ≤ c.fld F.LBX_FW_STATUS.MIN_SVN then c.boxResult n 0x800D
  else (c.setFld F.LBX_FW_STATUS.MIN_SVN svn).boxOk n [word svn]

/-- The words of a list of bytes, least significant byte first; what is missing of the last word reads erased. -/
def bytesWords : List Byte → List Word
  | [] => []
  | [a] => [word (0xFFFFFF00 + a.toNat)]
  | [a, b] => [word (0xFFFF0000 + leNat [a, b])]
  | [a, b, e] => [word (0xFF000000 + leNat [a, b, e])]
  | a :: b :: e :: g :: rest => word (leNat [a, b, e, g]) :: bytesWords rest

/-- FW_LOAD_HOST has failed (R502). -/
def Chip.loadFailed (c : Chip) (n : Nat) : Chip := { c with lbx := { c.lbx with load := none } }.boxResult n 0x8008

/-- FW_LOAD_HOST begins: LENGTH + 4,096 bytes are to be read. -/
def Chip.loadBegin (c : Chip) (n : Nat) : Chip :=
  let length := c.lbxArg n 2
  if length < 4 || 4190208 < length || c.lbx.load.isSome then c.boxResult n (if c.lbx.load.isSome then 0x8001 else 0x8004)
  else
    let c := c.sessionStart
    let h : HostLoad := { box := n, base := c.lbxArg n 1 * 2 ^ 32 + c.lbxArg n 0, total := length + 4096 }
    { c with lbx := { c.lbx with loaded := [], load := some h } }

/-- The next read of a FW_LOAD_HOST: it stalls with MASTER_OFF while its partition's requests are held back, in its place among
them (R121, R122, R503). -/
def Chip.loadRead (c : Chip) (n : Nat) (h : HostLoad) : Chip :=
  if c.masterHeld (some n) then c.stallBox n .memRd (some n) else (c.loadIssue n h).getD c

/-- A completion of the read of a FW_LOAD_HOST. -/
def Chip.loadTake (c : Chip) (n : Nat) (h : HostLoad) (t : Nat) : Chip :=
  let mine (q : InCpl) : Bool := q.to_ == .firmware && q.part == some n && q.pkt.tag == t
  match c.flt.inbox.find? mine with
  | none =>
    if c.flt.dev.any fun e => e.part == some n && e.tag == t && !e.quarantined then c else c.loadFailed n
  | some q =>
    let c := { c with flt := { c.flt with inbox := c.flt.inbox.erase q } }
    if q.pkt.status != .sc then c.loadFailed n
    else
      let h := { h with got := h.got ++ q.pkt.data, tag := if q.pkt.lastCpl then none else some t }
      { c with lbx := { c.lbx with load := some h } }

/-- A step of FW_LOAD_HOST. What it has read goes to the update session of the Owner that sent it, unless that has ended
(Table 15.11). -/
def Chip.loadStep (c : Chip) (n : Nat) : Chip :=
  match c.lbx.load with
  | some h =>
    if h.box != n then c.loadBegin n
    else match h.tag with
      | some t => c.loadTake n h t
      | none =>
        if h.got.length < h.total then c.loadRead n h
        else
          let c := { c with lbx := { c.lbx with load := none } }
          let c := if c.flag F.LBX_FW_STATUS.SESSION && c.owner? == some n then { c with lbx := { c.lbx with loaded := bytesWords h.got } } else c
          c.boxOk n [word h.total]
  | none => c.loadBegin n

end Sys2Proof.Machine
end

