-- ==== Sys2Proof/Machine/OwnOps.lean ====
section
/-! DEFINITION. Requests that end at the device's own functions (R24, R248, R252 to R254, R268, R623, R624): configuration
requests, the BARs of a Pleone management function and of the switch port functions, and what the management complex takes.
The meanings stand in Machine/Bus.lean and Machine/Hallway.lean. -/

namespace Sys2Proof.Machine

/-! ### Configuration registers with effects of their own -/

/-- Vectors of a function's MSI-X table (R95, Table 7.2). -/
def Fn.vectors : Fn → Nat
  | .mgmt _ => 64
  | _ => 3

/-- A pending vector is signalled once nothing masks it (R496). -/
def Chip.msixFlush (c : Chip) (f : Fn) : Chip :=
  (List.range f.vectors).foldl (fun c v =>
    let off := 0x2000 + 4 * (v / 32)
    if c.cfgBit f off (v % 32) && c.cfgBit f 0x50 31 && !c.cfgBit f 0x50 30 && !c.cfgBit f (0x1000 + 16 * v + 12) 0 then
      (c.putCfgBit f off (v % 32) false).msix f v
    else c) c

/-- A byte enable of a configuration write covers a bit. -/
def beCovers (be b : Nat) : Bool := bit be (b / 8)

/-- A write to the Command register or the power state: Bus Master Enable in effect may change (R120, R254). -/
def Dev.cfgMaster (d : Dev) (f : Fn) (off be v : Nat) : Dev :=
  let was := d.chip.bme f
  (d.onChip fun c => c.cfgStore f off be v).bmeFollow f was

/-- A write of Bridge Control: Secondary Bus Reset has effects (Table 3.4). -/
def Chip.cfgBridge (c : Chip) (n be v : Nat) : Chip :=
  let old := c.cfgBit (.port n) 0x3C 22
  let c := c.cfgStore (.port n) 0x3C be (putBit v 22 old)
  if beCovers be 22 then c.writeSbr n (bit v 22) else c

/-- A write of Link Control: Link Disable has effects; Retrain Link asks a link that is up to pass Recovery, and reads 0. -/
def Chip.cfgLink (c : Chip) (n be v : Nat) : Chip :=
  let old := c.cfgBit (.port n) 0x80 4
  let c := c.cfgStore (.port n) 0x80 be (clrBit (putBit v 4 old) 5)
  let c := if beCovers be 5 && bit v 5 && c.role n != 1 && c.flag F.PRT_LINK_STATUS.DL_ACTIVE n then
      c.updPort n fun h => { h with retrainAsked := true }
    else c
  if beCovers be 4 then c.writeLinkDisable n (bit v 4) else c

/-- A write of Slot Control and Slot Status (R111, R112, R115). -/
def Chip.cfgSlot (c : Chip) (n be v : Nat) : Chip :=
  let control := mergeBytes (be % 4) (c.slotWord n) v % 65536
  let c := c.cfgStore (.port n) 0x88 (Nat.land be 12) (clrBit v 17)
  let c := if beCovers be 17 && bit v 17 then c.clearPowerFault n else c
  if be % 4 = 0 then c else c.writeSlotCtl n (control + b2n (beCovers be 10) * 65536)

/-- A write of DPC Control: the software trigger acts (R116). -/
def Chip.cfgDpc (c : Chip) (n be v : Nat) : Chip :=
  let c := c.cfgStore (.port n) 0x3C4 be v
  if beCovers be 22 && bit v 22 then c.dpcSoftware n else c

/-- A write of DPC Status: a 1 to Trigger Status releases DPC (R117). -/
def Chip.cfgDpcStatus (c : Chip) (n be v : Nat) : Chip :=
  let c := c.cfgStore (.port n) 0x3C8 be (clrBit v 0)
  if beCovers be 0 && bit v 0 then c.dpcRelease n else c

/-- What a report of Lane Margining at the Receiver says (R103): capabilities, step counts, largest offsets; what the rule
does not name is HwInit. -/
def marginReport (code : Nat) : Nat :=
  match code with
  | 0x88 => 7 + hwInit 0x288 2 * 8
  | 0x89 => 127
  | 0x8A => 32
  | 0x8B => 50
  | 0x8C => 25
  | k => hwInit (0x200 + k) 7

/-- The answer of a receiver to a margining command of a type with a payload, and what it makes of the lane's eye monitor: held
(some true), given back (some false) or left. Steps beyond those that R103 reports are not taken. -/
def marginAnswer (typ payload free : Nat) : Nat × Option Bool :=
  match typ with
  | 1 => (marginReport payload, none)
  | 2 => (payload, if payload = 0x0F then some false else none)
  | 3 => if 32 < payload % 64 then (3 * 64, none) else (2 * 64 + free % 64, some true)
  | 4 => (2 * 64 + free % 64, some true)
  | _ => (payload, none)

/-- A write of Margining Lane Control of logical lane i: the lane's receiver, numbered 6 in an upstream port and 1 in any
other, answers in Margining Lane Status while the link runs at 16 GT/s or above (R103). -/
def Chip.cfgMargin (c : Chip) (n off be v : Nat) : Chip :=
  let c := c.cfgStore (.port n) off be v
  let w := c.cfgAt (.port n) off
  let rx := if c.role n = 1 then 6 else 1
  match (c.logicalLanes n (c.fld F.PRT_LINK_STATUS.NEG_WIDTH n) (c.flag F.PRT_LINK_STATUS.REVERSED n))[(off - 0x2C8) / 4]? with
  | none => c
  | some l =>
    if !c.flag F.PRT_LINK_STATUS.DL_ACTIVE n || c.fld F.PRT_LINK_STATUS.NEG_RATE n < 3 || be % 4 = 0 ||
        !(w % 8 == 0 || w % 8 == rx) then c
    else
      let a := marginAnswer (bits w 5 3) (bits w 15 8) c.freeVal
      let c := if bits w 5 3 = 3 || bits w 5 3 = 4 then c.drawn else c
      let c := c.setCfg (.port n) off (w % 65536 + (w % 64 + a.1 * 256) * 65536)
      match a.2 with
      | some b => c.margin l b
      | none => c

/-- A write of a register of the Multicast capability re-arms MC_FANOUT for the groups whose settings it changes (R86): those
whose own bit changes, or every group. -/
def Chip.mcRearm (c : Chip) (n off old : Nat) : Chip :=
  let new := c.cfgAt (.port n) off
  if !(0x324 ≤ off && off < 0x350) || c.role n = 2 || new = old then c
  else
    let kept (g : Nat) : Bool :=
      0x330 ≤ off && off < 0x348 && !(g / 32 == off % 8 / 4 && bit old (g % 32) != bit new (g % 32))
    c.updPart (c.portPart n) fun h => { h with mcRaised := h.mcRaised.filter kept }

/-- A write of a register of a switch port function. -/
def Chip.portCfgStore (c : Chip) (n off be v : Nat) : Chip :=
  match off with
  | 0x3C => c.cfgBridge n be v
  | 0x80 => c.cfgLink n be v
  | 0x88 => c.cfgSlot n be v
  | 0x3C4 => c.cfgDpc n be v
  | 0x3C8 => c.cfgDpcStatus n be v
  | _ =>
    if 0x2C8 ≤ off && off < 0x308 then c.cfgMargin n off be v
    else
    let old := c.cfgAt (.port n) off
    let c := (c.cfgStore (.port n) off be v).msixFlush (.port n)
    c.mcRearm n off old

/-- A write of a register of a management function; Initiate Function Level Reset acts (Table 7.6). -/
def Chip.mgmtCfgStore (c : Chip) (p off be v : Nat) : Chip :=
  let c := (c.cfgStore (.mgmt p) off be v).msixFlush (.mgmt p)
  if off = 0x78 && beCovers be 15 && bit v 15 then c.partFlr p else c

/-- A configuration write to a function. A power state that the function does not have is not taken (Table 7.2). -/
def Dev.cfgWrite (d : Dev) (f : Fn) (off be v : Nat) : Dev :=
  if off = 0x04 then d.cfgMaster f off be v
  else if off = 0x44 then (if beCovers be 0 && (v % 4 == 1 || v % 4 == 2) then d else d.cfgMaster f off be v)
  else match f with
    | .port n => d.onChip fun c => c.portCfgStore n off be v
    | .mgmt p => d.onChip fun c => c.mgmtCfgStore p off be v
    | _ => d.onChip fun c => c.cfgStore f off be v

/-! ### BARs -/

/-- What a request of a partition ends at. -/
inductive OwnHit where
  | cfg (f : Fn)
  | bar (p b off : Nat)
  | port (n off : Nat)
  | none
  deriving DecidableEq, Repr, Inhabited

/-- The function or BAR of a partition that a request names (R248, R253, R623). -/
def Chip.ownHit (c : Chip) (p : Nat) (k : Packet) : OwnHit :=
  if k.kind = .cfgRd || k.kind = .cfgWr then
    match c.upPort? p with
    | some u =>
      if k.idRoute / 256 = c.secBus (.port u) then
        match c.internalFn? p (k.idRoute / 8 % 32) (k.idRoute % 8) with
        | some f => .cfg f
        | none => .none
      else if k.idRoute % 256 = 0 then .cfg (.port u) else .none
    | none => .none
  else if k.isMem then
    match c.mgmtBar? p k.addr with
    | some (4, _) => .none
    | some (b, off) => .bar p b off
    | none =>
      match (c.portsOf p ++ c.lentPorts p).find? fun n => c.portBar n k.addr with
      | some n => .port n (k.addr - c.barBase (.port n) 0x10 0x2000)
      | none => .none
  else .none

/-- A dword of an MSI-X structure: the table at 0x0000, the pending bits at 0x1000. -/
def msixOff? (f : Fn) (off : Nat) : Option Nat :=
  if off < 16 * f.vectors then some (0x1000 + off)
  else if 0x1000 ≤ off && off < 0x1000 + 4 * divUp f.vectors 32 then some (off + 0x1000) else none

/-- A dword of BAR2 of a management function, or of the BAR of a switch port function, written. -/
def Chip.barStore (c : Chip) (f : Fn) (off be : Nat) (v : Word) : Chip :=
  match f with
  | .mgmt p => if 0x2000 ≤ off && off < 0x2040 then c.windowWrite p (off - 0x2000) be v else
    match msixOff? f off with
    | some o => if off < 0x1000 then (c.cfgStore f o be v.toNat).msixFlush f else c
    | none => c
  | _ =>
    match msixOff? f off with
    | some o => if off < 0x1000 then (c.cfgStore f o be v.toNat).msixFlush f else c
    | none => c

/-- The same dword read. -/
def Chip.barLoad (c : Chip) (f : Fn) (off be : Nat) : Word × Chip :=
  let plain : Word := match msixOff? f off with
    | some o => word (c.cfgAt f o)
    | none => 0
  match f with
  | .mgmt p => if 0x2000 ≤ off && off < 0x2040 then c.windowRead p (off - 0x2000) be else (plain, c)
  | _ => (plain, c)

/-- The access that a packet makes to BAR0 (R250, R390). -/
def Copy.access (k : Copy) (p be : Nat) : Access :=
  { who := if h : p < 32 then .part ⟨p, h⟩ else .fw, st := some k.st, rid := k.oRid, be }

/-- A dword of a hit is written. -/
def Dev.hitWrite (d : Dev) (h : OwnHit) (k : Copy) (off be : Nat) (v : Word) : BusAns × Dev :=
  match h with
  | .bar p 0 _ => d.busWrite (k.access p be) off v
  | .bar p _ _ => ({}, d.onChip fun c => c.barStore (.mgmt p) off be v)
  | .port n _ => ({}, d.onChip fun c => c.barStore (.port n) off be v)
  | _ => ({}, d)

/-- A dword of a hit is read. -/
def Dev.hitRead (d : Dev) (h : OwnHit) (k : Copy) (off be : Nat) : BusAns × Dev :=
  match h with
  | .bar p 0 _ => d.busRead (k.access p be) off
  | .bar p _ _ => let (w, c) := d.chip.barLoad (.mgmt p) off be; ({ data := w }, { d with chip := c })
  | .port n _ => let (w, c) := d.chip.barLoad (.port n) off be; ({ data := w }, { d with chip := c })
  | _ => ({}, d)

/-- The offset of a hit. -/
def OwnHit.off : OwnHit → Nat
  | .bar _ _ o => o
  | .port _ o => o
  | _ => 0

/-- The dwords that n bytes from an offset touch. -/
def dwordsOf (off n : Nat) : List Nat := (List.range (divUp (off % 4 + n) 4)).map fun i => off / 4 * 4 + 4 * i

/-- The byte enables of a dword of n bytes from an offset, with lanes given for those bytes. -/
def dwordBe (off n dw : Nat) (on : Nat → Bool) : Nat :=
  (((List.range 4).filter fun i => Nat.ble off (dw + i) && Nat.blt (dw + i) (off + n) && on (dw + i - off)).map (2 ^ ·)).sum

/-- A memory write is carried out dword by dword until a gate denies one. -/
def Dev.hitWrites (h : OwnHit) (k : Copy) : List Nat → Dev → Option Nat × Dev
  | [], d => (none, d)
  | dw :: rest, d =>
    let off := h.off
    let n := k.pkt.data.length
    let byte (i : Nat) : Byte := if off ≤ dw + i then k.pkt.data.getD (dw + i - off) 0 else 0
    match d.hitWrite h k dw (dwordBe off n dw k.pkt.laneOn) (word (leNat ((List.range 4).map byte))) with
    | (r, d) => match r.deny with
      | some x => (some x, d)
      | none => Dev.hitWrites h k rest d

/-- A memory read is carried out dword by dword: the bytes, or the reason of a gate that denied one. -/
def Dev.hitReads (h : OwnHit) (k : Copy) : List Nat → Dev → List Byte → (Option Nat × List Byte) × Dev
  | [], d, bs => ((none, bs), d)
  | dw :: rest, d, bs =>
    let off := h.off
    match d.hitRead h k dw (dwordBe off k.pkt.len dw fun _ => true) with
    | (r, d) => match r.deny with
      | some x => ((some x, []), d)
      | none =>
        let mine := (List.range 4).filter fun i => Nat.ble off (dw + i) && Nat.blt (dw + i) (off + k.pkt.len)
        let all := leBytes 4 r.data.toNat
        Dev.hitReads h k rest d (bs ++ mine.map fun i => all.getD i 0)

/-! ### Answers -/

/-- The Requester ID of a function as a Completer ID. -/
def Chip.fnId (c : Chip) : Fn → Nat
  | .port n => if c.role n = 2 then 0 else c.portRid n
  | .mgmt p => c.mgmtRid p
  | .rdp p _ => c.mgmtRid p
  | .pantry _ => 0

/-- A completion of a request that ended at a function of the device: toward the partition's own host it leaves by the
upstream port at once (R24), to any other source as a completion of the device. -/
def Chip.ownAnswer (c : Chip) (k : Copy) (cid : Nat) (st : CplStatus) (bs : List Byte) : Chip :=
  if c.answeredBySquash k then (c.retireFlcReq k.hier k.pkt.rid k.pkt.tag).inc F.GLB_FLC_LATE.COUNT
  else
    let c := if k.flc.isSome then c.retireFlcReq k.hier k.pkt.rid k.pkt.tag else c
    let n := bs.length
    let one (addr off len : Nat) : Packet :=
      { kind := .cpl, cls := k.pkt.cls, rid := k.oRid, tag := k.oTag, status := st, hdrBytes := 12, cid,
        byteCount := if bs.isEmpty then k.pkt.len else n - off, len, addr, data := (bs.drop off).take len, lastCpl := off + len == n }
    let ps := if bs.isEmpty then [one k.pkt.addr 0 0]
      else (cutAt (c.cplMps k.src k.part) n k.pkt.addr n).map fun q => one q.1 (q.1 - k.pkt.addr) q.2
    match k.src with
    | .port m =>
      if c.isPcie m && c.role m == 1 then (if c.linkLive m then c.emitAll (ps.map (.tlp m)) else c)
      else ps.foldl (fun c p => c.sendBack k.src k.part k.inFab p) c
    | s => ps.foldl (fun c p => c.sendBack s k.part none p) c

/-- The Completer ID of the management function of a request's partition. -/
def Chip.mgmtCid (c : Chip) (k : Copy) : Nat := match k.part with | some p => c.mgmtRid p | none => 0

/-- A request that no function of the device supports. -/
def Chip.ownUr (c : Chip) (k : Copy) : Chip := if k.cat = .nonPosted then c.ownAnswer k (c.mgmtCid k) .ur [] else c

/-- A request that a gate denied (R404): a host's or card's is logged at the port function that received it. -/
def Chip.ownDenied (c : Chip) (k : Copy) : Chip :=
  (c.logCopy k).ownUr k

/-- A configuration request is carried out by a function; a management function captures the bus number of a write (R251). -/
def Dev.cfgTake (d : Dev) (f : Fn) (k : Copy) : Dev :=
  let off := k.pkt.addr % 4096 / 4 * 4
  let late : Bool := match f with | .mgmt p => (d.chip.part p).flr | _ => false
  if late then d.onChip fun c => c.ownAnswer k (c.fnId f) .rrs []
  else if k.pkt.kind = .cfgRd then
    d.onChip fun c => c.ownAnswer k (c.fnId f) .sc (leBytes 4 (c.cfgRead f off))
  else
    let be := (((List.range 4).filter k.pkt.laneOn).map (2 ^ ·)).sum
    let d := match f with
      | .mgmt p => d.onChip fun c => c.updPart p fun h => { h with bus := k.pkt.idRoute / 256 }
      | _ => d
    let id := d.chip.fnId f
    (d.cfgWrite f off be (leNat k.pkt.data)).onChip fun c => c.ownAnswer k id .sc []

/-- A memory request is carried out by a BAR; one that is no read or write is answered with Unsupported Request, once
gate 109 has judged it (R386). -/
def Dev.barTake (d : Dev) (h : OwnHit) (cid : Nat) (k : Copy) : Dev :=
  match k.pkt.kind with
  | .memWr =>
    match Dev.hitWrites h k (dwordsOf h.off k.pkt.data.length) d with
    | (some _, d) => d.onChip fun c => c.ownDenied k
    | (none, d) => d
  | .memRd =>
    match Dev.hitReads h k (dwordsOf h.off k.pkt.len) d [] with
    | ((some _, _), d) => d.onChip fun c => c.ownDenied k
    | ((none, bs), d) => d.onChip fun c => c.ownAnswer k cid .sc bs
  | _ =>
    match h with
    | .bar p 0 off =>
      d.onChip fun c =>
        match c.gate 109 { st := k.st, addr := off, reads := k.pkt.gateReads, writes := k.pkt.gateWrites, rid := k.oRid,
                           part := some p } with
        | (some _, c) => c.ownDenied k
        | (none, c) => c.ownUr k
    | _ => d.onChip fun c => c.ownUr k

/-- A request that terminates at a function of its partition is carried out. -/
def Dev.ownTake (d : Dev) (k : Copy) : Dev :=
  let d := d.onChip fun c => c.dropCopy k.id
  match k.part with
  | none =>
    if k.pkt.isMem then
      match d.chip.rootPorts.find? fun n => d.chip.portBar n k.pkt.addr with
      | some n => d.barTake (.port n (k.pkt.addr - d.chip.barBase (.port n) 0x10 0x2000)) 0 k
      | none => d.onChip fun c => c.ownUr k
    else match d.chip.rootFn? k.pkt.idRoute with
      | some f => d.cfgTake f k
      | none => d.onChip fun c => c.ownUr k
  | some p =>
    match d.chip.ownHit p k.pkt with
    | .cfg f => d.cfgTake f k
    | .bar p b off => d.barTake (.bar p b off) (d.chip.mgmtRid p) k
    | .port n off => d.barTake (.port n off) (d.chip.fnId (.port n)) k
    | .none => d.onChip fun c => c.ownUr k

/-- Requests that have come to the Porch of an upstream port are carried out once they are whole, those of one source in their
order. -/
def Dev.ownRun (d : Dev) : Dev :=
  let ks := d.chip.cel.copies.filter fun k => k.dest == .mgmt && k.charge == .none
  let due (k : Copy) : Bool := k.whole && (ks.takeWhile fun w => w.id != k.id).all fun w => w.whole || w.src != k.src
  (ks.filter due).foldl Dev.ownTake d

/-- The lent root port whose bridge registers a configuration request of a proxy partition's host reaches: the one for which the
home chip forwards it (R267, R268); of a request that names none, the only one, and among several a free choice. -/
def Chip.lentPort? (c : Chip) (q : Nat) (asked : Option Nat) : Option Nat × Chip :=
  match asked, c.lentPorts q with
  | some n, ns => (if ns.elem n then some n else none, c)
  | none, [] => (none, c)
  | none, [n] => (some n, c)
  | none, n :: ns => ((n :: ns)[c.freeVal % (n :: ns).length]?, c.drawn)

/-- What the management complex does with a copy from its queue (R268, R624): bridge registers and BARs of lent root ports
on the host's behalf; a posted request is consumed; another is answered with Unsupported Request. -/
def Dev.mgmtTake (d : Dev) (k : Copy) : Dev :=
  let d := d.onChip fun c => c.dropCopy k.id
  match k.part with
  | none => d.onChip fun c => c.ownUr k
  | some q =>
    if !d.chip.isProxy q then d.onChip fun c => c.ownUr k
    else if k.pkt.kind = .cfgRd || k.pkt.kind = .cfgWr then
      match d.chip.lentPort? q k.pkt.rootPort with
      | (some n, c) => Dev.cfgTake { d with chip := c } (.port n) k
      | (none, c) => { d with chip := c.ownUr k }
    else
      match d.chip.ownHit q k.pkt with
      | .port n off => d.barTake (.port n off) (d.chip.fnId (.port n)) k
      | _ => d.onChip fun c => c.ownUr k

end Sys2Proof.Machine
end

