-- ==== Sys2Proof/Machine/ParcelOps.lean ====
section
/-! DEFINITION. What the words of a parcel's payload come to: the fabric packets of a class, back to back (R139, R197, R220,
R243). -/

namespace Sys2Proof.Machine

/-- What a receiver finds in a parcel's words: a packet all of whose words have come, a packet that goes on in the next
parcel of the class, or the loss of the class's framing (0x31). -/
inductive RxEv where
  | done (o : RxOpen)
  | more (o : RxOpen)
  | lost
  deriving DecidableEq, Repr, Inhabited

/-- A header word where one is due: the packet that it begins in a parcel's cell, at a place in words, with the number that an
early lookup gave it. -/
def RxOpen.begin (h : FabHdr) (cell time i : Nat) (tlp : Packet) (early : Option Nat) : RxOpen :=
  { left := h.lenWords, hdr := h, tlp, cells := [cell], off := 8 * i, time, looked := early.isSome, rx := early }

/-- A word of a packet's body in a parcel's cell. Only the first words of a body are kept: those of a TLP come as the packet
that the PCI Express Base Specification reads in them. -/
def RxOpen.word (o : RxOpen) (cell w : Nat) : RxOpen :=
  { o with left := o.left - 1
           body := if o.body.length < 3 then o.body ++ [BitVec.ofNat 64 w] else o.body
           cells := if o.cells.elem cell then o.cells else o.cells ++ [cell] }

/-- The words of a payload from place i on, with the packet that is open, the TLPs of the packets that begin in what is left,
and the numbers of their early lookups (R139): an all-zero word where a header is due is pad. -/
def rxWords (cell time : Nat) : Nat → Option RxOpen → List Packet → List (Option Nat) → List Nat → List RxEv
  | _, none, _, _, [] => []
  | _, some o, _, _, [] => [.more o]
  | i, none, ts, es, w :: ws =>
    let h := headerOf w
    if w = 0 then []
    else if h.lenWords = 0 || 521 < h.lenWords then [.lost]
    else
      let tlp := if h.typ = 1 then ts.headD { malformed := true } else {}
      rxWords cell time (i + 1) (some (.begin h cell time i tlp (es.headD none))) (if h.typ = 1 then ts.tail else ts) es.tail ws
  | i, some o, ts, es, w :: ws =>
    let o := o.word cell w
    if o.left = 0 then .done o :: rxWords cell time (i + 1) none ts es ws
    else rxWords cell time (i + 1) (some o) ts es ws

/-- What a parcel held good comes to, with the packet that its class has open. Pad alone where a packet is open ends the
framing (0x31). -/
def Parcel.events (p : Parcel) (open_ : Option RxOpen) : List RxEv :=
  if open_.isSome && p.body.used = 0 then [.lost]
  else rxWords p.cell p.time 0 open_ p.body.tlps p.early ((p.body.words.take p.body.used).map (·.toNat))

/-- The fabric packet of a class whose words have come, or begun to come (R220 to R222). A TLP that is not as long as LEN says
is malformed (0x35). -/
def RxOpen.packet (o : RxOpen) (cls : Nat) : Packet :=
  let fab := some (o.hdr.filled (o.body.map (·.toNat)))
  if o.hdr.typ = 1 then { o.tlp with cls, fab, malformed := o.tlp.malformed || o.hdr.lenWords != o.tlp.bodyWords }
  else { kind := .msg, cls, hdrBytes := 8 * (1 + o.hdr.lenWords), fab }

end Sys2Proof.Machine
end

