-- ==== Sys2Proof/Machine/HallwayOps.lean ====
section
/-! DEFINITION. Packets that enter the device and what they ask of its registers: ports, the fabric with DISC (R241, R242),
engines and firmware; and the selection at egress. The meanings stand in Machine/Hallway.lean. -/

namespace Sys2Proof.Machine

/-! ### DISC requests (R241, R242) -/

/-- A fabric packet is a DISC request that this chip executes. -/
def Chip.discDue (c : Chip) (n : Nat) (p : Packet) (h : FabHdr) (a : Arr) : Bool :=
  h.typ == 2 && !h.disc.isResponse && (c.fabViol? p h).isNone && c.discMode && (c.discRequest n p h a).1

/-- The master and colour of a DISC access (Table 11.2). -/
def discStanding : Standing := { master := .fabric, colour := 0 }

/-- A DISC READ: what the FAB register shows, without the effects of a read (R242, R618). -/
def Dev.discRead (d : Dev) (n : Nat) (h : FabHdr) (off : Nat) : Dev :=
  match d.chip.gate 109 { st := discStanding, addr := off, reads := true, writes := false } with
  | (some _, c) => { d with chip := c.discRespond n h 1 0 }
  | (none, c) => Dev.onChip { d with chip := c } fun c => c.discRespond n h 0 (Dev.peek { d with chip := c } off)

/-- A DISC WRITE: only with REMOTE_WR, and then as a local write. -/
def Dev.discWrite (d : Dev) (n : Nat) (h : FabHdr) (off : Nat) : Dev :=
  if !d.chip.flag F.FAB_CFG.REMOTE_WR then d.onChip fun c => (c.fabViolation n 0x34).discRespond n h 1 0
  else
    match d.busWrite { who := .fw, st := some discStanding } off h.disc.data with
    | (r, d) => d.onChip fun c => c.discRespond n h (if r.deny.isSome then 1 else 0) 0

/-- A DISC request is executed, and its response leaves by the port that it came in by; ADDR bits [1:0] are ignored. -/
def Dev.discExec (d : Dev) (n : Nat) (h : FabHdr) : Dev :=
  let off := 0xE000000 + h.disc.addr / 4 * 4
  if 0x197C < h.disc.addr / 4 * 4 then d.onChip fun c => c.discRespond n h 2 0
  else if h.disc.op = 1 then d.discRead n h off
  else d.discWrite n h off

/-- A packet of a Fleren port passes the lookup (Table 5.1): behind a captured write that waits it waits too (R351); a capture
rule of the tile takes a posted write (R347); a DISC request for this chip is executed. -/
def Dev.fabTake (d : Dev) (n : Nat) (p : Packet) (a : Arr) : Dev :=
  match p.fab with
  | none => d.flerenIn n p a
  | some h =>
    if d.chip.capBehind n then d.onChip fun c => c.capWait { (c.fabLooks n p h a).copy 0 0 .mgmt true with pkt := p }
    else match d.chip.fabCap? n p h with
      | some r => (d.onChip fun c => c.pulse (tileUnit (tileOf n)) 0x10).capTake n r (d.chip.fabLooks n p h a)
      | none => if d.chip.discDue n p h a then d.discExec n h else d.flerenIn n p a

/-- The packets that wait at a port go on once the capture before them is over, up to `fuel` of them. -/
def Dev.drainPort (n : Nat) : Nat → Dev → Dev
  | 0, d => d
  | fuel + 1, d =>
    match d.chip.cel.capWaiting.find? fun e => e.2.src == .port n with
    | none => d
    | some e =>
      let rest := d.chip.cel.capWaiting.erase e
      let others := rest.filter fun q => q.2.src == .port n
      let d' := d.onChip fun c => { c with cel := { c.cel with capWaiting := rest.filter fun q => q.2.src != .port n } }
      let a : Arr := { stamp := e.2.stamp, touch := e.2.touch, off := e.2.off, whole := e.2.whole, rx := e.2.rx }
      let d' := match e.1 with
        | some r => d'.capPlace r e.2 false
        | none => if d'.chip.isFleren n then d'.fabTake n e.2.pkt a else d'.portIn n e.2.pkt a
      let stuck := d'.chip.cel.capWaiting.any fun q => q.2.src == .port n
      let d' := d'.onChip fun c => { c with cel := { c.cel with capWaiting := c.cel.capWaiting ++ others } }
      if stuck then d' else Dev.drainPort n fuel d'

/-! ### Packets in parcels (R139, R141, R149, R150, R191) -/

/-- A packet may pass the lookup before it has come in full: a TLP of the fabric that nothing inside the device takes whole. -/
def Chip.early? (c : Chip) (n : Nat) (p : Packet) : Bool :=
  match p.fab with
  | some h => h.typ == 1 && p.kind != .msg && (c.fabCap? n p h).isNone && !c.capBehind n
  | none => false

/-- The copies of a packet in parcels, by its number, wherever they are. -/
def Chip.updRx (c : Chip) (n : Nat) (rx : Option Nat) (f : Copy → Copy) : Chip :=
  let g (k : Copy) : Copy := if rx.isSome && k.src == .port n && k.rx == rx then f k else k
  { c with cel := { c.cel with copies := c.cel.copies.map g
                               waiting := c.cel.waiting.map g
                               flcWaiting := c.cel.flcWaiting.map g
                               capWaiting := c.cel.capWaiting.map fun e => (e.1, g e.2) } }

/-- A copy in parcel cells lies in the cells that its packet touches, from its place in the first on. -/
def Copy.inCells (k : Copy) (o : RxOpen) : Copy :=
  if k.touch.isEmpty then k else { k with touch := o.cells, off := o.off }

/-- Completions handed to the requesters inside the device that copies have reached. -/
def Chip.giveAll (c : Chip) : Chip :=
  (c.cel.copies.filterMap fun k => match k.dest with | .requester s => some s | _ => none).eraseDups.foldl Chip.giveIn c

/-- A packet has come in full, its parcels held good (R150): a copy that was held, or marked at its tail, may leave in full. -/
def Dev.rxDone (d : Dev) (n cls : Nat) (o : RxOpen) : Dev :=
  if o.looked then
    d.onChip fun c => (c.updRx n o.rx fun k => { k.inCells o with whole := true, held := false }).giveAll
  else d.fabTake n (o.packet cls) { stamp := o.time, touch := o.cells, off := o.off }

/-- A packet goes on in the next parcel of its class: it passes the lookup now, so that the parcel which it begins in can
commit (R191), once its encapsulation word has come. -/
def Dev.rxMore (d : Dev) (n cls : Nat) (o : RxOpen) : Dev :=
  let keep (d : Dev) (o : RxOpen) : Dev := d.onChip fun c => c.updFl n fun h => { h with open_ := h.open_.set none cls (some o) }
  let p := o.packet cls
  if o.looked then keep (d.onChip fun c => c.updRx n o.rx fun k => { k.inCells o with held := false }) o
  else if o.body.isEmpty || !d.chip.early? n p then keep d o
  else
    let (rx, c) := d.chip.newId
    keep (Dev.fabTake { d with chip := c } n p { stamp := o.time, touch := o.cells, off := o.off, whole := false, rx := some rx })
      { o with looked := true, rx := some rx }

/-- One event of a parcel; TRAIL_BAD makes its packet a bad one (R141, Table 5.6). -/
def Dev.rxTake (d : Dev) (n cls : Nat) (e : RxEv) (bad : Bool) : Dev :=
  let spoil (o : RxOpen) : Dev :=
    if o.looked then d.onChip fun c => c.spoil fun k => k.src == .port n && o.rx.isSome && k.rx == o.rx else d
  match e with
  | .lost => d.onChip fun c => (c.fabViolation n 0x31).linkDown n 6 0
  | .done o => if bad then spoil o else d.rxDone n cls o
  | .more o => if bad then spoil o else d.rxMore n cls o

/-- The events of a parcel in order; TRAIL_BAD marks the last. -/
def Dev.rxRun (n cls : Nat) (bad : Bool) : List RxEv → Dev → Dev
  | [], d => d
  | [e], d => d.rxTake n cls e bad
  | e :: es, d => Dev.rxRun n cls bad es (d.rxTake n cls e false)

/-- The packets of a parcel pass the lookup, once. -/
def Dev.parcelLook (d : Dev) (n : Nat) (p : Parcel) : Dev :=
  let evs := p.events ((d.chip.flp n).open_.get none p.cls)
  Dev.rxRun n p.cls p.trailBad evs (d.onChip fun c => c.updFl n fun h => { h with
    slots := h.slots.map fun q => if q.seq == p.seq then { q with looked := true } else q
    open_ := h.open_.set none p.cls none })

/-- The packets of a parcel held good pass the lookup, unless packets of the port wait behind a captured write; while a packet
of the parcel `cell` has words still to come, so do those of the parcels that follow in order (R191). -/
def Dev.lookOn (n cell : Nat) : Nat → Nat → Dev → Dev
  | 0, _, d => d
  | fuel + 1, s, d =>
    match (d.chip.flp n).slots.find? fun p => p.good && p.seq == s with
    | none => d
    | some p =>
      let d := (if p.looked || d.chip.capBehind n then d else d.parcelLook n p).ownRun
      if d.chip.opens n cell && d.chip.flUp n then Dev.lookOn n cell fuel ((s + 1) % 65536) d else d

/-- The packets of the parcel that is next to commit pass the lookup; it commits when none of them waits to be admitted or has
words still to come (R149, R191). -/
def Dev.parcelCommit (d : Dev) (n : Nat) : Dev :=
  match d.chip.nextCommit? n with
  | none => d
  | some p =>
    let d := Dev.lookOn n p.cell ((d.chip.flp n).slots.length + 1) p.seq d
    match d.chip.nextCommit? n with
    | none => d
    | some p => if !p.looked || !d.chip.flUp n || d.chip.cellBusy n p then d else d.onChip fun c => c.commit n p

/-- A packet that begins in the parcel which is arriving comes to the lookup (R150): it passes it, to be forwarded by
cut-through, only when the parcel is next to commit; else it waits for the commit. One that came with an earlier copy of the
parcel changes nothing. -/
def Dev.earlyPacket (d : Dev) (n : Nat) (r : RxHead) (p : Packet) : Dev :=
  let seen (c : Chip) : Chip := c.updFl n fun h => { h with receiving := some { r with shown := r.shown + 1 } }
  let note (e : Option Nat) (c : Chip) : Chip := c.updFl n fun h => { h with slots := h.slots.map fun q =>
    if q.seq == r.seq then { q with early := q.early ++ [e] } else q }
  let p := { p with cls := r.cls }
  match d.chip.slot? n r.seq with
  | none => d.onChip seen
  | some s =>
    if !r.keep || s.good || r.shown < s.early.length then d.onChip seen
    else if r.seq = d.chip.rxCommit n && d.chip.early? n p then
      let (rx, c) := d.chip.newId
      let d := Dev.fabTake { d with chip := note (some rx) (seen c) } n p
        { stamp := s.time, touch := [s.cell], whole := false, rx := some rx }
      d.ownRun
    else d.onChip fun c => note none (seen c)

/-! ### Packets that enter (R174) -/

/-- A packet received on a PCI Express port takes its credits, passes the lookup, and gives them back when it can (R187). -/
def Dev.pcieIn (d : Dev) (n : Nat) (p : Packet) (whole : Bool) : Dev :=
  let (rx, c) := d.chip.takeCredits n p
  ((Dev.portIn { d with chip := c } n p { stamp := d.chip.ns, whole, rx := some rx }).ownRun).onChip Chip.returnCredits

/-- A packet received on a port, with what the link layer says of it (Table 3.9: 0x02, 0x03); on a Fleren port, a packet of the
parcel that is arriving, or with none arriving a packet that has come in full. -/
def Dev.portPacket (d : Dev) (n : Nat) (p : Packet) (whole : Bool) (rx : RxState) : Dev :=
  let c := d.chip
  if c.isPcie n && c.linkLive n then
    match rx with
    | .accepted => d.pcieIn n p whole
    | .flowControl => d.onChip fun c => (c.violation n 0x02).setFld F.PRT_LINK_STATUS.LTSSM 5 n
    | .overflow => d.onChip fun c => c.violation n 0x03
  else if c.isFleren n && c.flUp n then
    match (c.flp n).receiving with
    | some r => d.earlyPacket n r p
    | none => (d.fabTake n p { stamp := c.ns }).ownRun
  else d

/-- A write that an engine's emitter passes to the lookup through a window of its job (R23, R372). -/
def Dev.enginePacket (d : Dev) (e w : Nat) (p : Packet) : Dev :=
  match d.chip.jobOf? e with
  | some j => if p.kind = .memWr && !d.chip.windowOff j w then (d.onChip fun c => c.engineSend e j w p).ownRun else d
  | none => d

/-- A request that firmware issues for a partition or for the internal root: it stalls while the partition's Bus Master Enable
is 0 (R25, R120, R121), and waits behind those of it that do; a write to the segment waits for the one before it (R414), and a
non-posted request for a tag. -/
def Dev.firmwareOne (d : Dev) (part : Option Nat) (p : Packet) : Dev :=
  let again (c : Chip) : Copy :=
    { id := 0, pid := 0, pkt := p, src := .firmware, part, dest := .mgmt, stamp := c.ns, cells := 0, charge := .none }
  if p.kind = .cpl then d
  else if d.chip.masterHeld part || (d.chip.goesToSeg part p && d.chip.segOwes .firmware) then d.onChip fun c => c.stall (again c)
  else if p.cat = .nonPosted then
    match d.chip.devTag part .firmware p.addr p.len with
    | (some t, c) => Dev.ownRun { d with chip := (c.pulse 0xC06 0x12).firmwareSend part { p with tag := t } }
    | (none, _) => d.onChip fun c => c.stall (again c)
  else (d.onChip fun c => (c.pulse 0xC06 0x12).firmwareSend part p).ownRun

/-- The pieces of at most m bytes of a write or read. -/
def Packet.cut (p : Packet) (m : Nat) : List Packet :=
  match p.kind, burstCut m p.len p.addr p.len with
  | .memWr, q :: r :: qs => (q :: r :: qs).map fun q =>
      { p with addr := q.1, len := q.2, data := (p.data.drop (q.1 - p.addr)).take q.2, lanes := (p.lanes.drop (q.1 - p.addr)).take q.2 }
  | .memRd, q :: r :: qs => (q :: r :: qs).map fun q => { p with addr := q.1, len := q.2 }
  | _, _ => [p]

/-- A request that firmware issues; one for a partition in pieces that its management function may send (R251), any other in
pieces that cross no 4 KiB boundary (R391). -/
def Dev.firmwarePacket (d : Dev) (part : Option Nat) (p : Packet) : Dev :=
  let most := match part with | some q => d.chip.ownSize (some q) (p.kind == .memRd) | none => 4096
  (p.cut most).foldl (fun d k => d.firmwareOne part k) d

/-- A packet enters the device. -/
def Dev.packetIn (d : Dev) (e : Entry) (p : Packet) (whole : Bool) (rx : RxState) : Dev :=
  match e with
  | .port n => d.portPacket n.val p whole rx
  | .engine e w => d.enginePacket e.val w.val p
  | .firmware part => d.firmwarePacket (part.map (·.val)) p

/-- A configuration request or a memory request of a partition's own host that ends at a function of the partition (R24,
R477). -/
def Dev.hostRequest (d : Dev) (p : Nat) (k : Packet) : Dev :=
  match d.chip.upPort? p with
  | some u =>
    if d.chip.linkLive u && k.kind != .msg && k.kind != .cpl && d.chip.resolve (some p) (some u) k == .own then
      d.pcieIn u k true
    else d
  | none => d

/-! ### Selection (R281, R282) -/

/-- A selection at an egress (R176, R281, R282): a copy starts, a Fleren port sends what comes first, a queue served round
robin gives up its next copy, the segment queue fills, or a requester takes its completions; new heads are judged (R284). -/
def Dev.egress (d : Dev) (e : Dest) (arrived blocked : List Nat) : Dev :=
  let d := d.onChip fun c => c.note_ e arrived blocked
  let d := match e with
    | .port n =>
      d.onChip fun c =>
        if c.isPcie n then
          (if c.linkLive n && !c.sending n then Chip.startNext n (c.cel.copies.length + 1) c else c)
        else if c.isFleren n && c.lstate n == flUpState then c.flBoundary n
        else c
    | .pantry t => d.serve (.pantry t) t fun d k => d.pantryTake t k
    | .legacy => d.onChip Chip.segFill
    | .mgmt => d.ownRun.serve .mgmt 12 Dev.mgmtTake
    | .requester s => d.onChip fun c => c.giveIn s
  d.onChip fun c => c.judgeHeads.returnCredits

end Sys2Proof.Machine
end

