-- ==== Sys2Proof/Machine/Bus.lean ====
section
/-! DEFINITION. The meanings of the commands of the register bus (spec/00_scope.md, spec/19_register_map.md): writes and reads of
BAR0 offsets, and the configuration and BAR requests of a partition's own host (R24). -/

namespace Sys2Proof.Machine

/-- A write of BAR0; a denied one of a host is logged (R404). -/
def Dev.rowWrite (d : Dev) (a : Access) (off : Nat) (v : Word) : Dev :=
  match d.busWrite a off v with
  | (r, d) => if r.deny.isSome then d.onChip fun c => c.logDenied a true else d

/-- A read of BAR0, answered with its data; a denied one has none. -/
def Dev.rowRead (d : Dev) (a : Access) (off : Nat) : Dev :=
  match d.busRead a off with
  | (r, d) => if r.deny.isSome then d.onChip fun c => (c.logDenied a false).answering [] else d.onChip fun c => c.answering [r.data]

/-- R8, R504: an offset of BAR0 is written. -/
def execRegisterWrite (a : Access) (off : Fin 0x10000000) (v : Word) (s : State) : Host.Outcome State Fault Refusal :=
  .next (s.onDev fun d => d.rowWrite a off.val v)

/-- R8, R618: an offset of BAR0 is read; RC fields are cleared by a requester allowed to. -/
def execReadClear (a : Access) (off : Fin 0x10000000) (s : State) : Host.Outcome State Fault Refusal :=
  .next (s.onDev fun d => d.rowRead a off.val)

/-- R5: the LO half of a pair is read. -/
def execPairLoRead (a : Access) (off : Fin 0x10000000) (s : State) : Host.Outcome State Fault Refusal :=
  .next (s.onDev fun d => d.rowRead a off.val)

/-- R6: the LO half of a pair is written. -/
def execPairLoWrite (a : Access) (off : Fin 0x10000000) (v : Word) (s : State) : Host.Outcome State Fault Refusal :=
  .next (s.onDev fun d => d.rowWrite a off.val v)

/-- R6: the HI half of a pair is written. -/
def execPairHiWrite (a : Access) (off : Fin 0x10000000) (v : Word) (s : State) : Host.Outcome State Fault Refusal :=
  .next (s.onDev fun d => d.rowWrite a off.val v)

/-- R24: a request of partition p's host that ends at a function of the partition. -/
def execConfigRequest (p : Fin 32) (k : Packet) (s : State) : Host.Outcome State Fault Refusal :=
  .next (s.onDev fun d => d.hostRequest p.val k)

end Sys2Proof.Machine
end

