-- ==== Sys2Proof/Machine/Counters.lean ====
section
/-! DEFINITION. The meanings of the commands of the counters and of Sillage (spec/17_counters_debug.md). -/

namespace Sys2Proof.Machine

/-- R574: a write of SNAP. -/
def execCounterSnapshot (a : Access) (v : Word) (s : State) : Host.Outcome State Fault Refusal :=
  .next (s.onChip fun c => c.ownWrite a ⟨.CTR_SNAP, 0, 0⟩ v fun c => c.writeSnap a v)

/-- R574: every unit has copied its counters. -/
def execSnapshotDone (s : State) : Host.Outcome State Fault Refusal := .next (s.onChip fun c => c.snapshotDone)

/-- R575: a write of FREEZE. -/
def execCounterFreeze (a : Access) (v : Word) (s : State) : Host.Outcome State Fault Refusal :=
  .next (s.onChip fun c => c.ownWrite a ⟨.CTR_SNAP, 0, 0⟩ v fun c => c.writeSnap a v)

/-- R576: a write of CLEAR. -/
def execCounterClear (a : Access) (v : Word) (s : State) : Host.Outcome State Fault Refusal :=
  .next (s.onChip fun c => c.ownWrite a ⟨.CTR_SNAP, 0, 0⟩ v fun c => c.writeSnap a v)

/-- R581: a write to FLT_SIL_CFG that arms Sillage. -/
def execSillageArm (a : Access) (v : Word) (s : State) : Host.Outcome State Fault Refusal :=
  .next (s.onChip fun c => c.ownWrite a ⟨.FLT_SIL_CFG, 0, 0⟩ v fun c => c.writeSilCfg v)

/-- R581: a write to FLT_SIL_CFG that disarms Sillage. -/
def execSillageDisarm (a : Access) (v : Word) (s : State) : Host.Outcome State Fault Refusal :=
  .next (s.onChip fun c => c.ownWrite a ⟨.FLT_SIL_CFG, 0, 0⟩ v fun c => c.writeSilCfg v)

/-- R578, R579: the event vector of a probe at a sample; `full` says that 4 of its records wait. -/
def execSillageProbeChange (p : Fin 16) (vector : Fin 65536) (full : Bool) (s : State) : Host.Outcome State Fault Refusal :=
  .next (s.onChip fun c => c.silSample p.val vector.val full)

/-- R580: a write to FLT_SIL_CTL. -/
def execSillageTrigger (a : Access) (v : Word) (s : State) : Host.Outcome State Fault Refusal :=
  .next (s.onChip fun c => c.ownWrite a ⟨.FLT_SIL_CTL, 0, 0⟩ v fun c => if wbit v 31 then c.silTrigger 0 0 true else c)

/-- R581: POST records have been written. -/
def execSillagePostDone (s : State) : Host.Outcome State Fault Refusal := .next (s.onChip fun c => c.silDone)

/-- R568: a programmable counter of a unit, or its cycle counter, passes 2^48 − 1. -/
def execCounterWrap (u : Fin 4096) (i : Option (Fin 8)) (s : State) : Host.Outcome State Fault Refusal :=
  .next (s.onChip fun c => match i with
    | some i => c.ctrWrap u.val i.val
    | none => c.cycWrap u.val)

end Sys2Proof.Machine
end

