-- ==== Sys2Proof/Machine/DbgOps.lean ====
section
/-! DEFINITION. The debug port, the lifecycle and the boundary scan port (R583 to R588, R611, R612). The meanings stand in
Machine/Debug.lean. -/

namespace Sys2Proof.Machine

/-- The debug unit changed. -/
def Chip.updDbg (c : Chip) (f : DbgH → DbgH) : Chip := { c with dbg := f c.dbg }

/-- The TAP is powered: in every state but PS3 and PS4 (R583). -/
def Chip.tapUp (c : Chip) : Bool := Nat.blt (c.fld F.PWR_STATUS.STATE) 3

/-! ### Debug accesses (Table 17.5, R584 to R586) -/

/-- SPACE, TILE and byte offset of DBG_ADDR. -/
def Chip.dbgSpace (c : Chip) : Nat := bits c.dbg.addr 39 36
/-- TILE of DBG_ADDR. -/
def Chip.dbgTile (c : Chip) : Nat := bits c.dbg.addr 35 32
/-- The byte offset of DBG_ADDR. -/
def Chip.dbgOff (c : Chip) : Nat := bits c.dbg.addr 31 2 * 4

/-- The bytes of a space; none for a SPACE or TILE that names nothing. -/
def Chip.dbgSize? (c : Chip) : Option Nat :=
  match c.dbgSpace with
  | 0 => some (2 ^ 28)
  | 1 => some 0x400000
  | 2 => some atticSize
  | 3 => if c.dbgTile < 12 then some pantrySize else none
  | 4 => some 0x40
  | _ => none

/-- The debug port's access to BAR0. -/
def dbgAccess : Access := { who := .debug }

/-- An access of the debug port at a memory's own gate. -/
def dbgView (off : Nat) (write : Bool) : GateAccess :=
  { st := { master := .debug, colour := 0 }, addr := off, reads := !write, writes := write }

/-- The memory behind a gate, read or written. -/
def Dev.dbgMem (d : Dev) (g off : Nat) (write : Bool) (put : Dev → Dev) (get : Dev → Word) : BusAns × Dev :=
  match d.chip.gate g (dbgView off write) with
  | (some r, c) => ({ deny := some r }, { d with chip := c })
  | (none, c) =>
    let d : Dev := { d with chip := c }
    if write then ({}, put d) else ({ data := get d }, d)

/-- The access at DBG_ADDR. -/
def Dev.dbgRun (d : Dev) (write : Bool) (v : Word) : BusAns × Dev :=
  let off := d.chip.dbgOff
  let t := d.chip.dbgTile
  let bs := leBytes 4 v.toNat
  match d.chip.dbgSpace with
  | 0 => if write then d.busWrite dbgAccess off v else d.busRead dbgAccess off
  | 1 => d.dbgMem 108 off write (fun d => { d with mem := { d.mem with fw := Cells.putAll d.mem.fw off bs } })
      fun d => word (leNat (Cells.getAll d.mem.fw off 4))
  | 2 => d.dbgMem 110 off write (fun d => d.atticWrite off bs) fun d => word (d.mem.atticWord off)
  | 3 => d.dbgMem (96 + t) off write (fun d => d.pantryPost t off bs) fun d => word (d.mem.pantryWord t off)
  | _ =>
    if write then ({}, d.onChip fun c => c.windowWrite 33 off 15 v)
    else let (w, c) := d.chip.windowRead 33 off 15; ({ data := w }, { d with chip := c })

/-- An access starts: counted, and the first after RESET_N reported (R586). In PS2 it wakes the management domain. -/
def Chip.dbgStart (c : Chip) (write : Bool) (v : Word) : Chip :=
  let c := if c.ps = 2 then c.cycSync.updPwr fun h => { h with mgmtAwake := true } else c
  let c := if c.flag F.CTR_DBG_STATUS.ATTACHED then c
    else (c.setFld F.CTR_DBG_STATUS.ATTACHED 1).raise 0x1D7 0x2D 0 c.dbgOff
  (c.inc F.CTR_DBG_STATUS.ACCESSES).updDbg fun h => { h with busy := some (write, v) }

/-- An Update-DR of DBG_DATA (R584). -/
def Chip.dbgUpdate (c : Chip) (addr : Option (BitVec 40)) (write read : Bool) (v : Word) : Chip :=
  if !c.tapUp then c
  else
    let c := c.updDbg fun h => { h with ir := 0x41 }
    if c.dbg.busy.isSome then c.updDbg fun h => { h with status := 1 } else
    let c := c.updDbg fun h => { h with addr := match addr with | some a => a.toNat | none => h.addr }
    if write && read then c.updDbg fun h => { h with status := 3 }
    else if !write && !read then c
    else if !c.coreUp then c.updDbg fun h => { h with status := 3 }
    else c.dbgStart write v

/-- DBG_ADDR after an access: with INC the offset advances by 4. -/
def dbgNext (a : Nat) : Nat := if bit a 0 then a - bits a 31 2 * 4 + (bits a 31 2 + 1) % 2 ^ 30 * 4 else a

/-- The access in progress completes. -/
def Dev.dbgDone (d : Dev) : Dev :=
  match d.chip.dbg.busy with
  | none => d
  | some (write, v) =>
    let named := match d.chip.dbgSize? with | some n => Nat.blt d.chip.dbgOff n | none => false
    let next (c : Chip) (st : Nat) (w : Option Word) : Chip := c.updDbg fun h =>
      { h with busy := none, status := st, addr := dbgNext h.addr, data := w.getD h.data }
    if !named then d.onChip fun c => next c 3 none
    else
      match d.dbgRun write v with
      | (r, d) => d.onChip fun c =>
        if r.deny.isSome then next (c.setFld F.CTR_DBG_STATUS.DENIED_SEEN 1) 2 none
        else (next c 0 (if write then none else some r.data)).answering (if write then [] else [r.data])

/-! ### Lifecycle (R587, R588) -/

/-- LC_RESULT: 1 OK, 2 BAD_STATE, 3 SIG_FAIL. -/
def Chip.lcResult (c : Chip) (r : Nat) : Chip := c.updDbg fun h => { h with lcResult := r }

/-- A capture of LC_NONCE: a fresh value that is not 0, which is free. -/
def Chip.lcNonce (c : Chip) : Chip :=
  if !c.tapUp then c
  else
    let w := c.freeVal % (2 ^ 32 - 1) + 1
    ((c.drawn.updDbg fun h => { h with ir := 0x44, nonce := some (w, c.hwy) }).emit (.tdo w)).answering [word w]

/-- LC_CMD with OP SECURE: accepted in OPEN alone. -/
def Chip.lcSecure (c : Chip) : Chip :=
  if c.dbg.lcPending.isSome || c.lifecycle != 0 then c.lcResult 2
  else (c.lcResult 1).updDbg fun h => { h with lcPending := some 1 }

/-- The message that a RETURN command signs: FAB_UID, NONCE and OP. -/
def Chip.returnMessage (c : Chip) (nonce : Nat) : List Nat :=
  (List.range 6).map (fun i => (c.pair .FAB_UID_LO .FAB_UID_HI) / 256 ^ i % 256) ++
    (List.range 4).map (fun i => nonce / 256 ^ i % 256) ++ [2]

/-- The NONCE of a RETURN command is the last one captured, no more than 10 s before. -/
def Chip.nonceOk (c : Chip) (nonce : Nat) : Bool :=
  match c.dbg.nonce with
  | some (w, at_) => w == nonce && Nat.ble c.hwy (at_ + 10000 * msCycles)
  | none => false

/-- LC_CMD with OP RETURN: accepted in SECURED with a nonce captured and a signature that verifies. Which of the two codes
answers a wrong nonce is a free value. -/
def Chip.lcReturn (c : Chip) (nonce : Nat) (key sig : List Nat) : Chip :=
  if c.dbg.lcPending.isSome || c.lifecycle != 1 then c.lcResult 2
  else
    let ok := c.nonceOk nonce
    let c := c.updDbg fun h => { h with nonce := none }
    if !ok then (c.lcResult (2 + c.freeVal % 2)).drawn
    else if Config.keyOk key && Config.sigOk key (c.returnMessage nonce) sig then
      (c.lcResult 1).updDbg fun h => { h with lcPending := some 2 }
    else c.lcResult 3

/-- An LC_CMD is judged once an access in progress has completed (Table 17.7). -/
def Dev.lcCmd (d : Dev) (f : Chip → Chip) : Dev :=
  if !d.chip.tapUp then d
  else
    let d := if d.chip.coreUp then d.dbgDone else d
    d.onChip fun c => f (c.updDbg fun h => { h with ir := 0x43 })

/-! ### Boundary scan (R611, R612) -/

/-- The TAP takes an instruction. -/
def Chip.tapIr (c : Chip) (ir : Nat) : Chip := c.updDbg fun h => { h with ir }

/-- The boundary register captures the balls, is shifted out, and is loaded. -/
def Chip.scan (c : Chip) (balls load : List Bool) : Chip :=
  (c.emit (.tdo ((balls.mapIdx fun i b => b2n b * 2 ^ i).sum))).updDbg fun h => { h with boundary := load }

/-- An instruction that drives or floats balls: outside OPEN it acts as BYPASS (R612). -/
def Chip.tapDrive (c : Chip) (f : Chip → Chip) : Chip :=
  if !c.tapUp then c else if c.lifecycle != 0 then c.tapIr 0xFF else f c

end Sys2Proof.Machine
end

