-- ==== Sys2Proof/Machine/Debug.lean ====
section
/-! DEFINITION. The meanings of the commands of the debug port and the boundary scan port (spec/17_counters_debug.md,
spec/18_pins_electrical.md). -/

namespace Sys2Proof.Machine

/-- R584: an Update-DR of DBG_DATA, after one of DBG_ADDR when `addr` gives a value. -/
def execDebugAccess (addr : Option (BitVec 40)) (write read : Bool) (v : Word) (s : State) :
    Host.Outcome State Fault Refusal :=
  .next (s.onPin fun c => c.dbgUpdate addr write read v)

/-- R584: the debug access in progress completes. -/
def execDebugAccessDone (s : State) : Host.Outcome State Fault Refusal := .next (s.onDev Dev.dbgDone)

/-- R588: LC_NONCE is captured. -/
def execLcNonce (s : State) : Host.Outcome State Fault Refusal := .next (s.onPin Chip.lcNonce)

/-- R588: LC_CMD, with OP SECURE. -/
def execLcSecure (s : State) : Host.Outcome State Fault Refusal := .next (s.always fun d => d.lcCmd Chip.lcSecure)

/-- R588: LC_CMD, with OP RETURN. -/
def execLcReturn (nonce : Word) (key sig : List Byte) (s : State) : Host.Outcome State Fault Refusal :=
  .next (s.always fun d => d.lcCmd fun c => c.lcReturn nonce.toNat (key.map BitVec.toNat) (sig.map BitVec.toNat))

/-- R611: TRST_N, or Test-Logic-Reset: IDCODE is in effect and the balls are functional. -/
def execTapReset (s : State) : Host.Outcome State Fault Refusal :=
  .next (s.onPin fun c => if c.tapUp then c.tapIr 1 else c)

/-- R611: IDCODE. -/
def execIdcode (s : State) : Host.Outcome State Fault Refusal :=
  .next (s.onPin fun c => if c.tapUp then ((c.tapIr 1).emit (.tdo 0x27192BCF)).answering [0x27192BCF] else c)

/-- R611: SAMPLE/PRELOAD, with the levels at the balls and the preload. -/
def execSamplePreload (balls preload : List Bool) (s : State) : Host.Outcome State Fault Refusal :=
  .next (s.onPin fun c => if c.tapUp then (c.tapIr 2).scan balls preload else c)

/-- R611, R612: EXTEST. -/
def execExtest (balls drive : List Bool) (s : State) : Host.Outcome State Fault Refusal :=
  .next (s.onPin fun c => c.tapDrive fun c => (c.tapIr 3).scan balls drive)

/-- R611, R612: EXTEST_PULSE. -/
def execExtestPulse (balls drive : List Bool) (s : State) : Host.Outcome State Fault Refusal :=
  .next (s.onPin fun c => c.tapDrive fun c => (c.tapIr 4).scan balls drive)

/-- R611, R612: EXTEST_TRAIN. -/
def execExtestTrain (balls drive : List Bool) (s : State) : Host.Outcome State Fault Refusal :=
  .next (s.onPin fun c => c.tapDrive fun c => (c.tapIr 5).scan balls drive)

/-- R611, R612: CLAMP. -/
def execBoundaryClamp (s : State) : Host.Outcome State Fault Refusal := .next (s.onPin fun c => c.tapDrive fun c => c.tapIr 6)

/-- R611, R612: HIGHZ. -/
def execHighz (s : State) : Host.Outcome State Fault Refusal := .next (s.onPin fun c => c.tapDrive fun c => c.tapIr 7)

/-- R611: BYPASS, and every code without an instruction. -/
def execBypass (s : State) : Host.Outcome State Fault Refusal :=
  .next (s.onPin fun c => if c.tapUp then c.tapIr 0xFF else c)

end Sys2Proof.Machine
end

