-- ==== Sys2Proof/Machine/Emit.lean ====
section
/-! DEFINITION. The meanings of the commands of the Accord engines that enter the ingress header lookup: captured writes
that waited, FETCH and the emitter (R348 to R377). -/

namespace Sys2Proof.Machine

/-- R351: a captured write that waits under STALL, and the packets behind it at its port, proceed. -/
def execCaptureStallResume (n : Fin 96) (s : State) : Host.Outcome State Fault Refusal :=
  .next (s.onDev fun d => ((Dev.drainPort n.val (2 * d.chip.cel.capWaiting.length) d).ownRun).onChip Chip.returnCredits)

/-- R366, R367, R370, R371, R121: FETCH. -/
def execFetch (e : Fin 1536) (s : State) : Host.Outcome State Fault Refusal :=
  .next (s.onDev fun d => d.onInsn e.val 0x31 fun d w => d.onChip fun c =>
    let i := e.val
    let j := c.handJob i
    let t := j / 32
    let len := (c.gA i w).toNat
    let off := (c.eng i).ip / 8
    let groups := ((c.eng i).fetches.map (·.group)).eraseDups.length
    match c.slotWindow? j (insnD w % 4) with
    | none => c.recordError i 2
    | some x =>
      if c.flag F.ACD_DST_A.KIND t x then c.recordError i 2
      else if len < 4 || 4096 < len || len % 4 != 0 || (c.inArea i).2 < off + len then c.recordError i 1
      else if 8 ≤ groups then c.engWait i enFetch
      else if c.windowOff j x then (c.stall (stallMark i .memRd x 0 (c.windowPart j x))).showStall i
      else (c.issueFetch i x).getD c)

/-- R372 to R377, R121: the emitter writes the windows of the oldest emission of an engine that nothing holds back. -/
def execEmissionDone (e : Fin 1536) (s : State) : Host.Outcome State Fault Refusal :=
  .next (s.onDev fun d =>
    match d.chip.acd.emits.find? fun x => x.eng == e.val with
    | none => d
    | some x => d.emitSome x (d.chip.emitReady x))

end Sys2Proof.Machine
end

