-- ==== Sys2Proof/Machine/Fabric.lean ====
section
/-! DEFINITION. The meanings of the routing commands (spec/06_fabric_domains.md), and of the clocks of the schedulers
(spec/08_notes_scheduling.md), and the commits of the access gates (spec/11_access_gates.md). DISC packets stand in Machine/Hallway.lean. -/

namespace Sys2Proof.Machine

/-- R233, R224: a write of FAB_ROUTE_COMMIT. -/
def execRouteCommit (a : Access) (v : Word) (s : State) : Host.Outcome State Fault Refusal :=
  .next (s.onChip fun c => c.ownWrite a ⟨.FAB_ROUTE_COMMIT, 0, 0⟩ v fun c => c.writeRouteCommit v)

/-- R234: MOVE_QUIET µs without a copy of the pair have passed. -/
def execRouteMove (entry : Fin 128) (bucket : Fin 64) (s : State) : Host.Outcome State Fault Refusal :=
  .next (s.onChip fun c =>
    if c.fab.moves.any fun m => m.entry == entry.val && m.bucket == bucket.val then c.makeMove entry.val bucket.val else c)

/-- R234: the move of the pair has waited 64 × MOVE_QUIET. -/
def execMoveForced (entry : Fin 128) (bucket : Fin 64) (s : State) : Host.Outcome State Fault Refusal :=
  .next (s.onChip fun c =>
    if c.fab.moves.any fun m => m.entry == entry.val && m.bucket == bucket.val then
      (c.makeMove entry.val bucket.val).inc F.FAB_MOVE_FORCED.COUNT
    else c)

/-- R622: 1 ms after a DISC READ of this chip without its response. -/
def execDiscLost (tag : Fin 65536) (s : State) : Host.Outcome State Fault Refusal :=
  .next (s.onChip fun c =>
    if c.fab.discOut.elem tag.val then
      { c with fab := { c.fab with discOut := c.fab.discOut.erase tag.val, discLost := c.fab.discLost + 1 } }
    else c)

/-- R400, R403: a write of GAT_COMMIT. -/
def execGateCommit (a : Access) (v : Word) (s : State) : Host.Outcome State Fault Refusal :=
  .next (s.onChip fun c => c.ownWrite a ⟨.GAT_COMMIT, 0, 0⟩ v fun c => c.writeGatCommit v)

/-- R401: every access of an earlier epoch has retired. -/
def execGateEpochDone (s : State) : Host.Outcome State Fault Refusal :=
  .next (s.onChip fun c =>
    if c.fld F.GAT_COMMIT_STATUS.STATE = 1 && c.oldRetired then
      { c with gat := { c.gat with old := [] } }.setFld F.GAT_COMMIT_STATUS.STATE 2
    else c)

/-- R289: a tick of the shapers. -/
def execShaperTick (s : State) : Host.Outcome State Fault Refusal := .next (s.onChip Chip.shaperTick)

/-- R296, R297: a tick of the meters. -/
def execTokenTick (s : State) : Host.Outcome State Fault Refusal := .next (s.onChip Chip.tokenTick)

end Sys2Proof.Machine
end

