-- ==== Sys2Proof/Machine/Faults.lean ====
section
/-! DEFINITION. The meanings of the commands of the fault collector (spec/14_faults_containment.md). -/

namespace Sys2Proof.Machine

/-- A source whose memory reports the errors that its ECC corrects, and one that also reports those that it cannot
(Tables 14.1 and 14.2). -/
def eccSource (s : Nat) (corrected : Bool) : Bool :=
  let own : Bool := s == 0x180 || (s < 0x180 && (s % 32 == 15 || s % 32 == 16))
  let rest : Bool := if s < 0x180 then [13, 14, 19, 20, 21, 23].contains (s % 32)
    else [(0x183, 0x187), (0x189, 0x18F), (0x192, 0x197), (0x199, 0x19F), (0x1A1, 0x1A7), (0x1C0, 0x1C0), (0x1C5, 0x1C9),
          (0x1CD, 0x1CD), (0x1D3, 0x1D3), (0x1DB, 0x1DB)].any fun q => Nat.ble q.1 s && Nat.ble s q.2
  rest || (corrected && own)

/-- A source of a packet memory (Table 14.4, ECC_UNCORR). -/
def packetMemory (s : Nat) : Bool :=
  (s < 0x180 && (s % 32 == 20 || s % 32 == 23)) || s == 0x183 || s == 0x187 || s == 0x1A1

/-- A source reports a fault of its own with its kind, its severity and its handle (Table 14.4). -/
def Chip.ownFault (c : Chip) : OwnFault → Chip
  | .ecc s corrected a =>
    if !eccSource s.val corrected then c
    else if corrected then c.raiseCorrected s.val a.toNat
    else c.raise s.val 0x1D (if packetMemory s.val then 1 else 3) a.toNat
  | .pllUnlock p => c.raise (0x1CF + p.val) 0x1E 3
  | .fwException k pc => c.raise (0x1C1 + k.val) 0x22 3 (pc.toNat * 2 ^ 32 + k.val)
  | .watchdog => c.raise 0x1DA 0x23 3
  | .fwRaised sev h => c.raise 0x1DF 0x29 sev.val h.toNat
  | .qspiErr a => c.raise 0x1D4 0x2E 1 a.toNat

/-- R465 to R475, R479: a source may report a fault that no other command brings, and the collector takes the message that is
next. -/
def execFaultMessage (s : State) (own : Option OwnFault := none) : Host.Outcome State Fault Refusal :=
  .next (s.onChip fun c => (match own with
    | some r => c.ownFault r
    | none => c).collect)

/-- R487: a parity or ECC error in the collector's log (`log`) or its action table. -/
def execCollectorSelfError (log : Bool) (addr : BitVec 64) (s : State) : Host.Outcome State Fault Refusal :=
  .next (s.onChip fun c => c.faultSelf (if log then 0x1DE else 0x1DD) addr.toNat)

/-- R486: a write to FLT_FORCE_n. -/
def execFaultForce (a : Access) (n : Fin 15) (v : Word) (s : State) : Host.Outcome State Fault Refusal :=
  .next (s.onChip fun c => c.ownWrite a ⟨.FLT_FORCE, n.val, 0⟩ v fun c => c.writeForce a n.val v)

/-- R475: a write to FLT_STATUS. -/
def execFaultNRelease (a : Access) (v : Word) (s : State) : Host.Outcome State Fault Refusal :=
  .next (s.onChip fun c => c.ownWrite a ⟨.FLT_STATUS, 0, 0⟩ v fun c => c.writeFltStatus a v)

/-- R477: a write to FLT_CONTAIN_PTN. -/
def execPartitionContainRelease (a : Access) (v : Word) (s : State) : Host.Outcome State Fault Refusal :=
  .next (s.onChip fun c => c.ownWrite a ⟨.FLT_CONTAIN_PTN, 0, 0⟩ v fun c => c.writeContainPtn a v)

/-- R476: a write to FLT_CONTAIN_PORT_i. -/
def execPortContainRelease (a : Access) (i : Fin 3) (v : Word) (s : State) : Host.Outcome State Fault Refusal :=
  .next (s.onChip fun c => c.ownWrite a ⟨.FLT_CONTAIN_PORT, i.val, 0⟩ v fun c => c.writeContainPort a i.val v)

/-- R476: a write to FLT_CONTAIN_SEG. -/
def execSegmentContainRelease (a : Access) (v : Word) (s : State) : Host.Outcome State Fault Refusal :=
  .next (s.onChip fun c => c.ownWrite a ⟨.FLT_CONTAIN_SEG, 0, 0⟩ v fun c => c.writeContainSeg a v)

/-- R482: the time of an orphan has passed; it is named by the hierarchy, Requester ID and tag under which it was sent. -/
def execOrphanRetire (hier : Fin 128) (rid : Fin 65536) (tag : Fin 16384) (s : State) : Host.Outcome State Fault Refusal :=
  .next (s.onChip fun c => c.orphanRetire hier.val rid.val tag.val)

/-- R484: the completion timer of a device request expires; its tag names it among its partition's, or among those of the
internal root. -/
def execCompletionTimeout (part : Option (Fin 32)) (tag : Fin 16384) (s : State) : Host.Outcome State Fault Refusal :=
  .next (s.onChip fun c => c.requestTimeout (part.map (·.val)) tag.val)

/-- R485: the quarantine of a tag ends without its completion. -/
def execTagQuarantineExpiry (part : Option (Fin 32)) (tag : Fin 16384) (s : State) : Host.Outcome State Fault Refusal :=
  .next (s.onChip fun c => c.quarantineOver (part.map (·.val)) tag.val)

end Sys2Proof.Machine
end

