-- ==== Sys2Proof/Machine/Flacon.lean ====
section
/-! DEFINITION. The meanings of the Flacon commands (spec/07_partitions_flacons.md). -/

namespace Sys2Proof.Machine

/-- A write of GLB_FLC_CMD by its own row. -/
def Chip.flcCommand (c : Chip) (a : Access) (v : Word) : Chip :=
  c.ownWrite a ⟨.GLB_FLC_CMD, 0, 0⟩ v fun c => c.writeFlcCmd v

/-- R259, Table 7.5: GLB_FLC_CMD is written, with OP ASSIGN. -/
def execFlaconAssign (a : Access) (v : Word) (s : State) : Host.Outcome State Fault Refusal :=
  .next (s.onChip fun c => c.flcCommand a v)

/-- R273, Table 7.7: GLB_FLC_CMD is written, with OP RESET. -/
def execFlaconReset (a : Access) (v : Word) (s : State) : Host.Outcome State Fault Refusal :=
  .next (s.onChip fun c => c.flcCommand a v)

/-- R273, Table 7.7: GLB_FLC_CMD is written, with OP REMOVE. -/
def execFlaconRemove (a : Access) (v : Word) (s : State) : Host.Outcome State Fault Refusal :=
  .next (s.onChip fun c => c.flcCommand a v)

/-- R273: no table entry of a draining Flacon remains and its engines have stopped. -/
def execDrainDone (f : Fin 4096) (s : State) : Host.Outcome State Fault Refusal := .next (s.onChip fun c => c.drainDone f.val)

/-- R273: GLB_FLC_DRAIN_LIMIT.LIMIT ms since a Flacon entered DRAINING. -/
def execDrainLimitExpiry (f : Fin 4096) (s : State) : Host.Outcome State Fault Refusal :=
  .next (s.onChip fun c => if c.flcState f.val = 2 then c.squash f.val else c)

/-- R273: every table entry of a RETIRING Flacon has retired. -/
def execFlaconRetired (f : Fin 4096) (s : State) : Host.Outcome State Fault Refusal :=
  .next (s.onChip fun c => c.flcRetired f.val)

/-- R275: QUARANTINE ms after the answer of a squash. -/
def execQuarantineExpiry (p : Fin 32) (tag : Fin 16384) (s : State) : Host.Outcome State Fault Refusal :=
  .next (s.onChip fun c => c.flcQuarantineOver p.val tag.val)

/-- R266: QUARANTINE ms after a request through an ACTIVE Flacon left. -/
def execStaleEntryTimeout (p : Fin 32) (tag : Fin 16384) (s : State) : Host.Outcome State Fault Refusal :=
  .next (s.onChip fun c => c.flcStale p.val tag.val)

end Sys2Proof.Machine
end

