-- ==== Sys2Proof/Machine/Fleren.lean ====
section
/-! DEFINITION. The meanings of the commands of a Fleren link (spec/04_fleren_link.md). PARCEL_COMMIT, which carries out what
its packets ask of registers, stands in Machine/Hallway.lean. `r` is what a control block brings beside the fields that its
command names, CHECK among them (Table 4.1). -/

namespace Sys2Proof.Machine

/-- A link that receives the block stream: all but DISABLED, LP and DOWN. -/
def receives (s : Nat) : Bool := Nat.ble 1 s && Nat.ble s 5

/-- A control block that a Fleren port receives (R133 to R135): nothing when its FEC frame could not be corrected; counted when
its CHECK is wrong, and then `lost` follows; else acted on in the link states in which its sender sends it. One with a wrong
CHECK leaves an arriving parcel as it is (DESIGN CHOICE, log entry 47). -/
def Chip.block (c : Chip) (n : Nat) (r : BlockRest) (kind body : Nat) (live : Chip → Bool) (f : Chip → Chip)
    (lost : Chip → Chip := fun c => c) : Chip :=
  if !c.isFleren n || !receives (c.lstate n) || (r.damaged && (c.flp n).light) then c
  else if !r.ok kind body then lost (c.badCheck n)
  else if live c then f c else c

/-- UP alone. -/
def Chip.inUp (n : Nat) (c : Chip) : Bool := c.lstate n == flUpState

/-- Any state of a link that receives. -/
def anyState : Chip → Bool := fun _ => true

/-- R145, R157: the sender's choice at a parcel boundary; `arrived` are copies whose last cell has been written. -/
def execParcelBoundary (n : Fin 96) (arrived : List Nat) (s : State) : Host.Outcome State Fault Refusal :=
  .next (s.onChip fun c =>
    if c.isFleren n.val then (c.note_ (.port n.val) arrived []).flBoundary n.val else c)

/-- R134, R147, 0x25, 0x26: a control block whose KIND is IDLE, PARCEL or reserved. -/
def execParcelHeadReceive (n : Fin 96) (r : BlockRest) (kind : Fin 16) (cls : Fin 8) (seq : Fin 65536) (s : State) :
    Host.Outcome State Fault Refusal :=
  .next (s.onChip fun c => c.block n.val r kind.val (cls.val * 2 ^ 16 + seq.val) anyState fun c =>
    let c := c.cutShort n.val
    if 10 ≤ kind.val then c.flViolation n.val 0x25
    else if kind.val = 1 && c.lstate n.val = flUpState then c.parcelHead n.val cls.val seq.val
    else c)

/-- R133, R137, R148, 0x26, 0x27: `blocks` data blocks have come and the trailer follows them: the payload of the 32 of a
parcel, TRAIL_CRC and TRAIL_BAD, whether the block that carries them can be read, and the FEC frames corrected and not
correctable among its blocks. -/
def execParcelTrailer (n : Fin 96) (b : ParcelBody) (crc : Word) (trailBad readable : Bool) (corr uncorr blocks : Nat)
    (s : State) : Host.Outcome State Fault Refusal :=
  .next (s.onChip fun c =>
    if c.isFleren n.val && receives (c.lstate n.val) then
      c.parcelTrailer n.val b crc.toNat trailBad readable corr uncorr blocks
    else c)

/-- R149: 100 ns after a commit not yet acknowledged. -/
def execAckTimer (n : Fin 96) (s : State) : Host.Outcome State Fault Refusal :=
  .next (s.onChip fun c => if c.lstate n.val = flUpState then c.ackDue n.val else c)

/-- R143, 0x24: an ACK. -/
def execAckReceive (n : Fin 96) (r : BlockRest) (seq : Fin 65536) (s : State) : Host.Outcome State Fault Refusal :=
  .next (s.onChip fun c => c.block n.val r 2 (r.spare % 8 * 2 ^ 16 + seq.val) (Chip.inUp n.val) fun c =>
    (c.cutShort n.val).ackIn n.val seq.val)

/-- R146, R163, 0x20, 0x23, 0x25: a NAK. -/
def execNakReceive (n : Fin 96) (r : BlockRest) (seq : Fin 65536) (reason : Fin 8) (s : State) :
    Host.Outcome State Fault Refusal :=
  .next (s.onChip fun c => c.block n.val r 3 (reason.val * 2 ^ 16 + seq.val) (Chip.inUp n.val) fun c =>
    (c.cutShort n.val).nakIn n.val seq.val reason.val)

/-- R143, 0x23, 0x2C: a SACK. -/
def execSackReceive (n : Fin 96) (r : BlockRest) (seq : Fin 65536) (s : State) : Host.Outcome State Fault Refusal :=
  .next (s.onChip fun c => c.block n.val r 4 (r.spare % 8 * 2 ^ 16 + seq.val) (Chip.inUp n.val) fun c =>
    (c.cutShort n.val).sackIn n.val seq.val)

/-- R153, 0x22: a CREDIT, which a partner that has reached UP sends while this end is still in INIT. -/
def execCreditReceive (n : Fin 96) (r : BlockRest) (cls : Fin 8) (count : Fin 65536) (s : State) :
    Host.Outcome State Fault Refusal :=
  .next (s.onChip fun c => c.block n.val r 5 (cls.val * 2 ^ 16 + count.val)
    (fun c => c.inUp n.val || c.inInit n.val) fun c => (c.cutShort n.val).creditIn n.val cls.val count.val)

/-- R131, R156, 0x29, 0x2A: a deskew marker on a lane, with its LANE, WIDTH and MCOUNT, and the skew in blocks between the
lanes at it. -/
def execDeskewReceive (n : Fin 96) (lane : Fin 16) (r : BlockRest) (no : Fin 16) (width : Fin 8) (mcount : Fin 4096)
    (skew : Nat) (s : State) : Host.Outcome State Fault Refusal :=
  .next (s.onChip fun c => c.block n.val r 6 (no.val * 2 ^ 15 + width.val * 2 ^ 12 + mcount.val) anyState
    (fun c => c.deskewIn n.val lane.val no.val width.val mcount.val skew) (fun c => c.marksLost n.val lane.val))

/-- R157 to R159, 0x28, 0x2B: an INIT block. -/
def execInitReceive (n : Fin 96) (r : BlockRest) (index : Fin 8) (value : Fin 65536) (s : State) :
    Host.Outcome State Fault Refusal :=
  .next (s.onChip fun c => c.block n.val r 7 (index.val * 2 ^ 16 + value.val) anyState fun c =>
    (c.cutShort n.val).initIn n.val index.val value.val)

/-- R166, R167, 0x2C: an LPI block. -/
def execLpiReceive (n : Fin 96) (r : BlockRest) (accept : Bool) (s : State) : Host.Outcome State Fault Refusal :=
  .next (s.onChip fun c => c.block n.val r 8 (r.spare % 2 ^ 18 * 2 + b2n accept) (Chip.inUp n.val) fun c =>
    (c.cutShort n.val).lpiIn n.val accept)

/-- R137, R161: a RESET block takes the link down from UP and RETRAIN. -/
def execResetReceive (n : Fin 96) (r : BlockRest) (s : State) : Host.Outcome State Fault Refusal :=
  .next (s.onChip fun c => c.block n.val r 9 (r.spare % 2 ^ 19) anyState fun c =>
    let c := c.cutShort n.val
    if c.lstate n.val = flUpState || c.lstate n.val = flRetrain then c.linkDown n.val 0 0 else c)

/-- R146, R163: the replay timer of a parcel expires. In RETRAIN and in LP, which send no parcel, and for a
parcel that is due already it does nothing (DESIGN CHOICE, log entry 47): every parcel not acknowledged or SACKed becomes due
as a retrain ends. -/
def execReplayTimeout (n : Fin 96) (seq : Fin 65536) (s : State) : Host.Outcome State Fault Refusal :=
  .next (s.onChip fun c =>
    match c.sentParcel? n.val seq.val with
    | some p =>
      if c.lstate n.val = flUpState && p.timer && !p.due then
        (c.updSent n.val seq.val fun q => { q with timer := false }).becomeDue n.val seq.val true
      else c
    | none => c)

/-- R155: sync headers at the candidate position of a lane that hunts. -/
def execBlockLock (n : Fin 96) (lane : LaneHeaders) (s : State) : Host.Outcome State Fault Refusal :=
  .next (s.onChip fun c => (lane.headers.map (·.val)).foldl (Chip.huntHeader n.val lane.lane.val) c)

/-- R155, R163: sync headers of a lane in block lock. -/
def execBlockLockLoss (n : Fin 96) (lane : LaneHeaders) (s : State) : Host.Outcome State Fault Refusal :=
  .next (s.onChip fun c => (lane.headers.map (·.val)).foldl (Chip.lockHeader n.val lane.lane.val) c)

/-- R160: 4 ms without reaching UP. -/
def execBringupTimeout (n : Fin 96) (s : State) : Host.Outcome State Fault Refusal :=
  .next (s.onChip fun c =>
    if 1 ≤ c.lstate n.val && c.lstate n.val ≤ 3 then (c.linkReset n.val).inc F.PRT_TRAIN_FAIL.COUNT n.val else c)

/-- R161: 1 ms in UP with no retrain. -/
def execRtCountClear (n : Fin 96) (s : State) : Host.Outcome State Fault Refusal :=
  .next (s.onChip fun c => if c.lstate n.val = flUpState then c.setFld F.PRT_FL_STATUS.RT_COUNT 0 n.val else c)

/-- R161: PRT_FL_CTL is written. -/
def execRetrain (a : Access) (n : Fin 96) (v : Word) (s : State) : Host.Outcome State Fault Refusal :=
  .next (s.onChip fun c => c.ownWrite a ⟨.PRT_FL_CTL, n.val, 0⟩ v fun c => c.writeFlCtl n.val v)

/-- R161: PRT_FL_CTL is written. -/
def execLinkReset (a : Access) (n : Fin 96) (v : Word) (s : State) : Host.Outcome State Fault Refusal :=
  .next (s.onChip fun c => c.ownWrite a ⟨.PRT_FL_CTL, n.val, 0⟩ v fun c => c.writeFlCtl n.val v)

/-- R161: RT_LIMIT passes in RETRAIN. -/
def execRetrainTimeout (n : Fin 96) (s : State) : Host.Outcome State Fault Refusal :=
  .next (s.onChip fun c => if c.lstate n.val = flRetrain then c.retrain n.val 1 else c)

/-- R173: an F1 lane has been without block lock for F1_LOCK_T. -/
def execF1LockTimeout (n : Fin 96) (s : State) : Host.Outcome State Fault Refusal :=
  .next (s.onChip fun c =>
    if c.lstate n.val = flUpState && (c.flp n.val).f1 && !c.allLocked n.val then c.linkDown n.val 3 0 else c)

/-- R161, Table 4.14: 1 ms in DOWN has passed. -/
def execDownTimeout (n : Fin 96) (s : State) : Host.Outcome State Fault Refusal :=
  .next (s.onChip fun c => c.downOver n.val)

/-- R166: LP_IDLE µs without a parcel. -/
def execLpIdleTimeout (n : Fin 96) (s : State) : Host.Outcome State Fault Refusal :=
  .next (s.onChip fun c => c.lpIdle n.val)

/-- R168: a port in LP with traffic to send. -/
def execFlerenWake (n : Fin 96) (s : State) : Host.Outcome State Fault Refusal :=
  .next (s.onChip fun c => if c.flTraffic n.val then c.flWake n.val else c)

/-- R168: 30 µs of the wake pattern have been sent. -/
def execWakePatternDone (n : Fin 96) (s : State) : Host.Outcome State Fault Refusal :=
  .next (s.onChip fun c => if (c.flp n.val).waking then c.leaveLp n.val else c)

/-- R52: a Fleren lane measures this frequency offset, in ppm and two's complement. An offset within the limit does not set
CDR_LOCK again (DESIGN CHOICE, log entry 52). -/
def execFreqOffsetLoss (l : Fin 192) (ofs : Fin 1024) (s : State) : Host.Outcome State Fault Refusal :=
  .next (s.onChip fun c =>
    match c.flLane? l.val with
    | none => c
    | some (n, i) =>
      let c := c.setFld F.SDS_LN_RXSTAT.FREQ_OFS ofs.val l.val
      if 300 < (signed 10 ofs.val).natAbs then (c.setFld F.SDS_LN_STATUS.CDR_LOCK 0 l.val).loseLock n i else c)

end Sys2Proof.Machine
end

