-- ==== Sys2Proof/Machine/Fuse.lean ====
section
/-! DEFINITION. The meanings of the commands of the Fuse Box (spec/13_fuse_box.md). -/

namespace Sys2Proof.Machine

/-- R435, R461: both seating pins are low; a break restarts a count that has not ended in PRESENT, and more than 8 restarts
within 1 s are violation 0x71 (DEDUCED, log entry 51). -/
def execPresencePinsLow (f : Fin 24) (s : State) : Host.Outcome State Fault Refusal :=
  .next (s.onPin fun c =>
    let n := f.val
    let c := (c.setFld F.FUS_CHAN_STATUS.LONG 1 n).setFld F.FUS_CHAN_STATUS.SHORT 1 n
    if !c.slotUp then c
    else
      let st := c.fuState n
      let waits : Bool := st == fuEmpty || st == fuDebounce
      if waits || (st != fuDisabled && !c.flag F.FUS_CHAN_STATUS.PRESENT n) then
        let old := (c.fus1 n).restarts.filter fun t => Nat.ble c.hwy (t + 1000 * msCycles)
        let again := (c.fus1 n).counting
        let recent := if again then c.hwy :: old else old
        let c := c.updFus n fun h => { h with counting := true, restarts := recent }
        let c := if waits then c.setFu n fuDebounce else c
        if again && 8 < recent.length then c.fuViolation n 0x71 else c
      else c)

/-- R435: both pins have been low for DEBOUNCE without a break. -/
def execPresenceDebounceDone (f : Fin 24) (s : State) : Host.Outcome State Fault Refusal :=
  .next (s.onSlot fun c =>
    if c.fuState f.val = fuDisabled || !c.pinsLow f.val then c
    else
      let c := c.fuPresent f.val
      if c.fuState f.val = fuDebounce then c.fuToReq f.val else c)

/-- R454: a seating pin has been high for 10 µs; `long` and `short` say which pins are low now. -/
def execPresenceLost (f : Fin 24) (long short : Bool) (s : State) : Host.Outcome State Fault Refusal :=
  .next (s.onPin fun c =>
    let c := (c.setFld F.FUS_CHAN_STATUS.LONG (b2n long) f.val).setFld F.FUS_CHAN_STATUS.SHORT (b2n short) f.val
    if (long && short) || !c.slotUp then c else c.fuAbsent f.val)

/-- R461, violation 0x70: PRSNT_SHORT_N low while PRSNT_LONG_N is high, for 10 ms: not present. -/
def execShortPinViolation (f : Fin 24) (s : State) : Host.Outcome State Fault Refusal :=
  .next (s.onSlot fun c =>
    let c := (c.setFld F.FUS_CHAN_STATUS.LONG 0 f.val).setFld F.FUS_CHAN_STATUS.SHORT 1 f.val
    (c.fuAbsent f.val).fuViolation f.val 0x70)

/-- R436: a write of FUS_CHAN_CTL.ON. -/
def execOn (a : Access) (f : Fin 24) (v : Word) (s : State) : Host.Outcome State Fault Refusal :=
  .next (s.onChip fun c => c.ownWrite a ⟨.FUS_CHAN_CTL, f.val, 0⟩ v fun c => c.writeFuCtl f.val v)

/-- R452: a write of FUS_CHAN_CTL.OFF. -/
def execOff (a : Access) (f : Fin 24) (v : Word) (s : State) : Host.Outcome State Fault Refusal :=
  .next (s.onChip fun c => c.ownWrite a ⟨.FUS_CHAN_CTL, f.val, 0⟩ v fun c => c.writeFuCtl f.val v)

/-- R448: a write of FUS_CHAN_CTL.RELEASE. -/
def execRelease (a : Access) (f : Fin 24) (v : Word) (s : State) : Host.Outcome State Fault Refusal :=
  .next (s.onChip fun c => c.ownWrite a ⟨.FUS_CHAN_CTL, f.val, 0⟩ v fun c => c.writeFuCtl f.val v)

/-- R457: a write of FUS_CHAN_CTL.E_CLR. -/
def execEClr (a : Access) (f : Fin 24) (v : Word) (s : State) : Host.Outcome State Fault Refusal :=
  .next (s.onChip fun c => c.ownWrite a ⟨.FUS_CHAN_CTL, f.val, 0⟩ v fun c => c.writeFuCtl f.val v)

/-- R458: a write of FUS_CTL. -/
def execHminClr (a : Access) (v : Word) (s : State) : Host.Outcome State Fault Refusal :=
  .next (s.onChip fun c => c.ownWrite a ⟨.FUS_CTL, 0, 0⟩ v fun c => c.writeFusCtl v)

/-- R438, R463: a write of FUS_CHAN_CFG. -/
def execFusChanEnable (a : Access) (f : Fin 24) (v : Word) (s : State) : Host.Outcome State Fault Refusal :=
  .next (s.onChip fun c => c.ownWrite a ⟨.FUS_CHAN_CFG, f.val, 0⟩ v fun c => c.writeFuCfg a f.val v)

/-- R441: the channel first in order with a free ramp place enters its ramp phase. `high` says that its output lies
above 10 % of NOM_MV: violation 0x72, and its place passes to the next channel (R461). -/
def execRampStart (f : Fin 24) (high : Bool) (s : State) : Host.Outcome State Fault Refusal :=
  .next (s.onSlot fun c =>
    let n := f.val
    let first := match c.fus.order with | q :: _ => q.1 == n | [] => false
    if !first || !c.fuMayStart || c.fld F.FUS_CFG.MAX_RAMPING ≤ c.ramping then c
    else if high then
      let order := match c.fus.order with
        | q :: r :: rest => r :: q :: rest
        | o => o
      ({ c with fus := { c.fus with order } }).fuViolation n 0x72
    else if c.fuP n then (c.updFus n fun h => { h with gate := true }).setFu n fuRamp
    else (c.updFus n fun h => { h with pchg := true }).setFu n fuPrecharge)

/-- R439: the output reaches 97 % of NOM_MV; the gate goes to full enhancement. -/
def execRampComplete (f : Fin 24) (s : State) : Host.Outcome State Fault Refusal :=
  .next (s.onSlot fun c => if c.fuState f.val = fuRamp then c.setFu f.val fuQualify else c)

/-- R440: the output reaches 90 % of NOM_MV and the main gate turns fully on. -/
def execPrechargeComplete (f : Fin 24) (s : State) : Host.Outcome State Fault Refusal :=
  .next (s.onSlot fun c =>
    if c.fuState f.val = fuPrecharge then c.updFus f.val fun h => { h with gate := true } else c)

/-- R440: 1 ms later PCHG_EN turns off and the channel enters QUALIFY. -/
def execPchgEnOff (f : Fin 24) (s : State) : Host.Outcome State Fault Refusal :=
  .next (s.onSlot fun c =>
    if c.fuState f.val = fuPrecharge && (c.fus1 f.val).gate then
      (c.updFus f.val fun h => { h with pchg := false }).setFu f.val fuQualify
    else c)

/-- R461, violation 0x73: the output lies below 10 % of NOM_MV 1 ms into a pre-charge. -/
def execPrechargeShortCheck (f : Fin 24) (s : State) : Host.Outcome State Fault Refusal :=
  .next (s.onSlot fun c =>
    if c.fuState f.val = fuPrecharge && !(c.fus1 f.val).gate then (c.fuViolation f.val 0x73).fuTrip f.val 3 else c)

/-- R439, R440: the ramp phase has not completed within RAMP_TMO. -/
def execRampTimeout (f : Fin 24) (s : State) : Host.Outcome State Fault Refusal :=
  .next (s.onSlot fun c =>
    if c.fuState f.val = fuRamp || (c.fuState f.val = fuPrecharge && !(c.fus1 f.val).gate) then c.fuTrip f.val 4 else c)

/-- R442, R462: the current crosses 2 × RAMP_ILIM in a ramp phase; it prevails over RAMP_TMO in its sample. -/
def execRampOvercurrent (f : Fin 24) (s : State) : Host.Outcome State Fault Refusal :=
  .next (s.onSlot fun c =>
    if c.fuState f.val = fuRamp || c.fuState f.val = fuPrecharge then c.fuTrip f.val 3 else c.fuPrevail f.val 4 3)

/-- R443, R462: the current crosses 3 × ILIM while the gate or pre-charge is on; it prevails over SLOW in its sample. -/
def execFastTrip (f : Fin 24) (s : State) : Host.Outcome State Fault Refusal :=
  .next (s.onSlot fun c => if c.fuLive f.val then c.fuTrip f.val 1 else c.fuPrevail f.val 2 1)

/-- The fault timer of a channel is not idle, with t; when it has just left idle, an asserted PG deasserts and the channel
returns to QUALIFY (R444, R451). -/
def Chip.fuTimerRuns (c : Chip) (n t : Nat) : Chip :=
  let started := !c.flag F.FUS_CHAN_STATUS.FT_RUN n
  let c := (c.setFld F.FUS_CHAN_STATUS.FT_RUN 1 n).updFus n fun h => { h with timer := t }
  if started then (c.setPg n false).setFu n fuQualify else c

/-- FAULT_T of a channel in the units of the timer. -/
def Chip.faultT (c : Chip) (n : Nat) : Nat := c.fld F.FUS_CHAN_TIME.FAULT_T n * 200

/-- R451: between two samples the current crosses ILIM and the fault timer leaves idle, by the least count that it holds
(DESIGN CHOICE, log entry 51); the samples count on. -/
def execFaultTimerStart (f : Fin 24) (s : State) : Host.Outcome State Fault Refusal :=
  .next (s.onSlot fun c =>
    if c.fuState f.val = fuQualify || c.fuState f.val = fuOn then c.fuTimerRuns f.val (max (c.fus1 f.val).timer 1) else c)

/-- R444: the fault timer reaches FAULT_T between two samples: it is running, and no further from FAULT_T than it counts in a
sample period (DEDUCED, log entry 51). -/
def execSlowTrip (f : Fin 24) (s : State) : Host.Outcome State Fault Refusal :=
  .next (s.onSlot fun c =>
    if (c.fuState f.val = fuQualify || c.fuState f.val = fuOn) && c.flag F.FUS_CHAN_STATUS.FT_RUN f.val &&
        Nat.ble (c.faultT f.val) ((c.fus1 f.val).timer + 8) then c.fuTrip f.val 2 else c)

/-- R445: the output has stayed below UV_PCT for 100 µs. -/
def execUndervoltageTrip (f : Fin 24) (s : State) : Host.Outcome State Fault Refusal :=
  .next (s.onSlot fun c =>
    if c.fuState f.val = fuQualify || c.fuState f.val = fuOn then c.fuTrip f.val 5 else c)

/-- R445: the output has stayed above OV_PCT for 10 µs. -/
def execOvervoltageTrip (f : Fin 24) (s : State) : Host.Outcome State Fault Refusal :=
  .next (s.onSlot fun c =>
    if c.fuState f.val = fuQualify || c.fuState f.val = fuOn then c.fuTrip f.val 6 else c)

/-- R445: the output stays or rises with gate and pre-charge off: recorded, without a change of state. -/
def execFetFail (f : Fin 24) (s : State) : Host.Outcome State Fault Refusal :=
  .next (s.onSlot fun c =>
    if c.fuLive f.val then c
    else (c.setFld F.FUS_CHAN_STATUS.LAST_TRIP 7 f.val).raise (0x1A8 + f.val) 0x1A 2
      (c.fld F.FUS_CHAN_VI.V f.val) (c.chanPart f.val))

/-- R449, R450: the fault timer has been idle for PG_QUAL; while it runs, PG stays deasserted. -/
def execPgQualify (f : Fin 24) (s : State) : Host.Outcome State Fault Refusal :=
  .next (s.onSlot fun c =>
    if c.fuState f.val = fuQualify && !c.flag F.FUS_CHAN_STATUS.FT_RUN f.val then
      (c.setPg f.val true).setFu f.val fuOn
    else c)

/-- R108, R455: PERST_OUT_N deasserts when its delay after PG has run out, unless its port holds it. -/
def execPerstOutDeassert (f : Fin 24) (s : State) : Host.Outcome State Fault Refusal :=
  .next (s.onSlot fun c =>
    if c.flag F.FUS_CHAN_STATUS.PG f.val then
      (c.updFus f.val fun h => { h with delayDone := true }).tryPerst f.val
    else c)

/-- R452: 100 µs since the entry to PREOFF. -/
def execPreoffEnd (f : Fin 24) (s : State) : Host.Outcome State Fault Refusal :=
  .next (s.onSlot fun c =>
    if c.fuState f.val = fuPreoff then ((c.gateOff f.val).setPg f.val false).setFu f.val fuDischarge else c)

/-- R438: the output falls below 10 % of NOM_MV, or 100 ms have passed. -/
def execDischargeDone (f : Fin 24) (s : State) : Host.Outcome State Fault Refusal :=
  .next (s.onSlot fun c =>
    if c.fuState f.val = fuDischarge then
      if (c.fus1 f.val).disabling then c.fuToDisabled f.val else c.fuBack f.val
    else c)

/-- R447, Tables 13.6 and 13.8: COOL has elapsed. -/
def execCoolEnd (f : Fin 24) (s : State) : Host.Outcome State Fault Refusal :=
  .next (s.onSlot fun c =>
    let n := f.val
    let present := c.flag F.FUS_CHAN_STATUS.PRESENT n
    if c.fuState n = fuCooldown then
      if (c.fus1 n).disabling then c.fuToDisabled n
      else if c.opMode = 0xC then c.fuLatch n
      else if !present then
        ((c.setFld F.FUS_CHAN_STATUS.RETRIES 0 n).updFus n fun h => { h with coolOff := false }).fuToEmpty n
      else if (c.fus1 n).coolOff then
        ((c.setFld F.FUS_CHAN_STATUS.RETRIES 0 n).updFus n fun h => { h with coolOff := false }).fuToReq n
      else if c.fld F.FUS_CHAN_STATUS.RETRIES n < c.fld F.FUS_CHAN_CFG.RETRY_MAX n then
        (c.inc F.FUS_CHAN_STATUS.RETRIES n).fuWait n
      else c.fuLatch n
    else c)

/-- R448: PG has been asserted for 1 s without a break. -/
def execRetryClear (f : Fin 24) (s : State) : Host.Outcome State Fault Refusal :=
  .next (s.onSlot fun c =>
    if c.flag F.FUS_CHAN_STATUS.PG f.val then c.setFld F.FUS_CHAN_STATUS.RETRIES 0 f.val else c)

/-- E_CLR takes effect at a sample boundary also on a channel that is not measured (R457). -/
def Chip.fuClearDue (c : Chip) (n : Nat) : Chip :=
  if (c.fus1 n).eClr then
    (c.updFus n fun h => { h with eClr := false, energy := 0 }).setPair .FUS_CHAN_E_LO .FUS_CHAN_E_HI 0 n
  else c

/-- The fault timer over a sample period with this current (R444): it counts up above ILIM, else down at one eighth of the
rate, and trips the channel at FAULT_T. -/
def Chip.fuTimer (c : Chip) (n ma : Nat) : Chip :=
  if c.fuState n = fuQualify || c.fuState n = fuOn then
    let t := (c.fus1 n).timer
    let t := if c.fld F.FUS_CHAN_LIM.ILIM n < ma then t + 8 else t - 1
    if c.faultT n ≤ t then c.fuTrip n 2 else if t = 0 then c.fuIdle n else c.fuTimerRuns n t
  else c

/-- One channel's conversion (R456, R457), and its fault timer (R444). -/
def Chip.fuConvert (c : Chip) (r : FuseReading) : Chip :=
  let n := r.chan.val
  if c.fuState n = fuDisabled then c
  else
    let c := c.pulse (fusUnit n) 0x10
    let mv := min (r.v.val * 1200 * c.fld F.FUS_CHAN_SENSE.VDIV n / (65536 * 256)) 65535
    let ma := min (r.i.val * 64 * 1000000 / (65536 * c.fld F.FUS_CHAN_SENSE.RSNS n)) 65535
    let mw := mv * ma / 1000
    let c := (c.setReg .FUS_CHAN_VI (word (mv * 65536 + ma)) n).setReg .FUS_CHAN_P (word mw) n
    let e := if (c.fus1 n).eClr then 0 else (c.fus1 n).energy + mw * 20
    let c := (c.updFus n fun h => { h with eClr := false, energy := e }).setPair .FUS_CHAN_E_LO .FUS_CHAN_E_HI
      (e / 1000) n
    c.fuTimer n ma

/-- R456, R457, R458: a sample of the channels listed and of the hold-up input. -/
def execFuseSample (rs : List FuseReading) (hold : Fin 65536) (s : State) : Host.Outcome State Fault Refusal :=
  .next (s.onSlot fun c =>
    let c := (List.range 24).foldl Chip.fuClearDue (rs.foldl (fun c r => c.fuConvert r) c)
    let mv := min (hold.val * 1200 * c.fld F.FUS_HOLDUP_CFG.HDIV / (65536 * 256)) 65535
    let c := (c.setFld F.FUS_HOLDUP_V.V_NOW mv).setFld F.FUS_HOLDUP_V.V_MIN (min mv (c.fld F.FUS_HOLDUP_V.V_MIN))
    let c := c.setReg .FUS_HOLDUP_E (word (c.fld F.FUS_HOLDUP_CFG.CAP * mv * mv / 20000000))
    { c with fus := { c.fus with samples := c.fus.samples + 1 } })

/-- R460: VDDP is lost while the core runs: every channel is released, and the segment is held in reset. -/
def execVddpLoss (s : State) : Host.Outcome State Fault Refusal :=
  .next (s.onSlot fun c => c.fuReleaseAll.segReset)

end Sys2Proof.Machine
end

