-- ==== Sys2Proof/Machine/Hallway.lean ====
section
/-! DEFINITION. The meanings of the commands of the Hallway and the Cellar (spec/05_hallway_cellar.md), of the commit of a
parcel (R149) and of DISC packets (R241, R242). -/

namespace Sys2Proof.Machine

/-- R174, Table 5.1: a packet enters the ingress header lookup. -/
def execPacketIngress (e : Entry) (p : Packet) (whole : Bool) (rx : RxState) (s : State) : Host.Outcome State Fault Refusal :=
  .next (s.onDev fun d => d.packetIn e p whole rx)

/-- R190, R122: admission is retried, engines go on with what they have still to send, and so do stalled requests that waited
for a tag. -/
def execAdmissionRetry (s : State) : Host.Outcome State Fault Refusal :=
  .next (s.onDev fun d => (stallParts.foldl (fun d p => if (d.chip.part p).stalled.isEmpty then d else d.resumeMaster p)
    (d.onChip fun c => c.retryAdmission.drainEngines.returnCredits)).ownRun)

/-- R189: a deferred multicast copy is written. -/
def execDeferredCopyWrite (s : State) : Host.Outcome State Fault Refusal := .next (s.onChip fun c => c.writeDeferred.returnCredits)

/-- R264: a request that waits for a table entry goes on. -/
def execReqTableRetry (s : State) : Host.Outcome State Fault Refusal :=
  .next (s.onDev fun d => (d.onChip fun c => c.retryTable.drainEngines.returnCredits).ownRun)

/-- R281, R282: a selection at an egress. `arrived` are copies whose last cell has been written, `blocked` those without
partner credit. -/
def execEgressSelection (e : Dest) (arrived blocked : List Nat) (s : State) : Host.Outcome State Fault Refusal :=
  .next (s.onDev fun d => d.egress e arrived blocked)

/-- R192, R196, R198: the sending of a copy ends. -/
def execCopySent (id : Nat) (how : Ending) (s : State) : Host.Outcome State Fault Refusal :=
  .next (s.onChip fun c => (c.sent id how).returnCredits)

/-- R197: a nullified copy is sent again. -/
def execUnderrunResend (id : Nat) (s : State) : Host.Outcome State Fault Refusal := .next (s.onChip fun c => c.resend id)

/-- R200: the sweep of the queues. -/
def execAgeSweep (s : State) : Host.Outcome State Fault Refusal := .next (s.onChip fun c => c.sweep.returnCredits)

/-- R181: an uncorrectable error in a cell, if any; in the cells of `corr` an error has been corrected since the last report
(Table 14.2). -/
def execCellEccUncorrectable (cell : Option (Fin 393216)) (corr : List (Fin 393216)) (s : State) : Host.Outcome State Fault Refusal :=
  .next (s.onChip fun c =>
    let c := corr.foldl (fun c x => (c.pulse 0xC01 0x14).raiseCorrected 0x180 x.val) (c.add F.CEL_ECC_CORR.COUNT corr.length)
    match cell with
    | none => c
    | some cell => (c.cellError cell.val).returnCredits)

/-- R149, R191: the parcel that is next to commit. -/
def execParcelCommit (n : Fin 96) (s : State) : Host.Outcome State Fault Refusal := .next (s.onDev fun d => d.parcelCommit n.val)

/-- R241, R242: a DISC request received on a Fleren port. -/
def execDiscRequest (n : Fin 96) (h : FabHdr) (s : State) : Host.Outcome State Fault Refusal :=
  .next (s.onDev fun d =>
    if d.chip.isFleren n.val && d.chip.flUp n.val && h.typ == 2 && !h.disc.isResponse then
      d.fabTake n.val { kind := .msg, hdrBytes := 32, fab := some h } { stamp := d.chip.ns }
    else d)

/-- R241, R622: a DISC response received on a Fleren port. -/
def execDiscResponse (n : Fin 96) (h : FabHdr) (s : State) : Host.Outcome State Fault Refusal :=
  .next (s.onDev fun d =>
    if d.chip.isFleren n.val && d.chip.flUp n.val && h.typ == 2 && h.disc.isResponse then
      d.fabTake n.val { kind := .msg, hdrBytes := 32, fab := some h } { stamp := d.chip.ns }
    else d)

end Sys2Proof.Machine
end

