-- ==== Sys2Proof/Machine/Insn.lean ====
section
/-! DEFINITION. The meanings of the instructions of the micro-sequencer (Table 10.6), but for FETCH, which enters
the ingress header lookup (Machine/Emit.lean). Each names the engine that executes the instruction at its PC. -/

namespace Sys2Proof.Machine

/-- R367: NOP. A reserved opcode at PC ends the record with status ILLEGAL (R366). -/
def execNop (e : Fin 1536) (s : State) : Host.Outcome State Fault Refusal :=
  .next (s.onDev fun d => 
    if d.chip.engState e.val = enRun && d.chip.tileEn (e.val / 128) && (d.chip.eng e.val).hand.isSome && !opcodes.elem (insnOp (d.chip.insn e.val))
    then d.onChip fun c => c.recordError e.val 2
    else d.onInsn e.val 0x00 fun d _ => d.onChip fun c => c.nextPc e.val)

/-- R367, R370: DONE waits for the FETCH reads of the record and ends it, with FETCH_ERR when one failed. -/
def execDone (e : Fin 1536) (s : State) : Host.Outcome State Fault Refusal :=
  .next (s.onDev fun d => 
    d.onInsn e.val 0x01 fun d _ => d.onChip fun c =>
      if (c.eng e.val).fetchBad then c.recordError e.val 6
      else if !(c.eng e.val).fetches.isEmpty then c.engWait e.val enFetch
      else c.recordDone e.val)

/-- R367, R379: FAULT ends the record with status PROGRAM and the immediate as its FLAGS. -/
def execFault (e : Fin 1536) (s : State) : Host.Outcome State Fault Refusal :=
  .next (s.onDev fun d => 
    d.onInsn e.val 0x02 fun d w => d.onChip fun c => c.recordError e.val 3 (insnImm w % 256))

/-- R366, R367: JMP. -/
def execJmp (e : Fin 1536) (s : State) : Host.Outcome State Fault Refusal :=
  .next (s.onDev fun d => 
    d.onInsn e.val 0x03 fun d w => d.onChip fun c =>
      match (c.eng e.val).cond? (insnD w) with
      | none => c.recordError e.val 2
      | some true => c.setFld F.ACD_ENG_STATUS.PC (bits w 8 0) e.val
      | some false => c.nextPc e.val)

/-- R367: SETLC. -/
def execSetlc (e : Fin 1536) (s : State) : Host.Outcome State Fault Refusal :=
  .next (s.onDev fun d => 
    d.onInsn e.val 0x04 fun d w => d.onChip fun c =>
      (c.updEng e.val fun h => { h with lc := (c.gA e.val w).toNat % 65536 }).nextPc e.val)

/-- R367: DJNZ. -/
def execDjnz (e : Fin 1536) (s : State) : Host.Outcome State Fault Refusal :=
  .next (s.onDev fun d => 
    d.onInsn e.val 0x05 fun d w => d.onChip fun c =>
      let lc := (c.eng e.val).lc
      let c := c.updEng e.val fun h => { h with lc := lc - 1 }
      if 2 ≤ lc then c.setFld F.ACD_ENG_STATUS.PC (bits w 8 0) e.val else c.nextPc e.val)

/-- R367: ADD. -/
def execAdd (e : Fin 1536) (s : State) : Host.Outcome State Fault Refusal :=
  .next (s.onDev fun d => d.arith e.val 0x08 true false fun c w => c.gB e.val w)

/-- R367: SUB. -/
def execSub (e : Fin 1536) (s : State) : Host.Outcome State Fault Refusal :=
  .next (s.onDev fun d => d.arith e.val 0x09 true true fun c w => c.gB e.val w)

/-- R367: AND. -/
def execAnd (e : Fin 1536) (s : State) : Host.Outcome State Fault Refusal :=
  .next (s.onDev fun d => d.computeZN e.val 0x0A fun c w =>
    c.gA e.val w &&& c.gB e.val w)

/-- R367: OR. -/
def execOr (e : Fin 1536) (s : State) : Host.Outcome State Fault Refusal :=
  .next (s.onDev fun d => d.computeZN e.val 0x0B fun c w =>
    c.gA e.val w ||| c.gB e.val w)

/-- R367: XOR. -/
def execXor (e : Fin 1536) (s : State) : Host.Outcome State Fault Refusal :=
  .next (s.onDev fun d => d.computeZN e.val 0x0C fun c w =>
    c.gA e.val w ^^^ c.gB e.val w)

/-- R367: SHL. -/
def execShl (e : Fin 1536) (s : State) : Host.Outcome State Fault Refusal :=
  .next (s.onDev fun d => d.computeZN e.val 0x0D fun c w =>
    c.gA e.val w <<< ((c.gB e.val w).toNat % 32))

/-- R367: SHR. -/
def execShr (e : Fin 1536) (s : State) : Host.Outcome State Fault Refusal :=
  .next (s.onDev fun d => d.computeZN e.val 0x0E fun c w =>
    c.gA e.val w >>> ((c.gB e.val w).toNat % 32))

/-- R367: SAR. -/
def execSar (e : Fin 1536) (s : State) : Host.Outcome State Fault Refusal :=
  .next (s.onDev fun d => d.computeZN e.val 0x0F fun c w =>
    (c.gA e.val w).sshiftRight ((c.gB e.val w).toNat % 32))

/-- R367: MUL keeps the low 32 bits of the product. -/
def execMul (e : Fin 1536) (s : State) : Host.Outcome State Fault Refusal :=
  .next (s.onDev fun d => d.compute e.val 0x10 fun c w =>
    c.gA e.val w * c.gB e.val w)

/-- R367: MIN, signed. -/
def execMin (e : Fin 1536) (s : State) : Host.Outcome State Fault Refusal :=
  .next (s.onDev fun d => d.compute e.val 0x11 fun c w =>
    sMin (c.gA e.val w) (c.gB e.val w))

/-- R367: MAX, signed. -/
def execMax (e : Fin 1536) (s : State) : Host.Outcome State Fault Refusal :=
  .next (s.onDev fun d => d.compute e.val 0x12 fun c w =>
    sMax (c.gA e.val w) (c.gB e.val w))

/-- R367: CMP. -/
def execCmp (e : Fin 1536) (s : State) : Host.Outcome State Fault Refusal :=
  .next (s.onDev fun d => d.arith e.val 0x13 false true fun c w => c.gB e.val w)

/-- R367: ADDI. -/
def execAddi (e : Fin 1536) (s : State) : Host.Outcome State Fault Refusal :=
  .next (s.onDev fun d => d.arith e.val 0x18 true false fun _ w => BitVec.ofInt 32 (insnImmS w))

/-- R367: ANDI, with the immediate zero-extended. -/
def execAndi (e : Fin 1536) (s : State) : Host.Outcome State Fault Refusal :=
  .next (s.onDev fun d => d.computeZN e.val 0x19 fun c w =>
    c.gA e.val w &&& word (insnImm w))

/-- R367: ORI, with the immediate zero-extended. -/
def execOri (e : Fin 1536) (s : State) : Host.Outcome State Fault Refusal :=
  .next (s.onDev fun d => d.computeZN e.val 0x1A fun c w =>
    c.gA e.val w ||| word (insnImm w))

/-- R367: XORI, with the immediate zero-extended. -/
def execXori (e : Fin 1536) (s : State) : Host.Outcome State Fault Refusal :=
  .next (s.onDev fun d => d.computeZN e.val 0x1B fun c w =>
    c.gA e.val w ^^^ word (insnImm w))

/-- R367: SHLI. -/
def execShli (e : Fin 1536) (s : State) : Host.Outcome State Fault Refusal :=
  .next (s.onDev fun d => d.computeZN e.val 0x1C fun c w =>
    c.gA e.val w <<< (insnImm w % 32))

/-- R367: SHRI. -/
def execShri (e : Fin 1536) (s : State) : Host.Outcome State Fault Refusal :=
  .next (s.onDev fun d => d.computeZN e.val 0x1D fun c w =>
    c.gA e.val w >>> (insnImm w % 32))

/-- R367: SARI. -/
def execSari (e : Fin 1536) (s : State) : Host.Outcome State Fault Refusal :=
  .next (s.onDev fun d => d.computeZN e.val 0x1E fun c w =>
    (c.gA e.val w).sshiftRight (insnImm w % 32))

/-- R367: CMPI. -/
def execCmpi (e : Fin 1536) (s : State) : Host.Outcome State Fault Refusal :=
  .next (s.onDev fun d => d.arith e.val 0x1F false true fun _ w => BitVec.ofInt 32 (insnImmS w))

/-- R367: LDC. -/
def execLdc (e : Fin 1536) (s : State) : Host.Outcome State Fault Refusal :=
  .next (s.onDev fun d => d.compute e.val 0x20 fun c w =>
    if bit (insnImm w) 4 then c.reg .ACD_PS_SCALE_HI e.val (insnImm w % 16)
    else c.reg .ACD_PS_SCALE_LO e.val (insnImm w % 16))

/-- R367: GETIP. -/
def execGetip (e : Fin 1536) (s : State) : Host.Outcome State Fault Refusal :=
  .next (s.onDev fun d => d.compute e.val 0x21 fun c _ => word (c.eng e.val).ip)

/-- R367: GETOP. -/
def execGetop (e : Fin 1536) (s : State) : Host.Outcome State Fault Refusal :=
  .next (s.onDev fun d => d.compute e.val 0x22 fun c _ => word (c.eng e.val).op)

/-- R367: SETIP. -/
def execSetip (e : Fin 1536) (s : State) : Host.Outcome State Fault Refusal :=
  .next (s.onDev fun d => 
    d.onInsn e.val 0x23 fun d w => d.onChip fun c =>
      (c.updEng e.val fun h => { h with ip := (c.gA e.val w).toNat % 131072 }).nextPc e.val)

/-- R367: SETOP. -/
def execSetop (e : Fin 1536) (s : State) : Host.Outcome State Fault Refusal :=
  .next (s.onDev fun d => 
    d.onInsn e.val 0x24 fun d w => d.onChip fun c =>
      (c.updEng e.val fun h => { h with op := (c.gA e.val w).toNat % 131072 }).nextPc e.val)

/-- R367: ADDIP, modulo 2^17. -/
def execAddip (e : Fin 1536) (s : State) : Host.Outcome State Fault Refusal :=
  .next (s.onDev fun d => 
    d.onInsn e.val 0x25 fun d w => d.onChip fun c =>
      (c.updEng e.val fun h => { h with ip := ptrAdd h.ip (insnImmS w) }).nextPc e.val)

/-- R367: ADDOP, modulo 2^17. -/
def execAddop (e : Fin 1536) (s : State) : Host.Outcome State Fault Refusal :=
  .next (s.onDev fun d => 
    d.onInsn e.val 0x26 fun d w => d.onChip fun c =>
      (c.updEng e.val fun h => { h with op := ptrAdd h.op (insnImmS w) }).nextPc e.val)

/-- R367: UNPK reads instance 0 of the source, extended. -/
def execUnpk (e : Fin 1536) (s : State) : Host.Outcome State Fault Refusal :=
  .next (s.onDev fun d => 
    d.onInsn e.val 0x28 fun d w =>
      let x := d.chip.descr e.val (bits w 9 4)
      let (base, len) := d.chip.inArea e.val
      let p := (d.chip.eng e.val).ip + x.pos
      if !bitsInside p x.width len then d.oob e.val
      else
        let raw := d.readField (e.val / 128) base p x.width x.msb
        let v := if x.sgn then BitVec.ofInt 32 (signed x.width raw) else word raw
        d.onChip fun c => (c.setG e.val (insnD w) v).nextPc e.val)

/-- R364, R367: CONV. -/
def execConv (e : Fin 1536) (s : State) : Host.Outcome State Fault Refusal :=
  .next (s.onDev fun d => 
    d.onInsn e.val 0x29 fun d w => d.onChip fun c =>
      let x := c.descr e.val (bits w 9 4)
      let (code, sat) := c.convert e.val x (c.gA e.val w).toInt
      ((c.noteSat e.val sat).setG e.val (insnD w) (word code)).nextPc e.val)

/-- R367: PACK writes the low WIDTH bits of A as instance 0 of the target. -/
def execPack (e : Fin 1536) (s : State) : Host.Outcome State Fault Refusal :=
  .next (s.onDev fun d => 
    d.onInsn e.val 0x2A fun d w =>
      let x := d.chip.descr e.val (bits w 9 4)
      let (base, len) := d.chip.outArea e.val
      let p := (d.chip.eng e.val).op + x.pos
      if !bitsInside p x.width len then d.oob e.val
      else (d.writeField (e.val / 128) base p x.width x.msb (d.chip.gA e.val w).toNat).onChip fun c =>
        c.nextPc e.val)

/-- R367, R368: XFRM. -/
def execXfrm (e : Fin 1536) (s : State) : Host.Outcome State Fault Refusal :=
  .next (s.onDev fun d => 
    d.onInsn e.val 0x2B fun d w =>
      let src := d.chip.descr e.val (bits w 17 12)
      let tgt := d.chip.descr e.val (bits w 11 6)
      let n := (d.chip.g e.val (bits w 5 2)).toNat % 65536
      let ip := (d.chip.eng e.val).ip
      let op := (d.chip.eng e.val).op
      let (d, ok) := d.xfrm e.val src tgt ip op 0 n
      if !ok then d.oob e.val
      else d.onChip fun c => (c.updEng e.val fun h => { h with
        ip := if bit w 1 then (ip + n * src.step src.width) % 131072 else ip
        op := if bit w 0 then (op + n * tgt.step tgt.targetWidth) % 131072 else op }).nextPc e.val)

/-- R367, R371: COPYB. -/
def execCopyb (e : Fin 1536) (s : State) : Host.Outcome State Fault Refusal :=
  .next (s.onDev fun d => 
    d.onInsn e.val 0x2C fun d w =>
      let n := (d.chip.gA e.val w).toNat
      let h := d.chip.eng e.val
      let (ib, il) := d.chip.inArea e.val
      let (ob, ol) := d.chip.outArea e.val
      let t := e.val / 128
      if h.ip % 8 != 0 || h.op % 8 != 0 || il < h.ip / 8 + n || ol < h.op / 8 + n then d.oob e.val
      else
        let d := d.pantryWrite t (ob + h.op / 8) (d.mem.pantryRead t (ib + h.ip / 8) n)
        d.onChip fun c => (c.updEng e.val fun h => { h with
          ip := (h.ip + 8 * n) % 131072, op := (h.op + 8 * n) % 131072 }).nextPc e.val)

/-- R367: PUTW writes A, least significant byte first. -/
def execPutw (e : Fin 1536) (s : State) : Host.Outcome State Fault Refusal :=
  .next (s.onDev fun d => 
    d.onInsn e.val 0x2D fun d w =>
      let op := (d.chip.eng e.val).op
      if op % 8 != 0 then d.oob e.val
      else d.stage e.val (op / 8 + 4 * insnImm w : Nat) (leBytes 4 (d.chip.gA e.val w).toNat))

/-- R367: TSTAMP writes the selected chassis time; a D above 3 selects a time that the spec does not state, a free
value. -/
def execTstamp (e : Fin 1536) (s : State) : Host.Outcome State Fault Refusal :=
  .next (s.onDev fun d => 
    d.onInsn e.val 0x2E fun d w =>
      let op := (d.chip.eng e.val).op
      let hand := (d.chip.eng e.val).hand.getD default
      let k := insnD w
      let time := if k = 0 then hand.first else if k = 1 then hand.last else if k = 2 then hand.start
        else if k = 3 then d.chip.ns else d.chip.freeVal % 2 ^ 64
      let d := if 3 < k then d.onChip Chip.drawn else d
      if op % 8 != 0 then d.oob e.val
      else d.stage e.val ((op / 8 : Nat) + 4 * insnImmS w) (leBytes 8 time))

/-- R369, R371, R374: EMIT waits for record order, for the other half and for its windows, and hands the half over. -/
def execEmit (e : Fin 1536) (s : State) : Host.Outcome State Fault Refusal :=
  .next (s.onDev fun d => 
    d.onInsn e.val 0x30 fun d w =>
      let len := d.chip.emitLen e.val w
      if len % 4 != 0 || len < 4 || d.chip.jfld F.ACD_JOB_LEN.OUT_LEN (d.chip.handJob e.val) < len then d.oob e.val
      else match d.emitWait? e.val w with
        | some st => d.onChip fun c => c.engWait e.val st
        | none => d.emit e.val w)

/-- R367, R370: FWAIT waits for the FETCH reads of the record; a failed one ends it with FETCH_ERR. -/
def execFwait (e : Fin 1536) (s : State) : Host.Outcome State Fault Refusal :=
  .next (s.onDev fun d => 
    d.onInsn e.val 0x32 fun d _ => d.onChip fun c =>
      if (c.eng e.val).fetchBad then c.recordError e.val 6
      else if !(c.eng e.val).fetches.isEmpty then c.engWait e.val enFetch
      else c.nextPc e.val)

end Sys2Proof.Machine
end

