-- ==== Sys2Proof/Machine/Lane.lean ====
section
/-! DEFINITION. The meanings of the lane commands of spec/02_serdes.md that concern one lane. Those that take
links down stand in Machine/Links.lean. -/

namespace Sys2Proof.Machine

/-- R54: the reference has run for 1 ms without a gap; the lanes of Fleren ports that have been waiting for it, in their
bring-up or in F1, lock again, and links may train. -/
def execRefRestore (t : Fin 12) (s : State) : Host.Outcome State Fault Refusal :=
  .next (s.onChip fun c =>
    let was := c.flag F.SDS_REF_STATUS.REF_OK t.val
    let c := c.setFld F.SDS_REF_STATUS.REF_OK 1 t.val
    if was then c
    else (rangeFrom (8 * t.val) 8).foldl (fun c n =>
      if c.isFleren n && decide (c.lstate n ∈ [flHunt, flAlign, flInit, flUpState, flRetrain]) then c.flLanesOn n else c) c)

/-- R55: a request for the deep lane state. -/
def execDeepEntry (l : Fin 192) (s : State) : Host.Outcome State Fault Refusal :=
  .next (s.onChip fun c => c.laneDeep l.val)

/-- R56: the lane reaches DEEP; an exit request held during ENTERING starts the exit. -/
def execDeepEntryDone (l : Fin 192) (s : State) : Host.Outcome State Fault Refusal :=
  .next (s.onChip fun c =>
    if c.laneState l.val = lnEntering then
      let held := (c.lane l.val).exitHeld
      let c := ((c.setFld F.SDS_LN_STATUS.STATE lnDeep l.val).setFld F.SDS_LN_STATUS.PLL_LOCK 0 l.val).updLane
        l.val fun h => { h with exitHeld := false }
      if held then (c.laneExit l.val).exitFollow l.val else c
    else c)

/-- R57, R59, R168: an exit request, local or from the signal detector, which sees the wake pattern of a Fleren partner. -/
def execDeepExit (l : Fin 192) (activity : Bool) (s : State) : Host.Outcome State Fault Refusal :=
  .next (s.onChip fun c =>
    if activity then
      let c := (c.setFld F.SDS_LN_STATUS.SIG_DET 1 l.val).laneWake l.val
      if c.exitFailed l.val then c.exitFollow l.val else c.wakeSeen l.val
    else (c.laneWake l.val).exitFollow l.val)

/-- R57: the lane reaches ACTIVE after the given nanoseconds. -/
def execDeepExitDone (l : Fin 192) (ns : Fin 65536) (s : State) : Host.Outcome State Fault Refusal :=
  .next (s.onChip fun c =>
    if c.laneState l.val = lnExiting then
      let c := c.laneActivate l.val (c.fld F.SDS_LN_STATUS.RATE l.val)
      ((c.setFld F.SDS_LN_STATUS.CDR_LOCK (b2n (c.adapt l.val != 4)) l.val).setFld F.SDS_LN_EXIT_LAST.TIME ns.val
        l.val).setFld F.SDS_LN_STATUS.EXIT_FAIL 0 l.val
    else c)

/-- R60, R168: the lane returns from STANDBY to ACTIVE; on a Fleren link in LP the partner's wake pattern has come. -/
def execStandbyExit (l : Fin 192) (s : State) : Host.Outcome State Fault Refusal :=
  .next (s.onChip fun c =>
    if c.laneState l.val = lnStandby then
      let c := c.laneActivate l.val (c.fld F.SDS_LN_STATUS.RATE l.val)
      match c.flLane? l.val with
      | some (n, _) => if (c.flp n).waking then c else c.leaveLp n
      | none => c
    else c)

/-- R67, R68: a write of SDS_LN_TXEQ; `inEq` says that the lane is in an equalisation phase. -/
def execTxeqWrite (a : Access) (l : Fin 192) (v : Word) (inEq : Bool) (s : State) :
    Host.Outcome State Fault Refusal :=
  .next (s.onChip fun c => c.ownWrite a ⟨.SDS_LN_TXEQ, l.val, 0⟩ v fun c => c.writeTxeq a l.val v inEq)

/-- R68: the equalisation phase ends and the held write takes effect. -/
def execTxeqHeldApply (l : Fin 192) (s : State) : Host.Outcome State Fault Refusal :=
  .next (s.onChip fun c =>
    match (c.lane l.val).txHeld with
    | some w => ((c.setReg .SDS_LN_TXEQ w l.val).updLane l.val fun h => { h with txHeld := none }).txFollow l.val
    | none => c)

/-- R63, R64: a partner's request. For a preset, `pre` and `post` are the preset's fractions of full swing in
thousandths at the rate in effect; for coefficients, magnitudes in 1/48. -/
def execPartnerCoeffRequest (l : Fin 192) (isPreset : Bool) (preset : Fin 16) (pre main post : Fin 1024)
    (s : State) : Host.Outcome State Fault Refusal :=
  .next (s.onChip fun c =>
    if !c.lanePcie l.val then c
    else
      let bad := !isPreset && !legalTx pre.val main.val post.val
      let c := match bad, c.laneOwner? l.val with
        | true, some n => c.violation n 0x0B
        | _, _ => c
      if bad || c.flag F.SDS_LN_TXEQ.MODE l.val then c.inc F.SDS_LN_EQ_REJ.COUNT l.val
      else if isPreset then
        let q := clampTx (presetTaps pre.val) (presetTaps post.val)
        c.applyTx l.val { pre := q.1, post := q.2, source := 0, preset := preset.val }
      else
        c.applyTx l.val { pre := pre.val, post := post.val, source := 1 })

/-- R69: a write of RESTART. -/
def execAdaptRestart (a : Access) (l : Fin 192) (v : Word) (s : State) : Host.Outcome State Fault Refusal :=
  .next (s.onChip fun c => c.ownWrite a ⟨.SDS_LN_RXCTL, l.val, 0⟩ v fun c => c.writeRxctl a l.val v)

/-- R71: a write of FREEZE. -/
def execAdaptFreeze (a : Access) (l : Fin 192) (v : Word) (s : State) : Host.Outcome State Fault Refusal :=
  .next (s.onChip fun c => c.ownWrite a ⟨.SDS_LN_RXCTL, l.val, 0⟩ v fun c => c.writeRxctl a l.val v)

/-- R69: the equaliser and the gain have settled at these codes with CDR_LOCK. -/
def execCoarseDone (l : Fin 192) (ctle vga : Fin 16) (s : State) : Host.Outcome State Fault Refusal :=
  .next (s.onChip fun c =>
    if c.laneState l.val = lnActive && c.adapt l.val = 1 && !c.frozen l.val then
      (((c.setFld F.SDS_LN_RXSTAT.CTLE ctle.val l.val).setFld F.SDS_LN_RXSTAT.VGA vga.val l.val).setFld
        F.SDS_LN_STATUS.CDR_LOCK 1 l.val).setFld F.SDS_LN_RXSTAT.ADAPT_STATE 2 l.val
    else c)

/-- R69: the fine search ends at these codes, which are stored; tracking begins. -/
def execFineDone (l : Fin 192) (ctle vga : Fin 16) (snr : Fin 256) (s : State) :
    Host.Outcome State Fault Refusal :=
  .next (s.onChip fun c =>
    if c.laneState l.val = lnActive && c.adapt l.val = 2 && !c.frozen l.val then
      ((((c.setFld F.SDS_LN_RXSTAT.CTLE ctle.val l.val).setFld F.SDS_LN_RXSTAT.VGA vga.val l.val).setFld
        F.SDS_LN_RXSTAT.SNR snr.val l.val).setFld F.SDS_LN_RXSTAT.ADAPT_STATE 3 l.val).updLane l.val
        fun h => { h with stored := some (ctle.val, vga.val) }
    else c)

/-- R69, R72: 4 ms without reaching TRACK. -/
def execAdaptTimeout (l : Fin 192) (s : State) : Host.Outcome State Fault Refusal :=
  .next (s.onChip fun c =>
    if (c.adapt l.val = 1 || c.adapt l.val = 2) && !c.frozen l.val then
      ((c.setFld F.SDS_LN_RXSTAT.ADAPT_STATE 4 l.val).setFld F.SDS_LN_STATUS.CDR_LOCK 0 l.val).raise
        (tileSrc (laneTile l.val) (8 + l.val % 16 / 4)) 0x0A 1 l.val |>.laneLockLost l.val
    else c)

/-- R74, R75: a write of START. -/
def execEyeStart (a : Access) (l : Fin 192) (v : Word) (s : State) : Host.Outcome State Fault Refusal :=
  .next (s.onChip fun c => c.ownWrite a ⟨.SDS_LN_EYE_CTL, l.val, 0⟩ v fun c => c.writeEye a l.val v)

/-- R74: the measurement ends with this count of mismatches. -/
def execEyeDone (l : Fin 192) (mismatches : Nat) (s : State) : Host.Outcome State Fault Refusal :=
  .next (s.onChip fun c =>
    if c.fld F.SDS_LN_EYE_STAT.STATE l.val = 1 then
      let n := 2 ^ wget (c.lane l.val).probe 27 22
      ((c.setPair .SDS_LN_EYE_CNT_LO .SDS_LN_EYE_CNT_HI n l.val).setPair .SDS_LN_EYE_ERR_LO .SDS_LN_EYE_ERR_HI
        (min mismatches n) l.val).setFld F.SDS_LN_EYE_STAT.STATE 2 l.val
    else c)

/-- R75: a write of ABORT. -/
def execEyeAbort (a : Access) (l : Fin 192) (v : Word) (s : State) : Host.Outcome State Fault Refusal :=
  .next (s.onChip fun c => c.ownWrite a ⟨.SDS_LN_EYE_CTL, l.val, 0⟩ v fun c => c.writeEye a l.val v)

/-- R75, R103: a Lane Margining at the Receiver command arrives for the lane; `holds` is false for the command
that ends margining. -/
def execLaneMargining (l : Fin 192) (holds : Bool) (s : State) : Host.Outcome State Fault Refusal :=
  .next (s.onChip fun c => c.margin l.val holds)

end Sys2Proof.Machine
end

