-- ==== Sys2Proof/Machine/Legacy.lean ====
section
/-! DEFINITION. The meanings of the commands of the legacy segment bridge (spec/12_legacy_segment.md) that do not enter
the ingress header lookup. -/

namespace Sys2Proof.Machine

/-- R415 to R418: the bridge starts its next entry, unless a slot has the bus; a read that lies wholly within a prefetch buffer
is answered from it without a transaction. -/
def execSegmentTransactionStart (pass : Bool) (s : State) : Host.Outcome State Fault Refusal :=
  .next (s.onChip fun c =>
    if c.flag F.LPB_STATUS.RST_ACTIVE || c.lpb.active.isSome || c.lpb.grant.isSome then c
    else
      let c := c.segFill
      match c.segNext? pass with
      | none => c
      | some e =>
        let p := e.copy.pkt
        match c.segWindow? p.isIo p.addr with
        | none => c.segFail e .ur
        | some w =>
          match c.segHeld? w e with
          | some bs => ((c.inc F.LPB_PF_HIT.COUNT).segRelease e.copy.id).segCompletion e.copy p.addr p.len bs false
          | none =>
            let c := if !p.isRead then c.pfDrop w
              else if p.kind = .memRdLk then c.updLpb fun h => { h with prefetch := [] } else c
            let c := if p.kind = .memRdLk then c.lockLine true else c
            ((c.pulse 0xC05 0x10).segStart e).emit (.bus p.segCmd (c.segAddr w (p.addr + e.done)) (c.segSpan w e)))

/-- The bytes of the transaction of an entry. -/
def segSpanOf (c : Chip) (e : SegEntry) : Nat :=
  match c.segWindow? e.copy.pkt.isIo e.copy.pkt.addr with
  | some w => c.segSpan w e
  | none => e.copy.pkt.len - e.done

/-- The bytes that a transaction has transferred stand (R417, R419): those read go to the requester, and past its end to the
prefetch buffer; the entry with those done. -/
def segTaken (c : Chip) (e : SegEntry) (bs : List Byte) (n : Nat) (poisoned : Bool) : SegEntry × Chip :=
  let k := e.copy
  let a := k.pkt.addr + e.done
  let span := segSpanOf c e
  let want := k.pkt.len - e.done
  if k.pkt.isRead then
    let bs := bs.take span
    let mine := bs.take want
    let c := if mine.isEmpty then c else c.segCompletion k a want mine poisoned
    let c := match c.segWindow? k.pkt.isIo k.pkt.addr with
      | some w => if c.segPref w && !poisoned then c.pfFill w (a + mine.length) (bs.drop want) (k.pkt.len < e.done) else c
      | none => c
    ({ e with done := e.done + (if poisoned then mine.length else bs.length), retries := 0, stalled := false }, c)
  else ({ e with done := e.done + min n span, retries := 0, stalled := false }, c)

/-- An entry goes on after a transaction, or is complete: with the extension of a read, which a parity error ends (R418). -/
def segOn (c : Chip) (e : SegEntry) (extend : Bool) : Chip :=
  let k := e.copy
  let extra := match c.segWindow? k.pkt.isIo k.pkt.addr with
    | some w => if extend then c.segExtra w k.pkt else 0
    | none => 0
  if k.pkt.len + extra ≤ e.done then c.segComplete e else c.segUpd k.id fun _ => e

/-- A parity error on the data (Table 12.2, Table 12.4): the bridge asserts PERR# on what it reads. -/
def segParity (c : Chip) (e : SegEntry) (slot : Nat) : Chip :=
  let c := (c.segViolation (if e.copy.pkt.isRead then 0x63 else 0x64) slot).inc F.LPB_PARITY.COUNT
  if e.copy.pkt.isRead then c.emit .perr else c

/-- How a segment transaction ends (Table 12.2). -/
def segEnd (c : Chip) (e : SegEntry) (how : SegOutcome) (slot : Nat) (bs : List Byte) (n : Nat) : Chip :=
  let k := e.copy
  match how with
  | .retry =>
    let c := ((c.inc F.LPB_RETRY.COUNT).pulse 0xC05 0x12).segIdle
    if c.fld F.LPB_TMO.RETRY_MAX ≤ e.retries + 1 then (c.segViolation 0x61 slot).segMasterAbort e
    else
      let c := if k.pkt.kind = .memRdLk then c.lockLine false else c
      c.segUpd k.id fun e => { e with retries := e.retries + 1, stalled := true }
  | .masterAbort => c.segIdle.segMasterAbort e
  | .targetAbort =>
    let (e, c) := segTaken c.segIdle e bs n false
    ((c.segViolation 0x62 slot).inc F.LPB_TABORT.COUNT).segFail e .ca
  | .transfer =>
    let moved := if k.pkt.isRead then min bs.length (segSpanOf c e) else min n (segSpanOf c e)
    let (e, c) := segTaken ((c.pulse 0xC05 0x11 (divUp moved 4)).segIdle) e bs n false
    segOn c e true
  | .parity =>
    let (e, c) := segTaken (segParity c.segIdle e slot) e bs n true
    segOn c e false

/-- R417, R419: the transaction on the bus ends; `bs` is the data read, `n` the bytes written. -/
def execSegmentTransactionEnd (how : SegOutcome) (slot : Fin 16) (bs : List Byte) (n : Nat) (s : State) :
    Host.Outcome State Fault Refusal :=
  .next (s.onChip fun c =>
    match c.segActive? with
    | none => c
    | some e => segEnd c e how slot.val bs n)

/-- R419: a target has held a data phase for HOLD_TMO clocks; the bytes transferred before stand. -/
def execHoldTimeout (stop : SegStop) (s : State) : Host.Outcome State Fault Refusal :=
  .next (s.onChip fun c =>
    match c.segActive? with
    | none => c
    | some e =>
      let (e, c) := segTaken c.segIdle e stop.bs stop.n false
      (c.segViolation 0x60 stop.slot.val).segMasterAbort e)

/-- R418: the prefetch buffer of a window has been held for PF_AGE. -/
def execPrefetchAgeExpiry (w : Fin 8) (s : State) : Host.Outcome State Fault Refusal :=
  .next (s.onChip fun c => c.pfDrop w.val)

/-- R420, R421: an Unlock message arrives at the upstream port of a partition, or from the internal root; with no lock held
it is discarded. -/
def execUnlockMessage (p : Option (Fin 32)) (s : State) : Host.Outcome State Fault Refusal :=
  .next (s.onChip fun c => if c.lpb.lock.isSome && c.segOwner = p.map (·.val) then c.segUnlock else c)

/-- R421: the lock has been held for LOCK_TMO without an Unlock message. -/
def execLockTimeout (s : State) : Host.Outcome State Fault Refusal :=
  .next (s.onChip fun c =>
    if c.lpb.lock.isSome then ((c.segUnlock).segViolation 0x69 0xF).raise 0x1A0 0x17 1 else c)

/-- R424, R425: a completion of a delayed read; with the last one its data is held, behind every entry of the segment queue that
arrived before it. -/
def execDelayedReadCompletion (s : State) : Host.Outcome State Fault Refusal :=
  .next (s.onChip fun c =>
    match c.flt.inbox.find? fun q => q.to_ == .segment with
    | none => c
    | some q =>
      let p := q.pkt
      let c := { c with flt := { c.flt with inbox := c.flt.inbox.erase q } }
      let ids := c.lpb.queue.map fun e => e.copy.id
      let new := p.data.map fun b => (b, p.poisoned)
      let took (r : DelRead) : DelRead :=
        match r.data with
        | .waiting got =>
          if p.status != .sc then { r with data := .error, before := ids }
          else if p.lastCpl then { r with data := .data (got ++ new), before := ids }
          else { r with data := .waiting (got ++ new) }
        | _ => r
      c.updLpb fun h => { h with delayed := h.delayed.map fun r => if r.tag == p.tag then took r else r })

/-- R424: no master has repeated delayed read i within 2^15 clocks. -/
def execDelayedReadExpiry (i : Fin 4) (s : State) : Host.Outcome State Fault Refusal :=
  .next (s.onChip fun c =>
    match c.lpb.delayed[i.val]? with
    | some r =>
      if r.data.pending then c
      else ((c.updLpb fun h => { h with delayed := h.delayed.erase r }).inc F.LPB_DISCARD.COUNT).segViolation 0x67 0xF
    | none => c)

/-- R425: a level of INTx# has been stable for 1 µs. -/
def execIntxChange (x : Fin 4) (asserted : Bool) (s : State) : Host.Outcome State Fault Refusal :=
  .next (s.onChip fun c =>
    let lines := putBit (c.fld F.LPB_STATUS.INT) x.val asserted
    let c := c.setFld F.LPB_STATUS.INT lines
    if bit c.lpb.intSent x.val = asserted then c
    else (c.updLpb fun h => { h with intSent := putBit h.intSent x.val asserted }).emit (.intx c.intxVia x.val asserted))

/-- R426, R618: a read of LPB_CFG_DATA. The cycle runs only for a full read by a requester whose reads have effects. -/
def execLpbCfgRead (a : Access) (resp : Option Word) (s : State) : Host.Outcome State Fault Refusal :=
  .next (s.onChip fun c =>
    let k : RegKey := ⟨.LPB_CFG_DATA, 0, 0⟩
    c.guardRead a k 0 fun c =>
      let c := if c.readActs a then c.segCfgCycle false 0 resp else c
      c.answering [word (enabledBytes a.be (c.reg .LPB_CFG_DATA).toNat)])

/-- R426: a write of LPB_CFG_DATA. -/
def execLpbCfgWrite (a : Access) (v : Word) (resp : Option Word) (s : State) : Host.Outcome State Fault Refusal :=
  .next (s.onChip fun c => c.ownWrite a ⟨.LPB_CFG_DATA, 0, 0⟩ v fun c => c.segCfgCycle true v resp)

/-- R427: of the legacy slots that assert REQ#, the next in rotation is granted the bus, unless the bridge has it or has
priority. -/
def execSegmentGrant (reqs : Fin 64) (s : State) : Host.Outcome State Fault Refusal :=
  .next (s.onChip fun c =>
    if c.flag F.LPB_STATUS.RST_ACTIVE || c.lpb.active.isSome || c.lpb.grant.isSome || c.segPriority then c
    else match c.nextSlot? reqs.val with
      | none => c
      | some slot => c.updLpb fun h => { h with grant := some slot, turn := (slot + 1) % 6 })

/-- R427: the granted slot has not asserted FRAME# within 16 clocks; `started` says that it has, and its transaction is over. -/
def execGrantTimeout (started : Bool) (s : State) : Host.Outcome State Fault Refusal :=
  .next (s.onChip fun c =>
    match c.lpb.grant with
    | none => c
    | some slot =>
      let fails := if started then 0 else c.lpb.grantFails.get 0 slot + 1
      let c := c.updLpb fun h => { h with
        grant := none, grantFails := h.grantFails.set 0 slot (fails % 8), slotLast := started || h.slotLast }
      if fails = 8 then
        (c.setFld F.LPB_ARB.BROKEN (setBit (c.fld F.LPB_ARB.BROKEN) slot)).segViolation 0x66 slot
      else c)

/-- R409, R428: the segment clock has run for 1 ms and no cause holds the reset; M66EN is sampled, and Deassert_INTx
is sent for every line reported asserted. -/
def execSegmentResetDeassert (m66en : Bool) (s : State) : Host.Outcome State Fault Refusal :=
  .next (s.onChip fun c =>
    if !c.flag F.LPB_STATUS.RST_ACTIVE || c.segResetCause then c
    else
      let sent := c.lpb.intSent
      let c := ((c.cycSync.setFld F.LPB_STATUS.RST_ACTIVE 0).setFld F.LPB_STATUS.BUS66
        (b2n (m66en && c.flag F.LPB_CFG.SPEED66))).setFld F.LPB_STATUS.BUS64 (c.fld F.LPB_CFG.WIDTH64)
      (c.updLpb fun h => { h with intSent := 0 }).emitAll
        (((List.range 4).filter fun x => bit sent x).map fun x => .intx c.intxVia x false))

/-- R429: SERR# is asserted. -/
def execSerrAssert (slot : Fin 16) (s : State) : Host.Outcome State Fault Refusal :=
  .next (s.onChip fun c => c.segViolation 0x65 slot.val)

end Sys2Proof.Machine
end

