-- ==== Sys2Proof/Machine/LegacyUp.lean ====
section
/-! DEFINITION. The requests of segment masters, which enter the ingress header lookup (R422 to R425 of
spec/12_legacy_segment.md). -/

namespace Sys2Proof.Machine

/-- The upstream window: its first segment address and the one past its last. -/
def Chip.upWindow (c : Chip) : Nat × Nat :=
  let size := 2 ^ c.fld F.LPB_UP_A.SIZE
  let b := (c.reg .LPB_UP_SBASE).toNat / size * size
  (b, b + size)

/-- The bridge claims a segment memory transaction (R422). -/
def Chip.upClaims (c : Chip) (a : Nat) : Bool :=
  let w := c.upWindow
  !c.flag F.LPB_STATUS.RST_ACTIVE && c.flag F.LPB_UP_A.VALID && w.1 ≤ a && a < w.2 &&
    (match c.segOwner with | some p => c.bme (.mgmt p) | none => 4 ≤ c.opMode && c.opMode ≤ 8)

/-- A claimed request as it enters the lookup (R422). -/
def Chip.upLook (c : Chip) (p : Packet) : Look :=
  let part := c.segOwner
  let id := c.ownId part
  let addr := (c.pair .LPB_UP_HBASE_LO .LPB_UP_HBASE_HI + (p.addr - c.upWindow.1)) % 2 ^ 64
  { pkt := { p with addr, rid := id.1 }, src := .segment, stamp := c.ns, part, hier := hierNum part,
    st := { master := .card, colour := id.2 }, oRid := id.1, oTag := p.tag }

/-- One piece of a write burst is accepted, unless its copy fails the admission test (R423). -/
def Chip.upWrite (c : Chip) (p : Packet) : Option Chip :=
  let c' := c.lookReq (c.upLook p) none
  if c'.cel.waiting.any fun k => k.src == .segment && !c.cel.waiting.any fun w => w.id == k.id then none else some c'

/-- The pieces of a burst are accepted in turn, until one is answered with Retry: the bytes accepted. -/
def Chip.upBurst (a : Nat) (data : List Byte) (lanes : List Bool) (poisoned : Bool) : List (Nat × Nat) → Nat × Chip → Nat × Chip
  | [], q => q
  | (x, n) :: rest, (done, c) =>
    let off := x - a
    let piece : Packet :=
      { kind := .memWr, addr := x, data := (data.drop off).take n, lanes := (lanes.drop off).take n, len := n, poisoned }
    match c.upWrite piece with
    | none => (done, c)
    | some c => Chip.upBurst a data lanes poisoned rest (done + n, c)

/-- An upstream transaction whose address has a parity error is not claimed (Table 12.4, 0x68); any other goes on with its
address. -/
def Chip.upAddress (c : Chip) (addr : SegAddr) (go : Nat → Chip) : Chip :=
  if c.flag F.LPB_STATUS.RST_ACTIVE then c.answering []
  else if !addr.parityOk then ((c.inc F.LPB_PARITY.COUNT).segViolation 0x68 addr.slot.val).answering []
  else go addr.at_.toNat

/-- R423: a segment master's write burst at an address; data with bad parity goes on poisoned, with PERR# asserted and counted
(Table 12.1; DESIGN CHOICE, log entry 49). The answer is the count of bytes accepted, and no word when the
bridge does not claim the burst. -/
def execSegmentUpstreamWrite (addr : SegAddr) (data : List Byte) (lanes : List Bool) (s : State) :
    Host.Outcome State Fault Refusal :=
  .next (s.onChip fun c =>
    c.upAddress addr fun a =>
    if !c.upClaims a then c.answering []
    else if c.lpb.lock.isSome then c.answering [0]
    else
      let n := min data.length (c.upWindow.2 - a)
      let c := if addr.dataOk then c else (c.inc F.LPB_PARITY.COUNT).emit .perr
      let q := Chip.upBurst a data lanes (!addr.dataOk) (cutAt 512 n a n) (0, c)
      q.2.answering [word q.1])

/-- The bytes that a delayed read asks for (R424), up to the next 4 KiB boundary of the host-side address (R391): cmd
0 Memory Read, 1 Memory Read Line, 2 Memory Read Multiple. -/
def Chip.upReadLen (c : Chip) (a cmd : Nat) (wide : Bool) : Nat :=
  let n := match cmd with
    | 0 => if wide then 8 else 4
    | 1 => 64 - a % 64
    | _ => 512
  let host := (c.pair .LPB_UP_HBASE_LO .LPB_UP_HBASE_HI + (a - c.upWindow.1)) % 2 ^ 64
  min (min n (c.upWindow.2 - a)) (4096 - host % 4096)

/-- The words of a byte string, least significant byte first. -/
def leWords : Nat → List Byte → List Word
  | 0, _ => []
  | n + 1, bs => word (leNat (bs.take 4)) :: leWords n (bs.drop 4)

/-- A new delayed read takes a tag and enters the lookup; with no place or no tag the master sees Retry alone. -/
def Chip.upRead (c : Chip) (a cmd : Nat) (wide : Bool) : Chip :=
  let n := c.upReadLen a cmd wide
  let host := (c.pair .LPB_UP_HBASE_LO .LPB_UP_HBASE_HI + (a - c.upWindow.1)) % 2 ^ 64
  if 4 ≤ c.lpb.delayed.length then c
  else match c.devTag c.segOwner .segment host n with
    | (none, _) => c
    | (some tag, c) =>
      let c := c.updLpb fun h => { h with delayed := h.delayed ++ [{ addr := a, cmd, tag }] }
      c.lookReq (c.upLook { kind := .memRd, addr := a, len := n, tag }) none

/-- The data phases of a delayed read that carry inverted parity, a bit for each word of its data (R424). -/
def badPhases : Nat → List (Byte × Bool) → Nat
  | 0, _ => 0
  | n + 1, bs => b2n ((bs.take 4).any (·.2)) + 2 * badPhases n (bs.drop 4)

/-- R424, R425: a segment master reads an address. The answer: no word when the bridge does not claim the read or ends it
with a target abort, [0] for Retry, and 1 before the words of its data; with inverted parity in some data phases 2, the words
and a mask of those phases. -/
def execSegmentUpstreamRead (addr : SegAddr) (cmd : Fin 3) (wide : Bool) (s : State) : Host.Outcome State Fault Refusal :=
  .next (s.onChip fun c =>
    c.upAddress addr fun a =>
    let a := a / 4 * 4
    if !c.upClaims a then c.answering []
    else if c.lpb.lock.isSome then c.answering [0]
    else match c.lpb.delayed.find? fun r => r.addr == a && r.cmd == cmd.val with
      | none => (c.upRead a cmd.val wide).answering [0]
      | some r =>
        if !r.before.isEmpty then c.answering [0]
        else
          let gone := c.updLpb fun h => { h with delayed := h.delayed.erase r }
          match r.data with
          | .waiting _ => c.answering [0]
          | .error => (gone.inc F.LPB_TABORT.COUNT).answering []
          | .data bs =>
            let n := (bs.length + 3) / 4
            let bad := badPhases n bs
            let ws := leWords n (bs.map (·.1))
            gone.answering (if bad = 0 then 1 :: ws else 2 :: ws ++ leWords (divUp n 32) (leBytes (4 * divUp n 32) bad)))

end Sys2Proof.Machine
end

