-- ==== Sys2Proof/Machine/Letterbox.lean ====
section
/-! DEFINITION. The meanings of the commands at the Letterboxes: their windows, the SMBus target, the commands of Table 15.5,
and the timers of ownership (spec/15_letterbox_firmware.md). A command of Table 15.5 is carried out by its own row once
Ecseric comes to it; the acknowledgement is COMMAND_ACK. -/

namespace Sys2Proof.Machine

/-! ### Windows and SMBus (R493 to R497) -/

/-- R495: LBX_REQ of a Letterbox is written. -/
def execLbxReqWrite (n : Fin 34) (be : Fin 16) (v : Word) (s : State) : Host.Outcome State Fault Refusal :=
  .next (s.onChip fun c => c.windowWrite n.val 0x00 be.val v)

/-- R494: 1 is written to RING of a Letterbox. -/
def execRing (n : Fin 34) (s : State) : Host.Outcome State Fault Refusal :=
  .next (s.onChip fun c => c.windowWrite n.val 0x08 15 1)

/-- R495: LBX_RSP of a Letterbox is read. -/
def execLbxRspRead (n : Fin 34) (be : Fin 16) (s : State) : Host.Outcome State Fault Refusal :=
  .next (s.onChip fun c => let (w, c) := c.windowRead n.val 0x04 be.val; c.answering [w])

/-- R494, steps 5 and 6: Ecseric acknowledges the command of a Letterbox. -/
def execCommandAck (n : Fin 34) (s : State) : Host.Outcome State Fault Refusal := .next (s.onChip fun c => c.boxAck n.val)

/-- A transaction of the BMC; a wrong PEC has no effect but its count and SMBUS_ERR, whose error code is free (R497). -/
def Chip.smbus (c : Chip) (pecOk : Bool) (f : Chip → Chip) : Chip :=
  if pecOk then f c else (c.lbxDrop.raise 0x1D6 0x2F 0 (c.freeVal % 256)).drawn

/-- Data returned to the BMC. -/
def Chip.smbAnswer (c : Chip) (ws : List Word) : Chip := (c.emit (.smbus ws)).answering ws

/-- R497, Table 15.3: SMBus code 0x01, with 1 to 16 words. -/
def execSmbBlockWriteReq (ws : List Word) (pecOk : Bool) (s : State) : Host.Outcome State Fault Refusal :=
  .next (s.onChip fun c => c.smbus pecOk fun c =>
    if ws.isEmpty || 16 < ws.length then c else ws.foldl (fun c w => c.boxReq 32 w) c)

/-- R497, Table 15.3: SMBus code 0x02. -/
def execSmbRing (data : Byte) (pecOk : Bool) (s : State) : Host.Outcome State Fault Refusal :=
  .next (s.onChip fun c => c.smbus pecOk fun c => if data = 1 then c.ring 32 else c)

/-- R497, Table 15.3: SMBus code 0x03. -/
def execSmbReadRsp (s : State) : Host.Outcome State Fault Refusal :=
  .next (s.onChip fun c => (c.smbAnswer (c.box 32).rsp).updBox 32 fun b => { b with rsp := [] })

/-- R497, Table 15.3: SMBus code 0x04. -/
def execSmbReadAck (s : State) : Host.Outcome State Fault Refusal :=
  .next (s.onChip fun c => c.smbAnswer [c.reg .LBX_ACK 32])

/-- R497, Table 15.3: SMBus code 0x05. -/
def execSmbReadStatus (s : State) : Host.Outcome State Fault Refusal :=
  .next (s.onChip fun c => c.smbAnswer [word (c.lbxStatus 32)])

/-- R497, Table 15.3: SMBus code 0x06. -/
def execSmbWriteCtl (v : Word) (pecOk : Bool) (s : State) : Host.Outcome State Fault Refusal :=
  .next (s.onChip fun c => c.smbus pecOk fun c => c.writeBoxCtl 32 v)

/-- R497: the Alert Response Address is answered with the device's own address while SMBALERT# is asserted, which is then
released. -/
def execSmbAlertResponse (s : State) : Host.Outcome State Fault Refusal :=
  .next (s.onChip fun c =>
    if c.lbx.smbAlert then
      { c with lbx := { c.lbx with smbAlert := false } }.smbAnswer [word (2 * c.fld F.LBX_SMB_CFG.ADDR)]
    else c)

/-! ### Ownership (R506 to R513) -/

/-- R500: IDENT. -/
def execIdent (n : Fin 34) (s : State) : Host.Outcome State Fault Refusal :=
  .next (s.onDev fun d => d.commandC n.val 0x01 .any fun c =>
    c.boxOk n.val [c.replyReg .GLB_ID, c.replyReg .LBX_FW_VERSION, word (n.val + c.fld F.LBX_OWNER.OWNER * 256)])

/-- CLAIM (R507). -/
def Chip.claim (c : Chip) (n : Nat) : Chip :=
  if c.owner?.isSome then c.boxResult n 0x800A [word (c.fld F.LBX_OWNER.OWNER)]
  else
    let c := c.setFld F.LBX_OWNER.ELECTING 1
    let c := { c with lbx := { c.lbx with cands := c.lbx.cands.filter (fun (q : Nat × Nat) => q.1 != n) ++ [(n, c.lbxArg n 0 % 256)] } }
    c.updBox n fun b => { b with todo := false }

/-- R507: CLAIM. -/
def execClaim (n : Fin 34) (s : State) : Host.Outcome State Fault Refusal :=
  .next (s.onDev fun d => d.commandC n.val 0x02 .cand fun c => c.claim n.val)

/-- R508: RENEW. -/
def execRenew (n : Fin 34) (s : State) : Host.Outcome State Fault Refusal :=
  .next (s.onDev fun d => d.commandC n.val 0x03 .holder fun c => { c with lbx := { c.lbx with renewed := true } }.boxOk n.val)

/-- R509: RELEASE. -/
def execOwnerRelease (n : Fin 34) (s : State) : Host.Outcome State Fault Refusal :=
  .next (s.onDev fun d => d.commandC n.val 0x04 .holder fun c => c.lapse.boxOk n.val)

/-- HANDOVER (R510). -/
def Chip.handover (c : Chip) (n : Nat) : Chip :=
  let t := c.lbxArg n 0 % 64
  if t = n || !(t == 32 || (Nat.blt t 32 && (c.upPort? t).isSome)) then c.boxResult n 0x8004
  else
    let c := (c.setFld F.LBX_OWNER.HO_PEND 1).setFld F.LBX_OWNER.HO_TARGET t
    { c with lbx := { c.lbx with hoFrom := some n } }.updBox n fun b => { b with todo := false }

/-- R510: HANDOVER. -/
def execHandover (n : Fin 34) (s : State) : Host.Outcome State Fault Refusal :=
  .next (s.onDev fun d => d.commandC n.val 0x05 .holder fun c => c.handover n.val)

/-- TAKE (R510). -/
def Chip.takeOwner (c : Chip) (n : Nat) : Chip :=
  if c.flag F.LBX_OWNER.HO_PEND && c.fld F.LBX_OWNER.HO_TARGET == n then
    let c := match c.lbx.hoFrom with | some m => c.boxOk m | none => c
    let c := (c.setFld F.LBX_OWNER.HO_PEND 0).setFld F.LBX_OWNER.HO_TARGET 0
    ({ c with lbx := { c.lbx with hoFrom := none } }.makeOwner n).boxOk n
  else c.boxResult n 0x800D

/-- R510: TAKE. -/
def execTake (n : Fin 34) (s : State) : Host.Outcome State Fault Refusal :=
  .next (s.onDev fun d => d.commandC n.val 0x06 .any fun c => c.takeOwner n.val)

/-- R512: EXPERT_REQ; the nonce is a free value that is not 0. -/
def execExpertReq (n : Fin 34) (s : State) : Host.Outcome State Fault Refusal :=
  .next (s.onDev fun d => d.commandC n.val 0x07 .holder fun c =>
    let w := word (c.freeVal % (2 ^ 32 - 1) + 1)
    { c.drawn with lbx := { c.lbx with nonce := some w } }.boxOk n.val [w])

/-- EXPERT_UNLOCK (R512, R513). -/
def Chip.expertUnlock (c : Chip) (n : Nat) : Chip :=
  let good := c.lbx.nonce == some (word (c.lbxArg n 0))
  let c := { c with lbx := { c.lbx with nonce := none } }
  if c.lifecycle != 0 && !bit c.lbx.expertMask n then c.boxResult n 0x800E
  else if good then (c.setFld F.LBX_OWNER.EXPERT 1).boxOk n
  else c.boxResult n 0x8004

/-- R512: EXPERT_UNLOCK. -/
def execExpertUnlock (n : Fin 34) (s : State) : Host.Outcome State Fault Refusal :=
  .next (s.onDev fun d => d.commandC n.val 0x08 .holder fun c => c.expertUnlock n.val)

/-- R512: EXPERT_LOCK. -/
def execExpertLock (n : Fin 34) (s : State) : Host.Outcome State Fault Refusal :=
  .next (s.onDev fun d => d.commandC n.val 0x09 .holder fun c => (c.setFld F.LBX_OWNER.EXPERT 0).boxOk n.val)

/-- The candidate that wins: the lowest priority number, then the lowest index (R507). -/
def Chip.winner? (c : Chip) : Option Nat :=
  (c.lbx.cands.find? fun q => c.lbx.cands.all fun r => Nat.blt q.2 r.2 || (q.2 == r.2 && Nat.ble q.1 r.1)).map (·.1)

/-- The election closes (R507): the CLAIMs that await it are answered. -/
def Chip.electionClose (c : Chip) : Chip :=
  let ids := (c.lbx.cands.map (·.1)).filter c.claiming
  match c.winner? with
  | none => c.setFld F.LBX_OWNER.ELECTING 0
  | some w =>
    let c := { c.setFld F.LBX_OWNER.ELECTING 0 with lbx := { c.lbx with cands := [] } }
    ids.foldl (fun c n => c.boxResult n (if n = w then 0 else 0x800B) [word w]) (c.makeOwner w)

/-- R507: WIN ms have passed since the election opened. -/
def execElectionClose (s : State) : Host.Outcome State Fault Refusal :=
  .next (s.onChip fun c => if c.flag F.LBX_OWNER.ELECTING then c.electionClose else c)

/-- The end of a lease period (R508). -/
def Chip.leasePeriod (c : Chip) : Chip :=
  if c.owner?.isNone then c
  else if c.lbx.renewed then { c.setFld F.LBX_OWNER.MISSED 0 with lbx := { c.lbx with renewed := false } }
  else if 2 ≤ c.fld F.LBX_OWNER.MISSED then c.lapse
  else c.inc F.LBX_OWNER.MISSED

/-- R508: a lease period of 100 ms ends. -/
def execLeasePeriodEnd (s : State) : Host.Outcome State Fault Refusal := .next (s.onChip Chip.leasePeriod)

/-- R510: HO_TMO has passed without a TAKE. -/
def execHandoverTimeout (s : State) : Host.Outcome State Fault Refusal :=
  .next (s.onChip fun c => if c.flag F.LBX_OWNER.HO_PEND then c.cancelHandover else c)

/-- R512: an expert nonce is 1 s old. -/
def execNonceExpiry (s : State) : Host.Outcome State Fault Refusal :=
  .next (s.onChip fun c => { c with lbx := { c.lbx with nonce := none } })

/-! ### Modes and registers (R31, R43, R500) -/

/-- MODE_SET: while BUSY is 1 it is dropped and counted (R43); a transition that takes time is answered at its end. -/
def Dev.modeSet (d : Dev) (n : Nat) : Dev :=
  if d.chip.flag F.GLB_MODE.BUSY then d.onChip fun c => (c.countClamp ⟨.GLB_MODE, 0, 0⟩).boxResult n 0x8001
  else d.byWrites n [(⟨.GLB_MODE, 0, 0⟩, word (d.chip.lbxArg n 0 % 16 * 16))] fun d => d.onChip fun c =>
    if c.flag F.GLB_MODE.BUSY then
      { c with lbx := { c.lbx with modeSet := c.lbx.modeSet ++ [n] } }.updBox n fun b => { b with todo := false }
    else c.boxResult n (c.fld F.GLB_MODE.LAST_RESULT) [c.reg .GLB_MODE]

/-- R31: MODE_SET. -/
def execModeSet (n : Fin 34) (s : State) : Host.Outcome State Fault Refusal :=
  .next (s.onDev fun d => d.command n.val 0x10 .owner fun d => d.modeSet n.val)

/-- R500: MODE_GET. -/
def execModeGet (n : Fin 34) (s : State) : Host.Outcome State Fault Refusal :=
  .next (s.onDev fun d => d.commandC n.val 0x11 .any fun c => c.boxOk n.val [c.reg .GLB_MODE])

/-- REG_READ, with the standing of its sender (R500, R618). -/
def Dev.lbxRead (d : Dev) (n : Nat) : Dev :=
  let off := d.chip.lbxArg n 0
  if !offsetOk off then d.onChip fun c => c.boxResult n 0x8004
  else
    match d.busRead (boxAccess n) off with
    | (r, d) => d.onChip fun c => match r.deny with
      | some x => c.boxResult n 0x8009 [word x]
      | none => c.boxOk n [r.data]

/-- R500: REG_READ. -/
def execRegRead (n : Fin 34) (s : State) : Host.Outcome State Fault Refusal :=
  .next (s.onDev fun d => d.command n.val 0x12 .any fun d => d.lbxRead n.val)

/-- REG_WRITE, as a write by the Owner, with the readback (R500). -/
def Dev.lbxWrite (d : Dev) (n : Nat) : Dev :=
  let off := d.chip.lbxArg n 0
  if !offsetOk off then d.onChip fun c => c.boxResult n 0x8004
  else
    match d.busWrite (boxAccess n) off (word (d.chip.lbxArg n 1)) with
    | (r, d) => match r.deny with
      | some x => d.onChip fun c => c.boxResult n 0x8009 [word x]
      | none => let w := d.peek off; d.onChip fun c => c.boxOk n [w]

/-- R500: REG_WRITE. -/
def execRegWrite (n : Fin 34) (s : State) : Host.Outcome State Fault Refusal :=
  .next (s.onDev fun d => d.command n.val 0x13 .owner fun d => d.lbxWrite n.val)

/-- PORT_SET (R500). -/
def Dev.portSet (d : Dev) (n : Nat) : Dev :=
  let p := d.chip.lbxArg n 0
  let v (i : Nat) : Word := word (d.chip.lbxArg n i)
  if !d.chip.configMode then d.onChip fun c => c.boxResult n 0x8007
  else if 96 ≤ p then d.onChip fun c => c.boxResult n 0x8004
  else d.byWrites n [(⟨.PRT_PORT_CFG, p, 0⟩, v 1), (⟨.PRT_PORT_CFG2, p, 0⟩, v 2), (⟨.PRT_HP_CFG, p, 0⟩, v 3)] fun d =>
    d.onChip fun c => c.boxOk n [c.replyReg .PRT_PORT_CFG p, c.replyReg .PRT_PORT_CFG2 p, c.replyReg .PRT_HP_CFG p]

/-- R500: PORT_SET. -/
def execPortSet (n : Fin 34) (s : State) : Host.Outcome State Fault Refusal :=
  .next (s.onDev fun d => d.command n.val 0x20 .owner fun d => d.portSet n.val)

/-- The registers of a Flacon entry in the order of FLACON's arguments. -/
def flcRegs (f : Nat) : List RegKey :=
  [⟨.GLB_FLC_A, f, 0⟩, ⟨.GLB_FLC_B, f, 0⟩, ⟨.GLB_FLC_C, f, 0⟩, ⟨.GLB_FLC_BASE_LO, f, 0⟩, ⟨.GLB_FLC_BASE_HI, f, 0⟩]

/-- FLACON (R500): a code of Table 7.5 says that the command took no effect (R499), so the entry keeps its settings. -/
def Dev.flaconCmd (d : Dev) (n : Nat) : Dev :=
  let v := word (d.chip.lbxArg n 0)
  let f := bits v.toNat 11 0
  let keys := flcRegs f
  let old := keys.map fun k => (k, d.chip.regs.get k)
  let entry := if bits v.toNat 31 30 = 1 then keys.zip ((List.range 5).map fun i => word (d.chip.lbxArg n (i + 1))) else []
  if d.chip.flag F.GLB_FLC_STATUS.BUSY then d.onChip fun c => c.boxResult n 0x8001
  else d.byWrites n (entry ++ [(⟨.GLB_FLC_CMD, 0, 0⟩, v)]) fun d => d.onChip fun c =>
    let r := if bits v.toNat 31 30 = 0 then 0 else c.fld F.GLB_FLC_STATUS.RESULT
    let c := if r = 0 then c else { c with regs := old.foldl (fun m e => m.set e.1 e.2) c.regs }
    c.boxResult n r [c.replyReg .GLB_FLC_STATUS]

/-- R500: FLACON. -/
def execFlacon (n : Fin 34) (s : State) : Host.Outcome State Fault Refusal :=
  .next (s.onDev fun d => d.command n.val 0x21 .owner fun d => d.flaconCmd n.val)

/-- FUSE (R500). -/
def Dev.fuseCmd (d : Dev) (n : Nat) : Dev :=
  let s := d.chip.lbxArg n 0
  let op := d.chip.lbxArg n 1
  if 24 ≤ s || 3 ≤ op then d.onChip fun c => c.boxResult n 0x8004
  else d.byWrites n [(⟨.FUS_CHAN_CTL, s, 0⟩, word (2 ^ (31 - op)))] fun d =>
    d.onChip fun c => c.boxOk n [c.replyReg .FUS_CHAN_STATUS s]

/-- R500: FUSE. -/
def execFuse (n : Fin 34) (s : State) : Host.Outcome State Fault Refusal :=
  .next (s.onDev fun d => d.command n.val 0x22 .owner fun d => d.fuseCmd n.val)

/-- TIME_ADJ (R314, R315, R500). -/
def Dev.timeAdj (d : Dev) (n : Nat) : Dev :=
  let lo := word (d.chip.lbxArg n 1)
  let hi := word (d.chip.lbxArg n 2)
  let ctl (v : Nat) : RegKey × Word := (⟨.TIM_ADJ_CTL, 0, 0⟩, word v)
  let done (d : Dev) : Dev := d.onChip fun c => c.boxOk n [c.replyReg .TIM_STATUS]
  if !d.chip.timFree then d.onChip fun c => c.boxResult n 0x800D
  else match d.chip.lbxArg n 0 with
    | 0 => d.byWrites n [(⟨.TIM_RATE_ADJ, 0, 0⟩, lo)] done
    | 1 => d.byWrites n [(⟨.TIM_OFS_ADJ, 0, 0⟩, lo), ctl (2 ^ 31)] done
    | 2 => d.byWrites n [(⟨.TIM_OFS_ADJ, 0, 0⟩, lo), ctl (2 ^ 31 + 2 ^ 30)] done
    | 3 => d.byWrites n [(⟨.TIM_SET_LO, 0, 0⟩, lo), (⟨.TIM_SET_HI, 0, 0⟩, hi),
        ctl (d.chip.fld F.TIM_ADJ_CTL.STEP * 2 ^ 30 + 2 ^ 29)] done
    | _ => d.onChip fun c => c.boxResult n 0x8004

/-- R500: TIME_ADJ. -/
def execTimeAdj (n : Fin 34) (s : State) : Host.Outcome State Fault Refusal :=
  .next (s.onDev fun d => d.command n.val 0x23 .owner fun d => d.timeAdj n.val)

/-- An LPB_CONFIG waits: the requests of the segment's owner are held back, or others stalled before it (R121, R122). -/
def Chip.lpbStalls (c : Chip) (n : Nat) : Bool :=
  match c.segOwner with
  | none => false
  | some p => c.busOff (some p) || match (c.part p).stalled with
    | [] => false
    | k :: _ => !k.ofBox n

/-- The completion timer of an LPB_CONFIG made for a partition has expired (R484, R502). -/
def Chip.lpbTimeout (c : Chip) (n : Nat) : Chip :=
  ((c.inc F.FLT_CPL_TO_CNT.COUNT).raise Src.firmware.devSource 0x07 1 (c.reg .LPB_CFG_ADDR).toNat c.segOwner).boxResult n 0x8008

/-- LPB_CONFIG (R426, R500): for a partition's segment the cycle waits while the partition's Bus Master Enable is 0,
in its place among the stalled requests (R122, R502, R503), and has a completion timer (R502). -/
def Dev.lpbConfig (d : Dev) (n : Nat) (resp : Option Word) (late : Bool) : Dev :=
  let write := d.chip.lbxArg n 1 == 1
  if 1 < d.chip.lbxArg n 1 then d.onChip fun c => c.boxResult n 0x8004
  else if d.chip.lpbStalls n then d.onChip fun c => c.stallBox n .cfgWr c.segOwner
  else
    let own := d.chip.segOwner
    let waited := match own with | some p => (d.chip.part p).stalled.any fun k => k.ofBox n | none => false
    let d := (d.onChip fun c => c.unstallIf fun k => k.ofBox n).byWrites n
      [(⟨.LPB_CFG_ADDR, 0, 0⟩, word (d.chip.lbxArg n 0))] fun d => d.onChip fun c =>
        let k : RegKey := ⟨.LPB_CFG_DATA, 0, 0⟩
        let c := c.setFld F.LBX_STATUS.MASTER_OFF 0 n
        match c.gate 109 (c.gateView fwAccess (k.addr 0) write) with
        | (some r, c) => c.boxResult n 0x8009 [word r]
        | (none, c) =>
          if late && own.isSome then c.lpbTimeout n else
          let c := c.segCfgCycle write (word (c.lbxArg n 2)) resp
          c.boxOk n [c.reg .LPB_CFG_DATA, word (c.fld F.LPB_CFG_ADDR.MABORT)]
    match own with
    | some p => if waited then d.resumeMaster p else d
    | none => d

/-- R500: LPB_CONFIG, with what the card returns, none for a master abort; `late` says that the completion timer of a cycle
made for a partition expires first (R502). -/
def execLpbConfig (n : Fin 34) (resp : Option Word) (s : State) (late : Bool := false) : Host.Outcome State Fault Refusal :=
  .next (s.onDev fun d => d.command n.val 0x24 .owner fun d => d.lpbConfig n.val resp late)

/-- A register of the FAB block that discovery writes under its argument: chip numbers with bit 0, a route commit with
bit 1. -/
def discoverMay (arg : Nat) (r : Option RegKey) : Bool :=
  match r with
  | some k => k.reg.block == .fab && (k.reg != .FAB_ID || bit arg 0) && (k.reg != .FAB_ROUTE_COMMIT || bit arg 1)
  | none => false

/-- A step of DISCOVER (R500, the procedure of spec/06). -/
def Dev.discoverStep (d : Dev) (n : Nat) (x : DiscoverStep) : Dev :=
  let arg := d.chip.lbxArg n 0
  match x with
  | .send m h =>
    let b := h.disc
    if h.typ = 2 && (b.op == 1 || (b.op == 2 && discoverMay arg (d.chip.keyAt (0xE000000 + b.addr)))) then
      d.onChip fun c =>
        let id := c.sideId (c.portSide m.val)
        let c := if b.op = 1 then { c with fab := { c.fab with discOut := c.fab.discOut ++ [b.tag] } } else c
        (c.pulse 0xC06 0x12).discSend m.val { h with srcDomain := id.1, srcChip := id.2, hops := c.fld F.FAB_CFG.HOPS_INIT }
    else d
  | .store off v =>
    if discoverMay arg (d.chip.keyAt off) then
      match d.busWrite fwAccess off v with
      | (r, d) => match r.deny with
        | some y => d.onChip fun c => c.boxResult n 0x8009 [word y]
        | none => d
    else d
  | .finish found => d.onChip fun c => c.boxOk n [word found]
  | .fail => d.onChip fun c => c.boxResult n 0x8008

/-- R500: DISCOVER, a step at a time; outside mode 0x9 it is answered with MODE. -/
def execDiscover (n : Fin 34) (x : DiscoverStep) (s : State) : Host.Outcome State Fault Refusal :=
  .next (s.onDev fun d => d.command n.val 0x25 .owner fun d' =>
    if !d.chip.lbxBegun n.val && d'.chip.opMode != 9 then d'.onChip fun c => c.boxResult n.val 0x8007
    else d'.discoverStep n.val x)

/-! ### The store and firmware (R519 to R524) -/

/-- R523, R524: STORE_COMMIT begins, and ends with what the flash reports. -/
def execStoreCommit (n : Fin 34) (flashOk : Bool) (s : State) : Host.Outcome State Fault Refusal :=
  .next (s.onDev fun d => d.storeCommit n.val flashOk)

/-- R500: STORE_INFO. -/
def execStoreInfo (n : Fin 34) (s : State) : Host.Outcome State Fault Refusal :=
  .next (s.onDev fun d => d.commandC n.val 0x31 .any fun c =>
    c.boxOk n.val [c.replyReg .LBX_STORE_GEN, c.replyReg .LBX_STORE_STATUS,
      word (match c.bestStore? with | some (_, x) => x.length | none => 0)])

/-- R519: FW_LOAD_HOST begins, or takes its next step. -/
def execFwLoadHost (n : Fin 34) (s : State) : Host.Outcome State Fault Refusal :=
  .next (s.onDev fun d => d.commandC n.val 0x40 .hostOwner fun c => c.loadStep n.val)

/-- R519: FW_LOAD_CHUNK. -/
def execFwLoadChunk (n : Fin 34) (s : State) : Host.Outcome State Fault Refusal :=
  .next (s.onDev fun d => d.commandC n.val 0x41 .owner fun c => c.loadChunk n.val)

/-- R520: FW_FINISH, with what the flash reports. -/
def execFwFinish (n : Fin 34) (flashOk : Bool) (s : State) : Host.Outcome State Fault Refusal :=
  .next (s.onDev fun d => d.commandC n.val 0x42 .owner fun c => c.fwFinish n.val flashOk)

/-- R500: FW_INFO. -/
def execFwInfo (n : Fin 34) (s : State) : Host.Outcome State Fault Refusal :=
  .next (s.onDev fun d => d.commandC n.val 0x43 .any fun c =>
    c.boxOk n.val [c.replyReg .LBX_FW_STATUS, c.replyReg .LBX_FW_VERSION])

/-- R521: FW_SVN_COMMIT. -/
def execFwSvnCommit (n : Fin 34) (s : State) : Host.Outcome State Fault Refusal :=
  .next (s.onDev fun d => d.commandC n.val 0x44 .expert fun c => c.svnCommit n.val)

end Sys2Proof.Machine
end

