-- ==== Sys2Proof/Machine/Links.lean ====
section
/-! DEFINITION. The meanings of the commands of PCI Express links, slots and partition resets (spec/03_pcie_ports.md,
spec/07_partitions_flacons.md). -/

namespace Sys2Proof.Machine

/-- R99, R82, R91, R92: a port reaches L0 and DL_Active with a width and a rate code; `flit` is the partner's offer of flit
mode, `rev` the lane order found in training. -/
def execLinkUp (n : Fin 96) (width : Fin 5) (rate : Fin 7) (flit rev : Bool) (s : State) : Host.Outcome State Fault Refusal :=
  .next (s.onChip fun c => c.linkUpAt n.val width.val rate.val flit rev)

/-- R99: a port returns to Detect without reaching L0; `numbers` says that the partner's training sets were inconsistent. -/
def execTrainFail (n : Fin 96) (numbers : Bool) (s : State) : Host.Outcome State Fault Refusal :=
  .next (s.onChip fun c => c.trainFail n.val numbers)

/-- R479, R114, R116: a PCI Express link leaves DL_Active, or a Fleren link enters DOWN, for a cause of Table 14.4. -/
def execLinkDown (n : Fin 96) (cause : Fin 7) (s : State) : Host.Outcome State Fault Refusal :=
  .next (s.onChip fun c => if c.linkUp n.val then c.linkDown n.val cause.val 0 else c)

/-- R105, R271: PERST_N of a partition is asserted; in PS1 and PS2 the level is applied at the exit (Table 16.12). -/
def execPerstAssert (p : Fin 32) (s : State) : Host.Outcome State Fault Refusal :=
  .next (s.onPin fun c =>
    if c.perstWaits then c.perstHold p.val true
    else if c.coreUp then c.perstAssert p.val else c.updPart p.val fun h => { h with perst := true, inReset := true })

/-- R105, R106: PERST_N of a partition is deasserted. -/
def execPerstDeassert (p : Fin 32) (s : State) : Host.Outcome State Fault Refusal :=
  .next (s.onPin fun c =>
    if c.perstWaits then c.perstHold p.val false
    else if c.coreUp then c.perstDeassert p.val else c.updPart p.val fun _ => {})

/-- R106, Table 7.6: Ecseric has restored the partition, or its management function is ready after an FLR. -/
def execPartitionRestoreDone (p : Fin 32) (s : State) : Host.Outcome State Fault Refusal :=
  .next (s.onChip fun c => c.partRestored p.val)

/-- R105: Hot Reset, or Link Disable, is received in training sets. -/
def execHotResetReceived (n : Fin 96) (disable : Bool) (s : State) : Host.Outcome State Fault Refusal :=
  .next (s.onChip fun c => c.hotReceived n.val disable)

/-- R272: the interval of a partition Hot Reset ends. -/
def execPartitionResetEnd (p : Fin 32) (s : State) : Host.Outcome State Fault Refusal :=
  .next (s.onChip fun c => c.partResetEnd p.val)

/-- R105, R107: Secondary Bus Reset of a port's function is written: by a host, or by the internal root or an Ecseric
command from the Owner. -/
def execSecondaryBusReset (n : Fin 96) (on : SbrWrite) (s : State) : Host.Outcome State Fault Refusal :=
  .next (s.onChip fun c => c.writeSbr n.val on.on on.root)

/-- R105: Hot Reset sent on a link ends. -/
def execHotResetSendEnd (n : Fin 96) (s : State) : Host.Outcome State Fault Refusal :=
  .next (s.onChip fun c => c.hotEnd n.val)

/-- R105: Link Disable of a port's function is written. -/
def execLinkDisable (n : Fin 96) (on : Bool) (s : State) : Host.Outcome State Fault Refusal :=
  .next (s.onChip fun c => c.writeLinkDisable n.val on)

/-- R271: a Function Level Reset of a partition's management function. -/
def execFlr (p : Fin 32) (s : State) : Host.Outcome State Fault Refusal :=
  .next (s.onChip fun c => c.partFlr p.val)

/-- R111: Attention Indicator Control is written. -/
def execAttentionIndicatorControl (n : Fin 96) (v : Fin 4) (s : State) : Host.Outcome State Fault Refusal :=
  .next (s.onChip fun c => c.writeSlotCtl n.val (c.slotWord n.val - bits (c.slotWord n.val) 7 6 * 64 + v.val * 64))

/-- R111: Power Indicator Control is written. -/
def execPowerIndicatorControl (n : Fin 96) (v : Fin 4) (s : State) : Host.Outcome State Fault Refusal :=
  .next (s.onChip fun c => c.writeSlotCtl n.val (c.slotWord n.val - bits (c.slotWord n.val) 9 8 * 256 + v.val * 256))

/-- R111: Power Controller Control is written: 1 requests power off. -/
def execPowerControllerControl (n : Fin 96) (off : Bool) (s : State) : Host.Outcome State Fault Refusal :=
  .next (s.onChip fun c => c.writeSlotCtl n.val (putBit (c.slotWord n.val) 10 off + 65536))

/-- R112: Command Completed sets for the last Slot Control write. -/
def execCommandCompleted (n : Fin 96) (s : State) : Host.Outcome State Fault Refusal :=
  .next (s.onChip fun c => c.commandDone n.val)

/-- R111, R113: the attention button of a slot has been low for 20 ms. -/
def execAttentionButtonPressed (n : Fin 96) (s : State) : Host.Outcome State Fault Refusal :=
  .next (s.onChip fun c => if (c.slotChan? n.val).isSome then c.slotEvent n.val 0 else c)

/-- R115: a write of 1 to Power Fault Detected. -/
def execPowerFaultDetectedClear (n : Fin 96) (s : State) : Host.Outcome State Fault Refusal :=
  .next (s.onChip fun c => c.clearPowerFault n.val)

/-- R116: an error of the port, or an error message received from below, that DPC Trigger Enable selects. -/
def execDpcTrigger (n : Fin 96) (reason : Fin 3) (s : State) : Host.Outcome State Fault Refusal :=
  .next (s.onChip fun c => c.dpcTrigger n.val reason.val)

/-- R116: the DPC Software Trigger. -/
def execDpcSoftwareTrigger (n : Fin 96) (s : State) : Host.Outcome State Fault Refusal :=
  .next (s.onChip fun c => c.dpcSoftware n.val)

/-- R117: a write of 1 to DPC Trigger Status. -/
def execDpcTriggerStatusWrite (n : Fin 96) (s : State) : Host.Outcome State Fault Refusal :=
  .next (s.onChip fun c => c.dpcRelease n.val)

/-- R117: a held release takes effect. -/
def execDpcRelease (n : Fin 96) (s : State) : Host.Outcome State Fault Refusal :=
  .next (s.onChip fun c => c.dpcReleased n.val)

/-- R118 to R121: Bus Master Enable of a function is cleared. -/
def execBusMasterEnableClear (f : BmeFn) (s : State) : Host.Outcome State Fault Refusal :=
  .next (s.onDev fun d => d.writeBme f.fn false)

/-- R122: Bus Master Enable of a function is set. -/
def execBusMasterEnableSet (f : BmeFn) (s : State) : Host.Outcome State Fault Refusal :=
  .next (s.onDev fun d => d.writeBme f.fn true)

/-- R101, Table 3.9: a link enters L1, L1.1 or L1.2; without a handshake the partner breaks a rule and the link enters
Recovery. -/
def execL1Entry (n : Fin 96) (sub : Fin 3) (handshake : Bool) (s : State) : Host.Outcome State Fault Refusal :=
  .next (s.onChip fun c =>
    if handshake then c.enterL1 n.val sub.val
    else if c.isPcie n.val && c.flag F.PRT_LINK_STATUS.DL_ACTIVE n.val then
      (c.violation n.val 0x0A).setFld F.PRT_LINK_STATUS.LTSSM 0x05 n.val
    else c)

/-- R101: a link leaves L1, or Recovery, for L0. -/
def execL1Exit (n : Fin 96) (s : State) : Host.Outcome State Fault Refusal :=
  .next (s.onChip fun c => c.leaveL1 n.val)

/-- R104: the active width changes in L0p. -/
def execL0pWidthChange (n : Fin 96) (width : Fin 5) (s : State) : Host.Outcome State Fault Refusal :=
  .next (s.onChip fun c => c.l0pWidth n.val width.val)

end Sys2Proof.Machine
end

