-- ==== Sys2Proof/Machine/Modes.lean ====
section
/-! DEFINITION. The commands of the operating modes, the tiles and their references (spec/01_architecture.md, R52,
R53). -/

namespace Sys2Proof.Machine

/-- R31, R38: a write of GLB_MODE. -/
def execModeRequest (a : Access) (v : Word) (s : State) : Host.Outcome State Fault Refusal :=
  .next (s.onChip fun c => c.ownWrite a ⟨.GLB_MODE, 0, 0⟩ v fun c => c.writeMode a v)

/-- R42, step 5: the quiesce is complete. -/
def execQuiesceComplete (s : State) : Host.Outcome State Fault Refusal :=
  .next (s.onChip fun c =>
    match c.mode.target with
    | some m => if c.mode.stopped && c.quiesced then c.enterMode m 0 else c
    | none => c)

/-- R42, step 6: the quiesce limit is reached. -/
def execQuiesceLimitExpiry (s : State) : Host.Outcome State Fault Refusal :=
  .next (s.onChip fun c =>
    match c.mode.target with
    | some m => if c.mode.stopped then c.forceQuiesce.enterMode m 3 else c
    | none => c)

/-- R43: a wake event came in mode 0xB before the device left PS0. -/
def execStandbyWakeResume (s : State) : Host.Outcome State Fault Refusal :=
  .next (s.onChip fun c =>
    if c.opMode = 0xB && c.mode.wakeHeld && c.fld F.PWR_STATUS.STATE = 0 && !c.flag F.GLB_MODE.BUSY then c.resumeMode else c)

/-- R37: a write of GLB_TILE_EN. -/
def execTileEnableWrite (a : Access) (v : Word) (s : State) : Host.Outcome State Fault Refusal :=
  .next (s.onChip fun c => c.ownWrite a ⟨.GLB_TILE_EN, 0, 0⟩ v fun c => c.writeTileEn a v)

/-- A tile has lost its reference (R53): its lanes stop, which takes the links of PCI Express ports down and is the loss of
block lock on each lane of a Fleren port (R163, R164). -/
def Chip.tileRefLost (c : Chip) (t : Nat) : Chip :=
  let c := (rangeFrom (8 * t) 8).foldl (fun c n => if c.isPcie n then c.linkDown n 1 0 else c) c
  ((rangeFrom (16 * t) 16).foldl (fun c l => c.laneLockLost l) c).tileLanesOff t

/-- R53, R562: an enabled tile declares its reference lost. -/
def execRefLost (t : Fin 12) (s : State) : Host.Outcome State Fault Refusal :=
  .next (s.onChip fun c =>
    if !bit (c.fld F.GLB_TILE_EN.TILE_EN) t.val ||
        (!c.flag F.SDS_REF_STATUS.REF_OK t.val && c.flag F.SDS_REF_STATUS.REF_LOST_SEEN t.val) then c
    else
      let c := (c.setFld F.SDS_REF_STATUS.REF_OK 0 t.val).setFld F.SDS_REF_STATUS.REF_LOST_SEEN 1 t.val
      let c := (c.tileRefLost t.val).raise (tileSrc t.val 12) 0x09 2 t.val
      c.hrefMove t.val)

end Sys2Proof.Machine
end

