-- ==== Sys2Proof/Machine/Power.lean ====
section
/-! DEFINITION. The meanings of the commands of power states, supplies, resets and clocks (spec/16_power_resets.md) and of
the boot (spec/15_letterbox_firmware.md). -/

namespace Sys2Proof.Machine

/-- R529: a write to PWR_CTL. -/
def execPowerGo (a : Access) (v : Word) (s : State) : Host.Outcome State Fault Refusal :=
  .next (s.onDev fun d => d.ownWrite a ⟨.PWR_CTL, 0, 0⟩ v fun d => d.writePwrCtl a v)

/-- R530, R532, R539: the entry in progress proceeds, when its conditions hold. -/
def execPowerEntryProceed (s : State) : Host.Outcome State Fault Refusal := .next (s.onDev fun d => d.proceedEntry)

/-- R531, R543: ENTRY_TMO has passed since GO. -/
def execPowerEntryTimeout (s : State) : Host.Outcome State Fault Refusal := .next (s.onChip fun c => c.entryTimeout)

/-- R547, R548: a wake source fires, with its index; `other` is a second one that fires in the same always-on cycle. -/
def execWakeEvent (src : Fin 7) (idx : Fin 1024) (other : Option (Fin 7 × Fin 1024)) (s : State) : Host.Outcome State Fault Refusal :=
  .next (s.onPin fun c => match other with
    | some o => c.wakeBoth src.val idx.val o.1.val o.2.val
    | none => c.wake src.val idx.val)

/-- R535, R544, R553, R558: the core rails are good after CORE_ON has risen. -/
def execCoreRailsGood (s : State) : Host.Outcome State Fault Refusal := .next (s.always fun d => d.railsGood)

/-- R535: the exit in progress reaches PS0. -/
def execPowerExitComplete (us : Fin 16777216) (s : State) : Host.Outcome State Fault Refusal :=
  .next (s.always fun d => d.exitDone us.val)

/-- R540: the always-on regulator is overloaded. -/
def execBrownout (s : State) : Host.Outcome State Fault Refusal := .next (s.always fun d => d.brownOut)

/-- R541, R542: a rail below its warning level for 200 ns, with its lowest level in mV; VDD is watched while it is powered. -/
def execSupplyWarn (vaon : Bool) (mv : Fin 65536) (s : State) : Host.Outcome State Fault Refusal :=
  .next (s.onPin fun c => if !vaon && !c.pwr.coreOn then c else c.supplyWarn (b2n vaon) mv.val)

/-- R543: the rail above its recovery level for 10 µs. -/
def execSupplyRecovery (vaon : Bool) (s : State) : Host.Outcome State Fault Refusal :=
  .next (s.always fun d => d.supplyRecovered (b2n vaon))

/-- R545: a reading of the junction temperature, in units of 0.125 °C. -/
def execTemperatureSample (t : Fin 4096) (s : State) : Host.Outcome State Fault Refusal :=
  .next (s.onPin fun c => c.temperature t.val)

/-- R544: VDD at its reset level, where the rail is powered. -/
def execVddLow (s : State) : Host.Outcome State Fault Refusal :=
  .next (s.always fun d =>
    if !d.chip.pwr.coreOn then d
    else (d.resetChip .rst 3).onChip fun c => c.updPwr fun h => { h with vddLow := true })

/-- A power-on reset: the core rails have still to come. -/
def Dev.powerOn (d : Dev) : Dev :=
  (d.resetChip .por 1).onChip fun c => c.updPwr fun h => { h with coreOn := false, slotOn := false, railsBad := true }

/-- R544: VAON at its reset level is recorded in the retention cell, and resets the always-on domain. -/
def execVaonLow (s : State) : Host.Outcome State Fault Refusal :=
  .next (s.always fun d => (d.onChip fun c => c.updPwr fun h => { h with vaonCell := true }).powerOn)

/-- R544: VDD above 0.710 V for 1 ms. -/
def execVddResetRelease (s : State) : Host.Outcome State Fault Refusal :=
  .next (s.always fun d => (d.onChip fun c => c.updPwr fun h => { h with vddLow := false }).tryBoot)

/-- R556: RESET_N is low for 100 ns; in PS4 it has no effect until a wake. -/
def execResetNAssert (s : State) : Host.Outcome State Fault Refusal :=
  .next (s.always fun d =>
    let d := d.onChip fun c => c.updPwr fun h => { h with resetN := true }
    if d.chip.ps = 4 && d.chip.pwr.leaving.isNone then d else d.resetChip .rst 2)

/-- R517: RESET_N rises, and the boot runs once nothing else holds the core. -/
def execResetNDeassert (s : State) : Host.Outcome State Fault Refusal :=
  .next (s.always fun d => (d.onChip fun c => c.updPwr fun h => { h with resetN := false }).tryBoot)

/-- R557: a write to PWR_CTL. -/
def execChipRst (a : Access) (v : Word) (s : State) : Host.Outcome State Fault Refusal :=
  .next (s.onDev fun d => d.ownWrite a ⟨.PWR_CTL, 0, 0⟩ v fun d => d.writePwrCtl a v)

/-- R557, R518: the internal chip reset ends. -/
def execChipResetEnd (s : State) : Host.Outcome State Fault Refusal :=
  .next (s.always fun d => (d.onChip fun c => c.updPwr fun h => { h with chipRst := false }).tryBoot)

/-- R558: VAON rises through its release level; `lost` says that it had fallen below 1.8 V (R544). -/
def execPowerOnReset (lost : Bool) (s : State) : Host.Outcome State Fault Refusal :=
  .next (s.always fun d =>
    (if lost then d.onChip fun c => c.updPwr fun h => { h with vaonCell := false } else d).powerOn)

/-- R533, R558: CORE_ON and SLOT_ON rise at power-on. -/
def execCoreOnRise (s : State) : Host.Outcome State Fault Refusal :=
  .next (s.onPin fun c => if c.ps = 0 then c.updPwr fun h => { h with coreOn := true, slotOn := true } else c)

/-- R558: the 32.768 kHz crystal runs. -/
def execXtalStart (s : State) : Host.Outcome State Fault Refusal :=
  .next (s.onPin fun c => if c.ps = 4 then c else c.setFld F.PWR_STATUS.XTAL_OK 1)

/-- R550: 10 ms without a RING in PS2. -/
def execManagementSleep (s : State) : Host.Outcome State Fault Refusal :=
  .next (s.onChip fun c =>
    if c.ps = 2 && c.pwr.leaving.isNone then c.cycSync.updPwr fun h => { h with mgmtAwake := false } else c)

/-- R549: the RTC reaches the alarm. -/
def execAlarm (s : State) : Host.Outcome State Fault Refusal := .next (s.onPin fun c => c.alarm)

/-- R564: a crossing, of a tile or of the chip, sees no edge of a far clock that is meant to run. -/
def execCdcTimeout (tile : Option (Fin 12)) (crossing : Fin 256) (s : State) : Host.Outcome State Fault Refusal :=
  .next (s.onChip fun c => match tile with
    | some t => if c.ps = 0 && c.tileEn t.val then c.raise (tileSrc t.val 22) 0x1F 2 crossing.val else c
    | none =>
      let always := crossing.val = 0x13 || crossing.val = 0x14
      if c.ps = 0 || (always && (c.ps = 1 || c.pwr.mgmtAwake)) then c.raise 0x1D2 0x1F 3 crossing.val else c)

/-- R562: no enabled tile has had a reference for 1 ms while the PLLs run. -/
def execPllFreeRunTimeout (s : State) : Host.Outcome State Fault Refusal :=
  .next (s.onChip fun c => if c.ps ≤ 1 && c.goodRef?.isNone then c.raise 0x1CF 0x1E 3 else c)

/-- R518: 10 ms after a successful FW_FINISH in recovery mode the chip is reset. -/
def execRecoveryReset (s : State) : Host.Outcome State Fault Refusal :=
  .next (s.onDev fun d =>
    if !d.chip.lbx.resetDue then d
    else (d.resetChip .rst 6).onChip fun c => c.updPwr fun h => { h with chipRst := true })

end Sys2Proof.Machine
end

