-- ==== Sys2Proof/Machine/Time.lean ====
section
/-! DEFINITION. The commands of chassis time, gate lists, timed actions and triggers (spec/09_chassis_time.md). -/

namespace Sys2Proof.Machine

/-- R309: a received TOD frame, as its characters; TIM takes it while it follows (R306). -/
def execTodFrame (bs : List Byte) (s : State) : Host.Outcome State Fault Refusal :=
  .next (s.onChip fun c => if c.timFree then c else c.todFrame bs)

/-- R311: a SYNC edge, while TIM follows. -/
def execSyncEdge (s : State) : Host.Outcome State Fault Refusal :=
  .next (s.onChip fun c => if c.timFree then c else c.syncEdge)

/-- R312: no SYNC edge for 3 × PERIOD; a frame that waited is discarded (violation 0x41). -/
def execSyncLossTimeout (s : State) : Host.Outcome State Fault Refusal :=
  .next (s.onChip fun c =>
    if c.timFree then c
    else
      let c := if c.tim.frame.isSome then (c.updTim fun h => { h with frame := none }).timViolation 0x41 else c
      c.toHoldover)

/-- R307: CLK100 has stopped. -/
def execClk100Lost (s : State) : Host.Outcome State Fault Refusal :=
  .next (s.onChip fun c =>
    if c.flag F.TIM_STATUS.REF_FALLBACK then c
    else
      let c := ((c.setFld F.TIM_STATUS.CLK100_OK 0).setFld F.TIM_STATUS.REF_FALLBACK 1).raise 0x190 0x0F 1
      c.toHoldover)

/-- R307: CLK100 has run for 1 ms without a gap. -/
def execClk100Restore (s : State) : Host.Outcome State Fault Refusal :=
  .next (s.onChip fun c => (c.setFld F.TIM_STATUS.CLK100_OK 1).setFld F.TIM_STATUS.REF_FALLBACK 0)

/-- The device is the chassis time source and counts (R306, R316). -/
def Chip.timSource (c : Chip) : Bool :=
  c.timFree && c.flag F.TIM_CFG.SYNC_OUT_EN && c.fld F.PWR_STATUS.STATE == 0

/-- R313: the SYNC edge of a multiple of PERIOD; after a step only one that a frame has announced. -/
def execSyncOutEdge (s : State) : Host.Outcome State Fault Refusal :=
  .next (s.onChip fun c =>
    if !c.timSource then c
    else match c.tim.sent with
      | some e => (c.updTim fun h => { h with sent := none }).emit (.syncEdge e)
      | none => if c.tim.stepDue then c else c.emit (.syncEdge (c.ns / (c.period * 1000) * (c.period * 1000))))

/-- R309, R313: the TOD frame of the next edge. -/
def execTodFrameSend (s : State) : Host.Outcome State Fault Refusal :=
  .next (s.onChip fun c =>
    if !c.timSource then c
    else
      let e := c.nextEdge c.ns
      let c := c.emit (.todFrame (todBytes e (c.fld F.TIM_CFG.SRC_QUAL) true c.tim.stepDue))
      c.updTim fun h => { h with sent := some e, stepDue := false })

/-- R314, Table 9.2: a write of TIM_CFG. -/
def execTimSrcWrite (a : Access) (v : Word) (s : State) : Host.Outcome State Fault Refusal :=
  .next (s.onChip fun c => c.ownWrite a ⟨.TIM_CFG, 0, 0⟩ v fun c => c.writeTimCfg a v)

/-- R314, R315: a write of TIM_RATE_ADJ. -/
def execTimRateAdj (a : Access) (v : Word) (s : State) : Host.Outcome State Fault Refusal :=
  .next (s.onChip fun c => c.ownWrite a ⟨.TIM_RATE_ADJ, 0, 0⟩ v fun c => c.writeTimDisc a ⟨.TIM_RATE_ADJ, 0, 0⟩ v)

/-- R315: a write of TIM_ADJ_CTL with GO and STEP 0. -/
def execTimSlew (a : Access) (v : Word) (s : State) : Host.Outcome State Fault Refusal :=
  .next (s.onChip fun c => c.ownWrite a ⟨.TIM_ADJ_CTL, 0, 0⟩ v fun c => c.writeAdjCtl a v)

/-- R315: a write of TIM_ADJ_CTL with GO and STEP 1. -/
def execTimStep (a : Access) (v : Word) (s : State) : Host.Outcome State Fault Refusal :=
  .next (s.onChip fun c => c.ownWrite a ⟨.TIM_ADJ_CTL, 0, 0⟩ v fun c => c.writeAdjCtl a v)

/-- R315: a write of TIM_ADJ_CTL with SET. -/
def execTimSet (a : Access) (v : Word) (s : State) : Host.Outcome State Fault Refusal :=
  .next (s.onChip fun c => c.ownWrite a ⟨.TIM_ADJ_CTL, 0, 0⟩ v fun c => c.writeAdjCtl a v)

/-- R315: the whole slew amount is applied. -/
def execSlewDone (s : State) : Host.Outcome State Fault Refusal :=
  .next (s.onChip fun c => if c.flag F.TIM_ADJ_CTL.BUSY then (c.addCount c.tim.slew).endSlew else c)

/-- R318: a write of SCH_GCL_CTL for its EN bit. -/
def execGclEnable (a : Access) (n : Fin 96) (v : Word) (s : State) : Host.Outcome State Fault Refusal :=
  .next (s.onChip fun c => c.ownWrite a ⟨.SCH_GCL_CTL, n.val, 0⟩ v fun c => c.writeGclCtl a n.val v)

/-- R319: a write of SCH_GCL_CTL with SWITCH. -/
def execGclSwitch (a : Access) (n : Fin 96) (v : Word) (s : State) : Host.Outcome State Fault Refusal :=
  .next (s.onChip fun c => c.ownWrite a ⟨.SCH_GCL_CTL, n.val, 0⟩ v fun c => c.writeGclCtl a n.val v)

/-- R321: a write of SCH_GCL_CTL with ABORT. -/
def execGclAbort (a : Access) (n : Fin 96) (v : Word) (s : State) : Host.Outcome State Fault Refusal :=
  .next (s.onChip fun c => c.ownWrite a ⟨.SCH_GCL_CTL, n.val, 0⟩ v fun c => c.writeGclCtl a n.val v)

/-- R319: chassis time reaches t_sw. -/
def execGclSwitchTime (n : Fin 96) (s : State) : Host.Outcome State Fault Refusal :=
  .next (s.onChip fun c => c.gclDoSwitch n.val false)

/-- R317, R330: the entry in effect ends, or BASE of the first list is reached. -/
def execGclEntryAdvance (n : Fin 96) (s : State) : Host.Outcome State Fault Refusal :=
  .next (s.onChip fun c => c.gclAdvance n.val)

/-- R323: a write of TIM_ACT_A. -/
def execTimedActionArm (a : Access) (slot : Fin 256) (v : Word) (s : State) : Host.Outcome State Fault Refusal :=
  .next (s.onChip fun c => c.ownWrite a ⟨.TIM_ACT_A, slot.val, 0⟩ v fun c => c.writeActA a slot.val v)

/-- R322: chassis time reaches the action time of an armed slot. -/
def execTimedActionFire (slot : Fin 256) (s : State) : Host.Outcome State Fault Refusal :=
  .next (s.onChip fun c => c.fireSlot slot.val)

/-- R327: a pulse ends; an output of the last ASSERT stays driven. -/
def execPulseEnd (o : Fin 40) (s : State) : Host.Outcome State Fault Refusal :=
  .next (s.onChip fun c => (c.updTim fun h => { h with pulses := h.pulses.set 0 o.val 0 }).showOut o.val)

/-- R331, R332: an edge of a TRIG line that crossed the threshold `age` half nanoseconds ago and has lasted MIN_WIDTH;
`card` says whether a card asserts the line now. -/
def execTrigEdge (line : Fin 16) (release card : Bool) (age : Fin 1024) (s : State) : Host.Outcome State Fault Refusal :=
  .next (s.onChip fun c =>
    let c := (c.updTim fun h => { h with card := putBit h.card line.val card }).showOut line.val
    if !bit (c.fld F.TIM_TRIG_CFG.IN_EN) line.val || bit (c.fld F.TIM_TRIG_STUCK.STUCK) line.val then c
    else
      let c := c.pulse 0xC03 0x12
      let t := c.halfNs - age.val
      let self := c.selfEdge line.val (c.hwy - age.val)
      let c := if 64 ≤ c.tim.fifo.length then c.setFld F.TIM_TS_INFO.OVERFLOW 1
        else c.updTim fun h => { h with fifo := h.fifo ++ [{ time := t, self, release, line := line.val }] }
      if self || c.opMode = 0xC then c
      else c.matchRules (c.rulesFor 0 line.val fun r => bit (c.fld F.TIM_MTX_A.EDGE r) (b2n release)) t line.val true)

/-- R333: a rule that has matched acts; in mode 0xC none does (R326). -/
def execMatrixRuleAct (r : Fin 64) (s : State) : Host.Outcome State Fault Refusal :=
  .next (s.onChip fun c =>
    match c.tim.rules.find? fun x => x.rule == r.val with
    | none => c
    | some x =>
      let c := c.updTim fun h => { h with rules := h.rules.erase x }
      if c.opMode = 0xC then c else c.act x.spec 2)

/-- R331, R618: a read of TIM_TS_LO. -/
def execTimTsRead (a : Access) (s : State) : Host.Outcome State Fault Refusal :=
  .next (s.onChip fun c =>
    c.guardRead a ⟨.TIM_TS_LO, 0, 0⟩ 0 fun c =>
      let v := match c.tim.fifo with | e :: _ => word (e.time / 2) | [] => 0
      (if a.full then c.readTs (c.readActs a) else c).answering [word (enabledBytes a.be v.toNat)])

/-- R334: a line that a card has asserted for STUCK_MS, without the device's own drive. -/
def execTrigStuck (line : Fin 16) (s : State) : Host.Outcome State Fault Refusal :=
  .next (s.onChip fun c =>
    let watched := bit (c.fld F.TIM_TRIG_CFG.IN_EN) line.val && !bit (c.fld F.TIM_TRIG_STUCK.STUCK) line.val
    if !watched || !bit c.tim.card line.val || c.outOn line.val then c
    else
      let c := c.setFld F.TIM_TRIG_STUCK.STUCK (setBit (c.fld F.TIM_TRIG_STUCK.STUCK) line.val)
      let c := (c.setFld F.TIM_VIOL_LAST.PORT 0x7F).setFld F.TIM_VIOL_LAST.CODE 0x48
      c.raise 0x191 0x10 1 line.val)

/-- R336: a vendor-defined message with the device's Vendor ID arrives on a PCI Express port whose link is up. -/
def execEventMessageReceive (n : Fin 96) (vdh : Word) (data : List Byte) (s : State) : Host.Outcome State Fault Refusal :=
  .next (s.onChip fun c =>
    if !c.isPcie n.val || !c.linkLive n.val then c
    else if c.admitting then c.takeEventMessage ((c.hierPart? n.val).getD 33) n.val vdh.toNat data c.halfNs
    else if c.mode.stopped then c.stopDrop.inc F.TIM_ACT_LOST.COUNT else c)

/-- R338: an EVENT packet delivered to this chip from a Fleren port. -/
def execFabricEventReceive (n : Fin 96) (w0 w1 : BitVec 64) (s : State) : Host.Outcome State Fault Refusal :=
  .next (s.onChip fun c =>
    if !c.isFleren n.val || !c.linkLive n.val then c
    else if c.admitting then c.takeFabricEvent { w0 := w0.toNat, w1 := w1.toNat } (some n.val) c.halfNs
    else if c.mode.stopped then c.stopDrop.inc F.TIM_ACT_LOST.COUNT else c)

end Sys2Proof.Machine
end

