-- ==== Sys2Proof/Machine/Dispatch.lean ====
section
/-! DEFINITION. The dispatch of every command to its meaning. -/

namespace Sys2Proof.Machine

/-- The effect of a command on everything but the queue. -/
def exec (i : Instr) (s : State) : Host.Outcome State Fault Refusal :=
  match i with
  | .registerWrite a off v => Sys2Proof.Machine.execRegisterWrite a off v s
  | .readClear a off => Sys2Proof.Machine.execReadClear a off s
  | .pairLoRead a off => Sys2Proof.Machine.execPairLoRead a off s
  | .pairLoWrite a off v => Sys2Proof.Machine.execPairLoWrite a off v s
  | .pairHiWrite a off v => Sys2Proof.Machine.execPairHiWrite a off v s
  | .modeRequest a v => Sys2Proof.Machine.execModeRequest a v s
  | .quiesceComplete => Sys2Proof.Machine.execQuiesceComplete s
  | .quiesceLimitExpiry => Sys2Proof.Machine.execQuiesceLimitExpiry s
  | .standbyWakeResume => Sys2Proof.Machine.execStandbyWakeResume s
  | .tileEnableWrite a v => Sys2Proof.Machine.execTileEnableWrite a v s
  | .refLost t => Sys2Proof.Machine.execRefLost t s
  | .refRestore t => Sys2Proof.Machine.execRefRestore t s
  | .freqOffsetLoss l ofs => Sys2Proof.Machine.execFreqOffsetLoss l ofs s
  | .deepEntry l => Sys2Proof.Machine.execDeepEntry l s
  | .deepEntryDone l => Sys2Proof.Machine.execDeepEntryDone l s
  | .deepExit l activity => Sys2Proof.Machine.execDeepExit l activity s
  | .deepExitDone l ns => Sys2Proof.Machine.execDeepExitDone l ns s
  | .standbyExit l => Sys2Proof.Machine.execStandbyExit l s
  | .txeqWrite a l v inEq => Sys2Proof.Machine.execTxeqWrite a l v inEq s
  | .txeqHeldApply l => Sys2Proof.Machine.execTxeqHeldApply l s
  | .partnerCoeffRequest l isPreset preset pre main post => Sys2Proof.Machine.execPartnerCoeffRequest l isPreset preset pre main post s
  | .adaptRestart a l v => Sys2Proof.Machine.execAdaptRestart a l v s
  | .adaptFreeze a l v => Sys2Proof.Machine.execAdaptFreeze a l v s
  | .coarseDone l ctle vga => Sys2Proof.Machine.execCoarseDone l ctle vga s
  | .fineDone l ctle vga snr => Sys2Proof.Machine.execFineDone l ctle vga snr s
  | .adaptTimeout l => Sys2Proof.Machine.execAdaptTimeout l s
  | .eyeStart a l v => Sys2Proof.Machine.execEyeStart a l v s
  | .eyeDone l mismatches => Sys2Proof.Machine.execEyeDone l mismatches s
  | .eyeAbort a l v => Sys2Proof.Machine.execEyeAbort a l v s
  | .laneMargining l holds => Sys2Proof.Machine.execLaneMargining l holds s
  | .packetIngress e p whole rx => Sys2Proof.Machine.execPacketIngress e p whole rx s
  | .configRequest p k => Sys2Proof.Machine.execConfigRequest p k s
  | .admissionRetry => Sys2Proof.Machine.execAdmissionRetry s
  | .deferredCopyWrite => Sys2Proof.Machine.execDeferredCopyWrite s
  | .reqTableRetry => Sys2Proof.Machine.execReqTableRetry s
  | .egressSelection e arrived blocked => Sys2Proof.Machine.execEgressSelection e arrived blocked s
  | .copySent id how => Sys2Proof.Machine.execCopySent id how s
  | .underrunResend id => Sys2Proof.Machine.execUnderrunResend id s
  | .ageSweep => Sys2Proof.Machine.execAgeSweep s
  | .cellEccUncorrectable cell corr => Sys2Proof.Machine.execCellEccUncorrectable cell corr s
  | .linkUp n width rate flit rev => Sys2Proof.Machine.execLinkUp n width rate flit rev s
  | .trainFail n numbers => Sys2Proof.Machine.execTrainFail n numbers s
  | .linkDown n cause => Sys2Proof.Machine.execLinkDown n cause s
  | .perstAssert p => Sys2Proof.Machine.execPerstAssert p s
  | .perstDeassert p => Sys2Proof.Machine.execPerstDeassert p s
  | .partitionRestoreDone p => Sys2Proof.Machine.execPartitionRestoreDone p s
  | .hotResetReceived n disable => Sys2Proof.Machine.execHotResetReceived n disable s
  | .partitionResetEnd p => Sys2Proof.Machine.execPartitionResetEnd p s
  | .secondaryBusReset n on => Sys2Proof.Machine.execSecondaryBusReset n on s
  | .hotResetSendEnd n => Sys2Proof.Machine.execHotResetSendEnd n s
  | .linkDisable n on => Sys2Proof.Machine.execLinkDisable n on s
  | .flr p => Sys2Proof.Machine.execFlr p s
  | .perstOutDeassert f => Sys2Proof.Machine.execPerstOutDeassert f s
  | .attentionIndicatorControl n v => Sys2Proof.Machine.execAttentionIndicatorControl n v s
  | .powerIndicatorControl n v => Sys2Proof.Machine.execPowerIndicatorControl n v s
  | .powerControllerControl n off => Sys2Proof.Machine.execPowerControllerControl n off s
  | .commandCompleted n => Sys2Proof.Machine.execCommandCompleted n s
  | .attentionButtonPressed n => Sys2Proof.Machine.execAttentionButtonPressed n s
  | .powerFaultDetectedClear n => Sys2Proof.Machine.execPowerFaultDetectedClear n s
  | .dpcTrigger n reason => Sys2Proof.Machine.execDpcTrigger n reason s
  | .dpcSoftwareTrigger n => Sys2Proof.Machine.execDpcSoftwareTrigger n s
  | .dpcTriggerStatusWrite n => Sys2Proof.Machine.execDpcTriggerStatusWrite n s
  | .dpcRelease n => Sys2Proof.Machine.execDpcRelease n s
  | .busMasterEnableClear f => Sys2Proof.Machine.execBusMasterEnableClear f s
  | .busMasterEnableSet f => Sys2Proof.Machine.execBusMasterEnableSet f s
  | .l1Entry n sub handshake => Sys2Proof.Machine.execL1Entry n sub handshake s
  | .l1Exit n => Sys2Proof.Machine.execL1Exit n s
  | .l0pWidthChange n width => Sys2Proof.Machine.execL0pWidthChange n width s
  | .parcelBoundary n arrived => Sys2Proof.Machine.execParcelBoundary n arrived s
  | .parcelHeadReceive n r kind cls seq => Sys2Proof.Machine.execParcelHeadReceive n r kind cls seq s
  | .parcelTrailer n b crc trailBad readable corr uncorr blocks => Sys2Proof.Machine.execParcelTrailer n b crc trailBad readable corr uncorr blocks s
  | .parcelCommit n => Sys2Proof.Machine.execParcelCommit n s
  | .ackTimer n => Sys2Proof.Machine.execAckTimer n s
  | .ackReceive n r seq => Sys2Proof.Machine.execAckReceive n r seq s
  | .nakReceive n r seq reason => Sys2Proof.Machine.execNakReceive n r seq reason s
  | .sackReceive n r seq => Sys2Proof.Machine.execSackReceive n r seq s
  | .creditReceive n r cls count => Sys2Proof.Machine.execCreditReceive n r cls count s
  | .deskewReceive n lane r no width mcount skew => Sys2Proof.Machine.execDeskewReceive n lane r no width mcount skew s
  | .initReceive n r index value => Sys2Proof.Machine.execInitReceive n r index value s
  | .lpiReceive n r accept => Sys2Proof.Machine.execLpiReceive n r accept s
  | .resetReceive n r => Sys2Proof.Machine.execResetReceive n r s
  | .replayTimeout n seq => Sys2Proof.Machine.execReplayTimeout n seq s
  | .blockLock n lane => Sys2Proof.Machine.execBlockLock n lane s
  | .blockLockLoss n lane => Sys2Proof.Machine.execBlockLockLoss n lane s
  | .bringupTimeout n => Sys2Proof.Machine.execBringupTimeout n s
  | .rtCountClear n => Sys2Proof.Machine.execRtCountClear n s
  | .retrain a n v => Sys2Proof.Machine.execRetrain a n v s
  | .linkReset a n v => Sys2Proof.Machine.execLinkReset a n v s
  | .retrainTimeout n => Sys2Proof.Machine.execRetrainTimeout n s
  | .f1LockTimeout n => Sys2Proof.Machine.execF1LockTimeout n s
  | .downTimeout n => Sys2Proof.Machine.execDownTimeout n s
  | .lpIdleTimeout n => Sys2Proof.Machine.execLpIdleTimeout n s
  | .flerenWake n => Sys2Proof.Machine.execFlerenWake n s
  | .wakePatternDone n => Sys2Proof.Machine.execWakePatternDone n s
  | .routeCommit a v => Sys2Proof.Machine.execRouteCommit a v s
  | .routeMove entry bucket => Sys2Proof.Machine.execRouteMove entry bucket s
  | .moveForced entry bucket => Sys2Proof.Machine.execMoveForced entry bucket s
  | .discRequest n h => Sys2Proof.Machine.execDiscRequest n h s
  | .discResponse n h => Sys2Proof.Machine.execDiscResponse n h s
  | .discLost tag => Sys2Proof.Machine.execDiscLost tag s
  | .flaconAssign a v => Sys2Proof.Machine.execFlaconAssign a v s
  | .flaconReset a v => Sys2Proof.Machine.execFlaconReset a v s
  | .flaconRemove a v => Sys2Proof.Machine.execFlaconRemove a v s
  | .drainDone f => Sys2Proof.Machine.execDrainDone f s
  | .drainLimitExpiry f => Sys2Proof.Machine.execDrainLimitExpiry f s
  | .flaconRetired f => Sys2Proof.Machine.execFlaconRetired f s
  | .quarantineExpiry p tag => Sys2Proof.Machine.execQuarantineExpiry p tag s
  | .staleEntryTimeout p tag => Sys2Proof.Machine.execStaleEntryTimeout p tag s
  | .shaperTick => Sys2Proof.Machine.execShaperTick s
  | .tokenTick => Sys2Proof.Machine.execTokenTick s
  | .todFrame bs => Sys2Proof.Machine.execTodFrame bs s
  | .syncEdge => Sys2Proof.Machine.execSyncEdge s
  | .syncLossTimeout => Sys2Proof.Machine.execSyncLossTimeout s
  | .clk100Lost => Sys2Proof.Machine.execClk100Lost s
  | .clk100Restore => Sys2Proof.Machine.execClk100Restore s
  | .syncOutEdge => Sys2Proof.Machine.execSyncOutEdge s
  | .todFrameSend => Sys2Proof.Machine.execTodFrameSend s
  | .timSrcWrite a v => Sys2Proof.Machine.execTimSrcWrite a v s
  | .timRateAdj a v => Sys2Proof.Machine.execTimRateAdj a v s
  | .timSlew a v => Sys2Proof.Machine.execTimSlew a v s
  | .timStep a v => Sys2Proof.Machine.execTimStep a v s
  | .timSet a v => Sys2Proof.Machine.execTimSet a v s
  | .slewDone => Sys2Proof.Machine.execSlewDone s
  | .gclEnable a n v => Sys2Proof.Machine.execGclEnable a n v s
  | .gclSwitch a n v => Sys2Proof.Machine.execGclSwitch a n v s
  | .gclAbort a n v => Sys2Proof.Machine.execGclAbort a n v s
  | .gclSwitchTime n => Sys2Proof.Machine.execGclSwitchTime n s
  | .gclEntryAdvance n => Sys2Proof.Machine.execGclEntryAdvance n s
  | .timedActionArm a slot v => Sys2Proof.Machine.execTimedActionArm a slot v s
  | .timedActionFire slot => Sys2Proof.Machine.execTimedActionFire slot s
  | .pulseEnd o => Sys2Proof.Machine.execPulseEnd o s
  | .trigEdge line release card age => Sys2Proof.Machine.execTrigEdge line release card age s
  | .matrixRuleAct r => Sys2Proof.Machine.execMatrixRuleAct r s
  | .timTsRead a => Sys2Proof.Machine.execTimTsRead a s
  | .trigStuck line => Sys2Proof.Machine.execTrigStuck line s
  | .eventMessageReceive n vdh data => Sys2Proof.Machine.execEventMessageReceive n vdh data s
  | .fabricEventReceive n w0 w1 => Sys2Proof.Machine.execFabricEventReceive n w0 w1 s
  | .captureStallResume n => Sys2Proof.Machine.execCaptureStallResume n s
  | .jobEnable a t j v => Sys2Proof.Machine.execJobEnable a t j v s
  | .recordDispatch t j => Sys2Proof.Machine.execRecordDispatch t j s
  | .kick a t j v => Sys2Proof.Machine.execKick a t j v s
  | .jobStop a t j v => Sys2Proof.Machine.execJobStop a t j v s
  | .jobStopDone t j => Sys2Proof.Machine.execJobStopDone t j s
  | .jobAbort a t j v => Sys2Proof.Machine.execJobAbort a t j v s
  | .doorbellStart t page v => Sys2Proof.Machine.execDoorbellStart t page v s
  | .nop e => Sys2Proof.Machine.execNop e s
  | .done e => Sys2Proof.Machine.execDone e s
  | .fault e => Sys2Proof.Machine.execFault e s
  | .jmp e => Sys2Proof.Machine.execJmp e s
  | .setlc e => Sys2Proof.Machine.execSetlc e s
  | .djnz e => Sys2Proof.Machine.execDjnz e s
  | .add e => Sys2Proof.Machine.execAdd e s
  | .sub e => Sys2Proof.Machine.execSub e s
  | .and e => Sys2Proof.Machine.execAnd e s
  | .or e => Sys2Proof.Machine.execOr e s
  | .xor e => Sys2Proof.Machine.execXor e s
  | .shl e => Sys2Proof.Machine.execShl e s
  | .shr e => Sys2Proof.Machine.execShr e s
  | .sar e => Sys2Proof.Machine.execSar e s
  | .mul e => Sys2Proof.Machine.execMul e s
  | .min e => Sys2Proof.Machine.execMin e s
  | .max e => Sys2Proof.Machine.execMax e s
  | .cmp e => Sys2Proof.Machine.execCmp e s
  | .addi e => Sys2Proof.Machine.execAddi e s
  | .andi e => Sys2Proof.Machine.execAndi e s
  | .ori e => Sys2Proof.Machine.execOri e s
  | .xori e => Sys2Proof.Machine.execXori e s
  | .shli e => Sys2Proof.Machine.execShli e s
  | .shri e => Sys2Proof.Machine.execShri e s
  | .sari e => Sys2Proof.Machine.execSari e s
  | .cmpi e => Sys2Proof.Machine.execCmpi e s
  | .ldc e => Sys2Proof.Machine.execLdc e s
  | .getip e => Sys2Proof.Machine.execGetip e s
  | .getop e => Sys2Proof.Machine.execGetop e s
  | .setip e => Sys2Proof.Machine.execSetip e s
  | .setop e => Sys2Proof.Machine.execSetop e s
  | .addip e => Sys2Proof.Machine.execAddip e s
  | .addop e => Sys2Proof.Machine.execAddop e s
  | .unpk e => Sys2Proof.Machine.execUnpk e s
  | .conv e => Sys2Proof.Machine.execConv e s
  | .pack e => Sys2Proof.Machine.execPack e s
  | .xfrm e => Sys2Proof.Machine.execXfrm e s
  | .copyb e => Sys2Proof.Machine.execCopyb e s
  | .putw e => Sys2Proof.Machine.execPutw e s
  | .tstamp e => Sys2Proof.Machine.execTstamp e s
  | .emit e => Sys2Proof.Machine.execEmit e s
  | .fetch e => Sys2Proof.Machine.execFetch e s
  | .fwait e => Sys2Proof.Machine.execFwait e s
  | .engineWaitResume e => Sys2Proof.Machine.execEngineWaitResume e s
  | .fetchCompletion e => Sys2Proof.Machine.execFetchCompletion e s
  | .emissionDone e => Sys2Proof.Machine.execEmissionDone e s
  | .recordWatchdog e => Sys2Proof.Machine.execRecordWatchdog e s
  | .accordLoad a t v => Sys2Proof.Machine.execAccordLoad a t v s
  | .accordLoadDone t bad => Sys2Proof.Machine.execAccordLoadDone t bad s
  | .pantryEccUncorrectable t store k addr => Sys2Proof.Machine.execPantryEccUncorrectable t store k addr s
  | .gateCommit a v => Sys2Proof.Machine.execGateCommit a v s
  | .gateEpochDone => Sys2Proof.Machine.execGateEpochDone s
  | .segmentTransactionStart pass => Sys2Proof.Machine.execSegmentTransactionStart pass s
  | .segmentTransactionEnd how slot bs n => Sys2Proof.Machine.execSegmentTransactionEnd how slot bs n s
  | .holdTimeout slot => Sys2Proof.Machine.execHoldTimeout slot s
  | .prefetchAgeExpiry w => Sys2Proof.Machine.execPrefetchAgeExpiry w s
  | .unlockMessage p => Sys2Proof.Machine.execUnlockMessage p s
  | .lockTimeout => Sys2Proof.Machine.execLockTimeout s
  | .segmentUpstreamWrite addr data lanes => Sys2Proof.Machine.execSegmentUpstreamWrite addr data lanes s
  | .segmentUpstreamRead addr cmd wide => Sys2Proof.Machine.execSegmentUpstreamRead addr cmd wide s
  | .delayedReadCompletion => Sys2Proof.Machine.execDelayedReadCompletion s
  | .delayedReadExpiry r => Sys2Proof.Machine.execDelayedReadExpiry r s
  | .intxChange x asserted => Sys2Proof.Machine.execIntxChange x asserted s
  | .lpbCfgRead a resp => Sys2Proof.Machine.execLpbCfgRead a resp s
  | .lpbCfgWrite a v resp => Sys2Proof.Machine.execLpbCfgWrite a v resp s
  | .grantTimeout started => Sys2Proof.Machine.execGrantTimeout started s
  | .segmentResetDeassert m66en => Sys2Proof.Machine.execSegmentResetDeassert m66en s
  | .serrAssert slot => Sys2Proof.Machine.execSerrAssert slot s
  | .presencePinsLow f => Sys2Proof.Machine.execPresencePinsLow f s
  | .presenceDebounceDone f => Sys2Proof.Machine.execPresenceDebounceDone f s
  | .presenceLost f long short => Sys2Proof.Machine.execPresenceLost f long short s
  | .shortPinViolation f => Sys2Proof.Machine.execShortPinViolation f s
  | .on a f v => Sys2Proof.Machine.execOn a f v s
  | .off a f v => Sys2Proof.Machine.execOff a f v s
  | .release a f v => Sys2Proof.Machine.execRelease a f v s
  | .eClr a f v => Sys2Proof.Machine.execEClr a f v s
  | .hminClr a v => Sys2Proof.Machine.execHminClr a v s
  | .fusChanEnable a f v => Sys2Proof.Machine.execFusChanEnable a f v s
  | .rampStart f high => Sys2Proof.Machine.execRampStart f high s
  | .rampComplete f => Sys2Proof.Machine.execRampComplete f s
  | .prechargeComplete f => Sys2Proof.Machine.execPrechargeComplete f s
  | .prechargeShortCheck f => Sys2Proof.Machine.execPrechargeShortCheck f s
  | .rampTimeout f => Sys2Proof.Machine.execRampTimeout f s
  | .rampOvercurrent f => Sys2Proof.Machine.execRampOvercurrent f s
  | .fastTrip f => Sys2Proof.Machine.execFastTrip f s
  | .faultTimerStart f => Sys2Proof.Machine.execFaultTimerStart f s
  | .slowTrip f => Sys2Proof.Machine.execSlowTrip f s
  | .undervoltageTrip f => Sys2Proof.Machine.execUndervoltageTrip f s
  | .overvoltageTrip f => Sys2Proof.Machine.execOvervoltageTrip f s
  | .fetFail f => Sys2Proof.Machine.execFetFail f s
  | .pgQualify f => Sys2Proof.Machine.execPgQualify f s
  | .preoffEnd f => Sys2Proof.Machine.execPreoffEnd f s
  | .dischargeDone f => Sys2Proof.Machine.execDischargeDone f s
  | .coolEnd f => Sys2Proof.Machine.execCoolEnd f s
  | .retryClear f => Sys2Proof.Machine.execRetryClear f s
  | .fuseSample rs hold => Sys2Proof.Machine.execFuseSample rs hold s
  | .faultMessage own => Sys2Proof.Machine.execFaultMessage s own
  | .collectorSelfError log addr => Sys2Proof.Machine.execCollectorSelfError log addr s
  | .faultForce a n v => Sys2Proof.Machine.execFaultForce a n v s
  | .faultNRelease a v => Sys2Proof.Machine.execFaultNRelease a v s
  | .partitionContainRelease a v => Sys2Proof.Machine.execPartitionContainRelease a v s
  | .portContainRelease a w v => Sys2Proof.Machine.execPortContainRelease a w v s
  | .segmentContainRelease a v => Sys2Proof.Machine.execSegmentContainRelease a v s
  | .orphanRetire hier rid tag => Sys2Proof.Machine.execOrphanRetire hier rid tag s
  | .completionTimeout part tag => Sys2Proof.Machine.execCompletionTimeout part tag s
  | .tagQuarantineExpiry part tag => Sys2Proof.Machine.execTagQuarantineExpiry part tag s
  | .lbxReqWrite n be v => Sys2Proof.Machine.execLbxReqWrite n be v s
  | .ring n => Sys2Proof.Machine.execRing n s
  | .lbxRspRead n be => Sys2Proof.Machine.execLbxRspRead n be s
  | .commandAck n => Sys2Proof.Machine.execCommandAck n s
  | .smbBlockWriteReq ws pecOk => Sys2Proof.Machine.execSmbBlockWriteReq ws pecOk s
  | .smbRing data pecOk => Sys2Proof.Machine.execSmbRing data pecOk s
  | .smbReadRsp => Sys2Proof.Machine.execSmbReadRsp s
  | .smbReadAck => Sys2Proof.Machine.execSmbReadAck s
  | .smbReadStatus => Sys2Proof.Machine.execSmbReadStatus s
  | .smbWriteCtl v pecOk => Sys2Proof.Machine.execSmbWriteCtl v pecOk s
  | .smbAlertResponse => Sys2Proof.Machine.execSmbAlertResponse s
  | .ident n => Sys2Proof.Machine.execIdent n s
  | .claim n => Sys2Proof.Machine.execClaim n s
  | .renew n => Sys2Proof.Machine.execRenew n s
  | .ownerRelease n => Sys2Proof.Machine.execOwnerRelease n s
  | .handover n => Sys2Proof.Machine.execHandover n s
  | .take n => Sys2Proof.Machine.execTake n s
  | .expertReq n => Sys2Proof.Machine.execExpertReq n s
  | .expertUnlock n => Sys2Proof.Machine.execExpertUnlock n s
  | .expertLock n => Sys2Proof.Machine.execExpertLock n s
  | .modeSet n => Sys2Proof.Machine.execModeSet n s
  | .modeGet n => Sys2Proof.Machine.execModeGet n s
  | .regRead n => Sys2Proof.Machine.execRegRead n s
  | .regWrite n => Sys2Proof.Machine.execRegWrite n s
  | .portSet n => Sys2Proof.Machine.execPortSet n s
  | .flacon n => Sys2Proof.Machine.execFlacon n s
  | .fuse n => Sys2Proof.Machine.execFuse n s
  | .timeAdj n => Sys2Proof.Machine.execTimeAdj n s
  | .lpbConfig n resp late => Sys2Proof.Machine.execLpbConfig n resp s late
  | .discover n x => Sys2Proof.Machine.execDiscover n x s
  | .storeCommit n flashOk => Sys2Proof.Machine.execStoreCommit n flashOk s
  | .storeInfo n => Sys2Proof.Machine.execStoreInfo n s
  | .fwLoadHost n => Sys2Proof.Machine.execFwLoadHost n s
  | .fwLoadChunk n => Sys2Proof.Machine.execFwLoadChunk n s
  | .fwFinish n flashOk => Sys2Proof.Machine.execFwFinish n flashOk s
  | .fwInfo n => Sys2Proof.Machine.execFwInfo n s
  | .fwSvnCommit n => Sys2Proof.Machine.execFwSvnCommit n s
  | .electionClose => Sys2Proof.Machine.execElectionClose s
  | .leasePeriodEnd => Sys2Proof.Machine.execLeasePeriodEnd s
  | .handoverTimeout => Sys2Proof.Machine.execHandoverTimeout s
  | .nonceExpiry => Sys2Proof.Machine.execNonceExpiry s
  | .resetNAssert => Sys2Proof.Machine.execResetNAssert s
  | .resetNDeassert => Sys2Proof.Machine.execResetNDeassert s
  | .recoveryReset => Sys2Proof.Machine.execRecoveryReset s
  | .powerOnReset lost => Sys2Proof.Machine.execPowerOnReset lost s
  | .chipRst a v => Sys2Proof.Machine.execChipRst a v s
  | .powerGo a v => Sys2Proof.Machine.execPowerGo a v s
  | .powerEntryProceed => Sys2Proof.Machine.execPowerEntryProceed s
  | .powerEntryTimeout => Sys2Proof.Machine.execPowerEntryTimeout s
  | .wakeEvent src idx other => Sys2Proof.Machine.execWakeEvent src idx other s
  | .coreRailsGood => Sys2Proof.Machine.execCoreRailsGood s
  | .powerExitComplete us => Sys2Proof.Machine.execPowerExitComplete us s
  | .managementSleep => Sys2Proof.Machine.execManagementSleep s
  | .brownout => Sys2Proof.Machine.execBrownout s
  | .supplyWarn vaon mv => Sys2Proof.Machine.execSupplyWarn vaon mv s
  | .supplyRecovery vaon => Sys2Proof.Machine.execSupplyRecovery vaon s
  | .vddLow => Sys2Proof.Machine.execVddLow s
  | .vaonLow => Sys2Proof.Machine.execVaonLow s
  | .temperatureSample t => Sys2Proof.Machine.execTemperatureSample t s
  | .alarm => Sys2Proof.Machine.execAlarm s
  | .xtalStart => Sys2Proof.Machine.execXtalStart s
  | .pllFreeRunTimeout => Sys2Proof.Machine.execPllFreeRunTimeout s
  | .cdcTimeout tile crossing => Sys2Proof.Machine.execCdcTimeout tile crossing s
  | .counterSnapshot a v => Sys2Proof.Machine.execCounterSnapshot a v s
  | .snapshotDone => Sys2Proof.Machine.execSnapshotDone s
  | .counterFreeze a v => Sys2Proof.Machine.execCounterFreeze a v s
  | .counterClear a v => Sys2Proof.Machine.execCounterClear a v s
  | .sillageArm a v => Sys2Proof.Machine.execSillageArm a v s
  | .sillageDisarm a v => Sys2Proof.Machine.execSillageDisarm a v s
  | .sillageProbeChange p vector full => Sys2Proof.Machine.execSillageProbeChange p vector full s
  | .sillageTrigger a v => Sys2Proof.Machine.execSillageTrigger a v s
  | .sillagePostDone => Sys2Proof.Machine.execSillagePostDone s
  | .debugAccess addr write read v => Sys2Proof.Machine.execDebugAccess addr write read v s
  | .debugAccessDone => Sys2Proof.Machine.execDebugAccessDone s
  | .lcNonce => Sys2Proof.Machine.execLcNonce s
  | .lcSecure => Sys2Proof.Machine.execLcSecure s
  | .lcReturn nonce key sig => Sys2Proof.Machine.execLcReturn nonce key sig s
  | .tapReset => Sys2Proof.Machine.execTapReset s
  | .idcode => Sys2Proof.Machine.execIdcode s
  | .samplePreload balls preload => Sys2Proof.Machine.execSamplePreload balls preload s
  | .extest balls drive => Sys2Proof.Machine.execExtest balls drive s
  | .extestPulse balls drive => Sys2Proof.Machine.execExtestPulse balls drive s
  | .extestTrain balls drive => Sys2Proof.Machine.execExtestTrain balls drive s
  | .boundaryClamp => Sys2Proof.Machine.execBoundaryClamp s
  | .highz => Sys2Proof.Machine.execHighz s
  | .bypass => Sys2Proof.Machine.execBypass s
  | .vddResetRelease => Sys2Proof.Machine.execVddResetRelease s
  | .chipResetEnd => Sys2Proof.Machine.execChipResetEnd s
  | .coreOnRise => Sys2Proof.Machine.execCoreOnRise s
  | .pchgEnOff f => Sys2Proof.Machine.execPchgEnOff f s
  | .segmentGrant slot => Sys2Proof.Machine.execSegmentGrant slot s
  | .vddpLoss => Sys2Proof.Machine.execVddpLoss s
  | .counterWrap u k => Sys2Proof.Machine.execCounterWrap u k s

end Sys2Proof.Machine
end

