-- ==== Sys2Proof/Machine/TickOps.lean ====
section
/-! DEFINITION. What one Hallway cycle without a command does: chassis time (R305), the RTC (R549) and the events of
Table 17.2 that last while a state lasts (R570, R571). -/

namespace Sys2Proof.Machine

/-- The port slot of a unit below 0xC00. -/
def unitPort (u : Nat) : Nat := u / 256 * 8 + u % 8

/-- A head at a port waits for partner credit. -/
def Chip.waitsPartner (c : Chip) (n : Nat) : Bool :=
  (List.range 8).any fun k => (c.queue (.port n) k).any fun x => !x.started &&
    (x.blocked || (c.isFleren n && (c.flp n).released.get 0 k == (c.flp n).consumed.get 0 k))

/-- A head of a class with a note waits: a Top class for its gate, a Heart class for shaper credit (R282, R283). -/
def Chip.noteWaits (c : Chip) (n note : Nat) : Bool :=
  (c.noteClasses n note).any fun k => match c.cand? n k true with
    | some x => if note = 2 then !c.gatePass n k x else (c.shaper? n k).isSome && decide (c.credit n k < 0)
    | none => false

/-- An event of a port slot that lasts. -/
def Chip.slotHeld (c : Chip) (n code : Nat) : Bool :=
  if code = 0x12 then c.cel.waiting.any (fun k => k.src == .port n && !k.deferred) ||
    c.cel.copies.any fun k => k.src == .port n && k.charge == .guarantee
  else if code = 0x13 then c.waitsPartner n
  else if code = 0x14 then c.noteWaits n 2
  else if code = 0x15 then c.noteWaits n 1
  else if code = 0x1D then
    if c.isFleren n then c.lstate n == flLp
    else c.fld F.PRT_LINK_STATUS.LTSSM n == 0x07 || c.fld F.PRT_LINK_STATUS.LTSSM n == 0x08
  else if code = 0x1E then
    if c.isFleren n then c.lstate n == flUpState else c.flag F.PRT_LINK_STATUS.DL_ACTIVE n
  else false

/-- An event of a tile that lasts. -/
def Chip.tileHeld (c : Chip) (t code : Nat) : Bool :=
  if code = 0x12 then c.cel.capWaiting.any fun e => e.1.isSome && (match e.2.src with | .port n => tileOf n == t | _ => false)
  else if code = 0x16 then c.cel.copies.any fun k => k.dest == .pantry t
  else if code = 0x17 then c.descFree t == 0
  else if code = 0x18 then c.trackFree t == 0
  else if code = 0x19 then c.cel.meterHeld.any fun h => h.eng / 128 == t
  else false

/-- An event of an engine that lasts: its state. -/
def Chip.engHeld (c : Chip) (e code : Nat) : Bool :=
  let s := c.engState e
  if code = 0x1F then s == enDisabled else Nat.ble 0x12 code && Nat.ble code 0x18 && s == code - 0x11

/-- An event of a Fuse Box channel that lasts. -/
def Chip.fusHeld (c : Chip) (s code : Nat) : Bool :=
  if code = 0x11 then c.flag F.FUS_CHAN_STATUS.FT_RUN s
  else if code = 0x12 then c.flag F.FUS_CHAN_STATUS.PG s
  else if code = 0x13 then c.fuState s == fuPrecharge || c.fuState s == fuRamp
  else false

/-- An event of Table 17.2 is asserted in this cycle because of a state that lasts; ALWAYS is in every cycle (R571). -/
def Chip.eventHeld (c : Chip) (u code : Nat) : Bool :=
  if code = 0x01 then true
  else if u < 0xC00 then
    if u % 256 < 8 then c.slotHeld (unitPort u) code
    else if u % 256 = 8 then c.tileHeld (u / 256) code
    else c.engHeld (u / 256 * 128 + u % 128) code
  else if u = 0xC02 then code == 0x13 && !c.fab.moves.isEmpty
  else if u = 0xC03 then code == 0x15 && c.fld F.TIM_STATUS.STATE == 2
  else if u = 0xC04 then code == 0x12 && c.fld F.GAT_COMMIT_STATUS.STATE == 1
  else if u = 0xC05 then
    if code = 0x13 then Nat.ble 32 c.lpb.queue.length
    else if code = 0x14 then c.lpb.active.isNone && c.lpb.grant.isNone
    else code == 0x15 && c.lpb.lock.isSome
  else if 0xC10 ≤ u then c.fusHeld (u - 0xC10) code
  else false

/-- The programmable counters that are on: unit, number and EVT_CFG word. -/
def Chip.countersOn (c : Chip) : List (Nat × Nat × Word) :=
  c.regs.filterMap fun (e : RegKey × Word) =>
    if e.1.reg = .TCT_EVT_CFG && e.1.j < unitSize e.1.i && wbit e.2 31 then some (e.1.i, e.1.j, e.2) else none

/-- The counted clock of a unit has an edge at this Hallway cycle (R569). -/
def Chip.unitEdge (c : Chip) (u : Nat) : Bool :=
  let k := unitCycles u
  c.clockRuns k.1 && c.hwy % (k.2 / c.countStep k.1) == 0

/-- The events that last are counted (R570): in level mode in every cycle, in edge mode in the cycle in which they begin. -/
def Chip.countHeld (c : Chip) : Chip :=
  let on := c.countersOn.filter fun q => c.unitEdge q.1
  let now := (on.map fun q => (q.1, wget q.2.2 7 0)).eraseDups
  let up := now.filter fun q => c.eventHeld q.1 q.2
  let before := c.ctr.held
  let c := on.foldl (fun c q =>
    let ev := (q.1, wget q.2.2 7 0)
    if up.elem ev && (wbit q.2.2 30 || !before.elem ev) then c.bump q.1 q.2.1 1 else c) c
  { c with ctr := { c.ctr with held := up ++ before.filter fun ev => !now.elem ev } }

/-- The lanes whose checker runs (R76, R79). -/
def Chip.checkedLanes (c : Chip) : List Nat :=
  if !c.configMode then []
  else c.regs.filterMap fun (e : RegKey × Word) =>
    if e.1.reg = .SDS_LN_CTL && wbit e.2 11 && c.laneState e.1.i == lnActive then some e.1.i else none

/-- The checkers count the mismatches of a cycle: none where near-end loopback feeds the lane its own pattern, whatever its
polarity bits (DESIGN CHOICE, log entry 52), else what the line brought, a free value. -/
def Chip.patTick (c : Chip) : Chip :=
  c.checkedLanes.foldl (fun c l =>
    if c.fld F.SDS_LN_CTL.LOOPBACK l = 1 && c.flag F.SDS_LN_CTL.PAT_GEN l then c
    else c.drawn.add F.SDS_LN_PAT_ERR.COUNT c.freeVal l) c

/-- One Hallway cycle in which no command comes; heads of queues under a gate list are judged (R284). While the chip is held in
reset no clock is counted; in PS3 the Fuse Box channels count on (R569). -/
def Chip.tick (c : Chip) : Chip :=
  let c := { c with hwy := c.hwy + 1 }
  let c := if c.coreUp then c.timTick.countHeld.patTick.judgeHeads
    else if c.ps = 3 then c.countHeld
    else { c with ctr := { c.ctr with since := c.hwy } }
  c.rtcTick

end Sys2Proof.Machine
end

