-- ==== Sys2Proof/WellFormed.lean ====
section
/-! DEFINITION. Well-formed commands: operands that the types of Syntax.lean do not bound lie in the ranges of the fields
that carry them. Every other operand is bounded by its type. -/

namespace Sys2Proof.Machine

/-- A Requester ID has 16 bits, the byte enables 4 (R4), a colour 4 (R391). -/
def Access.wf (a : Access) : Bool :=
  Nat.blt a.rid 65536 && Nat.blt a.be 16 && (match a.st with | some x => Nat.blt x.colour 16 | none => true)

/-- The fields of a fabric header (Tables 6.1, 6.2) and of the body of a DISC packet (Table 6.4). -/
def FabHdr.wf (h : FabHdr) : Bool :=
  Nat.blt h.typ 16 && Nat.blt h.hops 64 && Nat.blt h.lenWords 1024 && Nat.blt h.dstChip 64 && Nat.blt h.srcChip 64 &&
    Nat.blt h.dstDomain 65536 && Nat.blt h.srcDomain 65536 && Nat.blt h.vh 65536 && Nat.blt h.colour 16 &&
    Nat.blt h.spread 65536 && Nat.ble h.disc.hopCnt 8 && Nat.ble h.disc.hops.length 8

/-- A packet: a class of 0 to 7, an address of 64 bits, a Requester ID of 16 and a tag of 14, at most 4,096 bytes of
payload or request (Table 3.1). -/
def Packet.wf (p : Packet) : Bool :=
  Nat.blt p.cls 8 && Nat.blt p.addr (2 ^ 64) && Nat.blt p.rid 65536 && Nat.blt p.tag 16384 && Nat.ble p.data.length 4096 &&
    Nat.ble p.len 4096 && Nat.blt p.idRoute 65536 && (match p.fab with | some h => h.wf | none => true)

/-- The payload of a parcel: 32 words, as many before its pad, and well-formed TLPs. -/
def ParcelBody.wf (b : ParcelBody) : Bool := b.words.length == 32 && Nat.ble b.used 32 && b.tlps.all Packet.wf

/-- A destination: a port slot of the chip, or the Pantry of one of its tiles. -/
def Dest.wf : Dest → Bool
  | .port n => Nat.blt n 96
  | .pantry t => Nat.blt t 12
  | _ => true

/-- A step of discovery names an offset of the register space and sends a header that is well-formed. -/
def DiscoverStep.wf : DiscoverStep → Bool
  | .send _ h => h.wf
  | .store off _ => Nat.blt off 0x10000000
  | .finish _ | .fail => true

end Sys2Proof.Machine

namespace Sys2Proof

open Machine

/-- The access with which a command reaches a register, when it comes by one. -/
def Instr.access? : Instr → Option Access
  | .registerWrite a _ _ => some a
  | .readClear a _ => some a
  | .pairLoRead a _ => some a
  | .pairLoWrite a _ _ => some a
  | .pairHiWrite a _ _ => some a
  | .modeRequest a _ => some a
  | .quiesceComplete => none
  | .quiesceLimitExpiry => none
  | .standbyWakeResume => none
  | .tileEnableWrite a _ => some a
  | .refLost _ => none
  | .refRestore _ => none
  | .freqOffsetLoss _ _ => none
  | .deepEntry _ => none
  | .deepEntryDone _ => none
  | .deepExit _ _ => none
  | .deepExitDone _ _ => none
  | .standbyExit _ => none
  | .txeqWrite a _ _ _ => some a
  | .txeqHeldApply _ => none
  | .partnerCoeffRequest _ _ _ _ _ _ => none
  | .adaptRestart a _ _ => some a
  | .adaptFreeze a _ _ => some a
  | .coarseDone _ _ _ => none
  | .fineDone _ _ _ _ => none
  | .adaptTimeout _ => none
  | .eyeStart a _ _ => some a
  | .eyeDone _ _ => none
  | .eyeAbort a _ _ => some a
  | .laneMargining _ _ => none
  | .packetIngress _ _ _ _ => none
  | .configRequest _ _ => none
  | .admissionRetry => none
  | .deferredCopyWrite => none
  | .reqTableRetry => none
  | .egressSelection _ _ _ => none
  | .copySent _ _ => none
  | .underrunResend _ => none
  | .ageSweep => none
  | .cellEccUncorrectable _ _ => none
  | .linkUp _ _ _ _ _ => none
  | .trainFail _ _ => none
  | .linkDown _ _ => none
  | .perstAssert _ => none
  | .perstDeassert _ => none
  | .partitionRestoreDone _ => none
  | .hotResetReceived _ _ => none
  | .partitionResetEnd _ => none
  | .secondaryBusReset _ _ => none
  | .hotResetSendEnd _ => none
  | .linkDisable _ _ => none
  | .flr _ => none
  | .perstOutDeassert _ => none
  | .attentionIndicatorControl _ _ => none
  | .powerIndicatorControl _ _ => none
  | .powerControllerControl _ _ => none
  | .commandCompleted _ => none
  | .attentionButtonPressed _ => none
  | .powerFaultDetectedClear _ => none
  | .dpcTrigger _ _ => none
  | .dpcSoftwareTrigger _ => none
  | .dpcTriggerStatusWrite _ => none
  | .dpcRelease _ => none
  | .busMasterEnableClear _ => none
  | .busMasterEnableSet _ => none
  | .l1Entry _ _ _ => none
  | .l1Exit _ => none
  | .l0pWidthChange _ _ => none
  | .parcelBoundary _ _ => none
  | .parcelHeadReceive _ _ _ _ _ => none
  | .parcelTrailer _ _ _ _ _ _ _ _ => none
  | .parcelCommit _ => none
  | .ackTimer _ => none
  | .ackReceive _ _ _ => none
  | .nakReceive _ _ _ _ => none
  | .sackReceive _ _ _ => none
  | .creditReceive _ _ _ _ => none
  | .deskewReceive _ _ _ _ _ _ _ => none
  | .initReceive _ _ _ _ => none
  | .lpiReceive _ _ _ => none
  | .resetReceive _ _ => none
  | .replayTimeout _ _ => none
  | .blockLock _ _ => none
  | .blockLockLoss _ _ => none
  | .bringupTimeout _ => none
  | .rtCountClear _ => none
  | .retrain a _ _ => some a
  | .linkReset a _ _ => some a
  | .retrainTimeout _ => none
  | .f1LockTimeout _ => none
  | .downTimeout _ => none
  | .lpIdleTimeout _ => none
  | .flerenWake _ => none
  | .wakePatternDone _ => none
  | .routeCommit a _ => some a
  | .routeMove _ _ => none
  | .moveForced _ _ => none
  | .discRequest _ _ => none
  | .discResponse _ _ => none
  | .discLost _ => none
  | .flaconAssign a _ => some a
  | .flaconReset a _ => some a
  | .flaconRemove a _ => some a
  | .drainDone _ => none
  | .drainLimitExpiry _ => none
  | .flaconRetired _ => none
  | .quarantineExpiry _ _ => none
  | .staleEntryTimeout _ _ => none
  | .shaperTick => none
  | .tokenTick => none
  | .todFrame _ => none
  | .syncEdge => none
  | .syncLossTimeout => none
  | .clk100Lost => none
  | .clk100Restore => none
  | .syncOutEdge => none
  | .todFrameSend => none
  | .timSrcWrite a _ => some a
  | .timRateAdj a _ => some a
  | .timSlew a _ => some a
  | .timStep a _ => some a
  | .timSet a _ => some a
  | .slewDone => none
  | .gclEnable a _ _ => some a
  | .gclSwitch a _ _ => some a
  | .gclAbort a _ _ => some a
  | .gclSwitchTime _ => none
  | .gclEntryAdvance _ => none
  | .timedActionArm a _ _ => some a
  | .timedActionFire _ => none
  | .pulseEnd _ => none
  | .trigEdge _ _ _ _ => none
  | .matrixRuleAct _ => none
  | .timTsRead a => some a
  | .trigStuck _ => none
  | .eventMessageReceive _ _ _ => none
  | .fabricEventReceive _ _ _ => none
  | .captureStallResume _ => none
  | .jobEnable a _ _ _ => some a
  | .recordDispatch _ _ => none
  | .kick a _ _ _ => some a
  | .jobStop a _ _ _ => some a
  | .jobStopDone _ _ => none
  | .jobAbort a _ _ _ => some a
  | .doorbellStart _ _ _ => none
  | .nop _ => none
  | .done _ => none
  | .fault _ => none
  | .jmp _ => none
  | .setlc _ => none
  | .djnz _ => none
  | .add _ => none
  | .sub _ => none
  | .and _ => none
  | .or _ => none
  | .xor _ => none
  | .shl _ => none
  | .shr _ => none
  | .sar _ => none
  | .mul _ => none
  | .min _ => none
  | .max _ => none
  | .cmp _ => none
  | .addi _ => none
  | .andi _ => none
  | .ori _ => none
  | .xori _ => none
  | .shli _ => none
  | .shri _ => none
  | .sari _ => none
  | .cmpi _ => none
  | .ldc _ => none
  | .getip _ => none
  | .getop _ => none
  | .setip _ => none
  | .setop _ => none
  | .addip _ => none
  | .addop _ => none
  | .unpk _ => none
  | .conv _ => none
  | .pack _ => none
  | .xfrm _ => none
  | .copyb _ => none
  | .putw _ => none
  | .tstamp _ => none
  | .emit _ => none
  | .fetch _ => none
  | .fwait _ => none
  | .engineWaitResume _ => none
  | .fetchCompletion _ => none
  | .emissionDone _ => none
  | .recordWatchdog _ => none
  | .accordLoad a _ _ => some a
  | .accordLoadDone _ _ => none
  | .pantryEccUncorrectable _ _ _ _ => none
  | .gateCommit a _ => some a
  | .gateEpochDone => none
  | .segmentTransactionStart _ => none
  | .segmentTransactionEnd _ _ _ _ => none
  | .holdTimeout _ => none
  | .prefetchAgeExpiry _ => none
  | .unlockMessage _ => none
  | .lockTimeout => none
  | .segmentUpstreamWrite _ _ _ => none
  | .segmentUpstreamRead _ _ _ => none
  | .delayedReadCompletion => none
  | .delayedReadExpiry _ => none
  | .intxChange _ _ => none
  | .lpbCfgRead a _ => some a
  | .lpbCfgWrite a _ _ => some a
  | .grantTimeout _ => none
  | .segmentResetDeassert _ => none
  | .serrAssert _ => none
  | .presencePinsLow _ => none
  | .presenceDebounceDone _ => none
  | .presenceLost _ _ _ => none
  | .shortPinViolation _ => none
  | .on a _ _ => some a
  | .off a _ _ => some a
  | .release a _ _ => some a
  | .eClr a _ _ => some a
  | .hminClr a _ => some a
  | .fusChanEnable a _ _ => some a
  | .rampStart _ _ => none
  | .rampComplete _ => none
  | .prechargeComplete _ => none
  | .prechargeShortCheck _ => none
  | .rampTimeout _ => none
  | .rampOvercurrent _ => none
  | .fastTrip _ => none
  | .faultTimerStart _ => none
  | .slowTrip _ => none
  | .undervoltageTrip _ => none
  | .overvoltageTrip _ => none
  | .fetFail _ => none
  | .pgQualify _ => none
  | .preoffEnd _ => none
  | .dischargeDone _ => none
  | .coolEnd _ => none
  | .retryClear _ => none
  | .fuseSample _ _ => none
  | .faultMessage _ => none
  | .collectorSelfError _ _ => none
  | .faultForce a _ _ => some a
  | .faultNRelease a _ => some a
  | .partitionContainRelease a _ => some a
  | .portContainRelease a _ _ => some a
  | .segmentContainRelease a _ => some a
  | .orphanRetire _ _ _ => none
  | .completionTimeout _ _ => none
  | .tagQuarantineExpiry _ _ => none
  | .lbxReqWrite _ _ _ => none
  | .ring _ => none
  | .lbxRspRead _ _ => none
  | .commandAck _ => none
  | .smbBlockWriteReq _ _ => none
  | .smbRing _ _ => none
  | .smbReadRsp => none
  | .smbReadAck => none
  | .smbReadStatus => none
  | .smbWriteCtl _ _ => none
  | .smbAlertResponse => none
  | .ident _ => none
  | .claim _ => none
  | .renew _ => none
  | .ownerRelease _ => none
  | .handover _ => none
  | .take _ => none
  | .expertReq _ => none
  | .expertUnlock _ => none
  | .expertLock _ => none
  | .modeSet _ => none
  | .modeGet _ => none
  | .regRead _ => none
  | .regWrite _ => none
  | .portSet _ => none
  | .flacon _ => none
  | .fuse _ => none
  | .timeAdj _ => none
  | .lpbConfig _ _ _ => none
  | .discover _ _ => none
  | .storeCommit _ _ => none
  | .storeInfo _ => none
  | .fwLoadHost _ => none
  | .fwLoadChunk _ => none
  | .fwFinish _ _ => none
  | .fwInfo _ => none
  | .fwSvnCommit _ => none
  | .electionClose => none
  | .leasePeriodEnd => none
  | .handoverTimeout => none
  | .nonceExpiry => none
  | .resetNAssert => none
  | .resetNDeassert => none
  | .recoveryReset => none
  | .powerOnReset _ => none
  | .chipRst a _ => some a
  | .powerGo a _ => some a
  | .powerEntryProceed => none
  | .powerEntryTimeout => none
  | .wakeEvent _ _ _ => none
  | .coreRailsGood => none
  | .powerExitComplete _ => none
  | .managementSleep => none
  | .brownout => none
  | .supplyWarn _ _ => none
  | .supplyRecovery _ => none
  | .vddLow => none
  | .vaonLow => none
  | .temperatureSample _ => none
  | .alarm => none
  | .xtalStart => none
  | .pllFreeRunTimeout => none
  | .cdcTimeout _ _ => none
  | .counterSnapshot a _ => some a
  | .snapshotDone => none
  | .counterFreeze a _ => some a
  | .counterClear a _ => some a
  | .sillageArm a _ => some a
  | .sillageDisarm a _ => some a
  | .sillageProbeChange _ _ _ => none
  | .sillageTrigger a _ => some a
  | .sillagePostDone => none
  | .debugAccess _ _ _ _ => none
  | .debugAccessDone => none
  | .lcNonce => none
  | .lcSecure => none
  | .lcReturn _ _ _ => none
  | .tapReset => none
  | .idcode => none
  | .samplePreload _ _ => none
  | .extest _ _ => none
  | .extestPulse _ _ => none
  | .extestTrain _ _ => none
  | .boundaryClamp => none
  | .highz => none
  | .bypass => none
  | .vddResetRelease => none
  | .chipResetEnd => none
  | .coreOnRise => none
  | .pchgEnOff _ => none
  | .segmentGrant _ => none
  | .vddpLoss => none
  | .counterWrap _ _ => none

/-- A command is well-formed. -/
def Instr.wellFormed : Instr → Bool
  | .registerWrite a _ _ => a.wf
  | .readClear a _ => a.wf
  | .pairLoRead a _ => a.wf
  | .pairLoWrite a _ _ => a.wf
  | .pairHiWrite a _ _ => a.wf
  | .modeRequest a _ => a.wf
  | .quiesceComplete => true
  | .quiesceLimitExpiry => true
  | .standbyWakeResume => true
  | .tileEnableWrite a _ => a.wf
  | .refLost _ => true
  | .refRestore _ => true
  | .freqOffsetLoss _ _ => true
  | .deepEntry _ => true
  | .deepEntryDone _ => true
  | .deepExit _ _ => true
  | .deepExitDone _ _ => true
  | .standbyExit _ => true
  | .txeqWrite a _ _ _ => a.wf
  | .txeqHeldApply _ => true
  | .partnerCoeffRequest _ _ _ _ _ _ => true
  | .adaptRestart a _ _ => a.wf
  | .adaptFreeze a _ _ => a.wf
  | .coarseDone _ _ _ => true
  | .fineDone _ _ _ _ => true
  | .adaptTimeout _ => true
  | .eyeStart a _ _ => a.wf
  | .eyeDone _ _ => true
  | .eyeAbort a _ _ => a.wf
  | .laneMargining _ _ => true
  | .packetIngress _ p _ _ => p.wf
  | .configRequest _ k => k.wf
  | .admissionRetry => true
  | .deferredCopyWrite => true
  | .reqTableRetry => true
  | .egressSelection e _ _ => e.wf
  | .copySent _ _ => true
  | .underrunResend _ => true
  | .ageSweep => true
  | .cellEccUncorrectable _ _ => true
  | .linkUp _ _ _ _ _ => true
  | .trainFail _ _ => true
  | .linkDown _ _ => true
  | .perstAssert _ => true
  | .perstDeassert _ => true
  | .partitionRestoreDone _ => true
  | .hotResetReceived _ _ => true
  | .partitionResetEnd _ => true
  | .secondaryBusReset _ _ => true
  | .hotResetSendEnd _ => true
  | .linkDisable _ _ => true
  | .flr _ => true
  | .perstOutDeassert _ => true
  | .attentionIndicatorControl _ _ => true
  | .powerIndicatorControl _ _ => true
  | .powerControllerControl _ _ => true
  | .commandCompleted _ => true
  | .attentionButtonPressed _ => true
  | .powerFaultDetectedClear _ => true
  | .dpcTrigger _ _ => true
  | .dpcSoftwareTrigger _ => true
  | .dpcTriggerStatusWrite _ => true
  | .dpcRelease _ => true
  | .busMasterEnableClear _ => true
  | .busMasterEnableSet _ => true
  | .l1Entry _ _ _ => true
  | .l1Exit _ => true
  | .l0pWidthChange _ _ => true
  | .parcelBoundary _ _ => true
  | .parcelHeadReceive _ _ kind _ _ => Nat.ble kind.val 1 || Nat.ble 10 kind.val
  | .parcelTrailer _ b _ _ _ corr uncorr _ => b.wf && Nat.ble (corr + uncorr) 16
  | .parcelCommit _ => true
  | .ackTimer _ => true
  | .ackReceive _ _ _ => true
  | .nakReceive _ _ _ _ => true
  | .sackReceive _ _ _ => true
  | .creditReceive _ _ _ _ => true
  | .deskewReceive _ _ _ _ _ _ _ => true
  | .initReceive _ _ _ _ => true
  | .lpiReceive _ _ _ => true
  | .resetReceive _ _ => true
  | .replayTimeout _ _ => true
  | .blockLock _ _ => true
  | .blockLockLoss _ _ => true
  | .bringupTimeout _ => true
  | .rtCountClear _ => true
  | .retrain a _ _ => a.wf
  | .linkReset a _ _ => a.wf
  | .retrainTimeout _ => true
  | .f1LockTimeout _ => true
  | .downTimeout _ => true
  | .lpIdleTimeout _ => true
  | .flerenWake _ => true
  | .wakePatternDone _ => true
  | .routeCommit a _ => a.wf
  | .routeMove _ _ => true
  | .moveForced _ _ => true
  | .discRequest _ h => h.wf
  | .discResponse _ h => h.wf
  | .discLost _ => true
  | .flaconAssign a _ => a.wf
  | .flaconReset a _ => a.wf
  | .flaconRemove a _ => a.wf
  | .drainDone _ => true
  | .drainLimitExpiry _ => true
  | .flaconRetired _ => true
  | .quarantineExpiry _ _ => true
  | .staleEntryTimeout _ _ => true
  | .shaperTick => true
  | .tokenTick => true
  | .todFrame _ => true
  | .syncEdge => true
  | .syncLossTimeout => true
  | .clk100Lost => true
  | .clk100Restore => true
  | .syncOutEdge => true
  | .todFrameSend => true
  | .timSrcWrite a _ => a.wf
  | .timRateAdj a _ => a.wf
  | .timSlew a _ => a.wf
  | .timStep a _ => a.wf
  | .timSet a _ => a.wf
  | .slewDone => true
  | .gclEnable a _ _ => a.wf
  | .gclSwitch a _ _ => a.wf
  | .gclAbort a _ _ => a.wf
  | .gclSwitchTime _ => true
  | .gclEntryAdvance _ => true
  | .timedActionArm a _ _ => a.wf
  | .timedActionFire _ => true
  | .pulseEnd _ => true
  | .trigEdge _ _ _ _ => true
  | .matrixRuleAct _ => true
  | .timTsRead a => a.wf
  | .trigStuck _ => true
  | .eventMessageReceive _ _ _ => true
  | .fabricEventReceive _ _ _ => true
  | .captureStallResume _ => true
  | .jobEnable a _ _ _ => a.wf
  | .recordDispatch _ _ => true
  | .kick a _ _ _ => a.wf
  | .jobStop a _ _ _ => a.wf
  | .jobStopDone _ _ => true
  | .jobAbort a _ _ _ => a.wf
  | .doorbellStart _ _ _ => true
  | .nop _ => true
  | .done _ => true
  | .fault _ => true
  | .jmp _ => true
  | .setlc _ => true
  | .djnz _ => true
  | .add _ => true
  | .sub _ => true
  | .and _ => true
  | .or _ => true
  | .xor _ => true
  | .shl _ => true
  | .shr _ => true
  | .sar _ => true
  | .mul _ => true
  | .min _ => true
  | .max _ => true
  | .cmp _ => true
  | .addi _ => true
  | .andi _ => true
  | .ori _ => true
  | .xori _ => true
  | .shli _ => true
  | .shri _ => true
  | .sari _ => true
  | .cmpi _ => true
  | .ldc _ => true
  | .getip _ => true
  | .getop _ => true
  | .setip _ => true
  | .setop _ => true
  | .addip _ => true
  | .addop _ => true
  | .unpk _ => true
  | .conv _ => true
  | .pack _ => true
  | .xfrm _ => true
  | .copyb _ => true
  | .putw _ => true
  | .tstamp _ => true
  | .emit _ => true
  | .fetch _ => true
  | .fwait _ => true
  | .engineWaitResume _ => true
  | .fetchCompletion _ => true
  | .emissionDone _ => true
  | .recordWatchdog _ => true
  | .accordLoad a _ _ => a.wf
  | .accordLoadDone _ _ => true
  | .pantryEccUncorrectable _ _ _ _ => true
  | .gateCommit a _ => a.wf
  | .gateEpochDone => true
  | .segmentTransactionStart _ => true
  | .segmentTransactionEnd _ _ _ _ => true
  | .holdTimeout _ => true
  | .prefetchAgeExpiry _ => true
  | .unlockMessage _ => true
  | .lockTimeout => true
  | .segmentUpstreamWrite _ data lanes => lanes.length == data.length
  | .segmentUpstreamRead _ _ _ => true
  | .delayedReadCompletion => true
  | .delayedReadExpiry _ => true
  | .intxChange _ _ => true
  | .lpbCfgRead a _ => a.wf
  | .lpbCfgWrite a _ _ => a.wf
  | .grantTimeout _ => true
  | .segmentResetDeassert _ => true
  | .serrAssert _ => true
  | .presencePinsLow _ => true
  | .presenceDebounceDone _ => true
  | .presenceLost _ _ _ => true
  | .shortPinViolation _ => true
  | .on a _ _ => a.wf
  | .off a _ _ => a.wf
  | .release a _ _ => a.wf
  | .eClr a _ _ => a.wf
  | .hminClr a _ => a.wf
  | .fusChanEnable a _ _ => a.wf
  | .rampStart _ _ => true
  | .rampComplete _ => true
  | .prechargeComplete _ => true
  | .prechargeShortCheck _ => true
  | .rampTimeout _ => true
  | .rampOvercurrent _ => true
  | .fastTrip _ => true
  | .faultTimerStart _ => true
  | .slowTrip _ => true
  | .undervoltageTrip _ => true
  | .overvoltageTrip _ => true
  | .fetFail _ => true
  | .pgQualify _ => true
  | .preoffEnd _ => true
  | .dischargeDone _ => true
  | .coolEnd _ => true
  | .retryClear _ => true
  | .fuseSample _ _ => true
  | .faultMessage _ => true
  | .collectorSelfError _ _ => true
  | .faultForce a _ _ => a.wf
  | .faultNRelease a _ => a.wf
  | .partitionContainRelease a _ => a.wf
  | .portContainRelease a _ _ => a.wf
  | .segmentContainRelease a _ => a.wf
  | .orphanRetire _ _ _ => true
  | .completionTimeout _ _ => true
  | .tagQuarantineExpiry _ _ => true
  | .lbxReqWrite _ _ _ => true
  | .ring _ => true
  | .lbxRspRead _ _ => true
  | .commandAck _ => true
  | .smbBlockWriteReq _ _ => true
  | .smbRing _ _ => true
  | .smbReadRsp => true
  | .smbReadAck => true
  | .smbReadStatus => true
  | .smbWriteCtl _ _ => true
  | .smbAlertResponse => true
  | .ident _ => true
  | .claim _ => true
  | .renew _ => true
  | .ownerRelease _ => true
  | .handover _ => true
  | .take _ => true
  | .expertReq _ => true
  | .expertUnlock _ => true
  | .expertLock _ => true
  | .modeSet _ => true
  | .modeGet _ => true
  | .regRead _ => true
  | .regWrite _ => true
  | .portSet _ => true
  | .flacon _ => true
  | .fuse _ => true
  | .timeAdj _ => true
  | .lpbConfig _ _ _ => true
  | .discover _ x => x.wf
  | .storeCommit _ _ => true
  | .storeInfo _ => true
  | .fwLoadHost _ => true
  | .fwLoadChunk _ => true
  | .fwFinish _ _ => true
  | .fwInfo _ => true
  | .fwSvnCommit _ => true
  | .electionClose => true
  | .leasePeriodEnd => true
  | .handoverTimeout => true
  | .nonceExpiry => true
  | .resetNAssert => true
  | .resetNDeassert => true
  | .recoveryReset => true
  | .powerOnReset _ => true
  | .chipRst a _ => a.wf
  | .powerGo a _ => a.wf
  | .powerEntryProceed => true
  | .powerEntryTimeout => true
  | .wakeEvent _ _ _ => true
  | .coreRailsGood => true
  | .powerExitComplete _ => true
  | .managementSleep => true
  | .brownout => true
  | .supplyWarn _ _ => true
  | .supplyRecovery _ => true
  | .vddLow => true
  | .vaonLow => true
  | .temperatureSample _ => true
  | .alarm => true
  | .xtalStart => true
  | .pllFreeRunTimeout => true
  | .cdcTimeout _ _ => true
  | .counterSnapshot a _ => a.wf
  | .snapshotDone => true
  | .counterFreeze a _ => a.wf
  | .counterClear a _ => a.wf
  | .sillageArm a _ => a.wf
  | .sillageDisarm a _ => a.wf
  | .sillageProbeChange _ _ _ => true
  | .sillageTrigger a _ => a.wf
  | .sillagePostDone => true
  | .debugAccess _ _ _ _ => true
  | .debugAccessDone => true
  | .lcNonce => true
  | .lcSecure => true
  | .lcReturn _ _ _ => true
  | .tapReset => true
  | .idcode => true
  | .samplePreload _ _ => true
  | .extest _ _ => true
  | .extestPulse _ _ => true
  | .extestTrain _ _ => true
  | .boundaryClamp => true
  | .highz => true
  | .bypass => true
  | .vddResetRelease => true
  | .chipResetEnd => true
  | .coreOnRise => true
  | .pchgEnOff _ => true
  | .segmentGrant _ => true
  | .vddpLoss => true
  | .counterWrap _ _ => true

end Sys2Proof
end

