-- ==== Sys2Proof/Safety.lean ====
section
/-! DEFINITION. The terms in which claims speak of a state, of a command and of what it leaves as it was. -/

namespace Sys2Proof.Machine

/-- Every addressed memory is in its canonical form: addresses strictly rising, no byte listed at its default. -/
def State.memOk (s : State) : Prop := Memory.wf s.mem = true

/-- The parts of the device beside its registers, by the names of the fields of `Chip`. -/
inductive Part where
  | heldLo | snaps | cfg | mode | lanes | ports | fl | cel | fab | parts | flcs | flcReqs | flt | gat | tim | sched | acd
  | lpb | fus | ctr | sil | dbg | pwr | lbx | hwy | free | answer | outs
  deriving DecidableEq, Repr

/-- Every part of the device that the list does not name is the same in both. -/
def Chip.partsSame (ps : List Part) (c c' : Chip) : Prop :=
  (.heldLo ∉ ps → c'.heldLo = c.heldLo) ∧ (.snaps ∉ ps → c'.snaps = c.snaps) ∧ (.cfg ∉ ps → c'.cfg = c.cfg) ∧
  (.mode ∉ ps → c'.mode = c.mode) ∧ (.lanes ∉ ps → c'.lanes = c.lanes) ∧ (.ports ∉ ps → c'.ports = c.ports) ∧
  (.fl ∉ ps → c'.fl = c.fl) ∧ (.cel ∉ ps → c'.cel = c.cel) ∧ (.fab ∉ ps → c'.fab = c.fab) ∧
  (.parts ∉ ps → c'.parts = c.parts) ∧ (.flcs ∉ ps → c'.flcs = c.flcs) ∧ (.flcReqs ∉ ps → c'.flcReqs = c.flcReqs) ∧
  (.flt ∉ ps → c'.flt = c.flt) ∧ (.gat ∉ ps → c'.gat = c.gat) ∧ (.tim ∉ ps → c'.tim = c.tim) ∧
  (.sched ∉ ps → c'.sched = c.sched) ∧ (.acd ∉ ps → c'.acd = c.acd) ∧ (.lpb ∉ ps → c'.lpb = c.lpb) ∧
  (.fus ∉ ps → c'.fus = c.fus) ∧ (.ctr ∉ ps → c'.ctr = c.ctr) ∧ (.sil ∉ ps → c'.sil = c.sil) ∧
  (.dbg ∉ ps → c'.dbg = c.dbg) ∧ (.pwr ∉ ps → c'.pwr = c.pwr) ∧ (.lbx ∉ ps → c'.lbx = c.lbx) ∧
  (.hwy ∉ ps → c'.hwy = c.hwy) ∧ (.free ∉ ps → c'.free = c.free) ∧ (.answer ∉ ps → c'.answer = c.answer) ∧
  (.outs ∉ ps → c'.outs = c.outs)

/-- What a statement says of a field of a register instance: that it holds a value, or only that it may change. -/
structure FieldVal where
  f : Fld
  i : Nat
  j : Nat
  v : Option Nat
  deriving DecidableEq, Repr

/-- The field holds this value afterwards. -/
def Fld.is (f : Fld) (v : Nat) (i : Nat := 0) (j : Nat := 0) : FieldVal := ⟨f, i, j, some v⟩

/-- The field may change. -/
def Fld.any (f : Fld) (i : Nat := 0) (j : Nat := 0) : FieldVal := ⟨f, i, j, none⟩

/-- The register may change, all of it. -/
def Reg.any (r : Reg) (i : Nat := 0) (j : Nat := 0) : FieldVal := ⟨⟨r, 31, 0⟩, i, j, none⟩

/-- The register holds this word afterwards. -/
def Reg.is (r : Reg) (w : Word) (i : Nat := 0) (j : Nat := 0) : FieldVal := ⟨⟨r, 31, 0⟩, i, j, some w.toNat⟩

/-- What is said of the field is true of a device. -/
def FieldVal.holds (e : FieldVal) (c : Chip) : Prop := ∀ v, e.v = some v → c.fld e.f e.i e.j = v

/-- Bit b of register instance k lies in the field. -/
def FieldVal.covers (e : FieldVal) (k : RegKey) (b : Nat) : Prop :=
  k = ⟨e.f.reg, e.i, e.j⟩ ∧ e.f.lo ≤ b ∧ b ≤ e.f.hi

/-- Every bit of every register is the same in both devices, but the bits of the fields listed and the registers of
the names listed; and every part of the device is the same but those listed. -/
def Chip.frame (vals : List FieldVal) (rs : List Reg) (ps : List Part) (c c' : Chip) : Prop :=
  (∀ (k : RegKey) (b : Nat), k.reg ∉ rs → (∀ e ∈ vals, ¬ e.covers k b) →
    (c'.regs.get k).getLsbD b = (c.regs.get k).getLsbD b) ∧ c.partsSame ps c'

/-- From device `base`, state t stands where the fields listed hold what is said of them, and nothing else has changed:
no other bit of a register but in the registers named, no other part of the device but those named, no memory, no
waiting command. -/
def Effect (base : Chip) (s t : State) (vals : List FieldVal) (ps : List Part) (rs : List Reg) : Prop :=
  t.pending = s.pending ∧ t.mem = s.mem ∧ (∀ e ∈ vals, e.holds t.chip) ∧ base.frame vals rs ps t.chip

/-- The command answers a next state; in it the fields hold what is said of them, nothing else has changed but what is
named, and `more` is true of the device. -/
def Sets (i : Instr) (s : State) (vals : List FieldVal) (ps : List Part := []) (rs : List Reg := [])
    (more : Chip → Prop := fun _ => True) : Prop :=
  ∃ t, exec i s = .next t ∧ Effect s.chip s t vals ps rs ∧ more t.chip

/-- The same of a register write, counted from the device c as it stands once the write has passed gate 109. -/
def SetsPast (c : Chip) (i : Instr) (s : State) (vals : List FieldVal) (ps : List Part := []) (rs : List Reg := [])
    (more : Chip → Prop := fun _ => True) : Prop :=
  ∃ t, exec i s = .next t ∧ Effect c s t vals ps rs ∧ more t.chip

/-- The core domain runs, and a write of v to register instance k passes the checks that every write passes; c is the
device once it has passed gate 109. -/
abbrev State.passes (s : State) (a : Access) (k : RegKey) (v : Word) (c : Chip) : Prop :=
  s.chip.coreUp = true ∧ s.chip.passAt a k (k.addr k.tile) v = (.ok, c)

/-- The command answers a next state with the same commands waiting, and its device is as said. -/
def Reaches (i : Instr) (s : State) (P : Chip → Prop) : Prop :=
  ∃ t, exec i s = .next t ∧ t.pending = s.pending ∧ P t.chip

/-- The same, of the whole state: its memories are said as well. -/
def After (i : Instr) (s : State) (P : State → Prop) : Prop :=
  ∃ t, exec i s = .next t ∧ t.pending = s.pending ∧ P t

/-- The registers that events count in (R570, R568). -/
def countRegs : List Reg := [.TCT_CNT_LO, .TCT_CNT_HI, .TCT_UNIT_STATUS]

/-- The register that a fault message may count in when its source's queue is full (R470). -/
def faultRegs : List Reg := [.FLT_LOG_LOST]

/-- What becomes of the eye monitor of a lane whose measurement, if one runs, ends ABORTED (R75); the counts that it
holds are the measurement's. -/
def eyeEnds (c : Chip) (l : Nat) : List FieldVal :=
  if c.fld F.SDS_LN_EYE_STAT.STATE l = 1 then
    [F.SDS_LN_EYE_STAT.STATE.is 3 l, Reg.SDS_LN_EYE_ERR_LO.any l, Reg.SDS_LN_EYE_ERR_HI.any l, Reg.SDS_LN_EYE_CNT_LO.any l,
     Reg.SDS_LN_EYE_CNT_HI.any l]
  else []

/-- A coefficient set in effect (SDS_LN_TXEQ_STAT), where the preset applied last is `last`. -/
def txIs (last l : Nat) (x : TxSet) : List FieldVal :=
  [F.SDS_LN_TXEQ_STAT.SOURCE.is x.source l, F.SDS_LN_TXEQ_STAT.PRESET.is (x.index last) l, F.SDS_LN_TXEQ_STAT.APP_PRE.is x.pre l,
   F.SDS_LN_TXEQ_STAT.APP_POST.is x.post l, F.SDS_LN_TXEQ_STAT.APP_MAIN.is (48 - x.pre - x.post) l]

/-- The count after one more event of a field that saturates. -/
def Chip.counted (c : Chip) (f : Fld) (i : Nat := 0) (j : Nat := 0) : Nat := min (c.fld f i j + 1) f.max

/-- The registers that lane operations write for one lane may change. -/
def laneAny (l : Nat) : List FieldVal :=
  [Reg.SDS_LN_STATUS.any l, Reg.SDS_LN_RXSTAT.any l, Reg.SDS_LN_TXEQ.any l, Reg.SDS_LN_TXEQ_STAT.any l, Reg.SDS_LN_EYE_STAT.any l,
   Reg.SDS_LN_EYE_ERR_LO.any l, Reg.SDS_LN_EYE_ERR_HI.any l, Reg.SDS_LN_EYE_CNT_LO.any l, Reg.SDS_LN_EYE_CNT_HI.any l]

/-- The same of every lane of a port. -/
def Chip.portLanesAny (c : Chip) (n : Nat) : List FieldVal := (c.portLanes n).flatMap laneAny

/-- The link of a PCI Express port reads as down, in a state of its LTSSM (R99). -/
def Chip.showsDown (c : Chip) (n ltssm : Nat) : Prop :=
  c.fld F.PRT_LINK_STATUS.DL_ACTIVE n = 0 ∧ c.fld F.PRT_LINK_STATUS.NEG_RATE n = 0xF ∧
    c.fld F.PRT_LINK_STATUS.NEG_WIDTH n = 7 ∧ c.fld F.PRT_LINK_STATUS.LTSSM n = ltssm

/-- A fault message of a source and kind waits, with this in its handle. -/
def Chip.raised (c : Chip) (source kind : Nat) (handle : Nat → Prop) : Prop :=
  ∃ m ∈ c.flt.intake, m.source = source ∧ m.kind = kind ∧ handle m.handle

/-- A partner violation at a port is recorded and counted (R124). -/
def Chip.violated (c : Chip) (n code : Nat) : List FieldVal :=
  [F.PRT_VIOL_LAST.CODE.is code n, F.PRT_VIOL_COUNT.COUNT.is (c.counted F.PRT_VIOL_COUNT.COUNT n) n]

/-- The command answers a next state with the same commands waiting, that has stored at most the n bytes of the Pantries from
address a0 on; in it the fields hold what is said of them, nothing else of the device has changed but what is named, and
`more` is true. -/
def Stores (i : Instr) (s : State) (a0 n : Nat) (vals : List FieldVal) (ps : List Part) (rs : List Reg)
    (more : State → Prop) : Prop :=
  ∃ t, exec i s = .next t ∧ t.pending = s.pending ∧ t.mem.attic = s.mem.attic ∧ t.mem.fw = s.mem.fw ∧
    (∀ a : Nat, a < a0 ∨ a0 + n ≤ a → Cells.get t.mem.pantry a = Cells.get s.mem.pantry a) ∧
    (∀ e ∈ vals, e.holds t.chip) ∧ s.chip.frame vals rs ps t.chip ∧ more t

/-- A register of an engine written; G0 ignores it (R365). -/
def EngH.put (h : EngH) (r : Nat) (v : Word) : EngH := if r = 0 then h else { h with g := h.g.set 0 r v }

/-- Z and N as a result sets them (R367). -/
def EngH.withZN (h : EngH) (v : Word) : EngH := { h with z := v == 0, n := v.msb }

/-- Of the Accord engines and jobs only engine e changes, to h. -/
def Chip.engIs (c : Chip) (e : Nat) (h : EngH) (c' : Chip) : Prop :=
  c'.eng e = h ∧ (∀ k : Nat, k ≠ e → c'.eng k = c.eng k) ∧ c'.acd.jobs = c.acd.jobs ∧
    c'.acd.expected = c.acd.expected ∧ c'.acd.emits = c.acd.emits

/-- Engine e, of a tile that is enabled, is in RUN with a record, and the instruction at its PC, which is not the
last, has this opcode. -/
def State.executes (s : State) (e op : Nat) : Bool :=
  s.chip.coreUp && s.chip.tileEn (e / 128) && s.chip.engState e == enRun && (s.chip.eng e).hand.isSome && insnOp (s.chip.insn e) == op &&
    s.chip.fld F.ACD_ENG_STATUS.PC e != 511

/-- PC of the engine. -/
def State.pc (s : State) (e : Nat) : Nat := s.chip.fld F.ACD_ENG_STATUS.PC e

/-- The instruction completes with engine e at h and its PC at the next instruction, and changes nothing else. -/
def Advances (i : Instr) (s : State) (e : Nat) (h : EngH) : Prop :=
  Sets i s [F.ACD_ENG_STATUS.PC.is (s.pc e + 1) e] [.acd] [] (s.chip.engIs e h)

/-- An error report of engine e would stall: a window that takes one is of a partition held back (R121). -/
def Chip.reportOff (c : Chip) (e : Nat) : Bool :=
  let j := c.handJob e
  ((List.range 4).filterMap (c.slotWindow? j)).any fun w => c.flag F.ACD_DST_A.RPT_EN (j / 32) w && c.windowOff j w

/-- What an error report of engine e waits in: one that stalls joins the stalled requests (R121). -/
def Chip.reportParts (c : Chip) (e : Nat) : List Part := if c.reportOff e then [.acd, .flt, .parts] else [.acd, .flt]

/-- What engine e shows once its record has ended: IDLE, or what stalls it (R380). -/
def Chip.endState (c : Chip) (e : Nat) : Nat :=
  if c.engStalled e || c.reportOff e then enMaster else if c.engHeldWrite e then enMeter else enIdle

/-- ACD_JOB_STATUS.MASTER_OFF of the job of engine e, once that engine is in a state (R380). -/
def Chip.jobShows (c : Chip) (e st : Nat) : List FieldVal :=
  match c.jobOf? e with
  | some j => [F.ACD_JOB_STATUS.MASTER_OFF.is
      (b2n ((c.jobEngines j).any fun x => (if x = e then st else c.engState x) == enMaster)) (j / 32) (j % 32)]
  | none => []

/-- The record that engine e has in hand ends in error with a status and FLAGS (R379): the error is recorded and counted, and
the engine is IDLE, or shows what stalls it. -/
def ErrorEnds (i : Instr) (s : State) (e status flags : Nat) : Prop :=
  ∀ r, (s.chip.eng e).hand = some r →
    Sets i s ([Reg.ACD_ENG_LAST_ERR.is (word (status * 2 ^ 24 + flags * 2 ^ 16 + s.pc e)) e,
        F.ACD_ENG_STATUS.STATE.is (s.chip.endState e) e,
        F.ACD_JOB_ERR.COUNT.is (s.chip.counted F.ACD_JOB_ERR.COUNT (r.job / 32) (r.job % 32)) (r.job / 32) (r.job % 32),
        F.ACD_JOB_DONE.COUNT.is ((s.chip.jfld F.ACD_JOB_DONE.COUNT r.job + 1) % 2 ^ 32) (r.job / 32) (r.job % 32)] ++
        s.chip.jobShows e (s.chip.endState e))
      (s.chip.reportParts e) (countRegs ++ faultRegs)
      (fun c => (c.eng e).hand = none ∧ (c.eng e).g = (s.chip.eng e).g ∧ (c.job r.job).order =
        (s.chip.job r.job).order.filter (· != r.recno) ∧ ∀ k : Nat, k ≠ e → c.eng k = s.chip.eng k)

/-- No engine has anything still to send (R189). -/
abbrev Chip.allSent (c : Chip) : Prop := (c.acd.engs.all fun e => e.2.out.isEmpty) = true

/-- A completion of n bytes for firmware is handed over at once: it finds cells of the management reservation, and none waits
before it or is still arriving (R184, R193). -/
abbrev Chip.takesBack (c : Chip) (n : Nat) : Prop :=
  c.cel.waiting = [] ∧ c.cel.flcWaiting = [] ∧ c.mgmtUsed + n / 256 + 2 ≤ 512 ∧ ∀ k ∈ c.cel.copies, k.dest ≠ .requester .firmware

/-- What has left the device since, latest first. -/
def Chip.newOuts (c c' : Chip) : List Out := c'.outs.take (c'.outs.length - c.outs.length)

/-- The packet that leaves by port n, of an output that is one. -/
def Out.tlpOn (n : Nat) : Out → Option Packet
  | .tlp m p => if m = n then some p else none
  | _ => none

/-- A Fuse Box channel in a state: its fault timer reads idle outside QUALIFY and ON, and RAMPING counts the channels in a ramp
phase (Table 13.3, R441). -/
def Chip.chanIs (c : Chip) (f st : Nat) : List FieldVal :=
  let at_ (k : Nat) : Nat := if k = f then st else c.fld F.FUS_CHAN_STATUS.STATE k
  [F.FUS_CHAN_STATUS.STATE.is st f,
   F.FUS_STATUS.RAMPING.is ((List.range 24).filter fun k => at_ k == fuPrecharge || at_ k == fuRamp).length] ++
    if st = fuQualify ∨ st = fuOn then [] else [F.FUS_CHAN_STATUS.FT_RUN.is 0 f]

/-- PG of a channel, in its own status and in FUS_STATUS. -/
def Chip.pgIs (c : Chip) (f : Nat) (b : Bool) : List FieldVal :=
  [F.FUS_CHAN_STATUS.PG.is (b2n b) f, F.FUS_STATUS.PG.is (putBit (c.fld F.FUS_STATUS.PG) f b)]

/-- A channel's own part once it is in a state: its fault timer is idle outside QUALIFY and ON (R444). -/
def FusChan.at (h : FusChan) (st : Nat) : FusChan := if st = fuQualify ∨ st = fuOn then h else { h with timer := 0 }

/-- The fault timer of a channel after a sample period with a current (R444). -/
def Chip.timerAfter (c : Chip) (f ma : Nat) : Nat :=
  if c.fld F.FUS_CHAN_LIM.ILIM f < ma then (c.fus1 f).timer + 8 else (c.fus1 f).timer - 1

/-- A second cause in the sample period of a trip prevails over the first (Table 13.8): LAST_TRIP shows it. -/
def Prevails (i : Instr) (s : State) (f was kind : Nat) : Prop :=
  (s.chip.fuState f = fuCooldown → s.chip.fld F.FUS_CHAN_STATUS.LAST_TRIP f = was →
    (s.chip.fus1 f).tripAt = some s.chip.fus.samples →
    Sets i s [F.FUS_CHAN_STATUS.LAST_TRIP.is kind f] [.flt] [] (fun c => c.flt.intake.length = s.chip.flt.intake.length ∧
      ∀ m ∈ c.flt.intake, m ∈ s.chip.flt.intake ∧ ¬ (m.source = 0x1A8 + f ∧ m.kind = 0x18 ∧ m.handle = was) ∨
        m.source = 0x1A8 + f ∧ m.kind = 0x18 ∧ m.handle = kind)) ∧
  (s.chip.fuState f ≠ fuCooldown ∨ s.chip.fld F.FUS_CHAN_STATUS.LAST_TRIP f ≠ was ∨
      (s.chip.fus1 f).tripAt ≠ some s.chip.fus.samples → exec i s = .next s)

/-- Of the channels only f changes, to h, and the others keep their places in the order of R441. -/
def Chip.fusIs (c : Chip) (f : Nat) (h : FusChan) (c' : Chip) : Prop :=
  c'.fus1 f = h ∧ (∀ k : Nat, k ≠ f → c'.fus1 k = c.fus1 k) ∧ c'.fus.samples = c.fus.samples ∧
    c'.fus.order.filter (fun q => q.1 != f) = c.fus.order.filter (fun q => q.1 != f)

/-- The command trips channel f, for a cause of Table 13.5 (R446): the output is off, PG deasserts, PERST_OUT_N asserts, and
the trip is recorded, counted and reported. -/
def Trips (i : Instr) (s : State) (f kind : Nat) (more : List FieldVal := []) : Prop :=
  Sets i s (s.chip.chanIs f fuCooldown ++ s.chip.pgIs f false ++ [F.FUS_CHAN_STATUS.LAST_TRIP.is kind f,
      F.FUS_CHAN_TRIPS.TRIPS.is (s.chip.counted F.FUS_CHAN_TRIPS.TRIPS f) f] ++ more) [.fus, .flt] (countRegs ++ faultRegs)
    (fun c => s.chip.fusIs f { s.chip.fus1 f with
        gate := false, pchg := false, perstHigh := false, delayDone := false
        coolOff := s.chip.fuState f == fuPreoff, tripAt := some s.chip.fus.samples, timer := 0 } c ∧ c.raised (0x1A8 + f) 0x18 (fun h => h = kind))

/-- Slot Status bit b of the slot that a channel feeds is 1. -/
def Chip.slotBit (c : Chip) (f b : Nat) : Prop := ∀ n : Nat, c.slotPort? f = some n → c.cfgBit (.port n) 0x88 b = true

/-- What a delayed read of the segment holds when it holds data: its bytes, each with whether it came poisoned. -/
def DelData.held? : DelData → Option (List (Byte × Bool))
  | .data bs => some bs
  | _ => none

/-- What a delayed read that still waits has received. -/
def DelData.got? : DelData → Option (List (Byte × Bool))
  | .waiting got => some got
  | _ => none

/-- The packet handed to a requester inside the device, of an output that is one. -/
def Out.deliveredTo (w : Src) : Out → Option Packet
  | .deliver x p => if x = w then some p else none
  | _ => none

/-- A Fleren link that went down between two devices (Table 4.11, R479): it is in DOWN, DOWNS has counted it, nothing is left to
send, and the port is held unless the device is in its safe state. -/
def Chip.flWentDown (c c' : Chip) (n : Nat) : Prop :=
  c'.lstate n = flDown ∧ c'.fld F.PRT_FL_RETRAIN_CNT.DOWNS n = c.counted F.PRT_FL_RETRAIN_CNT.DOWNS n ∧
    (c'.flp n).tx = [] ∧ (c'.flp n).due = [] ∧ c'.fld F.PRT_FL_STATUS.LANE_LOCK n = 0 ∧
    (c.safe = false → c'.bitOf .FLT_CONTAIN_PORT n = true)

/-- Only the Fleren port n of the Fleren ports changes, to h. -/
def Chip.flpIs (c : Chip) (n : Nat) (h : FlH) (c' : Chip) : Prop :=
  c'.flp n = h ∧ ∀ m : Nat, m ≠ n → c'.flp m = c.flp m

/-- A control block with these fields reaches a Fleren port whole, with its CHECK correct (R133, R134). -/
abbrev Chip.hears (c : Chip) (n : Nat) (b : BlockRest) (kind body : Nat) : Prop :=
  c.isFleren n = true ∧ (b.damaged && (c.flp n).light) = false ∧ b.ok kind body = true

/-- A control block as a port sends it next: on the lane whose turn it is, with the trailer that is owed (R129, R136). -/
def Chip.blockOut (c : Chip) (n : Nat) (b : CtlBlock) : Out :=
  .block n ((c.flp n).pos % c.flWidth n) b (b.payload (c.flp n).trail)

/-- A DISC packet as a Fleren port receives it. -/
abbrev FabHdr.asDisc (h : FabHdr) : Packet := { kind := .msg, hdrBytes := 32, fab := some h }

/-- The receive credits of the TLPs that hold none any longer have returned (R187): what the device sends, but for the returns,
is `outs`. -/
def Chip.repays (c c' : Chip) (outs : List Out) : Prop :=
  let go := c.cel.owed.filter fun e => !c'.holdsCredits e.rx
  c'.cel.owed = c.cel.owed.filter (fun e => c'.holdsCredits e.rx) ∧
    c'.outs = ((go.filter fun e => (c.advertised e.port e.cat).isSome && c.flag F.PRT_LINK_STATUS.DL_ACTIVE e.port).map
      fun e => Out.updateFc e.port e.cat e.data).reverse ++ outs

/-- Each field of the registers that a test names keeps its value when its survival code is one of those given, and else
takes its Reset value (R14 to R17). -/
def Chip.survives (c c' : Chip) (codes : List Surv) (sel : Reg → Bool) : Prop :=
  ∀ k : RegKey, sel k.reg = true → ∀ f ∈ k.reg.fields,
    wget (c'.regs.get k) f.hi f.lo = if f.surv ∈ codes then wget (c.regs.get k) f.hi f.lo else wget k.reset f.hi f.lo

/-- The registers whose fields a reset of the chip leaves to their survival codes alone: in the others it records itself, the
reference in use, the seating pins, a lifecycle transition and a trace that it stopped. -/
def resetPlain (r : Reg) : Bool :=
  !decide (r ∈ [.PWR_STATUS, .PWR_RESET_CAUSE, .FUS_CHAN_STATUS, .FLT_SIL_STATUS, .GAT_LIFECYCLE])

/-- The command resets the chip, from device `base`, with a cause (RST of Table 16.9; R544, R554, R556, R557): the units that
no register shows are at rest, the boot is due, and of the memories MAGIC of the Attic alone is cleared. -/
def ChipResets (base : Chip) (i : Instr) (s : State) (cause : Nat) (more : Chip → Prop := fun _ => True) : Prop :=
  After i s fun t => t.chip.fld F.PWR_RESET_CAUSE.CAUSE = cause ∧ t.chip.coreUp = false ∧ t.chip.pwr.bootDue = true ∧
    base.survives t.chip [.rst, .por] resetPlain ∧ t.chip.cel = {} ∧ t.chip.acd = {} ∧ t.chip.lanes = [] ∧ t.chip.fl = [] ∧
    t.chip.flt = {} ∧ t.chip.cfg = [] ∧ (∀ f < 24, t.chip.fus1 f = { energy := (base.fus1 f).energy }) ∧ t.chip.pwr.faultN = false ∧ t.chip.fld F.PWR_STATUS.STATE = 0 ∧
    t.mem.pantry = s.mem.pantry ∧ t.mem.attic = Cells.putAll s.mem.attic 0xFF00 [0, 0, 0, 0] ∧ more t.chip

/-- A power-on reset (R544, R558): the always-on domain takes its Reset values and the memories lose their contents; the core
waits for its rails. -/
def PowersOn (i : Instr) (s : State) (cell : Bool) : Prop :=
  After i s fun t => t.chip.fld F.PWR_RESET_CAUSE.CAUSE = 1 ∧ t.chip.coreUp = false ∧ t.chip.pwr.bootDue = true ∧
    s.chip.survives t.chip [.por] resetPlain ∧ t.chip.pwr.coreOn = false ∧ t.chip.pwr.slotOn = false ∧
    t.chip.pwr.railsBad = true ∧ t.chip.pwr.vaonCell = cell ∧ t.chip.fus = {} ∧ t.chip.fld F.PWR_STATUS.STATE = 0 ∧
    t.mem = { pantry := [], attic := [], fw := [] }

/-- The result of a command awaits its acknowledgement, and nothing is left to execute of it. -/
def LbxH.answer (h : LbxH) (n code : Nat) (ws : List Word) : LbxH :=
  { h with boxes := h.boxes.set default n { h.boxes.get default n with result := some (code, ws), todo := false } }

/-- Ecseric comes to the command of Letterbox n, which has an opcode and is first of those that wait, and the device is not
in recovery mode. -/
def State.serves (s : State) (n op : Nat) : Bool :=
  s.chip.coreUp && s.chip.fld F.LBX_FW_STATUS.RECOVERY == 0 && s.chip.lbxDue n op && s.chip.lbx.order.head? == some n

/-- Letterbox n is the Owner's, or the debug port's while the lifecycle is OPEN (R500, R585). -/
def State.mayOwn (s : State) (n : Nat) : Bool := s.chip.owner? == some n || (n == 33 && s.chip.fld F.GAT_LIFECYCLE.STATE == 0)

/-- The device as the end of ownership leaves it (R509): without an Owner, without expert unlock and without a pending
handover, and with OWNER_CHANGE raised with index 0x3F. -/
def Chip.ownerless (c : Chip) : Prop :=
  c.owner? = none ∧ c.fld F.LBX_OWNER.OWNER = 0x3F ∧ c.fld F.LBX_OWNER.EXPERT = 0 ∧ c.fld F.LBX_OWNER.HO_PEND = 0 ∧
    c.lbx.hoFrom = none ∧ c.raised 0x1D8 0x24 (fun h => h = 0x3F)

/-- The command is a write of BAR0: of a register that has a row of its own, of an offset of a block, or in a Pantry
window. -/
def Chip.writesBar0 (c : Chip) (i : Instr) : Bool :=
  match i with
  | .registerWrite _ off _ => (pantryAt off).isSome || (c.keyAt off).isSome || (blockAt off).isSome
  | .pairLoWrite _ off _ | .pairHiWrite _ off _ => (pantryAt off).isNone && (c.keyAt off).isSome
  | .readClear _ _ | .pairLoRead _ _ | .timTsRead _ | .lpbCfgRead _ _ => false
  | i => i.access?.isSome

/-- The device once Ecseric has taken the command of Letterbox n from those that wait. -/
def State.taken (s : State) : Dev :=
  { mem := s.mem, chip := { s.chip with lbx := { s.chip.lbx with order := s.chip.lbx.order.tail } }.pulse 0xC06 0x10 }

/-- Ecseric answers the command of Letterbox n with a code and reply words; `f` is what has changed of the Letterboxes
before that. -/
def Answers (i : Instr) (s : State) (n code : Nat) (ws : List Word) (vals : List FieldVal := []) (ps : List Part := [])
    (rs : List Reg := []) (f : LbxH → LbxH := id) : Prop :=
  Sets i s vals (.lbx :: ps) (countRegs ++ rs)
    fun c => c.lbx = (f { s.chip.lbx with order := s.chip.lbx.order.tail }).answer n code ws

end Sys2Proof.Machine
end

