-- ==== Sys2Proof/Certificates/Slice0/Obligations.lean ====
section
/-! DEFINITION. The statements about the model. -/

open Sys2Proof Machine

/-! ### Steps, the queue, reset and the memories -/

/-- A step on a queue with a command in front runs that command on the state whose queue is the rest; a step on an
empty queue lets one Hallway cycle pass (log entry 6) and touches no memory. It rests on log entries 1 and 6. -/
def Obligations.StepTakesFront : Prop :=
  (∀ (i : Instr) (s : State), step { s with pending := i :: s.pending } = exec i s) ∧
  (∀ (s : State), s.pending = [] →
    ∃ t, step s = .next t ∧ t.pending = [] ∧ t.mem = s.mem ∧ t.chip.hwy = s.chip.hwy + 1 ∧ t.chip.cel = s.chip.cel)

/-- Every command answers a next state, from every state, and leaves the commands that wait as they are: no rule of
the spec stops the device. It rests on log entry 9. -/
def Obligations.CommandsComplete : Prop :=
  ∀ (i : Instr) (s : State), ∃ t, exec i s = .next t ∧ t.pending = s.pending

/-- The state after reset: fields of every block at the Reset values of their field tables, and no command waiting. It
rests on log entries 2 and 43. -/
def Obligations.ResetValues : Prop :=
  (∀ e ∈ [F.GLB_ID.PART.is 0x7192, F.GLB_MODE.MODE.is 9, F.GLB_MODE.PREV_MODE.is 9, F.GLB_MODE.BUSY.is 0,
      F.LBX_OWNER.VALID.is 0, F.LBX_OWNER.OWNER.is 0x3F, F.LBX_ELECT_CFG.WIN.is 50, F.LBX_ELECT_CFG.HO_TMO.is 100, F.PWR_STATUS.STATE.is 0,
      F.PWR_CTL.TARGET.is 2, F.PWR_RESET_CAUSE.CAUSE.is 1, F.PWR_CFG.ENTRY_TMO.is 100, F.PWR_CFG.T_THROT.is 840,
      F.PWR_CFG.T_WARN.is 800, F.PWR_SUPPLY_MIN.VDD_MIN.is 0xFFFF, F.FLT_ACT.ACT.is 0x01 0, F.FLT_ACT.ACT.is 0x03 1,
      F.FLT_ACT.ACT.is 0x1B 2, F.FLT_ACT.ACT.is 0x2F 3, F.SCH_CTX_CBS.CBS.is 4224 8191, F.LBX_CTL.VEC.is 1 33],
    e.holds State.reset.chip) ∧
  (∀ u < 4096, State.reset.chip.fld F.TCT_UNIT_STATUS.UNIT u = u) ∧
  (∀ (r : Reg) (i j : Nat), r ∉ [.GAT_GATE_CFG, .GAT_GATE_DEF, .FLT_ACT, .TCT_UNIT_STATUS] →
    State.reset.chip.reg r i j = word r.resetNat) ∧
  State.reset.pending = []

/-- After reset the memories are in their canonical form. It rests on log entry 5. -/
def Obligations.ResetMemory : Prop :=
  State.reset.memOk

/-- Every step keeps the memories in their canonical form, from every state in which they are: addresses strictly
rising, and no byte listed that equals what an unlisted address reads as. It rests on log entry 5. -/
def Obligations.StepsKeepMemory : Prop :=
  ∀ (s t : State), s.memOk → step s = .next t → t.memOk

/-! ### Lanes (spec/02_serdes.md) -/

/-- Lane states, R54 to R60 and Table 2.6. Lanes of a Fleren port that wakes its link are in the statements about
Fleren. It rests on log entries 7, 9, 15 and 52. -/
def Obligations.LaneStates : Prop :=
  (∀ (t : Fin 12) (s : State), s.chip.coreUp = true → Reaches (.refRestore t) s fun c => c.flag F.SDS_REF_STATUS.REF_OK t = true) ∧
  (∀ (t : Fin 12) (s : State), s.chip.coreUp = true →
    (∀ n < 96, tileOf n = t → s.chip.isFleren n = true → s.chip.lstate n ∉ [flHunt, flAlign, flInit, flUpState, flRetrain]) →
    Sets (.refRestore t) s [F.SDS_REF_STATUS.REF_OK.is 1 t]) ∧
  (∀ (l : Fin 192) (s : State), s.chip.coreUp = true →
    (s.chip.laneState l = lnActive ∨ s.chip.laneState l = lnStandby) →
    Sets (.deepEntry l) s
      ([F.SDS_LN_STATUS.STATE.is (if s.chip.flag F.SDS_LN_PWR.DEEP_EN l then lnEntering else lnStandby) l,
        F.SDS_LN_STATUS.CDR_LOCK.is 0 l, F.SDS_LN_STATUS.SIG_DET.is 0 l,
        F.SDS_LN_RXSTAT.ADAPT_STATE.is (if s.chip.laneState l = lnActive ∧ s.chip.frozen l = false ∧ s.chip.adapt l ≠ 4
          then 0 else s.chip.adapt l) l] ++ eyeEnds s.chip l) [.free]) ∧
  (∀ (l : Fin 192) (s : State), s.chip.coreUp = true → s.chip.laneState l = lnEntering →
    ((s.chip.lane l).exitHeld = false ∨ s.chip.flag F.SDS_REF_STATUS.REF_OK (laneTile l) = true ∨ s.chip.laneOwner? l = none) →
    Sets (.deepEntryDone l) s
      [F.SDS_LN_STATUS.STATE.is (if (s.chip.lane l).exitHeld ∧ s.chip.flag F.SDS_REF_STATUS.REF_OK (laneTile l) then lnExiting
        else lnDeep) l, F.SDS_LN_STATUS.PLL_LOCK.is 0 l,
       F.SDS_LN_STATUS.EXIT_FAIL.is (if (s.chip.lane l).exitHeld ∧ s.chip.flag F.SDS_REF_STATUS.REF_OK (laneTile l) = false
        then 1 else s.chip.fld F.SDS_LN_STATUS.EXIT_FAIL l) l] [.lanes] []
      (fun c => c.lane l = { s.chip.lane l with exitHeld := false } ∧ ∀ m : Nat, m ≠ l → c.lane m = s.chip.lane m)) ∧
  (∀ (l : Fin 192) (s : State), s.chip.coreUp = true → s.chip.laneState l = lnDeep →
    (s.chip.flag F.SDS_REF_STATUS.REF_OK (laneTile l) = true ∨ s.chip.laneOwner? l = none) →
    Sets (.deepExit l false) s
      [F.SDS_LN_STATUS.STATE.is (if s.chip.flag F.SDS_REF_STATUS.REF_OK (laneTile l) then lnExiting else lnDeep) l,
       F.SDS_LN_STATUS.EXIT_FAIL.is (if s.chip.flag F.SDS_REF_STATUS.REF_OK (laneTile l)
        then s.chip.fld F.SDS_LN_STATUS.EXIT_FAIL l else 1) l]) ∧
  (∀ (l : Fin 192) (s : State), s.chip.coreUp = true → s.chip.laneState l = lnDeep → s.chip.flLane? l = none →
    (s.chip.flag F.SDS_REF_STATUS.REF_OK (laneTile l) = true ∨ s.chip.laneOwner? l = none) →
    Sets (.deepExit l true) s
      [F.SDS_LN_STATUS.STATE.is (if s.chip.flag F.SDS_REF_STATUS.REF_OK (laneTile l) then lnExiting else lnDeep) l,
       F.SDS_LN_STATUS.SIG_DET.is 1 l,
       F.SDS_LN_STATUS.EXIT_FAIL.is (if s.chip.flag F.SDS_REF_STATUS.REF_OK (laneTile l)
        then s.chip.fld F.SDS_LN_STATUS.EXIT_FAIL l else 1) l]) ∧
  (∀ (l : Fin 192) (n : Nat) (s : State), s.chip.coreUp = true → s.chip.laneState l = lnDeep →
    s.chip.flag F.SDS_REF_STATUS.REF_OK (laneTile l) = false → s.chip.laneOwner? l = some n → s.chip.isPcie n = true →
    s.chip.flag F.PRT_LINK_STATUS.DL_ACTIVE n = true →
    Reaches (.deepExit l false) s fun c => c.flag F.PRT_LINK_STATUS.DL_ACTIVE n = false ∧
      (s.chip.role n ≠ 1 → c.flag F.SDS_LN_STATUS.EXIT_FAIL l = true)) ∧
  (∀ (l : Fin 192) (s : State), s.chip.coreUp = true → s.chip.laneState l = lnEntering →
    Sets (.deepExit l false) s [] [.lanes] []
      (fun c => c.lane l = { s.chip.lane l with exitHeld := true } ∧ ∀ m : Nat, m ≠ l → c.lane m = s.chip.lane m)) ∧
  (∀ (l : Fin 192) (ns : Fin 65536) (s : State), s.chip.coreUp = true → s.chip.laneState l = lnExiting →
    s.chip.frozen l = false → s.chip.adapt l ≠ 4 → s.chip.txAsked? l = none →
    Sets (.deepExitDone l ns) s
      [F.SDS_LN_STATUS.STATE.is lnActive l, F.SDS_LN_STATUS.PLL_LOCK.is 1 l, F.SDS_LN_STATUS.CDR_LOCK.is 1 l,
       F.SDS_LN_STATUS.SIG_DET.is 1 l, F.SDS_LN_STATUS.EXIT_FAIL.is 0 l, F.SDS_LN_EXIT_LAST.TIME.is ns l, F.SDS_LN_RXSTAT.ADAPT_STATE.is 2 l,
       F.SDS_LN_RXSTAT.CTLE.is (match (s.chip.lane l).stored with
        | some q => q.1 % 16 | none => s.chip.fld F.SDS_LN_RXSTAT.CTLE l) l,
       F.SDS_LN_RXSTAT.VGA.is (match (s.chip.lane l).stored with
        | some q => q.2 % 16 | none => s.chip.fld F.SDS_LN_RXSTAT.VGA l) l]) ∧
  (∀ (l : Fin 192) (ns : Fin 65536) (s : State), s.chip.coreUp = true → s.chip.laneState l = lnExiting →
    Reaches (.deepExitDone l ns) s fun c => c.laneState l = lnActive ∧ c.fld F.SDS_LN_STATUS.PLL_LOCK l = 1 ∧
      c.fld F.SDS_LN_STATUS.EXIT_FAIL l = 0 ∧ c.fld F.SDS_LN_EXIT_LAST.TIME l = ns ∧
      (s.chip.frozen l = true → c.adapt l = s.chip.adapt l) ∧
      (s.chip.frozen l = false → s.chip.adapt l = 4 → (c.lane l).stored = none)) ∧
  (∀ (l : Fin 192) (s : State), s.chip.coreUp = true → s.chip.laneState l = lnStandby → s.chip.flLane? l = none →
    s.chip.frozen l = false → s.chip.adapt l ≠ 4 → s.chip.txAsked? l = none →
    Sets (.standbyExit l) s
      [F.SDS_LN_STATUS.STATE.is lnActive l, F.SDS_LN_STATUS.PLL_LOCK.is 1 l, F.SDS_LN_STATUS.CDR_LOCK.is 1 l,
       F.SDS_LN_STATUS.SIG_DET.is 1 l, F.SDS_LN_RXSTAT.ADAPT_STATE.is 2 l,
       F.SDS_LN_RXSTAT.CTLE.is (match (s.chip.lane l).stored with
        | some q => q.1 % 16 | none => s.chip.fld F.SDS_LN_RXSTAT.CTLE l) l,
       F.SDS_LN_RXSTAT.VGA.is (match (s.chip.lane l).stored with
        | some q => q.2 % 16 | none => s.chip.fld F.SDS_LN_RXSTAT.VGA l) l])

/-- Receiver adaptation (R69 to R72), and the eye monitor (R74, R75, R103). It rests on log entries 3, 7, 9, 15 and
52. -/
def Obligations.LaneAdaptationAndEye : Prop :=
  (∀ (l : Fin 192) (ctle vga : Fin 16) (s : State), s.chip.coreUp = true → s.chip.laneState l = lnActive →
    s.chip.adapt l = 1 → s.chip.frozen l = false →
    Sets (.coarseDone l ctle vga) s [F.SDS_LN_RXSTAT.CTLE.is ctle l, F.SDS_LN_RXSTAT.VGA.is vga l,
      F.SDS_LN_STATUS.CDR_LOCK.is 1 l, F.SDS_LN_RXSTAT.ADAPT_STATE.is 2 l]) ∧
  (∀ (l : Fin 192) (ctle vga : Fin 16) (snr : Fin 256) (s : State), s.chip.coreUp = true →
    s.chip.laneState l = lnActive → s.chip.adapt l = 2 → s.chip.frozen l = false →
    Sets (.fineDone l ctle vga snr) s [F.SDS_LN_RXSTAT.CTLE.is ctle l, F.SDS_LN_RXSTAT.VGA.is vga l,
      F.SDS_LN_RXSTAT.SNR.is snr l, F.SDS_LN_RXSTAT.ADAPT_STATE.is 3 l] [.lanes] []
      (fun c => c.lane l = { s.chip.lane l with stored := some (ctle.val, vga.val) } ∧
        ∀ m : Nat, m ≠ l → c.lane m = s.chip.lane m)) ∧
  (∀ (l : Fin 192) (s : State), s.chip.coreUp = true → (s.chip.adapt l = 1 ∨ s.chip.adapt l = 2) →
    s.chip.frozen l = false → s.chip.laneFleren l = false →
    Sets (.adaptTimeout l) s [F.SDS_LN_RXSTAT.ADAPT_STATE.is 4 l, F.SDS_LN_STATUS.CDR_LOCK.is 0 l] [.flt] faultRegs
      (fun c => ∃ m ∈ c.flt.intake, m.kind = 0x0A ∧ m.sev = 1 ∧ m.handle = l ∧
        m.source = tileSrc (laneTile l) (8 + l % 16 / 4))) ∧
  (∀ (l : Fin 192) (ctle vga : Fin 16) (snr : Fin 256) (s : State), s.chip.frozen l = true →
    exec (.coarseDone l ctle vga) s = .next s ∧ exec (.fineDone l ctle vga snr) s = .next s ∧
      exec (.adaptTimeout l) s = .next s) ∧
  (∀ (a : Access) (l : Fin 192) (v : Word) (s : State) (c : Chip), s.passes a ⟨.SDS_LN_RXCTL, l, 0⟩ v c → wbit v 1 = true →
    (c.isExpert a.who = false → c.frozen l = false) → (c.isExpert a.who = true → wbit v 0 = false) →
    Reaches (.adaptRestart a l v) s fun t => t.adapt l = 1 ∧ (t.lane l).stored = none ∧
      t.fld F.SDS_LN_STATUS.CDR_LOCK l = 0 ∧ t.fld F.SDS_LN_EYE_STAT.STATE l ≠ 1) ∧
  (∀ (a : Access) (l : Fin 192) (v : Word) (s : State) (c : Chip), s.passes a ⟨.SDS_LN_RXCTL, l, 0⟩ v c →
    c.isExpert a.who = true → wbit v 1 = false →
    Reaches (.adaptFreeze a l v) s fun t => t.flag F.SDS_LN_RXCTL.FREEZE l = wbit v 0 ∧ t.adapt l = s.chip.adapt l ∧
      (t.lane l).stored = (s.chip.lane l).stored) ∧
  (∀ (a : Access) (l : Fin 192) (v : Word) (s : State) (c : Chip), s.passes a ⟨.SDS_LN_EYE_CTL, l, 0⟩ v c → wbit v 31 = true →
    c.fld F.SDS_LN_EYE_STAT.STATE l = 1 →
    SetsPast c (.eyeStart a l v) s [F.SDS_CLAMP_SEEN.COUNT.is
      (min (c.fld F.SDS_CLAMP_SEEN.COUNT (laneTile l) + 1) F.SDS_CLAMP_SEEN.COUNT.max) (laneTile l)]) ∧
  (∀ (a : Access) (l : Fin 192) (v : Word) (s : State) (c : Chip), s.passes a ⟨.SDS_LN_EYE_CTL, l, 0⟩ v c → wbit v 31 = true →
    c.fld F.SDS_LN_EYE_STAT.STATE l ≠ 1 → (c.lane l).margining = false → c.laneState l = lnActive → c.adapt l = 3 →
    SetsPast c (.eyeStart a l v) s [F.SDS_LN_EYE_STAT.STATE.is 1 l, Reg.SDS_LN_EYE_ERR_LO.is 0 l, Reg.SDS_LN_EYE_ERR_HI.is 0 l,
      Reg.SDS_LN_EYE_CNT_LO.is 0 l, Reg.SDS_LN_EYE_CNT_HI.is 0 l, Reg.SDS_LN_EYE_CTL.any l,
      F.SDS_CLAMP_SEEN.COUNT.any (laneTile l), F.GLB_CLAMP_SEEN.DROPPED.any] [.lanes] []
      (fun t => t.lane l = { c.lane l with probe := t.reg .SDS_LN_EYE_CTL l } ∧ ∀ m : Nat, m ≠ l → t.lane m = c.lane m)) ∧
  (∀ (a : Access) (l : Fin 192) (v : Word) (s : State) (c : Chip), s.passes a ⟨.SDS_LN_EYE_CTL, l, 0⟩ v c → wbit v 31 = true →
    c.fld F.SDS_LN_EYE_STAT.STATE l ≠ 1 → ((c.lane l).margining = true ∨ c.laneState l ≠ lnActive ∨ c.adapt l ≠ 3) →
    SetsPast c (.eyeStart a l v) s [F.SDS_LN_EYE_STAT.STATE.is (if (c.lane l).margining then 5 else 4) l,
      Reg.SDS_LN_EYE_CTL.any l, F.SDS_CLAMP_SEEN.COUNT.any (laneTile l), F.GLB_CLAMP_SEEN.DROPPED.any]) ∧
  (∀ (l : Fin 192) (mismatches : Nat) (s : State), s.chip.coreUp = true → s.chip.fld F.SDS_LN_EYE_STAT.STATE l = 1 →
    let n := 2 ^ wget (s.chip.lane l).probe 27 22
    let e := min mismatches n
    Sets (.eyeDone l mismatches) s [F.SDS_LN_EYE_STAT.STATE.is 2 l, Reg.SDS_LN_EYE_CNT_LO.is (word n) l,
      Reg.SDS_LN_EYE_CNT_HI.is (word (n / 2 ^ 32)) l, Reg.SDS_LN_EYE_ERR_LO.is (word e) l,
      Reg.SDS_LN_EYE_ERR_HI.is (word (e / 2 ^ 32)) l]) ∧
  (∀ (a : Access) (l : Fin 192) (v : Word) (s : State) (c : Chip), s.passes a ⟨.SDS_LN_EYE_CTL, l, 0⟩ v c →
    wbit v 31 = false → wbit v 30 = true →
    SetsPast c (.eyeAbort a l v) s (eyeEnds c l ++ [Reg.SDS_LN_EYE_CTL.any l, F.SDS_CLAMP_SEEN.COUNT.any (laneTile l),
      F.GLB_CLAMP_SEEN.DROPPED.any]) [.free]) ∧
  (∀ (l : Fin 192) (holds : Bool) (s : State), s.chip.coreUp = true →
    3 ≤ s.chip.fld F.SDS_LN_STATUS.RATE l → s.chip.fld F.SDS_LN_STATUS.RATE l ≤ 6 →
    Sets (.laneMargining l holds) s (eyeEnds s.chip l) [.lanes, .free] []
      (fun c => c.lane l = { s.chip.lane l with
          margining := holds
          probe := if holds ∧ 5 ≤ s.chip.fld F.SDS_LN_STATUS.RATE l then wset 0 29 28 1 else (s.chip.lane l).probe } ∧
        ∀ m : Nat, m ≠ l → c.lane m = s.chip.lane m))

/-- The transmit equaliser, R62 to R68: a write of SDS_LN_TXEQ is clamped and counted once, C_MAIN is derived, and the
set takes effect or is held; a held set takes effect; a partner's request is taken or rejected and counted. It rests
on log entries 9 and 15. -/
def Obligations.LaneEqualiser : Prop :=
  (∀ (a : Access) (l : Fin 192) (v : Word) (inEq : Bool) (s : State) (c : Chip), s.passes a ⟨.SDS_LN_TXEQ, l, 0⟩ v c →
    c.isExpert a.who = true →
    let pre := min (wget v 15 12) 12
    let post := if pre + min (wget v 20 16) 16 > 16 then 16 - pre else min (wget v 20 16) 16
    let fl := flPreset (wget v 26 24)
    let asked : Option TxSet :=
      if wbit v 31 then some { pre, post, source := 3 }
      else if c.laneFleren l then some { pre := fl.1, post := fl.2, source := 2, preset := wget v 26 24 }
      else none
    let counts := F.SDS_CLAMP_SEEN.COUNT.is (if pre = wget v 15 12 ∧ post = wget v 20 16
      then c.fld F.SDS_CLAMP_SEEN.COUNT (laneTile l) else c.counted F.SDS_CLAMP_SEEN.COUNT (laneTile l)) (laneTile l)
    (inEq = false →
      SetsPast c (.txeqWrite a l v inEq) s
        ([F.SDS_LN_TXEQ.MODE.is (wget v 31 31) l, F.SDS_LN_TXEQ.FL_PRESET.is (wget v 26 24) l, F.SDS_LN_TXEQ.C_PRE.is pre l,
          F.SDS_LN_TXEQ.C_POST.is post l, F.SDS_LN_TXEQ.C_MAIN.is (48 - pre - post) l, Reg.SDS_LN_TXEQ.any l, counts] ++
         (match asked with | some x => txIs ((c.lane l).preset % 16) l x | none => [])) [.lanes] []
        (fun t => t.lane l = { c.lane l with
            txHeld := none
            preset := match asked with | some x => if x.isPreset then x.preset else (c.lane l).preset | none => (c.lane l).preset } ∧
          ∀ m : Nat, m ≠ l → t.lane m = c.lane m)) ∧
    (inEq = true →
      SetsPast c (.txeqWrite a l v inEq) s [counts] [.lanes] []
        (fun t => (∃ w ∈ (t.lane l).txHeld, wget w 31 31 = wget v 31 31 ∧ wget w 26 24 = wget v 26 24 ∧ wget w 15 12 = pre ∧
            wget w 20 16 = post ∧ wget w 5 0 = 48 - pre - post) ∧
          t.lane l = { c.lane l with txHeld := (t.lane l).txHeld } ∧ ∀ m : Nat, m ≠ l → t.lane m = c.lane m))) ∧
  (∀ (l : Fin 192) (s : State), s.chip.coreUp = true → ∀ w ∈ (s.chip.lane l).txHeld,
    let fl := flPreset (wget w 26 24)
    let asked : Option TxSet :=
      if wbit w 31 then some { pre := wget w 15 12, post := wget w 20 16, source := 3 }
      else if s.chip.laneFleren l then some { pre := fl.1, post := fl.2, source := 2, preset := wget w 26 24 }
      else none
    Sets (.txeqHeldApply l) s
      (Reg.SDS_LN_TXEQ.is w l :: (match asked with | some x => txIs ((s.chip.lane l).preset % 16) l x | none => [])) [.lanes] []
      (fun c => c.lane l = { s.chip.lane l with
          txHeld := none
          preset := match asked with
            | some x => if x.isPreset then x.preset else (s.chip.lane l).preset | none => (s.chip.lane l).preset } ∧
        ∀ m : Nat, m ≠ l → c.lane m = s.chip.lane m)) ∧
  (∀ (l : Fin 192) (isPreset : Bool) (preset : Fin 16) (pre main post : Fin 1024) (s : State), s.chip.coreUp = true →
    s.chip.lanePcie l = true → s.chip.flag F.SDS_LN_TXEQ.MODE l = true →
    (isPreset = true ∨ legalTx pre main post = true) →
    Sets (.partnerCoeffRequest l isPreset preset pre main post) s
      [F.SDS_LN_EQ_REJ.COUNT.is (min (s.chip.fld F.SDS_LN_EQ_REJ.COUNT l + 1) F.SDS_LN_EQ_REJ.COUNT.max) l]) ∧
  (∀ (l : Fin 192) (preset : Fin 16) (pre main post : Fin 1024) (s : State), s.chip.coreUp = true →
    s.chip.lanePcie l = true → ∀ n : Nat, s.chip.laneOwner? l = some n → legalTx pre main post = false →
    Reaches (.partnerCoeffRequest l false preset pre main post) s fun c =>
      c.fld F.SDS_LN_EQ_REJ.COUNT l = min (s.chip.fld F.SDS_LN_EQ_REJ.COUNT l + 1) F.SDS_LN_EQ_REJ.COUNT.max ∧
      c.fld F.PRT_VIOL_LAST.CODE n = 0x0B ∧ c.reg .SDS_LN_TXEQ_STAT l = s.chip.reg .SDS_LN_TXEQ_STAT l) ∧
  (∀ (l : Fin 192) (preset : Fin 16) (pre main post : Fin 1024) (s : State), s.chip.coreUp = true →
    s.chip.lanePcie l = true → s.chip.flag F.SDS_LN_TXEQ.MODE l = false → pre.val + main + post = 48 → pre.val ≤ 12 →
    pre.val + post ≤ 16 →
    Sets (.partnerCoeffRequest l false preset pre main post) s
      (txIs ((s.chip.lane l).preset % 16) l { pre, post, source := 1 })) ∧
  (∀ (l : Fin 192) (preset : Fin 16) (pre main post : Fin 1024) (s : State), s.chip.coreUp = true →
    s.chip.lanePcie l = true → s.chip.flag F.SDS_LN_TXEQ.MODE l = false →
    let q := clampTx (presetTaps pre) (presetTaps post)
    Sets (.partnerCoeffRequest l true preset pre main post) s (txIs 0 l { pre := q.1, post := q.2, source := 0, preset }) [.lanes] []
      (fun c => c.lane l = { s.chip.lane l with preset } ∧ ∀ m : Nat, m ≠ l → c.lane m = s.chip.lane m))

/-! ### Fleren links (spec/04_fleren_link.md) -/

/-- Control blocks that a port receives: one with a wrong CHECK is counted and does nothing else, and in UP each kind
does what R134, R143, R146, R153, R161, R163, R167 and Table 4.13 say. It rests on log entries 7, 16, 47 and 48. -/
def Obligations.FlerenControlBlocks : Prop :=
  (∀ (n : Fin 96) (b : BlockRest) (q cnt : Fin 65536) (r x : Fin 8) (k : Fin 16) (y : Bool) (s : State), s.chip.coreUp = true →
    s.chip.isFleren n = true → receives (s.chip.lstate n) = true → (b.damaged && (s.chip.flp n).light) = false →
    ∀ e ∈ [(b.ok k (x * 2 ^ 16 + q), Instr.parcelHeadReceive n b k x q), (b.ok 2 (b.spare % 8 * 2 ^ 16 + q), .ackReceive n b q),
      (b.ok 3 (r * 2 ^ 16 + q), .nakReceive n b q r), (b.ok 4 (b.spare % 8 * 2 ^ 16 + q), .sackReceive n b q),
      (b.ok 5 (x * 2 ^ 16 + cnt), .creditReceive n b x cnt), (b.ok 7 (x * 2 ^ 16 + cnt), .initReceive n b x cnt),
      (b.ok 8 (b.spare % 2 ^ 18 * 2 + b2n y), .lpiReceive n b y), (b.ok 9 (b.spare % 2 ^ 19), .resetReceive n b)],
    e.1 = false → Sets e.2 s [F.PRT_FL_CRC_ERR.COUNT.is (s.chip.counted F.PRT_FL_CRC_ERR.COUNT n) n]) ∧
  (∀ (n : Fin 96) (lane : Fin 16) (b : BlockRest) (no : Fin 16) (w : Fin 8) (mc : Fin 4096) (skew : Nat) (s : State),
    s.chip.coreUp = true → s.chip.isFleren n = true → receives (s.chip.lstate n) = true →
    (b.damaged && (s.chip.flp n).light) = false → b.ok 6 (no * 2 ^ 15 + w * 2 ^ 12 + mc) = false →
    Sets (.deskewReceive n lane b no w mc skew) s [F.PRT_FL_CRC_ERR.COUNT.is (s.chip.counted F.PRT_FL_CRC_ERR.COUNT n) n] [.fl] []
      (s.chip.flpIs n { s.chip.flp n with marks := (s.chip.flp n).marks.set default lane default })) ∧
  (∀ (n : Fin 96) (b : BlockRest) (q : Fin 65536) (s : State), s.chip.coreUp = true →
    s.chip.hears n b 2 (b.spare % 8 * 2 ^ 16 + q) → s.chip.lstate n = flUpState →
    (s.chip.flp n).receiving = none → seqD ((s.chip.txNext n + 65535) % 65536) q < 32768 →
    Sets (.ackReceive n b q) s [] [.fl] []
      (s.chip.flpIs n { s.chip.flp n with replay := (s.chip.flp n).replay.filter fun p => 32768 ≤ seqD q p.seq })) ∧
  (∀ (n : Fin 96) (b : BlockRest) (q : Fin 65536) (s : State), s.chip.coreUp = true →
    s.chip.hears n b 2 (b.spare % 8 * 2 ^ 16 + q) → s.chip.lstate n = flUpState →
    (s.chip.flp n).receiving = none → 32768 ≤ seqD ((s.chip.txNext n + 65535) % 65536) q →
    Sets (.ackReceive n b q) s [F.PRT_VIOL_LAST.CODE.is 0x24 n,
      F.PRT_VIOL_COUNT.COUNT.is (s.chip.counted F.PRT_VIOL_COUNT.COUNT n) n] [.flt] (countRegs ++ faultRegs)) ∧
  (∀ (n : Fin 96) (b : BlockRest) (q : Fin 65536) (r : Fin 8) (s : State), s.chip.coreUp = true →
    s.chip.hears n b 3 (r * 2 ^ 16 + q) → s.chip.lstate n = flUpState → (s.chip.flp n).receiving = none →
    (6 ≤ r.val ∨ r.val ≠ 2 ∧ s.chip.sentParcel? n q = none) →
    Sets (.nakReceive n b q r) s [F.PRT_VIOL_LAST.CODE.is (if 6 ≤ r.val then 0x25 else 0x23) n,
      F.PRT_VIOL_COUNT.COUNT.is (s.chip.counted F.PRT_VIOL_COUNT.COUNT n) n] [.flt] (countRegs ++ faultRegs)) ∧
  (∀ (n : Fin 96) (b : BlockRest) (q : Fin 65536) (s : State), s.chip.coreUp = true → s.chip.hears n b 3 (2 * 2 ^ 16 + q) →
    s.chip.lstate n = flUpState →
    (s.chip.flp n).receiving = none → seqD (s.chip.txNext n) (s.chip.txOld n) < seqD q (s.chip.txOld n) →
    Reaches (.nakReceive n b q 2) s (s.chip.flWentDown · n)) ∧
  (∀ (n : Fin 96) (b : BlockRest) (q : Fin 65536) (r : Fin 8) (s : State), s.chip.coreUp = true →
    s.chip.hears n b 3 (r * 2 ^ 16 + q) → s.chip.lstate n = flUpState → (s.chip.flp n).receiving = none → r.val < 6 → r.val ≠ 2 →
    ∀ p : Parcel, s.chip.sentParcel? n q = some p → p.due = false →
    (p.replays < (s.chip.flp n).replayN →
      Sets (.nakReceive n b q r) s [] [.fl] countRegs
        (s.chip.flpIs n { s.chip.flp n with replay := (s.chip.flp n).replay.map fun x =>
          if x.seq == q.val then { x with naked := true, due := true, counts := r.val != 3 } else x })) ∧
    ((s.chip.flp n).replayN ≤ p.replays → (s.chip.flp n).f1 = true →
      Reaches (.nakReceive n b q r) s (s.chip.flWentDown · n))) ∧
  (∀ (n : Fin 96) (b : BlockRest) (q : Fin 65536) (s : State), s.chip.coreUp = true →
    s.chip.hears n b 4 (b.spare % 8 * 2 ^ 16 + q) → s.chip.lstate n = flUpState → (s.chip.flp n).receiving = none →
    (s.chip.flp n).f1 = false → ∀ p : Parcel, s.chip.sentParcel? n q = some p →
    Sets (.sackReceive n b q) s [] [.fl] []
      (s.chip.flpIs n { s.chip.flp n with replay := (s.chip.flp n).replay.map fun x =>
        if x.seq == q.val then { x with sacked := true, timer := false } else x })) ∧
  (∀ (n : Fin 96) (b : BlockRest) (q : Fin 65536) (s : State), s.chip.coreUp = true →
    s.chip.hears n b 4 (b.spare % 8 * 2 ^ 16 + q) → s.chip.lstate n = flUpState → (s.chip.flp n).receiving = none →
    ((s.chip.flp n).f1 = true ∨ s.chip.sentParcel? n q = none) →
    Sets (.sackReceive n b q) s [F.PRT_VIOL_LAST.CODE.is (if (s.chip.flp n).f1 then 0x2C else 0x23) n,
      F.PRT_VIOL_COUNT.COUNT.is (s.chip.counted F.PRT_VIOL_COUNT.COUNT n) n] [.flt] (countRegs ++ faultRegs)) ∧
  (∀ (n : Fin 96) (b : BlockRest) (k : Fin 8) (m : Fin 65536) (s : State), s.chip.coreUp = true →
    s.chip.hears n b 5 (k * 2 ^ 16 + m) → (s.chip.lstate n = flUpState ∨ s.chip.inInit n = true) →
    (s.chip.flp n).receiving = none →
    seqD m ((s.chip.flp n).released.get 0 k) < 32768 → seqD m ((s.chip.flp n).consumed.get 0 k) ≤ 512 →
    Sets (.creditReceive n b k m) s [] [.fl] []
      (s.chip.flpIs n { s.chip.flp n with released := (s.chip.flp n).released.set 0 k m })) ∧
  (∀ (n : Fin 96) (b : BlockRest) (s : State), s.chip.coreUp = true → s.chip.hears n b 8 (b.spare % 2 ^ 18 * 2) →
    s.chip.lstate n = flUpState →
    (s.chip.flp n).receiving = none → (s.chip.flp n).f1 = false → (s.chip.flp n).replay = [] → s.chip.flTraffic n = false →
    Sets (.lpiReceive n b false) s [] [.fl] [] (s.chip.flpIs n ((s.chip.flp n).addDue (.lpi true)))) ∧
  (∀ (n : Fin 96) (b : BlockRest) (s : State), s.chip.coreUp = true → s.chip.hears n b 8 (b.spare % 2 ^ 18 * 2 + 1) →
    s.chip.lstate n = flUpState →
    (s.chip.flp n).receiving = none → (s.chip.flp n).f1 = false → (s.chip.flp n).lpiSent = true → s.chip.flTraffic n = false →
    Reaches (.lpiReceive n b true) s fun c => c.lstate n = flLp ∧ c.fld F.PRT_FL_STATUS.LANE_LOCK n = 0 ∧
      (c.flp n).lpiSent = false ∧ (c.flp n).waking = (s.chip.flp n).waking) ∧
  (∀ (n : Fin 96) (b : BlockRest) (s : State), s.chip.coreUp = true → s.chip.hears n b 9 (b.spare % 2 ^ 19) →
    (s.chip.lstate n = flUpState ∨ s.chip.lstate n = flRetrain) →
    Reaches (.resetReceive n b) s (s.chip.flWentDown · n))

/-- Parcels: what a port sends at a parcel boundary, and what it does with a head, a trailer, a commit and a timer
(R130, R135 to R138, R145 to R149, R157, R163). It rests on log entries 7, 16, 17, 47, 48 and 49. -/
def Obligations.FlerenParcels : Prop :=
  (∀ (n : Fin 96) (s : State), s.chip.coreUp = true → s.chip.isFleren n = true →
    (s.chip.inHunt n = true ∨ s.chip.inAlign n = true) → (s.chip.flp n).pos + 1 < 16383 * s.chip.flWidth n →
    Sets (.parcelBoundary n []) s [] [.fl, .outs] []
      (fun c => c.outs = s.chip.blockOut n .idle :: s.chip.outs ∧
        s.chip.flpIs n { s.chip.flp n with trail := none, pos := (s.chip.flp n).pos + 1 } c)) ∧
  (∀ (n : Fin 96) (s : State), s.chip.coreUp = true → s.chip.isFleren n = true →
    (s.chip.inHunt n = true ∨ s.chip.inAlign n = true) → (s.chip.flp n).pos + 1 = 16383 * s.chip.flWidth n →
    Sets (.parcelBoundary n []) s [] [.fl, .outs] []
      (fun c => (∀ i < s.chip.flWidth n,
          let b := CtlBlock.deskew i (s.chip.fld F.PRT_PORT_CFG.WIDTH n) (s.chip.flp n).mcount
          Out.block n i b (b.payload none) ∈ s.chip.newOuts c) ∧ (s.chip.newOuts c).length = s.chip.flWidth n + 1 ∧
        s.chip.flpIs n { s.chip.flp n with trail := none, pos := 0, mcount := ((s.chip.flp n).mcount + 1) % 4096 } c)) ∧
  (∀ (n : Fin 96) (s : State), s.chip.coreUp = true → s.chip.isFleren n = true → s.chip.inInit n = true →
    (s.chip.flp n).initNext < 8 → (s.chip.flp n).initSent < 15 → (s.chip.flp n).pos + 1 < 16383 * s.chip.flWidth n →
    let k := (s.chip.flp n).initNext
    let seen := b2n (k == 0 && (s.chip.flp n).matched)
    Sets (.parcelBoundary n []) s [] [.fl, .outs] []
      (fun c => c.outs = s.chip.blockOut n (.init k (s.chip.initValue n k)) :: s.chip.outs ∧
        s.chip.flpIs n { s.chip.flp n with
          initNext := k + 1, initSent := (s.chip.flp n).initSent + seen, trail := none, pos := (s.chip.flp n).pos + 1 } c)) ∧
  (∀ (n : Fin 96) (s : State), s.chip.coreUp = true → s.chip.isFleren n = true →
    s.chip.lstate n = flUpState → (s.chip.flp n).pos + 1 < 16383 * s.chip.flWidth n →
    ∀ b : CtlBlock, (s.chip.flp n).firstDue? = some b → b ≠ .lpi true →
    Sets (.parcelBoundary n []) s [] [.fl, .outs] []
      (fun c => c.outs = s.chip.blockOut n b :: s.chip.outs ∧
        s.chip.flpIs n { s.chip.flp n with
          due := (s.chip.flp n).due.erase b, trail := none, pos := (s.chip.flp n).pos + 1 } c)) ∧
  (∀ (n : Fin 96) (s : State), s.chip.coreUp = true → s.chip.isFleren n = true →
    s.chip.lstate n = flUpState → (s.chip.flp n).firstDue? = none → (s.chip.flp n).lpiIdle = none →
    (s.chip.flp n).pos + 33 < 16383 * s.chip.flWidth n →
    ∀ p : Parcel, (s.chip.flp n).replay.find? (fun q => q.due) = some p →
    Sets (.parcelBoundary n []) s [F.PRT_FL_REPLAY_CNT.COUNT.is (s.chip.counted F.PRT_FL_REPLAY_CNT.COUNT n) n] [.fl, .outs]
      countRegs (fun c => c.outs = .parcel n p.seq p.cls p.pkts p.trailBad p.words :: s.chip.blockOut n (.parcel p.cls p.seq) ::
          s.chip.outs ∧
        s.chip.flpIs n { s.chip.flp n with
          trail := some (parcelCrc p.cls p.seq p.words, p.trailBad), pos := (s.chip.flp n).pos + 33
          replay := (s.chip.flp n).replay.map fun q => if q.seq == p.seq then
            { q with due := false, counts := false, timer := true, replays := q.replays + b2n q.counts } else q } c)) ∧
  (∀ (n : Fin 96) (b : BlockRest) (k : Fin 8) (q : Fin 65536) (s : State), s.chip.coreUp = true →
    s.chip.hears n b 1 (k * 2 ^ 16 + q) →
    s.chip.lstate n = flUpState → (s.chip.flp n).receiving = none → seqD q (s.chip.rxCommit n) < (s.chip.flp n).window →
    s.chip.slot? n q = none → s.chip.slotsUsed n k < (s.chip.flp n).cred k →
    Reaches (.parcelHeadReceive n b 1 k q) s fun c => (c.flp n).receiving = some { seq := q, cls := k, keep := true } ∧
      (∃ p ∈ (c.flp n).slots, p.seq = q ∧ p.cls = k ∧ p.good = false ∧ p.time = s.chip.ns) ∧
      (c.flp n).replay = (s.chip.flp n).replay) ∧
  (∀ (n : Fin 96) (b : BlockRest) (k : Fin 8) (q : Fin 65536) (s : State), s.chip.coreUp = true →
    s.chip.hears n b 1 (k * 2 ^ 16 + q) →
    s.chip.lstate n = flUpState → (s.chip.flp n).receiving = none → seqD q (s.chip.rxCommit n) < (s.chip.flp n).window →
    s.chip.slot? n q = none → (s.chip.flp n).cred k ≤ s.chip.slotsUsed n k →
    Reaches (.parcelHeadReceive n b 1 k q) s fun c => (c.flp n).receiving = some { seq := q, cls := k, keep := false } ∧
      c.fld F.PRT_VIOL_LAST.CODE n = 0x21 ∧ CtlBlock.nak q 4 ∈ (c.flp n).due ∧ (c.flp n).slots = (s.chip.flp n).slots) ∧
  (∀ (n : Fin 96) (b : ParcelBody) (crc : Word) (trailBad : Bool) (corr : Nat) (s : State),
    s.chip.coreUp = true → s.chip.isFleren n = true → s.chip.lstate n = flUpState → ∀ r : RxHead, (s.chip.flp n).receiving = some r →
    crc.toNat = parcelCrc r.cls r.seq b.words →
    r.keep = true → ∀ p : Parcel, s.chip.slot? n r.seq = some p → p.good = false → s.chip.beyondGap n r.seq = false →
    Sets (.parcelTrailer n b crc trailBad true corr 0 32) s
      (if (s.chip.flp n).light then
        [F.PRT_FL_FEC_CORR.COUNT.is (min (s.chip.fld F.PRT_FL_FEC_CORR.COUNT n + corr) F.PRT_FL_FEC_CORR.COUNT.max) n] else []) [.fl]
      countRegs
      (s.chip.flpIs n { s.chip.flp n with receiving := none, slots := (s.chip.flp n).slots.map fun q =>
        if q.seq == r.seq then { q with body := b, trailBad, good := true } else q })) ∧
  (∀ (n : Fin 96) (b : ParcelBody) (crc : Word) (trailBad readable : Bool) (corr uncorr : Nat) (s : State),
    s.chip.coreUp = true → s.chip.isFleren n = true → s.chip.lstate n = flUpState → ∀ r : RxHead, (s.chip.flp n).receiving = some r →
    (readable = false ∨ crc.toNat ≠ parcelCrc r.cls r.seq b.words ∨ ((s.chip.flp n).light = true ∧ 0 < uncorr)) →
    (∀ p ∈ (s.chip.flp n).slots, ∀ k ∈ s.chip.cel.copies, s.chip.failing n p k = false) →
    Sets (.parcelTrailer n b crc trailBad readable corr uncorr 32) s
      ((if (s.chip.flp n).light then
        [F.PRT_FL_FEC_CORR.COUNT.is (min (s.chip.fld F.PRT_FL_FEC_CORR.COUNT n + corr) F.PRT_FL_FEC_CORR.COUNT.max) n,
         F.PRT_FL_FEC_UNCORR.COUNT.is (min (s.chip.fld F.PRT_FL_FEC_UNCORR.COUNT n + uncorr) F.PRT_FL_FEC_UNCORR.COUNT.max) n]
        else []) ++ [F.PRT_FL_CRC_ERR.COUNT.is (s.chip.counted F.PRT_FL_CRC_ERR.COUNT n) n]) [.fl] []
      (s.chip.flpIs n (({ s.chip.flp n with receiving := none } : FlH).addDue (.nak r.seq 0)))) ∧
  (∀ (n : Fin 96) (s : State), s.chip.coreUp = true → ∀ p : Parcel, s.chip.nextCommit? n = some p → p.looked = true →
    s.chip.opens n p.cell = false → s.chip.lstate n = flUpState → s.chip.isFleren n = true →
    s.chip.acd.engs = [] → s.chip.cel = {} → s.chip.lbx = {} →
    (s.chip.flp n).unacked + 1 < (s.chip.flp n).ackEvery →
    Reaches (.parcelCommit n) s fun c => c.rxCommit n = (p.seq + 1) % 65536 ∧
      (c.flp n).slots = (s.chip.flp n).slots.filter (fun q => q.seq != p.seq) ∧
      (c.flp n).unacked = (s.chip.flp n).unacked + 1 ∧
      CtlBlock.credit p.cls ((c.flp n).creditCount p.cls) ∈ (c.flp n).due) ∧
  (∀ (n : Fin 96) (s : State), s.chip.coreUp = true → s.chip.lstate n = flUpState → (s.chip.flp n).unacked ≠ 0 →
    Sets (.ackTimer n) s [] [.fl] [] (s.chip.flpIs n
      { (s.chip.flp n).addDue (.ack ((s.chip.rxCommit n + 65535) % 65536)) with unacked := 0 })) ∧
  (∀ (n : Fin 96) (q : Fin 65536) (s : State), s.chip.coreUp = true → s.chip.lstate n = flUpState →
    ∀ p : Parcel, s.chip.sentParcel? n q = some p → p.timer = true → p.due = false →
    p.replays < (s.chip.flp n).replayN →
    Sets (.replayTimeout n q) s [] [.fl] [] (s.chip.flpIs n { s.chip.flp n with replay := (s.chip.flp n).replay.map fun x =>
      if x.seq == q.val then { x with timer := false, due := true, counts := true } else x })) ∧
  (∀ (n : Fin 96) (q : Fin 65536) (s : State), s.chip.coreUp = true → s.chip.isFleren n = true →
    s.chip.lstate n = flUpState →
    ∀ p : Parcel, s.chip.sentParcel? n q = some p → p.timer = true → p.due = false →
    (s.chip.flp n).replayN ≤ p.replays → (s.chip.flp n).f1 = true → Reaches (.replayTimeout n q) s (s.chip.flWentDown · n))

/-- Bring-up of a link: block lock, alignment, INIT, the limits of HUNT and DOWN, and the frequency offset (R52, R131,
R155 to R161, R173). It rests on log entries 7, 16, 48 and 52. -/
def Obligations.FlerenBringUp : Prop :=
  (∀ (n : Fin 96) (i : Fin 16) (v : Fin 4) (s : State), s.chip.coreUp = true → s.chip.hunts n i = true →
    bit (s.chip.fld F.PRT_FL_STATUS.LANE_LOCK n) i = false →
    let h := (s.chip.flp n).hunt.get default i
    ((v = 1 ∨ v = 2) → h.good < 63 → Sets (.blockLock n ⟨i, [v]⟩) s [] [.fl] []
      (s.chip.flpIs n { s.chip.flp n with hunt := (s.chip.flp n).hunt.set default i { h with good := h.good + 1 } })) ∧
    (v ≠ 1 → v ≠ 2 → Sets (.blockLock n ⟨i, [v]⟩) s [] [.fl] []
      (s.chip.flpIs n { s.chip.flp n with
        hunt := (s.chip.flp n).hunt.set default i { h with good := 0, slips := (h.slips + 1) % (if (s.chip.flp n).light then 1400 else 66) } }))) ∧
  (∀ (n : Fin 96) (i : Fin 16) (vs : List (Fin 4)) (s : State), s.chip.coreUp = true → s.chip.hunts n i = true →
    bit (s.chip.fld F.PRT_FL_STATUS.LANE_LOCK n) i = false → vs.length = 64 → (∀ v ∈ vs, v = 1 ∨ v = 2) →
    s.chip.lstate n = flHunt →
    let locks := setBit (s.chip.fld F.PRT_FL_STATUS.LANE_LOCK n) i
    let all := (List.range (2 ^ s.chip.fld F.PRT_PORT_CFG.WIDTH n)).all (bit locks)
    Sets (.blockLock n ⟨i, vs⟩) s [F.PRT_FL_STATUS.LANE_LOCK.is locks n,
      F.PRT_FL_STATUS.LSTATE.is (if all then flAlign else flHunt) n] [.fl] []
      (fun c => s.chip.flpIs n { s.chip.flp n with
        hunt := (c.flp n).hunt, phase := if all then flAlign else (s.chip.flp n).phase } c)) ∧
  (∀ (n : Fin 96) (i : Fin 16) (v : Fin 4) (s : State), s.chip.coreUp = true → s.chip.hunts n i = true →
    bit (s.chip.fld F.PRT_FL_STATUS.LANE_LOCK n) i = true →
    let h := (s.chip.flp n).hunt.get default i
    let bad := h.bad + b2n (v != 1 && v != 2)
    (h.seen < 63 → Sets (.blockLockLoss n ⟨i, [v]⟩) s [] [.fl] []
      (s.chip.flpIs n { s.chip.flp n with
        hunt := (s.chip.flp n).hunt.set default i { h with seen := h.seen + 1, bad } })) ∧
    (63 ≤ h.seen → bad < 16 → Sets (.blockLockLoss n ⟨i, [v]⟩) s [] [.fl] []
      (s.chip.flpIs n { s.chip.flp n with hunt := (s.chip.flp n).hunt.set default i { h with seen := 0, bad := 0 } })) ∧
    (63 ≤ h.seen → 16 ≤ bad → s.chip.lstate n = flUpState → (s.chip.flp n).f1 = true →
      Sets (.blockLockLoss n ⟨i, [v]⟩) s
        [F.PRT_FL_STATUS.LANE_LOCK.is (clrBit (s.chip.fld F.PRT_FL_STATUS.LANE_LOCK n) i) n] [.fl] []
        (s.chip.flpIs n { s.chip.flp n with hunt := (s.chip.flp n).hunt.set default i { h with seen := 0, bad := 0 } })) ∧
    (63 ≤ h.seen → 16 ≤ bad → (s.chip.lstate n = flAlign ∨ s.chip.lstate n = flInit) →
      Sets (.blockLockLoss n ⟨i, [v]⟩) s
        [F.PRT_FL_STATUS.LANE_LOCK.is (clrBit (s.chip.fld F.PRT_FL_STATUS.LANE_LOCK n) i) n,
         F.PRT_FL_STATUS.ALIGNED.is 0 n, F.PRT_FL_STATUS.LSTATE.is flHunt n] [.fl] []
        (fun c => (c.flp n).phase = flHunt ∧ (c.flp n).initSent = 0 ∧ (c.flp n).matched = false ∧
          (c.flp n).replay = (s.chip.flp n).replay ∧ ∀ m : Nat, m ≠ n → c.flp m = s.chip.flp m))) ∧
  (∀ (n : Fin 96) (lane : Fin 16) (b : BlockRest) (no : Fin 16) (width : Fin 8) (mc : Fin 4096) (skew : Nat) (s : State),
    s.chip.coreUp = true → s.chip.hears n b 6 (no * 2 ^ 15 + width * 2 ^ 12 + mc) →
    s.chip.lstate n = flAlign → lane.val < s.chip.flWidth n →
    width.val ≠ s.chip.fld F.PRT_PORT_CFG.WIDTH n →
    Reaches (.deskewReceive n lane b no width mc skew) s fun c => (c.flp n).marks = [] ∧ c.lstate n = flAlign ∧
      c.fld F.PRT_VIOL_LAST.CODE n = 0x29) ∧
  (∀ (n : Fin 96) (b : BlockRest) (mc : Fin 4096) (skew : Nat) (s : State), s.chip.coreUp = true →
    s.chip.hears n b 6 mc → s.chip.lstate n = flAlign → s.chip.fld F.PRT_PORT_CFG.WIDTH n = 0 →
    (s.chip.flp n).marks = [(0, { lane := 0, mcount := (mc.val + 4095) % 4096, run := 1 })] →
    (skew ≤ 64 → Sets (.deskewReceive n 0 b 0 0 mc skew) s
      [F.PRT_FL_STATUS.ALIGNED.is 1 n, F.PRT_FL_STATUS.LSTATE.is flInit n] [.fl] []
      (fun c => (c.flp n).phase = flInit ∧ (c.flp n).laneMap = [(0, 0)])) ∧
    (64 < skew → Reaches (.deskewReceive n 0 b 0 0 mc skew) s fun c => (c.flp n).marks = [] ∧ c.lstate n = flAlign ∧
      c.fld F.PRT_VIOL_LAST.CODE n = 0x2A)) ∧
  (∀ (n : Fin 96) (b : BlockRest) (v : Fin 65536) (s : State), s.chip.coreUp = true → s.chip.hears n b 7 v →
    s.chip.lstate n = flInit →
    (s.chip.flp n).receiving = none → s.chip.initMatches n v = false →
    Reaches (.initReceive n b 0 v) s fun c => c.lstate n = flInit ∧ c.fld F.PRT_FL_STATUS.INIT_MISMATCH n = 1 ∧
      c.fld F.PRT_VIOL_LAST.CODE n = 0x28 ∧ (c.flp n).matched = false ∧ (c.flp n).partnerSeen = false) ∧
  (∀ (n : Fin 96) (b : BlockRest) (v : Fin 65536) (s : State), s.chip.coreUp = true → s.chip.hears n b 7 v →
    s.chip.lstate n = flInit →
    (s.chip.flp n).receiving = none → s.chip.initMatches n v = true → (bit v 15 = true ∨ (s.chip.flp n).partnerSeen = true) →
    16 ≤ (s.chip.flp n).initSent →
    Reaches (.initReceive n b 0 v) s fun c => c.lstate n = flUpState ∧ c.fld F.PRT_FL_STATUS.INIT_MISMATCH n = 0 ∧
      c.fld F.FAB_NBR_A.VALID n = 1 ∧ (∀ k < 8, CtlBlock.credit k ((c.flp n).creditCount k) ∈ (c.flp n).due)) ∧
  (∀ (n : Fin 96) (s : State), s.chip.coreUp = true → (s.chip.lstate n = flHunt ∨ s.chip.lstate n = flAlign ∨
      s.chip.lstate n = flInit) →
    Reaches (.bringupTimeout n) s fun c => c.lstate n = flHunt ∧
      c.fld F.PRT_TRAIN_FAIL.COUNT n = 1 ∧ c.txNext n = 0 ∧ c.rxCommit n = 0 ∧
      (c.flp n).replay = [] ∧ (c.flp n).slots = [] ∧ 0 < (c.flp n).epoch ∧ (c.flp n).epoch < 65536 ∧
      c.fld F.FAB_NBR_A.VALID n = 0) ∧
  (∀ (n : Fin 96) (s : State), s.chip.coreUp = true → s.chip.isFleren n = true → s.chip.lstate n = flDown →
    s.chip.portHeld n = false → s.chip.cel = {} → s.chip.tileEn (tileOf n) = true → s.chip.safe = false →
    isForwarding s.chip.opMode = true →
    Reaches (.downTimeout n) s fun c => c.lstate n = flHunt ∧ c.txNext n = 0 ∧ c.rxCommit n = 0 ∧
      c.fld F.PRT_FL_STATUS.RT_COUNT n = 0 ∧ (c.flp n).replay = [] ∧ 0 < (c.flp n).epoch) ∧
  (∀ (n : Fin 96) (s : State), s.chip.coreUp = true → s.chip.isFleren n = true → s.chip.lstate n = flUpState →
    (s.chip.flp n).f1 = true → s.chip.allLocked n = false → Reaches (.f1LockTimeout n) s (s.chip.flWentDown · n)) ∧
  (∀ (l : Fin 192) (ofs : Fin 1024) (s : State), s.chip.coreUp = true → ∀ q : Nat × Nat, s.chip.flLane? l = some q →
    (signed 10 ofs).natAbs ≤ 300 → Sets (.freqOffsetLoss l ofs) s [F.SDS_LN_RXSTAT.FREQ_OFS.is ofs l]) ∧
  (∀ (l : Fin 192) (ofs : Fin 1024) (s : State), s.chip.coreUp = true → ∀ q : Nat × Nat, s.chip.flLane? l = some q →
    300 < (signed 10 ofs).natAbs → s.chip.lstate q.1 = flHunt →
    Reaches (.freqOffsetLoss l ofs) s fun c => c.fld F.SDS_LN_RXSTAT.FREQ_OFS l = ofs ∧ c.fld F.SDS_LN_STATUS.CDR_LOCK l = 0 ∧
      bit (c.fld F.PRT_FL_STATUS.LANE_LOCK q.1) q.2 = false)

/-- Retrains and low power (R161, R163, R166 to R168). It rests on log entries 7, 16, 47 and 49. -/
def Obligations.FlerenRetrainAndLowPower : Prop :=
  (∀ (n : Fin 96) (s : State), s.chip.coreUp = true → s.chip.lstate n = flUpState →
    Sets (.rtCountClear n) s [F.PRT_FL_STATUS.RT_COUNT.is 0 n]) ∧
  (∀ (a : Access) (n : Fin 96) (v : Word) (s : State) (c : Chip), s.passes a ⟨.PRT_FL_CTL, n, 0⟩ v c → wbit v 0 = true →
    wbit v 1 = false → c.lstate n = flUpState → (c.flp n).f1 = false →
    min (c.fld F.PRT_FL_STATUS.RT_COUNT n + 1) 8 ≤ (c.flp n).retrainM →
    SetsPast c (.retrain a n v) s [F.PRT_FL_STATUS.RT_COUNT.is (min (c.fld F.PRT_FL_STATUS.RT_COUNT n + 1) 8) n,
      F.PRT_FL_RETRAIN_CNT.RETRAINS.is (c.counted F.PRT_FL_RETRAIN_CNT.RETRAINS n) n, F.PRT_FL_STATUS.LSTATE.is flRetrain n,
      F.PRT_FL_STATUS.LANE_LOCK.is 0 n, F.PRT_FL_STATUS.ALIGNED.is 0 n] [.fl, .flt] faultRegs
      (fun t => (t.flp n).phase = flHunt ∧ (t.flp n).replay = (c.flp n).replay ∧ (t.flp n).slots = (c.flp n).slots ∧
        ∀ m : Nat, m ≠ n → t.flp m = c.flp m)) ∧
  (∀ (a : Access) (n : Fin 96) (v : Word) (s : State) (c : Chip), s.passes a ⟨.PRT_FL_CTL, n, 0⟩ v c → wbit v 0 = true →
    wbit v 1 = false → c.isFleren n = true → c.lstate n = flUpState → (c.flp n).f1 = false →
    (c.flp n).retrainM < min (c.fld F.PRT_FL_STATUS.RT_COUNT n + 1) 8 →
    Reaches (.retrain a n v) s (c.flWentDown · n)) ∧
  (∀ (a : Access) (n : Fin 96) (v : Word) (s : State) (c : Chip), s.passes a ⟨.PRT_FL_CTL, n, 0⟩ v c → wbit v 1 = true →
    c.isFleren n = true → 4 ≤ c.lstate n → c.lstate n ≤ 6 → Reaches (.linkReset a n v) s (c.flWentDown · n)) ∧
  (∀ (n : Fin 96) (s : State), s.chip.coreUp = true → s.chip.lstate n = flRetrain →
    min (s.chip.fld F.PRT_FL_STATUS.RT_COUNT n + 1) 8 ≤ (s.chip.flp n).retrainM →
    Sets (.retrainTimeout n) s [F.PRT_FL_STATUS.RT_COUNT.is (min (s.chip.fld F.PRT_FL_STATUS.RT_COUNT n + 1) 8) n,
      F.PRT_FL_RETRAIN_CNT.RETRAINS.is (s.chip.counted F.PRT_FL_RETRAIN_CNT.RETRAINS n) n,
      F.PRT_FL_STATUS.LSTATE.is flRetrain n, F.PRT_FL_STATUS.LANE_LOCK.is 0 n, F.PRT_FL_STATUS.ALIGNED.is 0 n] [.fl, .flt]
      faultRegs) ∧
  (∀ (n : Fin 96) (s : State), s.chip.coreUp = true → s.chip.isFleren n = true → s.chip.lstate n = flRetrain →
    (s.chip.flp n).retrainM < min (s.chip.fld F.PRT_FL_STATUS.RT_COUNT n + 1) 8 →
    Reaches (.retrainTimeout n) s (s.chip.flWentDown · n)) ∧
  (∀ (n : Fin 96) (s : State), s.chip.coreUp = true → s.chip.lstate n = flUpState → (s.chip.flp n).lpIdle ≠ 0 →
    (s.chip.flp n).replay = [] → (s.chip.flp n).due = [] → (s.chip.flp n).lpiIdle = none →
    Sets (.lpIdleTimeout n) s [] [.fl] []
      (s.chip.flpIs n { s.chip.flp n with due := [.lpi false], lpiSent := true })) ∧
  (∀ (n : Fin 96) (s : State), s.chip.coreUp = true → s.chip.lstate n = flLp → s.chip.flTraffic n = true →
    (s.chip.flp n).waking = false →
    Reaches (.flerenWake n) s fun c => (c.flp n).waking = true ∧ c.lstate n = flLp ∧
      (∀ l ∈ s.chip.portLanes n, s.chip.laneState l = lnDeep → s.chip.flag F.SDS_REF_STATUS.REF_OK (laneTile l) = true →
        c.laneState l = lnExiting)) ∧
  (∀ (n : Fin 96) (s : State), s.chip.coreUp = true → s.chip.lstate n = flLp → (s.chip.flp n).waking = true →
    (∀ l ∈ s.chip.portLanes n, (s.chip.laneState l ≠ lnDeep ∧ s.chip.laneState l ≠ lnOff) ∨
      s.chip.flag F.SDS_REF_STATUS.REF_OK (laneTile l) = true) →
    Reaches (.wakePatternDone n) s fun c => c.lstate n = flRetrain ∧ (c.flp n).waking = false ∧
      c.fld F.PRT_FL_STATUS.RT_COUNT n = s.chip.fld F.PRT_FL_STATUS.RT_COUNT n ∧
      c.fld F.PRT_FL_RETRAIN_CNT.RETRAINS n = s.chip.counted F.PRT_FL_RETRAIN_CNT.RETRAINS n)

/-! ### PCI Express links and slots (spec/03_pcie_ports.md, spec/07_partitions_flacons.md) -/

/-- PCI Express links: training, link down, L1 and L0p (R99, R101, R104, R114, R479). It rests on log entries 4, 7,
14, 27, 45 and 50. -/
def Obligations.LinkTraining : Prop :=
  (∀ (n : Fin 96) (width : Fin 5) (rate : Fin 7) (flit rev : Bool) (s : State), s.chip.coreUp = true →
    s.chip.trains n = true → s.chip.fld F.PRT_LINK_STATUS.DL_ACTIVE n = 0 →
    width.val ≤ s.chip.fld F.PRT_PORT_CFG.WIDTH n → rate.val ≤ s.chip.fld F.PRT_PORT_CFG.MAX_RATE n →
    let turned := s.chip.flag F.PRT_PORT_CFG.REVERSE n || rev
    let used := s.chip.logicalLanes n width turned
    Sets (.linkUp n width rate flit rev) s
      ([F.PRT_LINK_STATUS.DL_ACTIVE.is 1 n, F.PRT_LINK_STATUS.REVERSED.is (b2n turned) n,
        F.PRT_LINK_STATUS.FLIT.is (b2n (Nat.ble 5 rate || (s.chip.flag F.PRT_PORT_CFG2.FLIT_LOW n && flit))) n,
        F.PRT_LINK_STATUS.NEG_RATE.is rate n, F.PRT_LINK_STATUS.NEG_WIDTH.is width n, F.PRT_LINK_STATUS.L0P_WIDTH.is 7 n,
        F.PRT_LINK_STATUS.PM_STATE.is 0 n, F.PRT_LINK_STATUS.LTSSM.is 4 n, F.PRT_LINK_STATUS.LINK_DOWN_SEEN.is
          (s.chip.fld F.PRT_LINK_STATUS.LINK_DOWN_SEEN n) n, Reg.PRT_LINK_STATUS.any n] ++ s.chip.portLanesAny n)
      [.lanes, .cfg, .free, .cel, .outs] []
      (fun c => Out.initFc n (some (64, 2047)) (some (32, 256)) (if s.chip.role n = 2 then none else some (64, 2047)) ∈
          s.chip.newOuts c ∧ (∀ l ∈ s.chip.portLanes n, c.laneState l = if used.elem l then lnActive else lnOff) ∧
        (∀ l ∈ used, c.fld F.SDS_LN_STATUS.RATE l = rate.val) ∧
        (s.chip.role n ≠ 1 → c.cfgBit (.port n) 0x88 24 = true) ∧ (s.chip.role n = 1 → c.cfg = s.chip.cfg))) ∧
  (∀ (n : Fin 96) (width : Fin 5) (rate : Fin 7) (flit rev : Bool) (s : State), s.chip.coreUp = true →
    s.chip.trains n = true → s.chip.fld F.PRT_LINK_STATUS.DL_ACTIVE n = 1 →
    width.val ≤ s.chip.fld F.PRT_PORT_CFG.WIDTH n → rate.val ≤ s.chip.fld F.PRT_PORT_CFG.MAX_RATE n →
    let r := if s.chip.fld F.PRT_LINK_STATUS.FLIT n = 1 then rate.val else min rate.val 4
    let used := s.chip.logicalLanes n width (s.chip.flag F.PRT_LINK_STATUS.REVERSED n)
    Sets (.linkUp n width rate flit rev) s
      ([F.PRT_LINK_STATUS.NEG_RATE.is r n, F.PRT_LINK_STATUS.NEG_WIDTH.is width n, F.PRT_LINK_STATUS.L0P_WIDTH.is 7 n,
        F.PRT_LINK_STATUS.PM_STATE.is 0 n, F.PRT_LINK_STATUS.LTSSM.is 4 n] ++ s.chip.portLanesAny n)
      [.lanes, .ports, .cfg, .free, .outs] []
      (fun c => (∀ l ∈ s.chip.portLanes n, c.laneState l = if used.elem l then lnActive else lnOff) ∧
        (∀ l ∈ used, c.fld F.SDS_LN_STATUS.RATE l = r) ∧
        (s.chip.role n ≠ 1 → s.chip.fld F.PRT_LINK_STATUS.NEG_RATE n ≠ r →
          c.cfgBit (.port n) 0x80 (if (s.chip.port n).retrainAsked then 30 else 31) = true))) ∧
  (∀ (n : Fin 96) (s : State), s.chip.coreUp = true → s.chip.isPcie n = true →
    s.chip.fld F.PRT_LINK_STATUS.DL_ACTIVE n = 0 →
    Sets (.trainFail n false) s [F.PRT_TRAIN_FAIL.COUNT.is (s.chip.counted F.PRT_TRAIN_FAIL.COUNT n) n,
      F.PRT_LINK_STATUS.LTSSM.is 0 n] ∧
    Sets (.trainFail n true) s ([F.PRT_TRAIN_FAIL.COUNT.is (s.chip.counted F.PRT_TRAIN_FAIL.COUNT n) n,
      F.PRT_LINK_STATUS.LTSSM.is 0 n] ++ s.chip.violated n 0x10) [.flt] (countRegs ++ faultRegs)) ∧
  (∀ (n : Fin 96) (cause : Fin 7) (s : State), s.chip.coreUp = true → s.chip.isPcie n = true → s.chip.role n ≠ 1 →
    s.chip.fld F.PRT_LINK_STATUS.DL_ACTIVE n = 1 → s.chip.safe = false → s.chip.heldInReset n = false → s.chip.inDpc n = false →
    Reaches (.linkDown n cause) s fun c => c.showsDown n 0 ∧ c.fld F.PRT_LINK_STATUS.LINK_DOWN_SEEN n = 1 ∧
      c.inDpc n = true ∧ c.bitOf .FLT_CONTAIN_PORT n = true ∧ c.cfgBit (.port n) 0x88 24 = true ∧ c.tracked n = [] ∧
      c.raised (portSrc n) 1 (fun h => h % 2 ^ 32 = cause * 256 + n)) ∧
  (∀ (n : Fin 96) (cause : Fin 7) (s : State), s.chip.coreUp = true → s.chip.isPcie n = true → s.chip.role n = 1 →
    s.chip.fld F.PRT_LINK_STATUS.DL_ACTIVE n = 1 → s.chip.safe = false → (s.chip.part (s.chip.portPart n)).inReset = false →
    Reaches (.linkDown n cause) s fun c => c.showsDown n 0 ∧ c.bitOf .FLT_CONTAIN_PORT n = true ∧
      (c.part (s.chip.portPart n)).hot = true ∧ (c.part (s.chip.portPart n)).stalled = [] ∧
      c.cfgBit (.mgmt (s.chip.portPart n)) 0x04 2 = false ∧ c.raised (portSrc n) 1 (fun h => h % 2 ^ 32 = cause * 256 + n)) ∧
  (∀ (n : Fin 96) (cause : Fin 7) (s : State), s.chip.coreUp = true → s.chip.isFleren n = true → 4 ≤ s.chip.lstate n →
    s.chip.lstate n ≤ 6 → Reaches (.linkDown n cause) s (s.chip.flWentDown · n)) ∧
  (∀ (n : Fin 96) (cause : Fin 7) (s : State), s.chip.linkUp n = false → exec (.linkDown n cause) s = .next s) ∧
  (∀ (n : Fin 96) (disable : Bool) (s : State), s.chip.coreUp = true → s.chip.isPcie n = true → s.chip.role n ≠ 1 →
    Sets (.hotResetReceived n disable) s (s.chip.violated n 0x09) [.flt] (countRegs ++ faultRegs)) ∧
  (∀ (n : Fin 96) (disable : Bool) (s : State), s.chip.coreUp = true → s.chip.isPcie n = true → s.chip.role n = 1 →
    s.chip.fld F.PRT_LINK_STATUS.DL_ACTIVE n = 1 → s.chip.safe = false → (s.chip.part (s.chip.portPart n)).inReset = false →
    Reaches (.hotResetReceived n disable) s fun c => c.showsDown n (if disable then 0x0A else 0x09) ∧
      (c.part (s.chip.portPart n)).hot = true) ∧
  (∀ (n : Fin 96) (sub : Fin 3) (s : State), s.chip.coreUp = true → s.chip.fld F.PRT_LINK_STATUS.DL_ACTIVE n = 1 →
    s.chip.fld F.PRT_LINK_STATUS.PM_STATE n = 0 → (sub = 0 ∨ s.chip.fld F.PRT_PORT_CFG2.L1SS_EN n = 1) →
    Sets (.l1Entry n sub true) s ([F.PRT_LINK_STATUS.PM_STATE.is (2 + sub) n, F.PRT_LINK_STATUS.LTSSM.is 8 n] ++
      (s.chip.linkLanes n).flatMap laneAny) [.free] []
      (fun c => ∀ l ∈ s.chip.linkLanes n, (s.chip.laneState l = lnActive ∨ s.chip.laneState l = lnStandby ∨ sub ≠ 2) →
        c.laneState l = if sub = 2 ∧ s.chip.flag F.SDS_LN_PWR.DEEP_EN l then lnEntering else lnStandby)) ∧
  (∀ (n : Fin 96) (sub : Fin 3) (s : State), s.chip.coreUp = true → s.chip.isPcie n = true →
    s.chip.fld F.PRT_LINK_STATUS.DL_ACTIVE n = 1 →
    Sets (.l1Entry n sub false) s (s.chip.violated n 0x0A ++ [F.PRT_LINK_STATUS.LTSSM.is 5 n]) [.flt]
      (countRegs ++ faultRegs)) ∧
  (∀ (n : Fin 96) (s : State), s.chip.coreUp = true → s.chip.fld F.PRT_LINK_STATUS.DL_ACTIVE n = 1 →
    2 ≤ s.chip.fld F.PRT_LINK_STATUS.PM_STATE n → s.chip.fld F.PRT_LINK_STATUS.PM_STATE n ≤ 4 →
    (∀ l ∈ s.chip.linkLanes n, s.chip.laneState l ≠ lnDeep ∨ s.chip.flag F.SDS_REF_STATUS.REF_OK (laneTile l) = true) →
    Sets (.l1Exit n) s ([F.PRT_LINK_STATUS.PM_STATE.is 0 n, F.PRT_LINK_STATUS.LTSSM.is 4 n] ++
      (s.chip.linkLanes n).flatMap laneAny) [.lanes, .free] []
      (fun c => ∀ l ∈ s.chip.linkLanes n, (s.chip.laneState l = lnStandby → c.laneState l = lnActive) ∧
        (s.chip.laneState l = lnDeep → s.chip.flag F.SDS_REF_STATUS.REF_OK (laneTile l) = true → c.laneState l = lnExiting))) ∧
  (∀ (n : Fin 96) (s : State), s.chip.coreUp = true → s.chip.fld F.PRT_LINK_STATUS.DL_ACTIVE n = 1 →
    s.chip.fld F.PRT_LINK_STATUS.LTSSM n = 5 → s.chip.fld F.PRT_LINK_STATUS.PM_STATE n < 2 →
    (s.chip.linkLanes n).any s.chip.exitFailed = false →
    Sets (.l1Exit n) s [F.PRT_LINK_STATUS.PM_STATE.is 0 n, F.PRT_LINK_STATUS.LTSSM.is 4 n]) ∧
  (∀ (n : Fin 96) (width : Fin 5) (s : State), s.chip.coreUp = true → s.chip.fld F.PRT_LINK_STATUS.DL_ACTIVE n = 1 →
    s.chip.fld F.PRT_LINK_STATUS.FLIT n = 1 →
    (s.chip.fld F.PRT_PORT_CFG2.L0P_EN n = 1 ∨ (if s.chip.fld F.PRT_LINK_STATUS.L0P_WIDTH n = 7
      then s.chip.fld F.PRT_LINK_STATUS.NEG_WIDTH n else s.chip.fld F.PRT_LINK_STATUS.L0P_WIDTH n) ≤ width.val) →
    s.chip.fld F.PRT_LINK_STATUS.PM_STATE n ≤ 1 → width.val ≤ s.chip.fld F.PRT_LINK_STATUS.NEG_WIDTH n →
    let whole := width.val = s.chip.fld F.PRT_LINK_STATUS.NEG_WIDTH n
    let on := s.chip.logicalLanes n width (s.chip.flag F.PRT_LINK_STATUS.REVERSED n)
    let all := s.chip.logicalLanes n (s.chip.fld F.PRT_LINK_STATUS.NEG_WIDTH n) (s.chip.flag F.PRT_LINK_STATUS.REVERSED n)
    Sets (.l0pWidthChange n width) s ([F.PRT_LINK_STATUS.L0P_WIDTH.is (if whole then 7 else width) n,
      F.PRT_LINK_STATUS.PM_STATE.is (if whole then 0 else 1) n, F.PRT_LINK_STATUS.LTSSM.is (if whole then 4 else 7) n] ++
      all.flatMap laneAny) [.lanes, .free] []
      (fun c => ∀ l ∈ all, (s.chip.laneState l = lnStandby → on.elem l = true → c.laneState l = lnActive) ∧
        (s.chip.laneState l = lnActive → on.elem l = false → c.laneState l = lnStandby)))

/-- Resets that reach a partition or a link (Tables 3.4 and 7.6; R53, R105 to R107, R271, R272). It rests on log
entries 4, 27, 45, 49 and 52. -/
def Obligations.LinkResets : Prop :=
  (∀ (p : Fin 32) (s : State), s.chip.coreUp = true → s.chip.perstWaits = false →
    Reaches (.perstAssert p) s fun c => (c.part p).perst = true ∧ (c.part p).inReset = true ∧ (c.part p).rrs = false ∧
      (c.part p).hot = false ∧ (c.part p).flr = false ∧ (c.part p).stalled = [] ∧ bit (c.reg .FLT_CONTAIN_PTN).toNat p = false ∧
      c.cfgBit (.mgmt p) 0x04 2 = false ∧ ∀ n ∈ s.chip.portsOf p, c.showsDown n 0x0C) ∧
  (∀ (p : Fin 32) (s : State), s.chip.coreUp = false → s.chip.perstWaits = false →
    Sets (.perstAssert p) s [] [.parts] [] (fun c => (c.part p).perst = true ∧ (c.part p).inReset = true)) ∧
  (∀ (p : Fin 32) (low : Bool) (s : State), s.chip.perstWaits = true →
    Sets (if low then .perstAssert p else .perstDeassert p) s [] [.pwr] [] (fun c => c.pwr = { s.chip.pwr with
      perstHeld := s.chip.pwr.perstHeld.filter (fun e => e.1 != p.val) ++ [(p.val, low)] })) ∧
  (∀ (p : Fin 32) (s : State), s.chip.coreUp = true → s.chip.perstWaits = false → (s.chip.part p).perst = true →
    Sets (.perstDeassert p) s ((s.chip.portsOf p).map fun n => F.PRT_LINK_STATUS.LTSSM.any n) [.parts, .fus] []
      (fun c => c.part p = { s.chip.part p with perst := false, rrs := true } ∧ (∀ q : Nat, q ≠ p → c.part q = s.chip.part q) ∧
        ∀ n ∈ s.chip.portsOf p, s.chip.fld F.PRT_LINK_STATUS.DL_ACTIVE n = 0 → c.portFree n = true →
          c.fld F.PRT_LINK_STATUS.LTSSM n = 0)) ∧
  (∀ (p : Fin 32) (s : State), s.chip.coreUp = true → (s.chip.part p).perst = false →
    Sets (.partitionRestoreDone p) s [] [.parts, .acd] [.ACD_ENG_STATUS, .ACD_JOB_STATUS] (fun c =>
      c.part p = { s.chip.part p with rrs := false, inReset := false, flr := false, stalled := (c.part p).stalled } ∧
        (∀ q : Nat, q ≠ p → c.part q = s.chip.part q) ∧
        (s.chip.acd.emits = [] → (c.part p).stalled = (s.chip.part p).stalled) ∧
        (s.chip.acd.engs = [] → s.chip.acd.emits = [] →
          c.acd = s.chip.acd ∧ ∀ e : Nat, c.engState e = s.chip.engState e))) ∧
  (∀ (p : Fin 32) (s : State), s.chip.coreUp = true → (s.chip.part p).hot = true →
    Sets (.partitionResetEnd p) s [] [.parts, .ports, .acd] [.ACD_ENG_STATUS, .ACD_JOB_STATUS] (fun c =>
      c.part p = { s.chip.part p with hot := false, stalled := (c.part p).stalled } ∧
      (∀ q : Nat, q ≠ p → c.part q = s.chip.part q) ∧
      (s.chip.acd.emits = [] → (c.part p).stalled = (s.chip.part p).stalled) ∧
      (s.chip.acd.engs = [] → s.chip.acd.emits = [] → c.acd = s.chip.acd ∧ ∀ e : Nat, c.engState e = s.chip.engState e) ∧
      ∀ n ∈ s.chip.downPorts p, c.port n = { s.chip.port n with
        hotUp := (s.chip.port n).hotUp && (s.chip.upPort? p).any fun u => s.chip.cfgBit (.port u) 0x3C 22 })) ∧
  (∀ (n : Fin 96) (root : Bool) (s : State), s.chip.coreUp = true → s.chip.isPcie n = true → s.chip.role n = 0 →
    s.chip.cfgBit (.port n) 0x3C 22 = false → (s.chip.sharedPort n = false ∨ root = true) →
    Reaches (.secondaryBusReset n ⟨true, root⟩) s fun c => c.cfgBit (.port n) 0x3C 22 = true ∧ (c.port n).hotOwn = true ∧
      (c.port n).hotUp = (s.chip.port n).hotUp ∧ (c.port n).hotSent = true ∧ (c.port n).hotByOwn = true ∧
      ((s.chip.port n).hotSent = false → c.showsDown n 0x09 ∧ Out.hotReset n true ∈ s.chip.newOuts c) ∧
      (s.chip.cfgBit (.port n) 0x80 4 = c.cfgBit (.port n) 0x80 4)) ∧
  (∀ (n : Fin 96) (s : State), s.chip.coreUp = true → s.chip.isPcie n = true → s.chip.role n = 0 →
    s.chip.cfgBit (.port n) 0x3C 22 = false → s.chip.sharedPort n = true →
    Reaches (.secondaryBusReset n ⟨true, false⟩) s fun c => c.cfgBit (.port n) 0x3C 22 = true ∧
      c.port n = s.chip.port n ∧ c.fld F.PRT_VIOL_COUNT.COUNT n = s.chip.fld F.PRT_VIOL_COUNT.COUNT n ∧
      c.fld F.PRT_LINK_STATUS.DL_ACTIVE n = s.chip.fld F.PRT_LINK_STATUS.DL_ACTIVE n) ∧
  (∀ (n : Fin 96) (root : Bool) (s : State), s.chip.coreUp = true → s.chip.isPcie n = true → s.chip.role n = 1 →
    s.chip.cfgBit (.port n) 0x3C 22 = false →
    Reaches (.secondaryBusReset n ⟨true, root⟩) s fun c => c.cfgBit (.port n) 0x3C 22 = true ∧
      c.cfgBit (.mgmt (s.chip.portPart n)) 0x04 2 = false ∧ (c.part (s.chip.portPart n)).bus = 0 ∧
      ∀ m ∈ s.chip.downPorts (s.chip.portPart n), s.chip.flaconMode = false →
        (c.port m).hotUp = true ∧ (c.port m).hotSent = true ∧ ((s.chip.port m).hotSent = false → c.showsDown m 0x09)) ∧
  (∀ (n : Fin 96) (root : Bool) (s : State), s.chip.coreUp = true → s.chip.isPcie n = true → s.chip.role n = 1 →
    s.chip.cfgBit (.port n) 0x3C 22 = true →
    Sets (.secondaryBusReset n ⟨false, root⟩) s [] [.cfg, .ports] [] (fun c => c.cfgBit (.port n) 0x3C 22 = false ∧
      ∀ m ∈ s.chip.downPorts (s.chip.portPart n), c.port m = { s.chip.port m with
        hotUp := (s.chip.port m).hotUp && (s.chip.part (s.chip.portPart n)).hot })) ∧
  (∀ (n : Fin 96) (root : Bool) (s : State), s.chip.coreUp = true → s.chip.isPcie n = true → s.chip.role n ≠ 1 →
    s.chip.cfgBit (.port n) 0x3C 22 = true →
    Sets (.secondaryBusReset n ⟨false, root⟩) s [] [.cfg, .ports] [] (fun c => c.cfgBit (.port n) 0x3C 22 = false ∧
      c.port n = { s.chip.port n with hotOwn := false })) ∧
  (∀ (n : Fin 96) (s : State), s.chip.coreUp = true → (s.chip.port n).hotSent = true → (s.chip.port n).hotUp = false →
    (s.chip.port n).hotOwn = false → Sets (.hotResetSendEnd n) s [F.PRT_LINK_STATUS.LTSSM.any n] [.ports, .outs, .fus] [] (fun c =>
      c.port n = { s.chip.port n with hotSent := false, hotByOwn := false } ∧ c.outs = .hotReset n false :: s.chip.outs ∧
      (∀ m : Nat, m ≠ n → c.port m = s.chip.port m) ∧
      c.fld F.PRT_LINK_STATUS.LTSSM n = if c.portFree n then 0 else 0x0C)) ∧
  (∀ (n : Fin 96) (s : State), s.chip.coreUp = true → s.chip.isPcie n = true → s.chip.role n ≠ 1 →
    s.chip.cfgBit (.port n) 0x80 4 = false → s.chip.fld F.PRT_LINK_STATUS.DL_ACTIVE n = 1 →
    Reaches (.linkDisable n true) s fun c => c.showsDown n 0x0A ∧ c.fld F.PRT_LINK_STATUS.LINK_DOWN_SEEN n = 1 ∧
      c.cfgBit (.port n) 0x80 4 = true) ∧
  (∀ (n : Fin 96) (s : State), s.chip.coreUp = true → s.chip.isPcie n = true → s.chip.role n ≠ 1 →
    s.chip.cfgBit (.port n) 0x80 4 = true →
    Sets (.linkDisable n false) s [F.PRT_LINK_STATUS.LTSSM.is (if s.chip.portFree n then 0 else 0x0C) n] [.cfg] []
      (fun c => c.cfgBit (.port n) 0x80 4 = false)) ∧
  (∀ (p : Fin 32) (s : State), s.chip.coreUp = true →
    Reaches (.flr p) s fun c => (c.part p).flr = true ∧ (s.chip.acd.emits = [] → (c.part p).stalled = []) ∧ c.cfgBit (.mgmt p) 0x04 2 = false ∧
      (c.part p).perst = (s.chip.part p).perst ∧ ∀ f ∈ s.chip.flaconsOf p, c.flcState f ≠ 1 ∧ c.flcState f ≠ 2) ∧
  (∀ (t : Fin 12) (s : State), s.chip.coreUp = true → bit (s.chip.fld F.GLB_TILE_EN.TILE_EN) t = true →
    s.chip.fld F.SDS_REF_STATUS.REF_OK t = 1 →
    Reaches (.refLost t) s fun c => c.fld F.SDS_REF_STATUS.REF_OK t = 0 ∧ c.fld F.SDS_REF_STATUS.REF_LOST_SEEN t = 1 ∧
      c.raised (tileSrc t 12) 9 (fun h => h = t) ∧ (∀ l < 192, laneTile l = t → c.laneState l = lnOff) ∧
      (∀ n < 96, tileOf n = t → s.chip.isPcie n = true → c.linkUp n = false) ∧
      ∀ l < 192, laneTile l = t → ∀ e ∈ s.chip.flLane? l, s.chip.lstate e.1 = flUpState →
        bit (s.chip.fld F.PRT_FL_STATUS.LANE_LOCK e.1) e.2 = true → (s.chip.flp e.1).f1 = false →
        c.lstate e.1 = flRetrain ∨ c.lstate e.1 = flDown)

/-- Slots: the writes of Slot Control, Command Completed, the attention button, Power Fault Detected and PERST_OUT_N
(R108, R111 to R113, R115). It rests on log entries 3, 4, 27 and 45. -/
def Obligations.SlotControl : Prop :=
  (∀ (n : Fin 96) (v : Fin 4) (s : State), s.chip.coreUp = true → (s.chip.port n).ccOwed = false →
    (s.chip.port n).slotPending = [] → s.chip.slotChan? n ≠ none → v.val ≠ bits (s.chip.cfgAt (.port n) 0x88) 7 6 → v ≠ 0 →
    Sets (.attentionIndicatorControl n v) s [] [.cfg, .ports] [] (fun c => bits (c.cfgAt (.port n) 0x88) 7 6 = v ∧
      c.port n = { s.chip.port n with attnLed := if v = 3 then 0 else v, ccOwed := true } ∧
      (∀ m : Nat, m ≠ n → c.port m = s.chip.port m) ∧
      ∀ b < 32, b ≠ 6 → b ≠ 7 → (b < 11 ∨ 16 ≤ b) → c.cfgBit (.port n) 0x88 b = s.chip.cfgBit (.port n) 0x88 b)) ∧
  (∀ (n : Fin 96) (v : Fin 4) (s : State), s.chip.coreUp = true → (s.chip.port n).ccOwed = false →
    (s.chip.port n).slotPending = [] → s.chip.slotChan? n ≠ none → v.val ≠ bits (s.chip.cfgAt (.port n) 0x88) 9 8 → v ≠ 0 →
    Sets (.powerIndicatorControl n v) s [] [.cfg, .ports] [] (fun c => bits (c.cfgAt (.port n) 0x88) 9 8 = v ∧
      c.port n = { s.chip.port n with pwrLed := if v = 3 then 0 else v, ccOwed := true } ∧
      (∀ m : Nat, m ≠ n → c.port m = s.chip.port m) ∧
      ∀ b < 32, b ≠ 8 → b ≠ 9 → (b < 11 ∨ 16 ≤ b) → c.cfgBit (.port n) 0x88 b = s.chip.cfgBit (.port n) 0x88 b)) ∧
  (∀ (n : Fin 96) (s : State), s.chip.coreUp = true → (s.chip.port n).ccOwed = false → (s.chip.port n).slotPending = [] →
    s.chip.slotChan? n ≠ none → bits (s.chip.cfgAt (.port n) 0x88) 7 6 ≠ 0 → bits (s.chip.cfgAt (.port n) 0x88) 9 8 ≠ 0 →
    Sets (.attentionIndicatorControl n 0) s [] [.cfg, .ports, .free] [] (fun c => bits (c.cfgAt (.port n) 0x88) 7 6 = 0 ∧
      (c.port n).attnLed < 3 ∧ (c.port n).ccOwed = true) ∧
    Sets (.powerIndicatorControl n 0) s [] [.cfg, .ports, .free] [] (fun c => bits (c.cfgAt (.port n) 0x88) 9 8 = 0 ∧
      (c.port n).pwrLed < 3 ∧ (c.port n).ccOwed = true)) ∧
  (∀ (n : Fin 96) (v : Fin 4) (off : Bool) (s : State), s.chip.coreUp = true → (s.chip.port n).ccOwed = true →
    ∀ i ∈ [Instr.attentionIndicatorControl n v, .powerIndicatorControl n v, .powerControllerControl n off],
    Sets i s [] [.ports] [] (fun c => (c.port n).slotPending.length = (s.chip.port n).slotPending.length + 1 ∧
      (c.port n).ccOwed = true ∧ ∀ m : Nat, m ≠ n → c.port m = s.chip.port m)) ∧
  (∀ (n : Fin 96) (s : State), s.chip.coreUp = true → (s.chip.port n).ccOwed = false → (s.chip.port n).slotPending = [] →
    ∀ ch : Nat, s.chip.slotChan? n = some ch →
    Sets (.powerControllerControl n true) s
      [Reg.FUS_CHAN_STATUS.any ch, F.FUS_CHAN_STATUS.REQ_PEND.is 0 ch, F.FUS_CHAN_STATUS.RETRIES.is 0 ch,
       F.FUS_STATUS.RAMPING.any] [.cfg, .ports, .fus] []
      (fun c => c.cfgBit (.port n) 0x88 10 = true ∧ (c.port n).ccOwed = !s.chip.cfgBit (.port n) 0x88 10 ∧
        (c.fus1 ch).offSince = true ∧
        (fuPrecharge ≤ s.chip.fuState ch → s.chip.fuState ch ≤ fuOn → c.fuState ch = fuPreoff))) ∧
  (∀ (n : Fin 96) (s : State), s.chip.coreUp = true → (s.chip.port n).ccOwed = false → (s.chip.port n).slotPending = [] →
    s.chip.cfgBit (.port n) 0x88 10 = true → ∀ ch : Nat, s.chip.slotChan? n = some ch →
    s.chip.fuState ch ≠ fuCooldown → s.chip.fuState ch ≠ fuLatched →
    Sets (.powerControllerControl n false) s
      [Reg.FUS_CHAN_STATUS.any ch, F.FUS_CHAN_STATUS.REQ_PEND.is 1 ch, F.FUS_STATUS.RAMPING.any] [.cfg, .ports, .fus] []
      (fun c => c.cfgBit (.port n) 0x88 10 = false ∧ (c.port n).ccOwed = true ∧
        (s.chip.fuState ch = fuWaitReq → s.chip.fld F.FUS_CHAN_STATUS.PRESENT ch = 1 → s.chip.fld F.FUS_CHAN_CFG.POLICY ch ≠ 1 →
          s.chip.fuMayStart = true → c.fuState ch = fuWaitSlot))) ∧
  (∀ (n : Fin 96) (s : State), s.chip.coreUp = true → (s.chip.port n).ccOwed = true → (s.chip.port n).slotPending = [] →
    Sets (.commandCompleted n) s [] [.cfg, .ports, .outs] [] (fun c => c.cfgBit (.port n) 0x88 20 = true ∧
      c.port n = { s.chip.port n with ccOwed := false } ∧ ∀ m : Nat, m ≠ n → c.port m = s.chip.port m)) ∧
  (∀ (n : Fin 96) (s : State), s.chip.coreUp = true → s.chip.slotChan? n ≠ none →
    Sets (.attentionButtonPressed n) s [] [.cfg, .outs] [] (fun c => c.cfgBit (.port n) 0x88 16 = true ∧
      (s.chip.cfgBit (.port n) 0x88 5 = true → s.chip.cfgBit (.port n) 0x88 0 = true → s.chip.cfgBit (.port n) 0x50 31 = true →
        s.chip.cfgBit (.port n) 0x50 30 = false → s.chip.cfgBit (.port n) 0x100C 0 = false → s.chip.hpPending n = false →
        (∀ u < 96, s.chip.msixPort? (.port n) = some u → s.chip.bme (.port u) = true) →
        c.outs = .msixPort n 0 :: s.chip.outs))) ∧
  (∀ (n : Fin 96) (s : State), s.chip.coreUp = true → ∀ ch : Nat, s.chip.slotChan? n = some ch →
    s.chip.fuState ch ≠ fuLatched →
    Sets (.powerFaultDetectedClear n) s [] [.cfg] [] (fun c => c.cfgBit (.port n) 0x88 17 = false)) ∧
  (∀ (n : Fin 96) (s : State), s.chip.coreUp = true → ∀ ch : Nat, s.chip.slotChan? n = some ch →
    s.chip.fuState ch = fuLatched → s.chip.opMode ≠ 0xC →
    Sets (.powerFaultDetectedClear n) s [Reg.FUS_CHAN_STATUS.any ch, F.FUS_CHAN_STATUS.RETRIES.is 0 ch, F.FUS_STATUS.RAMPING.any]
      [.cfg, .fus] [] (fun c => c.cfgBit (.port n) 0x88 17 = false ∧ c.fuState ch ≠ fuLatched ∧
        (s.chip.fld F.FUS_CHAN_STATUS.PRESENT ch = 0 → c.fuState ch = if s.chip.pinsLow ch then fuDebounce else fuEmpty))) ∧
  (∀ (f : Fin 24) (s : State), s.chip.slotUp = true → s.chip.fld F.FUS_CHAN_STATUS.PG f = 1 →
    Sets (.perstOutDeassert f) s [] [.fus] [] (fun c => c.fus1 f =
      { s.chip.fus1 f with delayDone := true,
                           perstHigh := (s.chip.fus1 f).perstHigh || (s.chip.fuState f == fuOn && !s.chip.perstHeld f) } ∧
      ∀ k : Nat, k ≠ f → c.fus1 k = s.chip.fus1 k))

/-- Downstream Port Containment and Bus Master Enable (R116 to R122). It rests on log entries 4, 27, 45 and 49. -/
def Obligations.DpcAndBusMaster : Prop :=
  (∀ (n : Fin 96) (s : State), s.chip.dpcEnable n = 1 → exec (.dpcTrigger n 1) s = .next s) ∧
  (∀ (n : Fin 96) (reason : Fin 3) (s : State), s.chip.coreUp = true → s.chip.isPcie n = true → s.chip.role n ≠ 1 →
    s.chip.inDpc n = false → (s.chip.dpcEnable n = 2 ∨ s.chip.dpcEnable n = 1 ∧ reason ≠ 1) →
    (reason = 0 → s.chip.dpcError n = true) →
    Reaches (.dpcTrigger n reason) s fun c => c.inDpc n = true ∧ bits (c.cfgAt (.port n) 0x3C8) 2 1 = reason ∧
      bits (c.cfgAt (.port n) 0x3C8) 6 4 = 0 ∧
      c.cfgBit (.port n) 0x3C8 3 = (s.chip.cfgBit (.port n) 0x3C4 19 || s.chip.cfgBit (.port n) 0x3C8 3) ∧
      c.bitOf .FLT_CONTAIN_PORT n = true ∧ c.fld F.PRT_LINK_STATUS.DL_ACTIVE n = 0 ∧ c.fld F.PRT_LINK_STATUS.LTSSM n = 0x0C ∧
      c.raised (portSrc n) 4 (fun h => h = reason * 256 + n)) ∧
  (∀ (n : Fin 96) (s : State), s.chip.coreUp = true → s.chip.isPcie n = true → s.chip.role n ≠ 1 →
    s.chip.inDpc n = false → s.chip.dpcEnable n ≠ 0 →
    Reaches (.dpcSoftwareTrigger n) s fun c => c.inDpc n = true ∧ bits (c.cfgAt (.port n) 0x3C8) 2 1 = 3 ∧
      c.cfgBit (.port n) 0x3C8 3 = (s.chip.cfgBit (.port n) 0x3C4 19 || s.chip.cfgBit (.port n) 0x3C8 3) ∧
      c.bitOf .FLT_CONTAIN_PORT n = true ∧ c.fld F.PRT_LINK_STATUS.DL_ACTIVE n = 0 ∧ c.fld F.PRT_LINK_STATUS.LTSSM n = 0x0C ∧
      c.raised (portSrc n) 4 (fun h => h = 3 * 256 + n)) ∧
  (∀ (n : Fin 96) (s : State), s.chip.dpcEnable n = 0 →
    exec (.dpcSoftwareTrigger n) s = .next s ∧ ∀ reason : Fin 3, exec (.dpcTrigger n reason) s = .next s) ∧
  (∀ (n : Fin 96) (s : State), s.chip.coreUp = true → s.chip.inDpc n = true → s.chip.owes n = false →
    Sets (.dpcTriggerStatusWrite n) s [(⟨.FLT_CONTAIN_PORT, n % 32, n % 32⟩ : Fld).is 0 (n / 32), F.PRT_LINK_STATUS.LTSSM.any n]
      [.cfg, .ports] [] (fun c => c.inDpc n = false ∧ c.port n = { s.chip.port n with dpcReleaseHeld := false } ∧
        (s.chip.isPcie n = true → s.chip.fld F.PRT_LINK_STATUS.DL_ACTIVE n = 0 → c.portFree n = true →
          c.fld F.PRT_LINK_STATUS.LTSSM n = 0) ∧ ∀ b < 32, 7 ≤ b → c.cfgBit (.port n) 0x3C8 b = s.chip.cfgBit (.port n) 0x3C8 b)) ∧
  (∀ (n : Fin 96) (s : State), s.chip.coreUp = true → s.chip.inDpc n = true → s.chip.owes n = true →
    Sets (.dpcTriggerStatusWrite n) s [] [.ports] [] (fun c => c.port n = { s.chip.port n with dpcReleaseHeld := true } ∧
      ∀ m : Nat, m ≠ n → c.port m = s.chip.port m)) ∧
  (∀ (n : Fin 96) (s : State), s.chip.coreUp = true → (s.chip.port n).dpcReleaseHeld = true → s.chip.owes n = false →
    Sets (.dpcRelease n) s [(⟨.FLT_CONTAIN_PORT, n % 32, n % 32⟩ : Fld).is 0 (n / 32), F.PRT_LINK_STATUS.LTSSM.any n]
      [.cfg, .ports] [] (fun c => c.inDpc n = false ∧ c.port n = { s.chip.port n with dpcReleaseHeld := false })) ∧
  (∀ (n : Fin 96) (s : State), s.chip.coreUp = true →
    Sets (.busMasterEnableClear (.port n)) s [] [.cfg] [] (fun c => c.cfgBit (.port n) 0x04 2 = false) ∧
    Sets (.busMasterEnableSet (.port n)) s [] [.cfg] [] (fun c => c.cfgBit (.port n) 0x04 2 = true)) ∧
  (∀ (p : Fin 32) (s : State), s.chip.coreUp = true → s.chip.acd.emits = [] → s.chip.acd.engs.all (fun e => e.2.out.isEmpty) = true →
    Sets (.busMasterEnableClear (.mgmt p)) s [] [.cfg] [] (fun c => c.cfgBit (.mgmt p) 0x04 2 = false)) ∧
  (∀ (p : Fin 32) (s : State), s.chip.coreUp = true → s.chip.bme (.mgmt p) = true → s.chip.partRefuses p = false →
    Sets (.busMasterEnableClear (.mgmt p)) s [] [.cfg, .acd, .parts] [.ACD_ENG_STATUS, .ACD_JOB_STATUS]
      (fun c => c.cfgBit (.mgmt p) 0x04 2 = false ∧ ∀ x ∈ s.chip.acd.emits, (∃ q ∈ x.dests, s.chip.windowPart x.job q.1 = some p.val) →
        s.chip.engState x.eng ≠ enDisabled → c.engState x.eng = enMaster)) ∧
  (∀ (p : Fin 32) (s : State), s.chip.coreUp = true → (s.chip.part p).stalled = [] →
    s.chip.acd.engs.all (fun e => e.2.out.isEmpty) = true →
    Sets (.busMasterEnableSet (.mgmt p)) s [] [.cfg, .acd, .parts] [.ACD_ENG_STATUS, .ACD_JOB_STATUS, .TCT_CNT_LO, .TCT_CNT_HI]
      (fun c => c.cfgBit (.mgmt p) 0x04 2 = true ∧ (c.part p).stalled = []))

/-! ### Instructions of the micro-sequencer (spec/10_accord_engines.md, Table 10.6) -/

/-- Instructions that compute, move or set a pointer. Addition, subtraction and comparison give Z, N and C; logic and
shifts give Z and N; the others write D, or a pointer or LC, and no flag (R366, R367). It rests on log entry 25. -/
def Obligations.InsnComputation : Prop :=
  ∀ (e : Fin 1536) (s : State),
    let h := s.chip.eng e
    let w := s.chip.insn e
    let a := s.chip.g e (insnA w)
    let b := s.chip.g e (insnB w)
    let m := BitVec.ofInt 32 (insnImmS w)
    let u := word (bits w 9 0)
    let takes (i : Instr) (v : Word) : Prop := Advances i s e ((h.put (insnD w) v).withZN v)
    let moved (p : Nat) : Nat := (((p : Int) + signed 10 (bits w 9 0)) % 131072).toNat
    (s.executes e 0x08 = true → Advances (.add e) s e { (h.put (insnD w) (a + b)).withZN (a + b) with
      c := decide (2 ^ 32 ≤ a.toNat + b.toNat) }) ∧
    (s.executes e 0x09 = true → Advances (.sub e) s e { (h.put (insnD w) (a - b)).withZN (a - b) with
      c := decide (a.toNat < b.toNat) }) ∧
    (s.executes e 0x13 = true → Advances (.cmp e) s e { h.withZN (a - b) with c := decide (a.toNat < b.toNat) }) ∧
    (s.executes e 0x18 = true → Advances (.addi e) s e { (h.put (insnD w) (a + m)).withZN (a + m) with
      c := decide (2 ^ 32 ≤ a.toNat + m.toNat) }) ∧
    (s.executes e 0x1F = true → Advances (.cmpi e) s e { h.withZN (a - m) with c := decide (a.toNat < m.toNat) }) ∧
    (s.executes e 0x0A = true → takes (.and e) (a &&& b)) ∧ (s.executes e 0x0B = true → takes (.or e) (a ||| b)) ∧
    (s.executes e 0x0C = true → takes (.xor e) (a ^^^ b)) ∧
    (s.executes e 0x0D = true → takes (.shl e) (a <<< (b.toNat % 32))) ∧
    (s.executes e 0x0E = true → takes (.shr e) (a >>> (b.toNat % 32))) ∧
    (s.executes e 0x0F = true → takes (.sar e) (a.sshiftRight (b.toNat % 32))) ∧
    (s.executes e 0x19 = true → takes (.andi e) (a &&& u)) ∧ (s.executes e 0x1A = true → takes (.ori e) (a ||| u)) ∧
    (s.executes e 0x1B = true → takes (.xori e) (a ^^^ u)) ∧
    (s.executes e 0x1C = true → takes (.shli e) (a <<< (u.toNat % 32))) ∧
    (s.executes e 0x1D = true → takes (.shri e) (a >>> (u.toNat % 32))) ∧
    (s.executes e 0x1E = true → takes (.sari e) (a.sshiftRight (u.toNat % 32))) ∧
    (s.executes e 0x10 = true → Advances (.mul e) s e (h.put (insnD w) (a * b))) ∧
    (s.executes e 0x11 = true → Advances (.min e) s e (h.put (insnD w) (if a.toInt < b.toInt then a else b))) ∧
    (s.executes e 0x12 = true → Advances (.max e) s e (h.put (insnD w) (if a.toInt < b.toInt then b else a))) ∧
    (s.executes e 0x20 = true → Advances (.ldc e) s e (h.put (insnD w)
      (if bit w 4 then s.chip.reg .ACD_PS_SCALE_HI e (bits w 3 0) else s.chip.reg .ACD_PS_SCALE_LO e (bits w 3 0)))) ∧
    (s.executes e 0x21 = true → Advances (.getip e) s e (h.put (insnD w) (word h.ip))) ∧
    (s.executes e 0x22 = true → Advances (.getop e) s e (h.put (insnD w) (word h.op))) ∧
    (s.executes e 0x04 = true → Advances (.setlc e) s e { h with lc := a.toNat % 65536 }) ∧
    (s.executes e 0x23 = true → Advances (.setip e) s e { h with ip := a.toNat % 131072 }) ∧
    (s.executes e 0x24 = true → Advances (.setop e) s e { h with op := a.toNat % 131072 }) ∧
    (s.executes e 0x25 = true → Advances (.addip e) s e { h with ip := moved h.ip }) ∧
    (s.executes e 0x26 = true → Advances (.addop e) s e { h with op := moved h.op }) ∧
    (s.executes e 0x00 = true → Advances (.nop e) s e h) ∧
    (s.executes e 0x32 = true → h.fetches = [] → h.fetchBad = false → Advances (.fwait e) s e h)

/-- Control flow, the ends of a record and what stops it (R365 to R367, R370, R379). It rests on log entry 25. -/
def Obligations.InsnControl : Prop :=
  (∀ (e : Fin 1536) (s : State), s.executes e 0x03 = true → ∀ b : Bool,
    (s.chip.eng e).cond? (insnD (s.chip.insn e)) = some b →
    Sets (.jmp e) s [F.ACD_ENG_STATUS.PC.is (if b then bits (s.chip.insn e) 8 0 else s.pc e + 1) e]) ∧
  (∀ (e : Fin 1536) (s : State), s.executes e 0x03 = true → 8 ≤ insnD (s.chip.insn e) →
    ErrorEnds (.jmp e) s e 2 (s.chip.eng e).flags) ∧
  (∀ (e : Fin 1536) (s : State), s.executes e 0x05 = true →
    Sets (.djnz e) s [F.ACD_ENG_STATUS.PC.is (if 2 ≤ (s.chip.eng e).lc then bits (s.chip.insn e) 8 0 else s.pc e + 1) e]
      [.acd] [] (s.chip.engIs e { s.chip.eng e with lc := (s.chip.eng e).lc - 1 })) ∧
  (∀ (e : Fin 1536) (s : State), s.executes e 0x01 = true → (s.chip.eng e).fetchBad = false → (s.chip.eng e).fetches = [] →
    ∀ r : RecInHand, (s.chip.eng e).hand = some r →
    Sets (.done e) s [F.ACD_ENG_STATUS.STATE.is enIdle e, F.ACD_JOB_DONE.COUNT.is
        ((s.chip.jfld F.ACD_JOB_DONE.COUNT r.job + 1) % 2 ^ 32) (r.job / 32) (r.job % 32)] [.acd] countRegs
      (fun c => c.eng e = { s.chip.eng e with hand := none } ∧ c.acd.emits = s.chip.acd.emits ∧
        (c.job r.job).order = (s.chip.job r.job).order.filter (· != r.recno) ∧
        ∀ k : Nat, k ≠ r.job → c.job k = s.chip.job k)) ∧
  (∀ (e : Fin 1536) (s : State), (s.chip.eng e).fetchBad = false → (s.chip.eng e).fetches ≠ [] →
    (s.executes e 0x01 = true → Sets (.done e) s [F.ACD_ENG_STATUS.STATE.is enFetch e]) ∧
    (s.executes e 0x32 = true → Sets (.fwait e) s [F.ACD_ENG_STATUS.STATE.is enFetch e])) ∧
  (∀ (e : Fin 1536) (s : State), (s.chip.eng e).fetchBad = true →
    (s.executes e 0x01 = true → ErrorEnds (.done e) s e 6 (s.chip.eng e).flags) ∧
    (s.executes e 0x32 = true → ErrorEnds (.fwait e) s e 6 (s.chip.eng e).flags)) ∧
  (∀ (e : Fin 1536) (s : State), s.executes e 0x02 = true →
    ErrorEnds (.fault e) s e 3 (bits (s.chip.insn e) 7 0)) ∧
  (∀ (e : Fin 1536) (s : State), s.chip.coreUp = true → s.chip.engState e = enRun → (s.chip.eng e).hand ≠ none →
    insnOp (s.chip.insn e) ∉ opcodes → ErrorEnds (.nop e) s e 2 (s.chip.eng e).flags) ∧
  (∀ (e : Fin 1536) (s : State), s.chip.coreUp = true → s.chip.engState e = enRun → (s.chip.eng e).hand ≠ none →
    s.pc e = 511 → insnOp (s.chip.insn e) = 0x00 → ErrorEnds (.nop e) s e 2 (s.chip.eng e).flags) ∧
  (∀ (e : Fin 1536) (s : State), s.chip.engState e ≠ enRun →
    ∀ i ∈ [Instr.nop e, .done e, .fault e, .jmp e, .setlc e, .djnz e, .add e, .sub e, .and e, .or e, .xor e, .shl e, .shr e,
      .sar e, .mul e, .min e, .max e, .cmp e, .addi e, .andi e, .ori e, .xori e, .shli e, .shri e, .sari e, .cmpi e, .ldc e,
      .getip e, .getop e, .setip e, .setop e, .addip e, .addop e, .unpk e, .conv e, .pack e, .xfrm e, .copyb e, .putw e,
      .tstamp e, .emit e, .fetch e, .fwait e], exec i s = .next s)

/-- Access to the record and the staging half, and conversion (R363, R364, R367, R368, R371). It rests on log entries
3 and 25. -/
def Obligations.InsnData : Prop :=
  (∀ (e : Fin 1536) (s : State), s.executes e 0x28 = true →
    let w := s.chip.insn e
    let d := s.chip.descr e (bits w 9 4)
    let p := (s.chip.eng e).ip + d.pos
    p + d.width ≤ 8 * (s.chip.inArea e).2 →
    let raw := Dev.readField ⟨s.mem, s.chip⟩ (e / 128) (s.chip.inArea e).1 p d.width d.msb
    Advances (.unpk e) s e ((s.chip.eng e).put (insnD w)
      (if d.sgn then BitVec.ofInt 32 (signed d.width raw) else word raw))) ∧
  (∀ (e : Fin 1536) (s : State), s.executes e 0x28 = true →
    let d := s.chip.descr e (bits (s.chip.insn e) 9 4)
    8 * (s.chip.inArea e).2 < (s.chip.eng e).ip + d.pos + d.width → ErrorEnds (.unpk e) s e 1 (s.chip.eng e).flags) ∧
  (∀ (e : Fin 1536) (s : State), s.executes e 0x29 = true →
    let w := s.chip.insn e
    let q := s.chip.convert e (s.chip.descr e (bits w 9 4)) (s.chip.g e (insnA w)).toInt
    Sets (.conv e) s [F.ACD_ENG_STATUS.PC.is (s.pc e + 1) e] [.acd] countRegs
      (s.chip.engIs e { (s.chip.eng e).put (insnD w) (word q.1) with sat := (s.chip.eng e).sat || q.2 })) ∧
  (∀ (e : Fin 1536) (s : State), s.executes e 0x2A = true →
    let w := s.chip.insn e
    let d := s.chip.descr e (bits w 9 4)
    let p := (s.chip.eng e).op + d.pos
    p + d.width ≤ 8 * (s.chip.outArea e).2 →
    Stores (.pack e) s (pantryAddr (e / 128) ((s.chip.outArea e).1 + p / 8)) ((p % 8 + d.width + 7) / 8)
      [F.ACD_ENG_STATUS.PC.is (s.pc e + 1) e] [] []
      (fun t => Dev.readField ⟨t.mem, t.chip⟩ (e / 128) (s.chip.outArea e).1 p d.width d.msb =
          (s.chip.g e (insnA w)).toNat % 2 ^ d.width ∧
        ∀ k < 8, (k < p % 8 ∨ p % 8 + d.width ≤ k) →
          Dev.readField ⟨t.mem, t.chip⟩ (e / 128) (s.chip.outArea e).1 (p / 8 * 8 + k) 1 d.msb =
            Dev.readField ⟨s.mem, s.chip⟩ (e / 128) (s.chip.outArea e).1 (p / 8 * 8 + k) 1 d.msb)) ∧
  (∀ (e : Fin 1536) (s : State), s.executes e 0x2A = true →
    let d := s.chip.descr e (bits (s.chip.insn e) 9 4)
    8 * (s.chip.outArea e).2 < (s.chip.eng e).op + d.pos + d.width → ErrorEnds (.pack e) s e 1 (s.chip.eng e).flags) ∧
  (∀ (e : Fin 1536) (s : State), s.executes e 0x2B = true →
    let w := s.chip.insn e
    (s.chip.g e (bits w 5 2)).toNat % 65536 = 0 →
    Advances (.xfrm e) s e { s.chip.eng e with
      ip := if bit w 1 then (s.chip.eng e).ip % 131072 else (s.chip.eng e).ip
      op := if bit w 0 then (s.chip.eng e).op % 131072 else (s.chip.eng e).op }) ∧
  (∀ (e : Fin 1536) (s : State), s.executes e 0x2B = true →
    let w := s.chip.insn e
    let src := s.chip.descr e (bits w 17 12)
    let tgt := s.chip.descr e (bits w 11 6)
    let p := (s.chip.eng e).ip + src.pos
    let q := (s.chip.eng e).op + tgt.pos
    (s.chip.g e (bits w 5 2)).toNat % 65536 = 1 → p + src.width ≤ 8 * (s.chip.inArea e).2 →
    q + tgt.targetWidth ≤ 8 * (s.chip.outArea e).2 →
    let raw := Dev.readField ⟨s.mem, s.chip⟩ (e / 128) (s.chip.inArea e).1 p src.width src.msb
    let code := s.chip.convert e tgt (if src.sgn then signed src.width raw else raw)
    Stores (.xfrm e) s (pantryAddr (e / 128) ((s.chip.outArea e).1 + q / 8)) ((q % 8 + tgt.targetWidth + 7) / 8)
      [F.ACD_ENG_STATUS.PC.is (s.pc e + 1) e] [.acd] countRegs
      (fun t => Dev.readField ⟨t.mem, t.chip⟩ (e / 128) (s.chip.outArea e).1 q tgt.targetWidth tgt.msb =
          code.1 % 2 ^ tgt.targetWidth ∧
        s.chip.engIs e { s.chip.eng e with
          sat := (s.chip.eng e).sat || code.2
          ip := if bit w 1 then ((s.chip.eng e).ip + src.step src.width) % 131072 else (s.chip.eng e).ip
          op := if bit w 0 then ((s.chip.eng e).op + tgt.step tgt.targetWidth) % 131072 else (s.chip.eng e).op } t.chip)) ∧
  (∀ (e : Fin 1536) (s : State), s.executes e 0x2B = true →
    let w := s.chip.insn e
    let src := s.chip.descr e (bits w 17 12)
    let tgt := s.chip.descr e (bits w 11 6)
    let n := (s.chip.g e (bits w 5 2)).toNat % 65536
    let h := s.chip.eng e
    let inside (i : Nat) : Bool := bitsInside (h.ip + src.pos + i * src.step src.width) src.width (s.chip.inArea e).2 &&
      bitsInside (h.op + tgt.pos + i * tgt.step tgt.targetWidth) tgt.targetWidth (s.chip.outArea e).2
    ((∀ i < n, inside i = true) →
      Stores (.xfrm e) s (pantryAddr (e / 128) (s.chip.outArea e).1) (s.chip.outArea e).2
        [F.ACD_ENG_STATUS.PC.is (s.pc e + 1) e] [.acd] countRegs (fun t => ∃ sat : Bool, ((s.chip.eng e).sat = true → sat = true) ∧
          s.chip.engIs e { h with
            sat
            ip := if bit w 1 then (h.ip + n * src.step src.width) % 131072 else h.ip
            op := if bit w 0 then (h.op + n * tgt.step tgt.targetWidth) % 131072 else h.op } t.chip)) ∧
    ((∃ i < n, inside i = false) → ∀ r : RecInHand, h.hand = some r →
      Stores (.xfrm e) s (pantryAddr (e / 128) (s.chip.outArea e).1) (s.chip.outArea e).2
        ([Reg.ACD_ENG_LAST_ERR.any e, F.ACD_ENG_LAST_ERR.STATUS.is 1 e, F.ACD_ENG_LAST_ERR.PC.is (s.pc e) e,
         F.ACD_ENG_STATUS.STATE.is (s.chip.endState e) e,
         F.ACD_JOB_ERR.COUNT.is (s.chip.counted F.ACD_JOB_ERR.COUNT (r.job / 32) (r.job % 32)) (r.job / 32) (r.job % 32),
         F.ACD_JOB_DONE.COUNT.is ((s.chip.jfld F.ACD_JOB_DONE.COUNT r.job + 1) % 2 ^ 32) (r.job / 32) (r.job % 32)] ++
         s.chip.jobShows e (s.chip.endState e))
        (s.chip.reportParts e) (countRegs ++ faultRegs) (fun t => (t.chip.eng e).hand = none ∧
          (t.chip.eng e).g = h.g ∧ ∀ k : Nat, k ≠ e → t.chip.eng k = s.chip.eng k))) ∧
  (∀ (e : Fin 1536) (s : State), s.executes e 0x2C = true →
    let n := (s.chip.g e (insnA (s.chip.insn e))).toNat
    let h := s.chip.eng e
    h.ip % 8 = 0 → h.op % 8 = 0 → h.ip / 8 + n ≤ (s.chip.inArea e).2 → h.op / 8 + n ≤ (s.chip.outArea e).2 →
    Stores (.copyb e) s (pantryAddr (e / 128) ((s.chip.outArea e).1 + h.op / 8)) n
      [F.ACD_ENG_STATUS.PC.is (s.pc e + 1) e] [.acd] []
      (fun t => t.mem.pantryRead (e / 128) ((s.chip.outArea e).1 + h.op / 8) n =
          s.mem.pantryRead (e / 128) ((s.chip.inArea e).1 + h.ip / 8) n ∧
        s.chip.engIs e { h with ip := (h.ip + 8 * n) % 131072, op := (h.op + 8 * n) % 131072 } t.chip)) ∧
  (∀ (e : Fin 1536) (s : State), s.executes e 0x2C = true →
    let n := (s.chip.g e (insnA (s.chip.insn e))).toNat
    let h := s.chip.eng e
    (h.ip % 8 ≠ 0 ∨ h.op % 8 ≠ 0 ∨ (s.chip.inArea e).2 < h.ip / 8 + n ∨ (s.chip.outArea e).2 < h.op / 8 + n) →
    ErrorEnds (.copyb e) s e 1 h.flags) ∧
  (∀ (e : Fin 1536) (s : State), s.executes e 0x2D = true →
    let w := s.chip.insn e
    let at_ := (s.chip.eng e).op / 8 + 4 * bits w 9 0
    (s.chip.eng e).op % 8 = 0 → at_ + 4 ≤ (s.chip.outArea e).2 →
    Stores (.putw e) s (pantryAddr (e / 128) ((s.chip.outArea e).1 + at_)) 4
      [F.ACD_ENG_STATUS.PC.is (s.pc e + 1) e] [] []
      (fun t => t.mem.pantryWord (e / 128) ((s.chip.outArea e).1 + at_) = (s.chip.g e (insnA w)).toNat)) ∧
  (∀ (e : Fin 1536) (s : State), s.executes e 0x2D = true →
    let at_ := (s.chip.eng e).op / 8 + 4 * bits (s.chip.insn e) 9 0
    ((s.chip.eng e).op % 8 ≠ 0 ∨ (s.chip.outArea e).2 < at_ + 4) → ErrorEnds (.putw e) s e 1 (s.chip.eng e).flags) ∧
  (∀ (e : Fin 1536) (s : State), s.executes e 0x2E = true → ∀ r : RecInHand, (s.chip.eng e).hand = some r →
    let w := s.chip.insn e
    let at_ := ((s.chip.eng e).op / 8 : Int) + 4 * signed 10 (bits w 9 0)
    let k := insnD w
    (s.chip.eng e).op % 8 = 0 → 0 ≤ at_ → at_ + 8 ≤ (s.chip.outArea e).2 →
    Stores (.tstamp e) s (pantryAddr (e / 128) ((s.chip.outArea e).1 + at_.toNat)) 8
      [F.ACD_ENG_STATUS.PC.is (s.pc e + 1) e] (if k < 4 then [] else [.free]) []
      (fun t => (k = 0 → leNat (t.mem.pantryRead (e / 128) ((s.chip.outArea e).1 + at_.toNat) 8) = r.first % 2 ^ 64) ∧
        (k = 1 → leNat (t.mem.pantryRead (e / 128) ((s.chip.outArea e).1 + at_.toNat) 8) = r.last % 2 ^ 64) ∧
        (k = 2 → leNat (t.mem.pantryRead (e / 128) ((s.chip.outArea e).1 + at_.toNat) 8) = r.start % 2 ^ 64) ∧
        (k = 3 → leNat (t.mem.pantryRead (e / 128) ((s.chip.outArea e).1 + at_.toNat) 8) = s.chip.ns)))

/-- EMIT, FETCH, and what the engine awaits (R121, R355, R369 to R377, R380). It rests on log entries 25, 26, 45 and
49. -/
def Obligations.InsnTransfers : Prop :=
  (∀ (e : Fin 1536) (s : State), s.executes e 0x30 = true →
    let w := s.chip.insn e
    let len := s.chip.emitLen e w
    len % 4 = 0 → 4 ≤ len → len ≤ s.chip.jfld F.ACD_JOB_LEN.OUT_LEN (s.chip.handJob e) →
    Dev.emitWait? ⟨s.mem, s.chip⟩ e w = none → (∀ q ∈ s.chip.emitSlots e w, s.chip.fld F.ACD_DST_A.FULL (s.chip.handJob e / 32) q.2 ≠ 2) →
    s.chip.emitSlots e w ≠ [] → ∀ r : RecInHand, (s.chip.eng e).hand = some r →
    let off := s.chip.engStalled e || (s.chip.emitSlots e w).any fun q => s.chip.windowOff r.job q.2
    Sets (.emit e) s (F.ACD_ENG_STATUS.PC.is (s.pc e + 1) e :: if off then
        F.ACD_ENG_STATUS.STATE.is enMaster e :: s.chip.jobShows e enMaster else []) (if off then [.acd, .parts] else [.acd]) countRegs
      (fun c => c.eng e = { s.chip.eng e with
          half := 1 - (s.chip.eng e).half, op := 0, before := if off then enRun else (s.chip.eng e).before } ∧
        (∀ k : Nat, k ≠ e → c.eng k = s.chip.eng k) ∧ c.acd.jobs = s.chip.acd.jobs ∧
        c.acd.emits = s.chip.acd.emits ++ [{
          eng := e, job := r.job, half := some (s.chip.eng e).half, len, status := 0, flags := (s.chip.eng e).flags,
          first := r.first, dests := (s.chip.emitSlots e w).map fun q => (q.2, s.chip.nextProd (r.job / 32) q.2) }])) ∧
  (∀ (e : Fin 1536) (s : State), s.executes e 0x30 = true →
    let w := s.chip.insn e
    let len := s.chip.emitLen e w
    (len % 4 ≠ 0 ∨ len < 4 ∨ s.chip.jfld F.ACD_JOB_LEN.OUT_LEN (s.chip.handJob e) < len) →
    ErrorEnds (.emit e) s e 1 (s.chip.eng e).flags) ∧
  (∀ (e : Fin 1536) (s : State), s.executes e 0x30 = true →
    let w := s.chip.insn e
    let len := s.chip.emitLen e w
    len % 4 = 0 → 4 ≤ len → len ≤ s.chip.jfld F.ACD_JOB_LEN.OUT_LEN (s.chip.handJob e) →
    ∀ x : Nat, Dev.emitWait? ⟨s.mem, s.chip⟩ e w = some x → x ≠ enMaster →
    Sets (.emit e) s [F.ACD_ENG_STATUS.STATE.is x e]) ∧
  (∀ (e : Fin 1536) (s : State), s.executes e 0x31 = true →
    let w := s.chip.insn e
    let j := s.chip.handJob e
    ∀ x : Nat, s.chip.slotWindow? j (insnD w % 4) = some x → s.chip.flag F.ACD_DST_A.KIND (j / 32) x = false →
    let len := (s.chip.g e (insnA w)).toNat
    4 ≤ len → len ≤ 4096 → len % 4 = 0 → (s.chip.eng e).ip / 8 + len ≤ (s.chip.inArea e).2 →
    (s.chip.eng e).fetches = [] → s.chip.windowOff j x = false → s.chip.flt.dev = [] →
    Reaches (.fetch e) s fun c => c.fld F.ACD_ENG_STATUS.PC e = s.pc e + 1 ∧
      ((c.eng e).fetches.map (·.len)).sum = len ∧ c.engState e = enRun) ∧
  (∀ (e : Fin 1536) (s : State), s.executes e 0x31 = true →
    let w := s.chip.insn e
    let j := s.chip.handJob e
    (s.chip.slotWindow? j (insnD w % 4) = none → ErrorEnds (.fetch e) s e 2 (s.chip.eng e).flags) ∧
    ∀ x : Nat, s.chip.slotWindow? j (insnD w % 4) = some x →
    let len := (s.chip.g e (insnA w)).toNat
    (s.chip.flag F.ACD_DST_A.KIND (j / 32) x = true → ErrorEnds (.fetch e) s e 2 (s.chip.eng e).flags) ∧
    (s.chip.flag F.ACD_DST_A.KIND (j / 32) x = false →
      (len < 4 ∨ 4096 < len ∨ len % 4 ≠ 0 ∨ (s.chip.inArea e).2 < (s.chip.eng e).ip / 8 + len) →
      ErrorEnds (.fetch e) s e 1 (s.chip.eng e).flags)) ∧
  (∀ (e : Fin 1536) (s : State), s.chip.coreUp = true → s.chip.engState e = enFetch →
    ((s.chip.eng e).fetches = [] ∨ (s.chip.eng e).fetchBad = true) →
    Sets (.engineWaitResume e) s [F.ACD_ENG_STATUS.STATE.is enRun e]) ∧
  (∀ (e : Fin 1536) (s : State), s.chip.coreUp = true →
    (s.chip.engState e = enToken ∨ s.chip.engState e = enBuf ∨ s.chip.engState e = enDest) →
    insnOp (s.chip.insn e) = 0x30 → Dev.emitWait? ⟨s.mem, s.chip⟩ e (s.chip.insn e) = none →
    Sets (.engineWaitResume e) s [F.ACD_ENG_STATUS.STATE.is enRun e]) ∧
  (∀ (e : Fin 1536) (s : State), s.chip.coreUp = true → (s.chip.engState e = enMeter ∨ s.chip.engState e = enMaster) →
    let st := if s.chip.engStalled e then enMaster else if s.chip.engHeldWrite e then enMeter else (s.chip.eng e).before % 16
    Sets (.engineWaitResume e) s (F.ACD_ENG_STATUS.STATE.is st e :: s.chip.jobShows e st) [.acd] []
      (fun c => (c.eng e).hand = (s.chip.eng e).hand ∧ (c.eng e).g = (s.chip.eng e).g ∧
        ∀ k : Nat, k ≠ e → c.eng k = s.chip.eng k)) ∧
  (∀ (e : Fin 1536) (s : State), s.chip.coreUp = true →
    ∀ q : InCpl, s.chip.flt.inbox.find? (fun q => q.to_ == .engine e) = some q →
    ∀ f : FetchRead, (s.chip.eng e).fetches.find? (fun f => f.tag == q.pkt.tag && f.part == q.part) = some f →
    f.void = false → q.pkt.status = .sc → f.len ≤ q.pkt.data.length →
    Stores (.fetchCompletion e) s (pantryAddr (e / 128) ((s.chip.inArea e).1 + f.off)) f.len [] [.acd, .flt] []
      (fun t => t.mem.pantryRead (e / 128) ((s.chip.inArea e).1 + f.off) f.len = q.pkt.data.take f.len ∧
        t.chip.flt = { s.chip.flt with inbox := s.chip.flt.inbox.erase q } ∧
        s.chip.engIs e { s.chip.eng e with fetches := (s.chip.eng e).fetches.erase f } t.chip)) ∧
  (∀ (e : Fin 1536) (s : State), s.chip.coreUp = true →
    ∀ q : InCpl, s.chip.flt.inbox.find? (fun q => q.to_ == .engine e) = some q →
    ∀ f : FetchRead, (s.chip.eng e).fetches.find? (fun f => f.tag == q.pkt.tag && f.part == q.part) = some f →
    (q.pkt.status ≠ .sc ∨ f.void = true ∧ f.len ≤ q.pkt.data.length) →
    Sets (.fetchCompletion e) s [] [.acd, .flt] [] (s.chip.engIs e { s.chip.eng e with
      fetches := (s.chip.eng e).fetches.erase f, fetchBad := (s.chip.eng e).fetchBad || q.pkt.status != .sc })) ∧
  (∀ (e : Fin 1536) (s : State), s.chip.coreUp = true →
    ∀ x : Emission, s.chip.acd.emits.find? (fun y => y.eng == e.val) = some x →
    let now := s.chip.emitReady x
    let rest := x.dests.filter fun q => !now.elem q
    Reaches (.emissionDone e) s fun c =>
      (rest = [] → c.acd.emits = s.chip.acd.emits.filter (· != x)) ∧
      (rest ≠ [] → c.acd.emits = s.chip.acd.emits.map fun y => if y == x then { x with dests := rest } else y) ∧
      (∀ q ∈ now, s.chip.windowOff x.job q.1 = false ∧ c.fld F.ACD_DST_PROD.PROD (x.job / 32) q.1 =
        (s.chip.fld F.ACD_DST_PROD.PROD (x.job / 32) q.1 + (now.filter fun r => r.1 == q.1).length) % 2 ^ 32) ∧
      ∀ w : Nat, (∀ q ∈ now, q.1 ≠ w) →
        c.fld F.ACD_DST_PROD.PROD (x.job / 32) w = s.chip.fld F.ACD_DST_PROD.PROD (x.job / 32) w) ∧
  (∀ (e : Fin 1536) (s : State), s.chip.coreUp = true →
    ∀ x : Emission, s.chip.acd.emits.find? (fun y => y.eng == e.val) = some x →
    s.chip.emitReady x = [] → x.dests ≠ [] →
    Sets (.emissionDone e) s [] [.acd] [] (fun c => c.acd = s.chip.acd)) ∧
  (∀ (n : Fin 96) (s : State), s.chip.coreUp = true → ∀ q : Option Nat × Copy, s.chip.cel.capWaiting.head? = some q →
    q.2.src = .port n → s.chip.cel.capWaiting.length = 1 → ∀ r : Nat, q.1 = some r →
    let j := s.chip.capJob r
    let len := s.chip.recLen j
    let base := s.chip.jfld F.ACD_JOB_RING.BASE j * 64
    let at_ := (s.chip.job j).filled
    let bs := q.2.pkt.data
    len ≤ s.chip.ringBytes j → at_ % len + bs.length ≤ len → s.chip.capBlocked j = false →
    Stores (.captureStallResume n) s (pantryAddr (j / 32) base) (s.chip.ringBytes j) [] [.acd, .cel]
      [.ACD_JOB_READY, .ACD_JOB_LOST]
      (fun t => t.chip.cel = { s.chip.cel with capWaiting := [] } ∧ (t.chip.job j).filled = at_ + bs.length ∧
        (∀ i < bs.length, q.2.pkt.laneOn i = true →
          t.mem.pantryRead (j / 32) (base + (at_ + i) % s.chip.ringBytes j) 1 = (bs.drop i).take 1) ∧
        ∀ i < bs.length, q.2.pkt.laneOn i = false →
          t.mem.pantryRead (j / 32) (base + (at_ + i) % s.chip.ringBytes j) 1 =
            s.mem.pantryRead (j / 32) (base + (at_ + i) % s.chip.ringBytes j) 1)) ∧
  (∀ (n : Fin 96) (s : State), (∀ q ∈ s.chip.cel.capWaiting, q.2.src ≠ .port n) →
    exec (.captureStallResume n) s = .next s)

/-! ### Jobs, starts and records of the Accord engines (spec/10_accord_engines.md) -/

/-- Enabling a job, its control register, and starts (R353, R356 to R359). It rests on log entries 24, 25 and 49. -/
def Obligations.AccordJobs : Prop :=
  (∀ (a : Access) (t : Fin 12) (j : Fin 32) (v : Word) (s : State) (c : Chip), s.passes a ⟨.ACD_JOB_CFG, t, j⟩ v c →
    c.jobEn (32 * t + j) = false → wbit v 31 = true → c.isExpert a.who = true →
    let stored := (c.storeReg a ⟨.ACD_JOB_CFG, t, j⟩ t v).setFld F.ACD_JOB_CFG.EN 0 t j
    let refuse := stored.jobRefuse (32 * t + j)
    SetsPast c (.jobEnable a t j v) s [Reg.ACD_JOB_CFG.any t j, F.ACD_JOB_CFG.EN.is (b2n (refuse == 0)) t j,
        F.ACD_JOB_CFG.SRC.is (wget v 30 30) t j, F.ACD_JOB_CFG.WDOG.is (wget v 7 0) t j,
        F.ACD_JOB_STATUS.REFUSE.is refuse t j, Reg.ACD_JOB_READY.any t j, Reg.ACD_JOB_RECNO.any t j, Reg.ACD_JOB_DONE.any t j]
      [.acd] [.ACD_DST_PROD, .ACD_CLAMP_SEEN]
      (fun d => (refuse ≠ 0 → d.acd = c.acd ∧ d.jfld F.ACD_JOB_DONE.COUNT (32 * t + j) = c.jfld F.ACD_JOB_DONE.COUNT (32 * t + j)) ∧
        (refuse = 0 → d.job (32 * t + j) = {} ∧ d.reg .ACD_JOB_READY t j = 0 ∧ d.reg .ACD_JOB_RECNO t j = 0 ∧
          d.reg .ACD_JOB_DONE t j = 0 ∧ ∀ w ∈ d.jobWindows (32 * t + j), d.reg .ACD_DST_PROD t w = 0))) ∧
  (∀ (a : Access) (t : Fin 12) (j : Fin 32) (v : Word) (s : State) (c : Chip), s.passes a ⟨.ACD_JOB_CTL, t, j⟩ v c →
    wbit v 29 = false → wbit v 30 = true → wbit v 31 = false → c.jobEn (32 * t + j) = true →
    SetsPast c (.jobStop a t j v) s [F.ACD_JOB_STATUS.STOPPING.is 1 t j] [.acd] []
      (fun d => d.job (32 * t + j) = { c.job (32 * t + j) with starts := [] } ∧ d.acd.engs = c.acd.engs ∧
        d.acd.emits = c.acd.emits ∧ ∀ k : Nat, k ≠ 32 * t + j → d.job k = c.job k)) ∧
  (∀ (a : Access) (t : Fin 12) (j : Fin 32) (v : Word) (s : State) (c : Chip), s.passes a ⟨.ACD_JOB_CTL, t, j⟩ v c →
    wbit v 29 = true → wbit v 30 = false → wbit v 31 = false → c.jobEn (32 * t + j) = true →
    SetsPast c (.jobAbort a t j v) s ((c.jobEngines (32 * t + j)).map fun e => F.ACD_ENG_STATUS.STATE.any e) [.acd, .parts]
      [.ACD_JOB_STATUS]
      (fun d => (d.job (32 * t + j)).starts = [] ∧ (d.job (32 * t + j)).order = [] ∧
        (d.job (32 * t + j)).recs = (d.job (32 * t + j)).recs.filter (fun r => !r.ready) ∧
        ∀ e ∈ c.jobEngines (32 * t + j), (d.eng e).hand = none ∧ (d.eng e).g = [] ∧ (d.eng e).fetches = [] ∧
          (d.eng e).out = [] ∧ d.engState e = (if c.engState e = enDisabled then enDisabled
            else if c.engHeldWrite e then enMeter else enIdle) ∧ d.engStalled e = false ∧ d.acd.emits.all (fun x => x.eng != e))) ∧
  (∀ (a : Access) (t : Fin 12) (j : Fin 32) (v : Word) (s : State) (c : Chip), s.passes a ⟨.ACD_JOB_CTL, t, j⟩ v c →
    wbit v 29 = false → wbit v 30 = false → wbit v 31 = true → c.jobEn (32 * t + j) = true → c.startsOk = true →
    c.tileEn t = true → c.jfld F.ACD_JOB_STATUS.STOPPING (32 * t + j) = 0 → c.jfld F.ACD_JOB_CFG.SRC (32 * t + j) = 1 →
    (c.job (32 * t + j)).starts.length < 64 →
    SetsPast c (.kick a t j v) s [] [.acd] []
      (fun d => d.job (32 * t + j) = { c.job (32 * t + j) with starts := (c.job (32 * t + j)).starts ++ [{ kind := 3, time := c.ns, hwy := c.hwy }] } ∧
        d.acd.engs = c.acd.engs ∧ ∀ k : Nat, k ≠ 32 * t + j → d.job k = c.job k)) ∧
  (∀ (a : Access) (t : Fin 12) (j : Fin 32) (v : Word) (s : State) (c : Chip), s.passes a ⟨.ACD_JOB_CTL, t, j⟩ v c →
    wbit v 29 = false → wbit v 30 = false → wbit v 31 = true → c.jobEn (32 * t + j) = true → c.startsOk = true →
    c.tileEn t = true → c.jfld F.ACD_JOB_STATUS.STOPPING (32 * t + j) = 0 →
    (c.jfld F.ACD_JOB_CFG.SRC (32 * t + j) = 0 ∨ (c.job (32 * t + j)).starts.length = 64) →
    Reaches (.kick a t j v) s fun d => d.fld F.ACD_JOB_LOST.START_LOST t j = c.counted F.ACD_JOB_LOST.START_LOST t j ∧
      (d.job (32 * t + j)).starts = (c.job (32 * t + j)).starts) ∧
  (∀ (t : Fin 12) (j : Fin 32) (s : State), s.chip.coreUp = true →
    s.chip.fld F.ACD_JOB_STATUS.STOPPING t j = 1 → s.chip.jobRunning (32 * t + j) = 0 →
    Sets (.jobStopDone t j) s [F.ACD_JOB_CFG.EN.is 0 t j, F.ACD_JOB_STATUS.STOPPING.is 0 t j])

/-- Dispatch of records, doorbells and the watchdog (R354, R360, R365, R378, R379); loads of program stores, and
errors of the Pantry and of a program store (R346, R362, R379). It rests on log entries 25, 40 and 49. -/
def Obligations.AccordRecordsAndLoads : Prop :=
  (∀ (t : Fin 12) (j : Fin 32) (s : State), s.chip.coreUp = true →
    let i := 32 * t.val + j.val
    s.chip.jobEn i = true → s.chip.jfld F.ACD_JOB_STATUS.STOPPING i = 0 → s.chip.startsOk = true → s.chip.jobDraining i = false →
    s.chip.jfld F.ACD_JOB_CFG.SRC i = 1 →
    s.chip.tileEn t = true →
    ∀ e : Nat, (s.chip.jobEngines i).find? (fun e => s.chip.engState e == enIdle) = some e →
    ∀ x : StartH, (s.chip.job i).starts.head? = some x →
    let no := s.chip.jfld F.ACD_JOB_RECNO.COUNT i
    Sets (.recordDispatch t j) s [F.ACD_ENG_STATUS.PC.is 0 e, F.ACD_ENG_STATUS.STATE.is enRun e, Reg.ACD_ENG_RECNO.is (word no) e,
        F.ACD_JOB_RECNO.COUNT.is ((no + 1) % 2 ^ 32) t j] [.acd] countRegs
      (fun c => (c.job i).starts = (s.chip.job i).starts.drop 1 ∧ (c.job i).order = (s.chip.job i).order ++ [no] ∧
        c.g e 1 = word no ∧ c.g e 2 = word (s.chip.recLen i) ∧
        c.g e 3 = word (x.kind * 2 ^ 30 + b2n x.late * 2 ^ 29 + x.line) ∧ (∀ r < 16, 4 ≤ r → c.g e r = s.chip.g e r) ∧
        (c.eng e).ip = 0 ∧ (c.eng e).op = 0 ∧ (c.eng e).lc = 0 ∧ (c.eng e).sat = false ∧
        ∃ r ∈ (c.eng e).hand, r.job = i ∧ r.recno = no ∧ r.first = x.time ∧ r.len = s.chip.recLen i)) ∧
  (∀ (t : Fin 12) (j : Fin 32) (s : State), s.chip.coreUp = true →
    let i := 32 * t.val + j.val
    s.chip.jobEn i = true → s.chip.jfld F.ACD_JOB_STATUS.STOPPING i = 0 → s.chip.startsOk = true → s.chip.jobDraining i = false →
    s.chip.jfld F.ACD_JOB_CFG.SRC i = 0 →
    s.chip.tileEn t = true →
    ∀ e : Nat, (s.chip.jobEngines i).find? (fun e => s.chip.engState e == enIdle) = some e →
    ∀ x : RingRec, (s.chip.job i).recs.find? (fun r => !r.busy) = some x → x.ready = true →
    let no := s.chip.jfld F.ACD_JOB_RECNO.COUNT i
    Sets (.recordDispatch t j) s [F.ACD_ENG_STATUS.PC.is 0 e, F.ACD_ENG_STATUS.STATE.is enRun e, Reg.ACD_ENG_RECNO.is (word no) e,
        F.ACD_JOB_RECNO.COUNT.is ((no + 1) % 2 ^ 32) t j] [.acd] countRegs
      (fun c => (c.job i).starts = (s.chip.job i).starts ∧ (c.job i).order = (s.chip.job i).order ++ [no] ∧
        c.g e 1 = word no ∧ c.g e 2 = word (s.chip.recLen i) ∧ c.g e 3 = word (b2n x.gap * 2 ^ 28 + 0xFF) ∧
        (∀ q ∈ (c.job i).recs, q.num = x.num → q.busy = true) ∧
        ∃ r ∈ (c.eng e).hand, r.job = i ∧ r.recno = no ∧ r.num = some x.num ∧ r.first = x.first ∧ r.last = x.last ∧
          r.start = s.chip.ns)) ∧
  (∀ (t : Fin 12) (page : Fin 512) (v : Word) (s : State), s.chip.coreUp = true →
    let n := v.toNat % 65536
    ∀ j : Fin 32, s.chip.jobEn (32 * t + j) = true → s.chip.jfld F.ACD_JOB_DB.VALID (32 * t + j) = 1 →
    s.chip.jfld F.ACD_JOB_DB.PAGE (32 * t + j) = page →
    (∀ k < 32, k ≠ j.val → s.chip.jobEn (32 * t + k) = false ∨ s.chip.jfld F.ACD_JOB_DB.VALID (32 * t + k) = 0 ∨
      s.chip.jfld F.ACD_JOB_DB.PAGE (32 * t + k) ≠ page) →
    s.chip.startsOk = true → s.chip.tileEn t = true → s.chip.jfld F.ACD_JOB_STATUS.STOPPING (32 * t + j) = 0 →
    s.chip.jfld F.ACD_JOB_CFG.SRC (32 * t + j) = 1 → (s.chip.job (32 * t + j)).starts.length + n ≤ 64 →
    Stores (.doorbellStart t page v) s (pantryAddr t (page * 4096)) 4 [] [.acd] []
      (fun u => u.mem.pantryWord t (page * 4096) = v.toNat ∧ u.chip.job (32 * t + j) = { s.chip.job (32 * t + j) with
          starts := StartH.insert { kind := 3, time := s.chip.ns, hwy := s.chip.hwy, rank := 512 } n
            (s.chip.job (32 * t + j)).starts } ∧
        u.chip.acd.engs = s.chip.acd.engs)) ∧
  (∀ (t : Fin 12) (page : Fin 512) (v : Word) (s : State), s.chip.coreUp = true →
    (v.toNat % 65536 = 0 ∨ ∀ k < 32, s.chip.jobEn (32 * t + k) = false ∨ s.chip.jfld F.ACD_JOB_DB.VALID (32 * t + k) = 0 ∨
      s.chip.jfld F.ACD_JOB_DB.PAGE (32 * t + k) ≠ page) →
    Stores (.doorbellStart t page v) s (pantryAddr t (page * 4096)) 4 [] [] []
      (fun u => u.mem.pantryWord t (page * 4096) = v.toNat)) ∧
  (∀ (e : Fin 1536) (s : State), s.chip.coreUp = true → (s.chip.engState e = enRun ∨ s.chip.engState e = enFetch) →
    s.chip.jfld F.ACD_JOB_CFG.WDOG (s.chip.handJob e) ≠ 0 → ErrorEnds (.recordWatchdog e) s e 4 (s.chip.eng e).flags) ∧
  (∀ (e : Fin 1536) (s : State), (s.chip.jfld F.ACD_JOB_CFG.WDOG (s.chip.handJob e) = 0 ∨
      s.chip.engState e ≠ enRun ∧ s.chip.engState e ≠ enFetch) → exec (.recordWatchdog e) s = .next s) ∧
  (∀ (a : Access) (t : Fin 12) (v : Word) (s : State) (c : Chip), s.passes a ⟨.ACD_LOAD_CTL, t, 0⟩ v c → wbit v 31 = true →
    c.fld F.ACD_LOAD_CTL.BUSY t = 0 →
    let first := if c.isExpert a.who then wget v 22 16 else c.fld F.ACD_LOAD_CTL.FIRST t
    let count := if c.isExpert a.who then clampN 1 128 (wget v 7 0) else c.fld F.ACD_LOAD_CTL.COUNT t
    let used := (((rangeFrom first count).filter (Nat.blt · 128)).map (· + 128 * t.val)).any fun e => (c.jobOf? e).isSome
    SetsPast c (.accordLoad a t v) s [F.ACD_LOAD_CTL.BUSY.is (if used then 0 else 1) t, F.ACD_LOAD_CTL.FIRST.is first t,
      F.ACD_LOAD_CTL.COUNT.is count t,
      F.ACD_LOAD_CTL.RESULT.is (if used then 1 else c.fld F.ACD_LOAD_CTL.RESULT t) t] [] [.ACD_CLAMP_SEEN, .GLB_CLAMP_SEEN]) ∧
  (∀ (t : Fin 12) (s : State), s.chip.coreUp = true → s.chip.fld F.ACD_LOAD_CTL.BUSY t = 1 → s.chip.loadInUse t = false →
    s.chip.tileEn t = true →
    let src := s.chip.fld F.ACD_LOAD_SRC.SRC t * 64
    src + 2688 ≤ pantrySize → s.chip.fld F.ACD_LOAD_CTL.FIRST t + s.chip.fld F.ACD_LOAD_CTL.COUNT t ≤ 128 →
    Sets (.accordLoadDone t false) s ([F.ACD_LOAD_CTL.BUSY.is 0 t, F.ACD_LOAD_CTL.RESULT.is 0 t] ++
        (s.chip.loadEngines t).map fun e => F.ACD_ENG_STATUS.STATE.is
          (if s.chip.engStalled e then enMaster else if s.chip.engHeldWrite e then enMeter else enIdle) e) [.acd]
      [.ACD_PS_INSN, .ACD_PS_DESC_A, .ACD_PS_DESC_B, .ACD_PS_SCALE_LO, .ACD_PS_SCALE_HI]
      (fun c => ∀ e ∈ s.chip.loadEngines t, (c.eng e).g = [] ∧
        (∀ i < 512, (c.reg .ACD_PS_INSN e i).toNat = s.mem.pantryWord t (src + 4 * i) % 2 ^ 24) ∧
        (∀ i < 64, (c.reg .ACD_PS_DESC_B e i).toNat = s.mem.pantryWord t (src + 0x804 + 8 * i) % 65536) ∧
        ∀ i < 16, (c.reg .ACD_PS_SCALE_LO e i).toNat = s.mem.pantryWord t (src + 0xA00 + 8 * i) ∧
          (c.reg .ACD_PS_SCALE_HI e i).toNat = s.mem.pantryWord t (src + 0xA04 + 8 * i))) ∧
  (∀ (t : Fin 12) (bad : Bool) (s : State), (s.chip.tileEn t = false ∨ s.chip.flag F.ACD_LOAD_CTL.BUSY t = false) →
    exec (.accordLoadDone t bad) s = .next s) ∧
  (∀ (t : Fin 12) (bad : Bool) (s : State), s.chip.coreUp = true → s.chip.fld F.ACD_LOAD_CTL.BUSY t = 1 →
    s.chip.tileEn t = true →
    (s.chip.loadInUse t = true ∨ pantrySize < s.chip.fld F.ACD_LOAD_SRC.SRC t * 64 + 2688 ∨
      128 < s.chip.fld F.ACD_LOAD_CTL.FIRST t + s.chip.fld F.ACD_LOAD_CTL.COUNT t) →
    Sets (.accordLoadDone t bad) s [F.ACD_LOAD_CTL.BUSY.is 0 t,
      F.ACD_LOAD_CTL.RESULT.is (if s.chip.loadInUse t then 1 else 2) t]) ∧
  (∀ (t : Fin 12) (s : State), s.chip.coreUp = true → s.chip.fld F.ACD_LOAD_CTL.BUSY t = 1 → s.chip.loadInUse t = false →
    s.chip.tileEn t = true →
    s.chip.fld F.ACD_LOAD_SRC.SRC t * 64 + 2688 ≤ pantrySize →
    s.chip.fld F.ACD_LOAD_CTL.FIRST t + s.chip.fld F.ACD_LOAD_CTL.COUNT t ≤ 128 →
    Sets (.accordLoadDone t true) s ([F.ACD_LOAD_CTL.BUSY.is 0 t, F.ACD_LOAD_CTL.RESULT.is 3 t] ++
      (s.chip.loadEngines t).map fun e => F.ACD_ENG_STATUS.STATE.is enDisabled e)) ∧
  (∀ (t : Fin 12) (k : Fin 128) (at_ : EccAt) (s : State), s.chip.coreUp = true →
    (∀ x < 128, (s.chip.eng (128 * t + x)).hand = none) →
    Sets (.pantryEccUncorrectable t false k at_) s
      (F.ACD_ECC_CORR.COUNT.is (min (s.chip.fld F.ACD_ECC_CORR.COUNT t + at_.corr.length) F.ACD_ECC_CORR.COUNT.max) t ::
        match at_.addr with
        | some x => [F.ACD_ECC_UNCORR.COUNT.is (s.chip.counted F.ACD_ECC_UNCORR.COUNT t) t, F.ACD_ECC_ADDR.VALID.is 1 t,
            F.ACD_ECC_ADDR.STORE.is 0 t, F.ACD_ECC_ADDR.ADDR.is x t, Reg.ACD_ECC_ADDR.any t]
        | none => []) [.flt] faultRegs
      (fun c => (∀ x ∈ at_.addr, c.raised (tileSrc t 15) 0x12 (fun h => h = 2 ^ 31 + x.val)) ∧
        (s.chip.flt = {} → ∀ x : Fin 2097152, at_.corr.head? = some x → c.raised (tileSrc t 15) 0x1C (fun h => h = x)))) ∧
  (∀ (t : Fin 12) (k : Fin 128) (at_ : EccAt) (x : Fin 2097152) (s : State), s.chip.coreUp = true → at_.addr = some x →
    Reaches (.pantryEccUncorrectable t true k at_) s fun c => c.engState (128 * t + k) = enDisabled ∧
      (c.eng (128 * t + k)).hand = none ∧ c.fld F.ACD_ECC_UNCORR.COUNT t = s.chip.counted F.ACD_ECC_UNCORR.COUNT t ∧
      c.fld F.ACD_ECC_ADDR.STORE t = 1 ∧ c.fld F.ACD_ECC_ADDR.ENGINE t = k ∧ c.fld F.ACD_ECC_ADDR.ADDR t = x ∧
      ((s.chip.eng (128 * t + k)).hand ≠ none → c.fld F.ACD_ENG_LAST_ERR.STATUS (128 * t + k) = 5))

/-! ### The register bus (spec/00_scope.md, spec/19_register_map.md) -/

/-- What a write passes before its register's own rule, and what it stores (R4, R6 to R8, R12, R13, R392, R504, R505).
It rests on log entries 10, 11 and 13. -/
def Obligations.BusWrites : Prop :=
  (∀ (a : Access) (off : Fin 0x10000000) (v : Word) (s : State), s.chip.coreUp = true → pantryAt off = none →
    ∀ k : RegKey, s.chip.keyAt off = some k → k.reg ∈ [Reg.GLB_FLC_DRAIN_LIMIT, .LBX_ELECT_CFG, .CEL_AGE_LIMIT, .FLT_CPL_TO,
      .LPB_TMO, .PWR_CFG, .TIM_TRIG_CFG, .SDS_LN_PWR, .FUS_CHAN_TIME, .ACD_JOB_SET, .ACD_JOB_DB] →
    ∀ c : Chip, s.chip.passAt a k off v = (.ok, c) →
    let kept := k.reg.clampRanges v.toNat
    let x := c.isExpert a.who
    SetsPast c (.registerWrite a off v) s
      [Reg.is k.reg (word (k.reg.writeWord x (c.regs.get k).toNat kept)) k.i k.j,
       (k.clampFld (busTile k off)).1.is (if k.reg.clampSeen x v.toNat kept then
         c.counted (k.clampFld (busTile k off)).1 (k.clampFld (busTile k off)).2
         else c.fld (k.clampFld (busTile k off)).1 (k.clampFld (busTile k off)).2) (k.clampFld (busTile k off)).2,
       F.GLB_CLAMP_SEEN.DROPPED.is (if x = false ∧ k.reg.rwxChanges (c.regs.get k).toNat kept then
         c.counted F.GLB_CLAMP_SEEN.DROPPED else c.fld F.GLB_CLAMP_SEEN.DROPPED)]) ∧
  (∀ (a : Access) (off : Fin 0x10000000) (v : Word) (s : State), s.chip.coreUp = true → pantryAt off = none →
    ∀ k : RegKey, s.chip.keyAt off = some k → (a.full = false ∨ s.chip.isOwner a.who = false) →
    ∀ i ∈ [Instr.registerWrite a off v, .pairLoWrite a off v, .pairHiWrite a off v],
    Sets i s [F.GLB_CLAMP_SEEN.DROPPED.is (s.chip.counted F.GLB_CLAMP_SEEN.DROPPED)] [.heldLo] []
      (fun c => (k.reg.loOf = none → c.heldLo = s.chip.heldLo) ∧
        ∀ lo : Reg, k.reg.loOf = some lo → c.heldFor ⟨lo, k.i, k.j⟩ = none)) ∧
  (∀ (a : Access) (off : Fin 0x10000000) (v : Word) (s : State), s.chip.coreUp = true → pantryAt off = none →
    ∀ k : RegKey, s.chip.keyAt off = some k → a.full = true → s.chip.isOwner a.who = true → s.chip.isExpert a.who = false →
    k.reg.block ≠ .gat → k.reg.rwxOnly = true →
    ∀ i ∈ [Instr.registerWrite a off v, .pairLoWrite a off v, .pairHiWrite a off v],
    Sets i s [F.GLB_CLAMP_SEEN.DROPPED.is (if k.reg.rwxChanges (s.chip.regs.get k).toNat (s.chip.wouldHold k v.toNat) then
      s.chip.counted F.GLB_CLAMP_SEEN.DROPPED else s.chip.fld F.GLB_CLAMP_SEEN.DROPPED)] [.heldLo]) ∧
  (∀ (a : Access) (off : Fin 0x10000000) (v : Word) (s : State), s.chip.coreUp = true → pantryAt off = none →
    ∀ k : RegKey, s.chip.keyAt off = some k → a.full = true → s.chip.isOwner a.who = true → s.chip.isExpert a.who = true →
    ∀ r : Nat, s.chip.judge 109 (s.chip.gateView a off true) = some r →
    k.reg.block ≠ .gat → k.reg.block ≠ .flt → k.reg.block ≠ .tct →
    ∀ i ∈ [Instr.registerWrite a off v, .pairLoWrite a off v, .pairHiWrite a off v],
    Reaches i s fun c => c.regs.get k = s.chip.regs.get k ∧ c.heldLo = s.chip.heldLo ∧
      c.fld F.GAT_VIOL_COUNT.COUNT = s.chip.counted F.GAT_VIOL_COUNT.COUNT ∧
      (s.chip.flag F.GAT_VIOL_STATUS.VALID = false → c.fld F.GAT_VIOL_STATUS.GATE = 109 ∧
        c.fld F.GAT_VIOL_STATUS.REASON = r % 16 ∧ c.fld F.GAT_VIOL_ADDR_LO.ADDR = off)) ∧
  (∀ (a : Access) (off : Fin 0x10000000) (v : Word) (s : State), s.chip.coreUp = true → pantryAt off = none →
    s.chip.keyAt off = none → (a.full = false ∨ s.chip.isOwner a.who = false) →
    Sets (.registerWrite a off v) s [F.GLB_CLAMP_SEEN.DROPPED.is (if (blockAt off).isSome then
      s.chip.counted F.GLB_CLAMP_SEEN.DROPPED else s.chip.fld F.GLB_CLAMP_SEEN.DROPPED)]) ∧
  (∀ (a : Access) (off : Fin 0x10000000) (v : Word) (s : State), s.chip.coreUp = true → pantryAt off = none →
    s.chip.keyAt off = none → a.full = true → s.chip.isOwner a.who = true →
    s.chip.judge 109 (s.chip.gateView a off true) = none → Sets (.registerWrite a off v) s [] [] countRegs) ∧
  (∀ (a : Access) (off : Fin 0x10000000) (v : Word) (s : State), s.chip.coreUp = true →
    ∀ q : Nat × Nat, pantryAt off = some q → s.chip.isOwner a.who = true →
    s.chip.judge (96 + q.1) (s.chip.gateView a q.2 true) = none → off.val % 4 = 0 → s.chip.acd.jobs = [] → s.chip.enabledJobs = [] →
    Stores (.registerWrite a off v) s (pantryAddr q.1 q.2) 4 [] [] countRegs
      (fun t => ∀ b < 4, t.mem.pantryRead q.1 (q.2 + b) 1 =
        if bit a.be b then ((leBytes 4 v.toNat).drop b).take 1 else s.mem.pantryRead q.1 (q.2 + b) 1)) ∧
  (∀ (a : Access) (off : Fin 0x10000000) (v : Word) (s : State), s.chip.coreUp = true →
    ∀ q : Nat × Nat, pantryAt off = some q → s.chip.isOwner a.who = false →
    Sets (.registerWrite a off v) s [F.GLB_CLAMP_SEEN.DROPPED.is (s.chip.counted F.GLB_CLAMP_SEEN.DROPPED)])

/-- No partition but the Owner's writes BAR0 (R13): whatever command brings the write, it is counted and changes
nothing else, but that a held LO value of a pair may go. A write of an offset that holds no register is no such write
(R7, log entry 10). -/
def Obligations.ForeignWritesDropped : Prop :=
  ∀ (i : Instr) (a : Access) (p : Fin 32) (s : State), i.access? = some a → a.who = .part p → s.chip.owner? ≠ some p.val →
    s.chip.coreUp = true → s.chip.slotUp = true → s.chip.writesBar0 i = true →
    Sets i s [F.GLB_CLAMP_SEEN.DROPPED.is (s.chip.counted F.GLB_CLAMP_SEEN.DROPPED)] [.heldLo]

/-- Reads of a register, of a Pantry window and of an offset without a register (R4, R5, R7, R8, R618). It rests on
log entries 10, 12 and 13. -/
def Obligations.BusReads : Prop :=
  (∀ (a : Access) (off : Fin 0x10000000) (s : State), s.chip.coreUp = true → pantryAt off = none →
    ∀ k : RegKey, s.chip.keyAt off = some k → s.chip.judge 109 (s.chip.gateView a off false) = none →
    k.reg ≠ .LPB_CFG_DATA → k.reg ≠ .TIM_TS_LO → k.reg.partners = [] → k.reg.block ≠ .tct →
    Sets (.readClear a off) s [Reg.is k.reg (word (if s.chip.isOwner a.who then
        k.reg.clearedWord a.be (s.chip.regs.get k).toNat else (s.chip.regs.get k).toNat)) k.i k.j] [.answer] countRegs
      (fun c => c.answer = [word (enabledBytes a.be (k.reg.readWord (if a.full then s.chip.shown k else s.chip.viewReg k).toNat))])) ∧
  (∀ (a : Access) (off : Fin 0x10000000) (s : State), s.chip.coreUp = true → pantryAt off = none →
    s.chip.keyAt off = none → s.chip.judge 109 (s.chip.gateView a off false) = none →
    Sets (.readClear a off) s [] [.answer] countRegs (fun c => c.answer = [0])) ∧
  (∀ (a : Access) (off : Fin 0x10000000) (s : State), s.chip.coreUp = true →
    ∀ q : Nat × Nat, pantryAt off = some q → s.chip.judge (96 + q.1) (s.chip.gateView a q.2 false) = none →
    Sets (.readClear a off) s [] [.answer] countRegs
      (fun c => c.answer = [word (enabledBytes a.be (leNat (s.mem.pantryRead q.1 q.2 4)))])) ∧
  (∀ (a : Access) (off : Fin 0x10000000) (s : State), s.chip.coreUp = true →
    ∀ r : Nat, s.chip.judge (match pantryAt off with | some q => 96 + q.1 | none => 109)
      (s.chip.gateView a (match pantryAt off with | some q => q.2 | none => off.val) false) = some r →
    ∀ i ∈ [Instr.readClear a off, .pairLoRead a off],
    Reaches i s fun c => c.answer = [] ∧ c.snaps = s.chip.snaps ∧
      c.fld F.GAT_VIOL_COUNT.COUNT = s.chip.counted F.GAT_VIOL_COUNT.COUNT) ∧
  (∀ (a : Access) (off : Fin 0x10000000) (s : State), s.chip.coreUp = true → pantryAt off = none →
    ∀ k : RegKey, s.chip.keyAt off = some k → s.chip.judge 109 (s.chip.gateView a off false) = none → a.full = true →
    k.reg ≠ .TIM_TS_LO → k.reg.block ≠ .tct → ∀ hi : Reg, k.reg.hiOf = some hi →
    Sets (.pairLoRead a off) s [] [.answer, .snaps] countRegs
      (fun c => c.answer = [s.chip.shown k] ∧ c.shown ⟨hi, k.i, k.j⟩ = s.chip.viewReg ⟨hi, k.i, k.j⟩ ∧
        (k.reg = .TIM_NOW_LO → c.shown ⟨.TIM_NOW_FRAC, 0, 0⟩ = s.chip.viewReg ⟨.TIM_NOW_FRAC, 0, 0⟩))) ∧
  (∀ (a : Access) (off : Fin 0x10000000) (s : State), s.chip.coreUp = true → pantryAt off = none →
    ∀ k : RegKey, s.chip.keyAt off = some k → s.chip.judge 109 (s.chip.gateView a off false) = none → a.full = false →
    k.reg ≠ .TIM_TS_LO → k.reg.block ≠ .tct → k.reg.hiOf ≠ none → Sets (.pairLoRead a off) s [] [.answer] countRegs)

/-- Writes of a 64-bit pair: the LO value is held, and the HI write updates both halves (R6, R619); requests of a
partition's own host that end at a function of the partition (R24, R254, R623, R624). It rests on log entries 4, 12,
20 and 49. -/
def Obligations.PairsAndConfigRequests : Prop :=
  (∀ (a : Access) (off : Fin 0x10000000) (v : Word) (s : State), s.chip.coreUp = true → pantryAt off = none →
    ∀ k : RegKey, s.chip.keyAt off = some k → k.reg.hiOf ≠ none → k.reg.writable = true →
    ∀ c : Chip, s.chip.passAt a k off v = (.ok, c) → c.accepts k = true →
    SetsPast c (.pairLoWrite a off v) s [] [.heldLo] [] (fun d => d.heldFor k = some v ∧
      ∀ r : RegKey, r ≠ k → d.heldFor r = c.heldFor r)) ∧
  (∀ (a : Access) (off : Fin 0x10000000) (v : Word) (s : State), s.chip.coreUp = true → pantryAt off = none →
    ∀ k : RegKey, s.chip.keyAt off = some k → ∀ lo : Reg, k.reg.loOf = some lo → k.reg.writable = true →
    ∀ c : Chip, s.chip.passAt a k off v = (.ok, c) → c.accepts k = true →
    let l := (c.heldFor ⟨lo, k.i, k.j⟩).getD (c.reg lo k.i k.j)
    let m := c.pairMask ⟨lo, k.i, k.j⟩ (v.toNat * 2 ^ 32 + l.toNat)
    SetsPast c (.pairHiWrite a off v) s [Reg.is lo (word m) k.i k.j, Reg.is k.reg (word (m / 2 ^ 32)) k.i k.j] [.heldLo]
      [.GLB_CLAMP_SEEN] (fun d => d.heldFor ⟨lo, k.i, k.j⟩ = none ∧ ∀ r : RegKey, r.reg ≠ lo → d.heldFor r = c.heldFor r)) ∧
  (∀ (a : Access) (off : Fin 0x10000000) (v : Word) (s : State), s.chip.coreUp = true → pantryAt off = none →
    ∀ k : RegKey, s.chip.keyAt off = some k → (k.reg.hiOf ≠ none ∨ k.reg.loOf ≠ none) → k.reg.writable = true →
    ∀ c : Chip, s.chip.passAt a k off v = (.ok, c) → c.accepts k = false →
    ∀ i ∈ [Instr.pairLoWrite a off v, .pairHiWrite a off v],
    SetsPast c i s [(k.clampFld (busTile k off)).1.is
      (c.counted (k.clampFld (busTile k off)).1 (k.clampFld (busTile k off)).2) (k.clampFld (busTile k off)).2] [.heldLo]) ∧
  (∀ (p : Fin 32) (k : Packet) (s : State), s.chip.coreUp = true → ∀ u : Nat, s.chip.upPort? p = some u →
    s.chip.linkLive u = true → k.kind = .cfgRd → k.malformed = false → k.ide = false → k.poisoned = false → k.tag < 1024 → k.data = [] → s.chip.cel.capWaiting = [] →
    s.chip.cel.copies = [] → s.chip.partRefuses p = false → s.chip.admitting = true →
    s.chip.resolve (some p) (some u) k = .own → (s.chip.part p).flr = false →
    ∀ f : Fn, s.chip.ownHit p k = .cfg f →
    Reaches (.configRequest p k) s fun c => ∃ q ∈ ((s.chip.newOuts c).filterMap (·.tlpOn u)).head?, q.kind = .cpl ∧ q.status = .sc ∧
      q.rid = k.rid ∧ q.tag = k.tag ∧ q.data = leBytes 4 (s.chip.cfgRead f (k.addr % 4096 / 4 * 4)) ∧ c.cfg = s.chip.cfg) ∧
  (∀ (p : Fin 32) (k : Packet) (s : State), s.chip.coreUp = true → ∀ u : Nat, s.chip.upPort? p = some u →
    s.chip.linkLive u = true → k.kind = .cfgWr → k.malformed = false → k.ide = false → k.poisoned = false → k.tag < 1024 → k.data.length = 4 → s.chip.cel.capWaiting = [] →
    s.chip.cel.copies = [] → s.chip.partRefuses p = false → s.chip.admitting = true → k.lanes = [] →
    s.chip.resolve (some p) (some u) k = .own → (s.chip.part p).flr = false →
    s.chip.ownHit p k = .cfg (.mgmt p) → k.addr % 4096 / 4 * 4 = 0x3C →
    Reaches (.configRequest p k) s fun c => c.cfgAt (.mgmt p) 0x3C % 256 = leNat k.data % 256 ∧ (c.part p).bus = k.idRoute / 256 ∧
      ∃ q ∈ ((s.chip.newOuts c).filterMap (·.tlpOn u)).head?, q.kind = .cpl ∧ q.status = .sc ∧ q.rid = k.rid ∧ q.tag = k.tag ∧ q.data = []) ∧
  (∀ (p : Fin 32) (k : Packet) (s : State), s.chip.upPort? p = none → exec (.configRequest p k) s = .next s)

/-! ### Counters, Sillage and debug (spec/17_counters_debug.md, spec/18_pins_electrical.md) -/

/-- Counters: snapshot, freeze, clear and the wrap of a counter (R568, R574 to R576). It rests on log entry 37. -/
def Obligations.CounterCommands : Prop :=
  (∀ (a : Access) (v : Word) (s : State) (c : Chip), s.passes a ⟨.CTR_SNAP, 0, 0⟩ v c → wbit v 31 = true → wbit v 29 = false →
    c.fld F.CTR_SNAP_STATUS.BUSY = 0 →
    SetsPast c (.counterSnapshot a v) s [F.CTR_SNAP.FREEZE.is (wget v 30 30), F.CTR_SNAP_STATUS.FROZEN.is (wget v 30 30),
        F.CTR_SNAP_STATUS.BUSY.is 1, F.CTR_SNAP_STATUS.BY_SILLAGE.is 0, Reg.CTR_SNAP_TIME_LO.is (word c.ns),
        Reg.CTR_SNAP_TIME_HI.is (word (c.ns / 2 ^ 32))] [.ctr] [.TCT_SNAP_LO, .TCT_SNAP_HI]
      (fun d => ∀ u i : Nat, d.reg .TCT_SNAP_LO u i = c.reg .TCT_CNT_LO u i ∧ d.reg .TCT_SNAP_HI u i = c.reg .TCT_CNT_HI u i)) ∧
  (∀ (a : Access) (v : Word) (s : State) (c : Chip), s.passes a ⟨.CTR_SNAP, 0, 0⟩ v c → wbit v 31 = true → wbit v 29 = false →
    c.fld F.CTR_SNAP_STATUS.BUSY = 1 →
    SetsPast c (.counterSnapshot a v) s [F.CTR_SNAP.FREEZE.is (wget v 30 30), F.CTR_SNAP_STATUS.FROZEN.is (wget v 30 30),
      F.GLB_CLAMP_SEEN.COUNT.is (c.counted F.GLB_CLAMP_SEEN.COUNT)] [.ctr]) ∧
  (∀ (a : Access) (v : Word) (s : State) (c : Chip), s.passes a ⟨.CTR_SNAP, 0, 0⟩ v c → wbit v 31 = false → wbit v 29 = false →
    SetsPast c (.counterFreeze a v) s [F.CTR_SNAP.FREEZE.is (wget v 30 30), F.CTR_SNAP_STATUS.FROZEN.is (wget v 30 30)] [.ctr] []
      (fun d => ∀ g < 16, d.ctr.cycles.get 0 g = c.cycles g)) ∧
  (∀ (a : Access) (v : Word) (s : State) (c : Chip), s.passes a ⟨.CTR_SNAP, 0, 0⟩ v c → wbit v 31 = false → wbit v 29 = true →
    c.fld F.CTR_SNAP_STATUS.BUSY = 0 →
    SetsPast c (.counterClear a v) s [F.CTR_SNAP.FREEZE.is (wget v 30 30), F.CTR_SNAP_STATUS.FROZEN.is (wget v 30 30),
        F.CTR_SNAP_STATUS.VALID.is 0] [.ctr]
      [.TCT_CNT_LO, .TCT_CNT_HI, .TCT_SNAP_LO, .TCT_SNAP_HI, .TCT_UNIT_STATUS]
      (fun d => ∀ u i : Nat, d.reg .TCT_CNT_LO u i = 0 ∧ d.reg .TCT_CNT_HI u i = 0 ∧ d.reg .TCT_SNAP_LO u i = 0 ∧
        d.reg .TCT_SNAP_HI u i = 0 ∧ (u < 4096 → d.fld F.TCT_UNIT_STATUS.OVF u = 0 ∧ d.fld F.TCT_UNIT_STATUS.CYC_OVF u = 0) ∧
        d.ctr.cycles = [])) ∧
  (∀ (a : Access) (v : Word) (s : State) (c : Chip), s.passes a ⟨.CTR_SNAP, 0, 0⟩ v c → wbit v 31 = false → wbit v 29 = true →
    c.fld F.CTR_SNAP_STATUS.BUSY = 1 →
    SetsPast c (.counterClear a v) s [F.CTR_SNAP.FREEZE.is (wget v 30 30), F.CTR_SNAP_STATUS.FROZEN.is (wget v 30 30)] [.ctr] []
      (fun d => d.ctr.clearHeld = true)) ∧
  (∀ (s : State), s.chip.coreUp = true → s.chip.fld F.CTR_SNAP_STATUS.BUSY = 1 → s.chip.ctr.clearHeld = false →
    Sets .snapshotDone s [F.CTR_SNAP_STATUS.BUSY.is 0, F.CTR_SNAP_STATUS.VALID.is 1,
      F.CTR_SNAP_STATUS.COUNT.is ((s.chip.fld F.CTR_SNAP_STATUS.COUNT + 1) % 65536)]) ∧
  (∀ (s : State), s.chip.coreUp = true → s.chip.fld F.CTR_SNAP_STATUS.BUSY = 1 → s.chip.ctr.clearHeld = true →
    Reaches .snapshotDone s fun c => c.fld F.CTR_SNAP_STATUS.BUSY = 0 ∧ c.fld F.CTR_SNAP_STATUS.VALID = 0 ∧
      c.fld F.CTR_SNAP_STATUS.COUNT = (s.chip.fld F.CTR_SNAP_STATUS.COUNT + 1) % 65536 ∧ c.ctr.clearHeld = false ∧
      ∀ u i : Nat, c.reg .TCT_CNT_LO u i = 0 ∧ c.reg .TCT_SNAP_LO u i = 0) ∧
  (∀ (u : Fin 4096) (i : Fin 8) (s : State), s.chip.coreUp = true → s.chip.fld F.CTR_SNAP_STATUS.FROZEN = 0 →
    i.val < unitSize u → s.chip.fld F.TCT_EVT_CFG.EN u i = 1 → s.chip.pair .TCT_CNT_LO .TCT_CNT_HI u i = 2 ^ 48 - 1 →
    Sets (.counterWrap u (some i)) s [Reg.TCT_CNT_LO.is 0 u i, Reg.TCT_CNT_HI.is 0 u i,
      F.TCT_UNIT_STATUS.OVF.is (setBit (s.chip.fld F.TCT_UNIT_STATUS.OVF u) i) u]) ∧
  (∀ (u : Fin 4096) (s : State), s.chip.coreUp = true → unitSize u ≠ 0 →
    2 ^ 48 ≤ s.chip.cycles (unitCycles u).1 / (unitCycles u).2 →
    Sets (.counterWrap u none) s [F.TCT_UNIT_STATUS.CYC_OVF.is 1 u])

/-- Sillage: arming, probes, the trigger and the end of POST (R577 to R582). It rests on log entry 37. -/
def Obligations.SillageCommands : Prop :=
  (∀ (a : Access) (v : Word) (s : State) (c : Chip), s.passes a ⟨.FLT_SIL_CFG, 0, 0⟩ v c → wbit v 31 = true →
    c.fld F.FLT_SIL_CFG.ARM = 0 → (c.silState = 0 ∨ c.silState = 3) →
    SetsPast c (.sillageArm a v) s [F.FLT_SIL_CFG.ARM.is 1, F.FLT_SIL_CFG.SNAP_ON_TRIG.is (wget v 30 30),
      F.FLT_SIL_CFG.POST.is (wget v 27 16), F.FLT_SIL_CFG.PROBE_EN.is (wget v 15 0), Reg.FLT_SIL_CFG.any, Reg.FLT_SIL_STATUS.any,
      F.FLT_SIL_STATUS.STATE.is 1, F.FLT_SIL_STATUS.WRAPPED.is 0, F.FLT_SIL_STATUS.NEXT.is 0,
      F.FLT_SIL_STATUS.TRIG_REC.is (c.fld F.FLT_SIL_STATUS.TRIG_REC)] [.sil] [] (fun d => d.sil = {})) ∧
  (∀ (a : Access) (v : Word) (s : State) (c : Chip), s.passes a ⟨.FLT_SIL_CFG, 0, 0⟩ v c → wbit v 31 = false →
    c.fld F.FLT_SIL_CFG.ARM = 1 → (c.silState = 1 ∨ c.silState = 2) →
    SetsPast c (.sillageDisarm a v) s [F.FLT_SIL_CFG.ARM.is 0, F.FLT_SIL_STATUS.STATE.is (if c.silState = 1 then 0 else 3)]
      [] [.GLB_CLAMP_SEEN]) ∧
  (∀ (p : Fin 16) (vector : Fin 65536) (s : State), s.chip.coreUp = true →
    (s.chip.silState = 1 ∨ s.chip.silState = 2 ∧ s.chip.sil.left ≠ 0) → bit (s.chip.fld F.FLT_SIL_CFG.PROBE_EN) p = true →
    let m := Nat.land vector (s.chip.fld F.FLT_SIL_PROBE.MASK p)
    let r := s.chip.fld F.FLT_SIL_STATUS.NEXT
    m ≠ s.chip.sil.last.get 0 p →
    Sets (.sillageProbeChange p vector false) s
      [Reg.FLT_SIL_REC_W.is (word s.chip.ns) r 0, Reg.FLT_SIL_REC_W.is (word (s.chip.ns / 2 ^ 32)) r 1,
       Reg.FLT_SIL_REC_W.is (word (m * 2 ^ 16 + p * 2 ^ 12 + s.chip.fld F.FLT_SIL_PROBE.UNIT p)) r 2,
       Reg.FLT_SIL_REC_W.is (word (b2n (s.chip.sil.drops.elem p.val) * 2 ^ 30)) r 3,
       F.FLT_SIL_STATUS.NEXT.is ((r + 1) % 4096),
       F.FLT_SIL_STATUS.WRAPPED.is (if r = 4095 then 1 else s.chip.fld F.FLT_SIL_STATUS.WRAPPED)] [.sil] []
      (fun c => c.sil.last.get 0 p = m ∧ p.val ∉ c.sil.drops ∧
        c.sil.left = if s.chip.silState = 2 then s.chip.sil.left - 1 else s.chip.sil.left)) ∧
  (∀ (p : Fin 16) (vector : Fin 65536) (s : State), s.chip.coreUp = true →
    (s.chip.silState = 1 ∨ s.chip.silState = 2 ∧ s.chip.sil.left ≠ 0) → bit (s.chip.fld F.FLT_SIL_CFG.PROBE_EN) p = true →
    Nat.land vector (s.chip.fld F.FLT_SIL_PROBE.MASK p) ≠ s.chip.sil.last.get 0 p →
    Sets (.sillageProbeChange p vector true) s [F.FLT_SIL_LOST.COUNT.is (s.chip.counted F.FLT_SIL_LOST.COUNT)] [.sil] []
      (fun c => p.val ∈ c.sil.drops ∧ c.sil.last = s.chip.sil.last ∧
        c.silNow p = Nat.land vector (s.chip.fld F.FLT_SIL_PROBE.MASK p))) ∧
  (∀ (p : Fin 16) (vector : Fin 65536) (full : Bool) (s : State),
    Nat.land vector (s.chip.fld F.FLT_SIL_PROBE.MASK p) = s.chip.sil.last.get 0 p →
    (s.chip.sil.seen.all fun q => q.1 != p.val) = true → exec (.sillageProbeChange p vector full) s = .next s) ∧
  (∀ (a : Access) (v : Word) (s : State) (c : Chip), s.passes a ⟨.FLT_SIL_CTL, 0, 0⟩ v c → wbit v 31 = true → c.silState = 1 →
    c.fld F.FLT_SIL_CFG.SNAP_ON_TRIG = 0 →
    let ps := (List.range 16).filter fun p => bit (c.fld F.FLT_SIL_CFG.PROBE_EN) p
    let n := ps.length
    SetsPast c (.sillageTrigger a v) s [F.FLT_SIL_CAUSE.SOURCE.is 0, F.FLT_SIL_CAUSE.KIND.is 0,
        F.FLT_SIL_STATUS.TRIG_REC.is (c.fld F.FLT_SIL_STATUS.NEXT), F.FLT_SIL_STATUS.MANUAL.is 1, F.FLT_SIL_STATUS.STATE.is 2,
        F.FLT_SIL_STATUS.NEXT.is ((c.fld F.FLT_SIL_STATUS.NEXT + n) % 4096), F.FLT_SIL_STATUS.WRAPPED.any] [.sil]
      [.FLT_SIL_REC_W] (fun d => d.sil.drops = [] ∧ d.sil.left = c.fld F.FLT_SIL_CFG.POST - n ∧
        ∀ q ∈ ps.zipIdx, let r := (c.fld F.FLT_SIL_STATUS.NEXT + q.2) % 4096
          d.reg .FLT_SIL_REC_W r 2 = word (c.silNow q.1 * 2 ^ 16 + q.1 * 2 ^ 12 + c.fld F.FLT_SIL_PROBE.UNIT q.1) ∧
          d.reg .FLT_SIL_REC_W r 3 = word (b2n (q.2 == 0) * 2 ^ 31 + b2n (c.sil.drops.elem q.1) * 2 ^ 30))) ∧
  (∀ (a : Access) (v : Word) (s : State) (c : Chip), s.passes a ⟨.FLT_SIL_CTL, 0, 0⟩ v c → (wbit v 31 = false ∨ c.silState ≠ 1) →
    SetsPast c (.sillageTrigger a v) s []) ∧
  (∀ (s : State), s.chip.coreUp = true → s.chip.silState = 2 → s.chip.sil.left = 0 →
    Sets .sillagePostDone s [F.FLT_SIL_STATUS.STATE.is 3])

/-- The debug port and the lifecycle (R583 to R588), and the boundary scan port (R611, R612). It rests on log entries
2, 3 and 38. -/
def Obligations.DebugAndBoundaryScan : Prop :=
  (∀ (addr : Option (BitVec 40)) (v : Word) (write : Bool) (s : State), s.chip.tapUp = true → s.chip.coreUp = true →
    s.chip.dbg.busy = none → s.chip.fld F.CTR_DBG_STATUS.ATTACHED = 1 → s.chip.fld F.PWR_STATUS.STATE ≠ 2 →
    Sets (.debugAccess addr write (!write) v) s
      [F.CTR_DBG_STATUS.ACCESSES.is (s.chip.counted F.CTR_DBG_STATUS.ACCESSES)] [.dbg] []
      (fun c => c.dbg = { s.chip.dbg with
        ir := 0x41, addr := (addr.map BitVec.toNat).getD s.chip.dbg.addr, busy := some (write, v) })) ∧
  (∀ (addr : Option (BitVec 40)) (v : Word) (write : Bool) (s : State), s.chip.tapUp = true → s.chip.coreUp = true →
    s.chip.dbg.busy = none → s.chip.fld F.CTR_DBG_STATUS.ATTACHED = 0 →
    Reaches (.debugAccess addr write (!write) v) s fun c => c.fld F.CTR_DBG_STATUS.ATTACHED = 1 ∧
      c.fld F.CTR_DBG_STATUS.ACCESSES = s.chip.counted F.CTR_DBG_STATUS.ACCESSES ∧ c.dbg.busy = some (write, v) ∧
      c.raised 0x1D7 0x2D (fun h => h = c.dbgOff)) ∧
  (∀ (addr : Option (BitVec 40)) (v : Word) (write read : Bool) (s : State), s.chip.tapUp = true →
    (s.chip.dbg.busy ≠ none ∨ write = true ∧ read = true ∨ write ≠ read ∧ s.chip.coreUp = false) →
    Sets (.debugAccess addr write read v) s [] [.dbg] [] (fun c =>
      c.dbg.status = (if s.chip.dbg.busy ≠ none then 1 else 3) ∧ c.dbg.busy = s.chip.dbg.busy ∧
      (s.chip.dbg.busy ≠ none → c.dbg.addr = s.chip.dbg.addr))) ∧
  (∀ (v : Word) (s : State), s.chip.coreUp = true → s.chip.dbg.busy = some (false, v) → s.chip.dbgSpace = 3 →
    s.chip.dbgTile < 12 → s.chip.dbgOff < pantrySize →
    s.chip.judge (96 + s.chip.dbgTile) (dbgView s.chip.dbgOff false) = none →
    let w := word (s.mem.pantryWord s.chip.dbgTile s.chip.dbgOff)
    Sets .debugAccessDone s [] [.dbg, .answer] countRegs (fun c => c.answer = [w] ∧
      c.dbg = { s.chip.dbg with busy := none, status := 0, data := w, addr := dbgNext s.chip.dbg.addr })) ∧
  (∀ (w : Bool) (v : Word) (s : State), s.chip.coreUp = true → s.chip.dbg.busy = some (w, v) → 5 ≤ s.chip.dbgSpace →
    Sets .debugAccessDone s [] [.dbg] [] (fun c =>
      c.dbg = { s.chip.dbg with busy := none, status := 3, addr := dbgNext s.chip.dbg.addr })) ∧
  (∀ (w : Bool) (v : Word) (s : State), s.chip.coreUp = true → s.chip.dbg.busy = some (w, v) → s.chip.dbgSpace = 1 →
    s.chip.dbgOff < 0x400000 → ∀ r : Nat, s.chip.judge 108 (dbgView s.chip.dbgOff w) = some r →
    Reaches .debugAccessDone s fun c => c.fld F.CTR_DBG_STATUS.DENIED_SEEN = 1 ∧ c.dbg.status = 2 ∧ c.dbg.busy = none ∧
      c.dbg.data = s.chip.dbg.data ∧ c.fld F.GAT_VIOL_COUNT.COUNT = s.chip.counted F.GAT_VIOL_COUNT.COUNT) ∧
  (∀ (s : State), s.chip.tapUp = true →
    Sets .lcNonce s [] [.dbg, .free, .outs, .answer] [] (fun c => ∃ q ∈ c.dbg.nonce, 0 < q.1 ∧ q.1 < 2 ^ 32 ∧ q.2 = s.chip.hwy ∧
      c.answer = [word q.1] ∧ c.dbg.ir = 0x44)) ∧
  (∀ (s : State), s.chip.tapUp = true → s.chip.dbg.busy = none →
    Sets .lcSecure s [] [.dbg] [] (fun c => c.dbg = { s.chip.dbg with
      ir := 0x43
      lcResult := if s.chip.dbg.lcPending = none ∧ s.chip.lifecycle = 0 then 1 else 2
      lcPending := if s.chip.dbg.lcPending = none ∧ s.chip.lifecycle = 0 then some 1 else s.chip.dbg.lcPending })) ∧
  (∀ (nonce : Word) (key sig : List Byte) (s : State), s.chip.tapUp = true → s.chip.dbg.busy = none →
    (s.chip.dbg.lcPending ≠ none ∨ s.chip.lifecycle ≠ 1) →
    Sets (.lcReturn nonce key sig) s [] [.dbg] [] (fun c => c.dbg = { s.chip.dbg with ir := 0x43, lcResult := 2 })) ∧
  (∀ (nonce : Word) (key sig : List Byte) (s : State), s.chip.tapUp = true → s.chip.dbg.busy = none →
    s.chip.dbg.lcPending = none → s.chip.lifecycle = 1 → s.chip.nonceOk nonce.toNat = true →
    let ok := Config.keyOk (key.map BitVec.toNat) && Config.sigOk (key.map BitVec.toNat) (s.chip.returnMessage nonce.toNat)
      (sig.map BitVec.toNat)
    Sets (.lcReturn nonce key sig) s [] [.dbg] [] (fun c => c.dbg = { s.chip.dbg with
      ir := 0x43
      nonce := none
      lcResult := if ok then 1 else 3
      lcPending := if ok then some 2 else none })) ∧
  (∀ (nonce : Word) (key sig : List Byte) (s : State), s.chip.tapUp = true → s.chip.dbg.busy = none →
    s.chip.dbg.lcPending = none → s.chip.lifecycle = 1 → s.chip.nonceOk nonce.toNat = false →
    Sets (.lcReturn nonce key sig) s [] [.dbg, .free] [] (fun c => c.dbg.nonce = none ∧ c.dbg.lcPending = none ∧
      (c.dbg.lcResult = 2 ∨ c.dbg.lcResult = 3))) ∧
  (∀ (s : State), s.chip.tapUp = true →
    Sets .tapReset s [] [.dbg] [] (fun c => c.dbg = { s.chip.dbg with ir := 1 }) ∧
    Sets .bypass s [] [.dbg] [] (fun c => c.dbg = { s.chip.dbg with ir := 0xFF }) ∧
    Sets .idcode s [] [.dbg, .outs, .answer] [] (fun c => c.dbg = { s.chip.dbg with ir := 1 } ∧ c.answer = [0x27192BCF] ∧
      c.outs = .tdo 0x27192BCF :: s.chip.outs)) ∧
  (∀ (balls load : List Bool) (s : State), s.chip.tapUp = true →
    Sets (.samplePreload balls load) s [] [.dbg, .outs] [] (fun c => c.dbg = { s.chip.dbg with ir := 2, boundary := load } ∧
      c.outs = .tdo ((balls.mapIdx fun i b => b2n b * 2 ^ i).sum) :: s.chip.outs)) ∧
  (∀ (balls load : List Bool) (s : State), s.chip.tapUp = true → s.chip.lifecycle = 0 →
    Sets (.extest balls load) s [] [.dbg, .outs] [] (fun c => c.dbg = { s.chip.dbg with ir := 3, boundary := load }) ∧
    Sets (.extestPulse balls load) s [] [.dbg, .outs] [] (fun c => c.dbg = { s.chip.dbg with ir := 4, boundary := load }) ∧
    Sets (.extestTrain balls load) s [] [.dbg, .outs] [] (fun c => c.dbg = { s.chip.dbg with ir := 5, boundary := load }) ∧
    Sets .boundaryClamp s [] [.dbg] [] (fun c => c.dbg = { s.chip.dbg with ir := 6 }) ∧
    Sets .highz s [] [.dbg] [] (fun c => c.dbg = { s.chip.dbg with ir := 7 })) ∧
  (∀ (balls load : List Bool) (s : State), s.chip.tapUp = true → s.chip.lifecycle ≠ 0 →
    ∀ i ∈ [Instr.extest balls load, .extestPulse balls load, .extestTrain balls load, .boundaryClamp, .highz],
    Sets i s [] [.dbg] [] (fun c => c.dbg = { s.chip.dbg with ir := 0xFF })) ∧
  (∀ (balls load : List Bool) (s : State), s.chip.tapUp = false →
    ∀ i ∈ [Instr.tapReset, .idcode, .samplePreload balls load, .extest balls load, .extestPulse balls load,
      .extestTrain balls load, .boundaryClamp, .highz, .bypass, .lcNonce], exec i s = .next s)

/-! ### The fabric and the access gates (spec/06_fabric_domains.md, spec/11_access_gates.md) -/

/-- The commit of the routes and the moves of pairs (R233, R234, Table 6.6); the commit of the gate rules and the end
of an epoch (R400, R401, R403). It rests on log entries 11, 28 and 48. -/
def Obligations.CommitsOfRoutesAndGates : Prop :=
  (∀ (a : Access) (v : Word) (s : State) (c : Chip), s.passes a ⟨.FAB_ROUTE_COMMIT, 0, 0⟩ v c → wbit v 31 = true →
    SetsPast c (.routeCommit a v) s [F.FAB_ROUTE_COMMIT.EPOCH.is (if c.fab.commitAt = some c.hwy then
          c.fld F.FAB_ROUTE_COMMIT.EPOCH else (c.fld F.FAB_ROUTE_COMMIT.EPOCH + 1) % 65536),
        F.FAB_ROUTE_COMMIT.MOVING.any] [.fab] [.FAB_CLAMP_SEEN]
      (fun d => d.fab.commitAt = some c.hwy ∧ (∀ r ∈ [Reg.FAB_CRT, .FAB_DRT_A, .FAB_DRT_B, .FAB_UP, .FAB_GRP_A, .FAB_GRP_B, .FAB_VH_MAP],
          ∀ i j : Nat, d.fab.live.get ⟨r, i, j⟩ = c.reg r i j) ∧
        ∀ q ∈ c.fab.pairs, c.pairAt? q.entry q.bucket = some q → ∀ n : Nat, d.pairNew q.entry q.bucket = some n →
          if n = q.port ∨ c.memberLive q.port = false then { q with port := n } ∈ d.fab.pairs
          else q ∈ d.fab.pairs ∧ (⟨q.entry, q.bucket⟩ : Move) ∈ d.fab.moves ∧ d.fld F.FAB_ROUTE_COMMIT.MOVING = 1)) ∧
  (∀ (a : Access) (v : Word) (s : State) (c : Chip), s.passes a ⟨.FAB_ROUTE_COMMIT, 0, 0⟩ v c → wbit v 31 = false →
    SetsPast c (.routeCommit a v) s []) ∧
  (∀ (e : Fin 128) (b : Fin 64) (s : State), s.chip.coreUp = true → (⟨e, b⟩ : Move) ∈ s.chip.fab.moves →
    ∀ n : Nat, s.chip.pairNew e b = some n →
    let left := s.chip.fab.moves.filter (· != ⟨e.val, b.val⟩)
    let made (c : Chip) : Prop := c.fab.moves = left ∧ c.fab.live = s.chip.fab.live ∧
      c.fab.pairs = { entry := e, bucket := b, port := n } ::
        s.chip.fab.pairs.filter (fun q => !(q.entry == e.val && q.bucket == b.val))
    Sets (.routeMove e b) s [F.FAB_ROUTE_COMMIT.MOVING.is (b2n !left.isEmpty)] [.fab] [] made ∧
    Sets (.moveForced e b) s [F.FAB_ROUTE_COMMIT.MOVING.is (b2n !left.isEmpty),
      F.FAB_MOVE_FORCED.COUNT.is (s.chip.counted F.FAB_MOVE_FORCED.COUNT)] [.fab] [] made) ∧
  (∀ (e : Fin 128) (b : Fin 64) (s : State), (⟨e, b⟩ : Move) ∉ s.chip.fab.moves →
    ∀ i ∈ [Instr.routeMove e b, .moveForced e b], exec i s = .next s) ∧
  (∀ (a : Access) (v : Word) (s : State) (c : Chip), s.passes a ⟨.GAT_COMMIT, 0, 0⟩ v c → wbit v 31 = true →
    c.fld F.GAT_COMMIT_STATUS.STATE ≠ 1 →
    let made (d : Chip) : Prop := (∀ r ∈ [Reg.GAT_GATE_CFG, .GAT_GATE_DEF, .GAT_RGN_A, .GAT_RGN_B, .GAT_RGN_C, .GAT_TAG],
          ∀ i j : Nat, d.gat.live.get ⟨r, i, j⟩ = c.reg r i j) ∧
        ∀ k ∈ c.cel.copies, ∀ t : Nat, k.dest = .pantry t → k.unadmitted = false → k.id ∈ d.gat.old
    (Reaches (.gateCommit a v) s fun d => made d ∧ d.fld F.GAT_COMMIT_STATUS.STATE = 1 ∧
      d.fld F.GAT_COMMIT_STATUS.EPOCH = (c.fld F.GAT_COMMIT_STATUS.EPOCH + 1) % 65536) ∧
    ((∀ k ∈ c.cel.copies, k.unadmitted = false ∨ k.started = true ∨ k.cat = .completion) →
      SetsPast c (.gateCommit a v) s [F.GAT_COMMIT_STATUS.STATE.is 1,
        F.GAT_COMMIT_STATUS.EPOCH.is ((c.fld F.GAT_COMMIT_STATUS.EPOCH + 1) % 65536)] [.gat] [] made) ∧
    (∀ k ∈ c.cel.copies, (c.cel.copies.filter fun x => x.unadmitted && !x.started) = [k] → k.cat = .posted → (∀ n : Nat, k.src ≠ .port n) →
      (c.commitGates.gateAllows k.dest k.pkt k.st k.oRid k.part).1 = false →
      Reaches (.gateCommit a v) s fun d => d.cel.copies = c.cel.copies.filter (fun x => x.id != k.id) ∧
        d.fld F.GAT_VIOL_COUNT.COUNT = c.counted F.GAT_VIOL_COUNT.COUNT)) ∧
  (∀ (a : Access) (v : Word) (s : State) (c : Chip), s.passes a ⟨.GAT_COMMIT, 0, 0⟩ v c → wbit v 31 = true →
    c.fld F.GAT_COMMIT_STATUS.STATE = 1 →
    SetsPast c (.gateCommit a v) s [F.GAT_CLAMP_SEEN.COUNT.is (c.counted F.GAT_CLAMP_SEEN.COUNT)]) ∧
  (∀ (a : Access) (v : Word) (s : State) (c : Chip), s.passes a ⟨.GAT_COMMIT, 0, 0⟩ v c → wbit v 31 = false →
    SetsPast c (.gateCommit a v) s []) ∧
  (∀ (s : State), s.chip.coreUp = true → s.chip.fld F.GAT_COMMIT_STATUS.STATE = 1 →
    (∀ k ∈ s.chip.cel.copies, k.id ∉ s.chip.gat.old) →
    Sets .gateEpochDone s [F.GAT_COMMIT_STATUS.STATE.is 2] [.gat] [] (fun c => c.gat = { s.chip.gat with old := [] })) ∧
  (∀ (s : State), s.chip.fld F.GAT_COMMIT_STATUS.STATE ≠ 1 ∨ (∃ k ∈ s.chip.cel.copies, k.id ∈ s.chip.gat.old) →
    exec .gateEpochDone s = .next s)

/-- DISC requests and responses at a Fleren port (R228, R241, R242, R622). It rests on log entries 28, 47 and 48. -/
def Obligations.DiscPackets : Prop :=
  (∀ (n : Fin 96) (h : FabHdr) (s : State), s.chip.coreUp = true → s.chip.isFleren n = true → s.chip.flUp n = true →
    s.chip.capBehind n = false → h.typ = 2 → 0 < h.lenWords → h.lenWords ≤ 521 → s.chip.discMode = true → s.chip.ownIdentity h.asDisc h = false →
    (h.disc.hopIdx ≠ 0 ∨ s.chip.routeTo h.dstDomain h.dstChip = .here) → h.disc.hopCnt ≤ h.disc.hopIdx →
    s.chip.flag F.FAB_CFG.DISC_EN = true → (h.disc.op = 1 ∨ h.disc.op = 2) →
    let a := 0xE000000 + h.disc.addr / 4 * 4
    let ans (st : Nat) (w : Word) (c : Chip) : Prop := ∃ k ∈ c.cel.copies ++ c.cel.waiting, k.id = s.chip.cel.nextId ∧
      k.dest = .port n ∧ k.charge = .mgmt ∧ k.pkt.cls = s.chip.fld F.FAB_CFG.CTL_CLASS ∧
      k.pkt.fab = some { h with
        lenWords := 3
        hops := s.chip.fld F.FAB_CFG.HOPS_INIT
        dstDomain := h.srcDomain
        dstChip := h.srcChip
        srcDomain := (s.chip.sideId (s.chip.portSide n)).1
        srcChip := (s.chip.sideId (s.chip.portSide n)).2
        disc := { h.disc with op := h.disc.op + 0x80, status := st, data := w } }
    (0x197C < h.disc.addr / 4 * 4 → Reaches (.discRequest n h) s (ans 2 0)) ∧
    (h.disc.addr / 4 * 4 ≤ 0x197C → h.disc.op = 1 → ∀ k : RegKey, s.chip.keyAt a = some k →
      s.chip.judge 109 { st := { master := .fabric }, addr := a, reads := true, writes := false } = none →
      Reaches (.discRequest n h) s (fun c => ans 0 (word (k.reg.readWord (s.chip.shown k).toNat)) c ∧
        c.regs.get k = s.chip.regs.get k)) ∧
    (h.disc.addr / 4 * 4 ≤ 0x197C → h.disc.op = 1 → ∀ r : Nat,
      s.chip.judge 109 { st := { master := .fabric }, addr := a, reads := true, writes := false } = some r →
      Reaches (.discRequest n h) s (fun c => ans 1 0 c ∧ c.fld F.GAT_VIOL_COUNT.COUNT = s.chip.counted F.GAT_VIOL_COUNT.COUNT)) ∧
    (h.disc.addr / 4 * 4 ≤ 0x197C → h.disc.op = 2 → s.chip.flag F.FAB_CFG.REMOTE_WR = false →
      Reaches (.discRequest n h) s (fun c => ans 1 0 c ∧ c.fld F.FAB_VIOL_LAST.CODE = 0x34 ∧
        c.fld F.FAB_VIOL_LAST.PORT = n ∧ c.fab = s.chip.fab ∧ c.reg .FAB_ID 0 = s.chip.reg .FAB_ID 0))) ∧
  (∀ (n : Fin 96) (h : FabHdr) (s : State), s.chip.coreUp = true → s.chip.isFleren n = true → s.chip.flUp n = true →
    s.chip.capBehind n = false → h.typ = 2 → 0 < h.lenWords → h.lenWords ≤ 521 → s.chip.discMode = true → s.chip.ownIdentity h.asDisc h = false →
    (h.disc.hopIdx ≠ 0 ∨ s.chip.routeTo h.dstDomain h.dstChip = .here ∧ s.chip.flag F.FAB_CFG.DISC_EN = true) →
    h.disc.hopIdx < h.disc.hopCnt → h.disc.hops.length = 8 → h.disc.hopIdx < 8 → h.disc.op ≠ 0x81 → h.disc.op ≠ 0x82 →
    s.chip.memberLive (h.disc.hops.getD h.disc.hopIdx 0) = true →
    (1 < h.hops → Reaches (.discRequest n h) s fun c => ∃ k ∈ c.cel.copies ++ c.cel.waiting, k.id = s.chip.cel.nextId ∧
      k.dest = .port (h.disc.hops.getD h.disc.hopIdx 0) ∧ k.pkt.fab = some { h with
        lenWords := 3
        hops := h.hops - 1
        disc := { h.disc with hops := h.disc.hops.set h.disc.hopIdx n, hopIdx := h.disc.hopIdx + 1 } }) ∧
    (h.hops ≤ 1 → Sets (.discRequest n h) s [F.FAB_TTL_DROP.COUNT.is (s.chip.counted F.FAB_TTL_DROP.COUNT)] [] countRegs)) ∧
  (∀ (n : Fin 96) (h : FabHdr) (s : State), s.chip.coreUp = true → s.chip.isFleren n = true → s.chip.flUp n = true →
    s.chip.capBehind n = false → h.typ = 2 → 0 < h.lenWords → h.lenWords ≤ 521 → s.chip.discMode = true → s.chip.ownIdentity h.asDisc h = false →
    (h.disc.op = 0x81 ∨ h.disc.op = 0x82) → 2 ≤ h.disc.hopIdx →
    s.chip.flUp (h.disc.hops.getD (h.disc.hopIdx - 1) 0) = true → 1 < h.hops →
    Reaches (.discResponse n h) s fun c => ∃ k ∈ c.cel.copies ++ c.cel.waiting, k.id = s.chip.cel.nextId ∧
      k.dest = .port (h.disc.hops.getD (h.disc.hopIdx - 1) 0) ∧ k.pkt.fab = some { h with
        lenWords := 3
        hops := h.hops - 1
        disc := { h.disc with hopIdx := h.disc.hopIdx - 1 } }) ∧
  (∀ (n : Fin 96) (h : FabHdr) (s : State), s.chip.coreUp = true → s.chip.isFleren n = true → s.chip.flUp n = true →
    s.chip.capBehind n = false → h.typ = 2 → 0 < h.lenWords → h.lenWords ≤ 521 → s.chip.discMode = true → s.chip.ownIdentity h.asDisc h = false →
    (h.disc.op = 0x81 ∨ h.disc.op = 0x82) → h.disc.hopIdx ≤ 1 → s.chip.routeTo h.dstDomain h.dstChip = .here →
    Sets (.discResponse n h) s [] [.fab] countRegs (fun c => c.fab = { s.chip.fab with
      discOut := s.chip.fab.discOut.erase h.disc.tag })) ∧
  (∀ (tag : Fin 65536) (s : State), s.chip.coreUp = true → tag.val ∈ s.chip.fab.discOut →
    Sets (.discLost tag) s [] [.fab] [] (fun c => c.fab = { s.chip.fab with
      discOut := s.chip.fab.discOut.erase tag, discLost := s.chip.fab.discLost + 1 })) ∧
  (∀ (tag : Fin 65536) (s : State), tag.val ∉ s.chip.fab.discOut → exec (.discLost tag) s = .next s)

/-! ### Faults and containment (spec/14_faults_containment.md) -/

/-- The collector takes messages in the order of R469, and acts on each by its final severity (R470 to R475, R477,
R488). It rests on log entries 32 and 40. -/
def Obligations.FaultMessages : Prop :=
  (∀ (c : Chip) (m : FaultMsg), c.nextFault? = some m → m ∈ c.flt.intake ∧ ∀ x ∈ c.flt.intake, m.source ≤ x.source) ∧
  (∀ (s : State), s.chip.coreUp = true → s.chip.fld F.PWR_STATUS.STATE = 0 → s.chip.safe = false →
    ∀ m : FaultMsg, s.chip.nextFault? = some m → m.source < 512 → m.kind ≠ 1 → m.kind ≠ 0x28 →
    let sev := if s.chip.fld F.FLT_SRC.SEV_OVR_EN m.source = 1 then s.chip.fld F.FLT_SRC.SEV_OVR m.source else m.sev
    let act := s.chip.fld F.FLT_ACT.ACT sev
    let rest := s.chip.flt.intake.erase m
    let n := s.chip.fld F.FLT_LOG_PROD.PROD
    sev < 4 →
    (s.chip.fld F.FLT_SRC.MASK m.source = 1 →
      Sets .faultMessage s [F.FLT_SEV_CNT.COUNT.is (s.chip.counted F.FLT_SEV_CNT.COUNT sev) sev] [.flt] []
        (fun c => c.flt = { s.chip.flt with intake := rest })) ∧
    (s.chip.fld F.FLT_SRC.MASK m.source = 0 → m.forced = false → m.unlogged = false → act = 1 ∨ act = 5 →
      s.chip.owner? ≠ none → (n + 2048 - s.chip.fld F.FLT_LOG_CONS.CONS) % 2048 ≠ 1024 →
      Sets .faultMessage s [F.FLT_SEV_CNT.COUNT.is (s.chip.counted F.FLT_SEV_CNT.COUNT sev) sev,
          Reg.FLT_LOG_W.is (word (m.source * 2 ^ 22 + m.kind * 2 ^ 14 + sev * 2 ^ 12 + m.part.getD 0 % 32 * 2 ^ 7)) (n % 1024) 0,
          Reg.FLT_LOG_W.is (word m.handle) (n % 1024) 1, Reg.FLT_LOG_W.is (word (m.handle / 2 ^ 32)) (n % 1024) 2,
          Reg.FLT_LOG_W.is (word m.time) (n % 1024) 3, Reg.FLT_LOG_W.is (word (b2n m.part.isSome * 2 ^ 30)) (n % 1024) 4,
          F.FLT_LOG_PROD.PROD.is ((n + 1) % 2048),
          F.FLT_STATUS.LOG_FULL.is (b2n ((n + 1) % 2048 == (s.chip.fld F.FLT_LOG_CONS.CONS + 1024) % 2048)),
          F.FLT_STATUS.FAULT_N_ACT.is (if act = 5 then 1 else s.chip.fld F.FLT_STATUS.FAULT_N_ACT)] [.flt, .pwr] countRegs
        (fun c => c.flt = { s.chip.flt with intake := rest } ∧
          c.pwr.faultN = (if act = 5 then true else s.chip.pwr.faultN))) ∧
    (s.chip.fld F.FLT_SRC.MASK m.source = 0 → m.forced = false → act = 1 → m.unlogged = false →
      (n + 2048 - s.chip.fld F.FLT_LOG_CONS.CONS) % 2048 = 1024 →
      Sets .faultMessage s [F.FLT_SEV_CNT.COUNT.is (s.chip.counted F.FLT_SEV_CNT.COUNT sev) sev,
        F.FLT_LOG_LOST.COUNT.is (s.chip.counted F.FLT_LOG_LOST.COUNT)] [.flt] countRegs) ∧
    (s.chip.fld F.FLT_SRC.MASK m.source = 0 → m.forced = false → bit act 4 = true → bit act 5 = false →
      m.source ∈ [0x180, 0x198, 0x1C0] → ∀ p : Nat, m.part = some p → p < 32 →
      Reaches .faultMessage s fun c => bit (c.reg .FLT_CONTAIN_PTN).toNat p = true) ∧
    (s.chip.fld F.FLT_SRC.MASK m.source = 0 → m.forced = false → bit act 5 = true → bit act 4 = false →
      Reaches .faultMessage s fun c => c.safe = true ∧ c.fld F.FLT_STATUS.SAFE_SEEN = 1 ∧ c.fld F.GLB_MODE.MODE = 0xC ∧
        c.fld F.FLT_STATUS.FAULT_N_ACT = 1 ∧ c.fld F.FLT_SAFE_CAUSE.SOURCE = m.source ∧
        c.fld F.FLT_SAFE_CAUSE.KIND = m.kind % 256 ∧ c.cel.copies = [] ∧ c.cel.waiting = [] ∧ c.lbx.ready = false)) ∧
  (∀ (s : State), s.chip.flt.intake = [] → exec .faultMessage s = .next s) ∧
  (∀ (r : OwnFault) (s : State), s.chip.coreUp = true →
    exec (.faultMessage (some r)) s = exec .faultMessage { s with chip := s.chip.ownFault r }) ∧
  (∀ c : Chip,
    let reports (r : OwnFault) (source kind sev handle : Nat) : Prop := c.frame [] faultRegs [.flt] (c.ownFault r) ∧
      ∃ m ∈ (c.ownFault r).flt.intake, m.source = source ∧ m.kind = kind ∧ m.sev = sev ∧ m.handle = handle ∧ m.time = c.ns
    (∀ p : Fin 3, reports (.pllUnlock p) (0x1CF + p) 0x1E 3 0) ∧
    (∀ (k : Fin 4) (pc : Word), reports (.fwException k pc) (0x1C1 + k) 0x22 3 (pc.toNat * 2 ^ 32 + k)) ∧
    reports .watchdog 0x1DA 0x23 3 0 ∧
    (∀ (sev : Fin 4) (h : BitVec 64), reports (.fwRaised sev h) 0x1DF 0x29 sev h.toNat) ∧
    (∀ a : Word, reports (.qspiErr a) 0x1D4 0x2E 1 a.toNat) ∧
    (∀ (x : Fin 480) (a : Word), eccSource x false = true →
      reports (.ecc x false a) x 0x1D (if packetMemory x then 1 else 3) a.toNat) ∧
    (∀ (x : Fin 480) (a : Word), eccSource x true = true → c.limitOk (0x60000 + x.val) msCycles = true →
      reports (.ecc x true a) x 0x1C 0 a.toNat) ∧
    (∀ (x : Fin 480) (b : Bool) (a : Word), eccSource x b = false → c.ownFault (.ecc x b a) = c))

/-- A failure of the collector itself and a forced fault (R486, R487, Table 14.10); releases of containment and of
FAULT_N (R475 to R477, R489, Table 14.7); completion timers, quarantine and orphans (R482 to R485). It rests on log
entry 32. -/
def Obligations.FaultControls : Prop :=
  (∀ (log : Bool) (addr : BitVec 64) (s : State), s.chip.coreUp = true → s.chip.safe = false →
    Reaches (.collectorSelfError log addr) s fun c => c.safe = true ∧ c.fld F.FLT_SAFE_CAUSE.KIND = 0x28 ∧
      c.fld F.FLT_SAFE_CAUSE.SOURCE = (if log then 0x1DE else 0x1DD) ∧ c.fld F.FLT_STATUS.FAULT_N_ACT = 1 ∧
      c.fld F.FLT_SEV_CNT.COUNT 3 = s.chip.counted F.FLT_SEV_CNT.COUNT 3) ∧
  (∀ (a : Access) (n : Fin 15) (v : Word) (s : State) (c : Chip), s.passes a ⟨.FLT_FORCE, n, 0⟩ v c → c.isExpert a.who = true →
    c.flt.intake = [] → (∀ b < 32, bit v.toNat b = true → isSource (32 * n + b) = true) →
    SetsPast c (.faultForce a n v) s [] [.flt] [] (fun d => ∀ b < 32,
      if bit v.toNat b then
        ({ source := 32 * n + b, kind := 0x2A, sev := c.fld F.FLT_SRC.FORCE_SEV (32 * n + b), forced := true, time := c.ns } :
          FaultMsg) ∈ d.flt.intake
      else ∀ m ∈ d.flt.intake, m.source ≠ 32 * n + b)) ∧
  (∀ (a : Access) (n : Fin 15) (v : Word) (s : State) (c : Chip), s.passes a ⟨.FLT_FORCE, n, 0⟩ v c → c.isExpert a.who = true →
    (∀ b < 32, bit v.toNat b = true → isSource (32 * n + b) = false) → v ≠ 0 →
    SetsPast c (.faultForce a n v) s [F.GLB_CLAMP_SEEN.COUNT.is (c.counted F.GLB_CLAMP_SEEN.COUNT)]) ∧
  (∀ (a : Access) (v : Word) (s : State) (c : Chip), s.passes a ⟨.FLT_STATUS, 0, 0⟩ v c →
    SetsPast c (.faultNRelease a v) s
      [F.FLT_STATUS.FAULT_N_ACT.is (if wbit v 29 = true ∧ c.safe = false then 0 else c.fld F.FLT_STATUS.FAULT_N_ACT),
       F.FLT_STATUS.SAFE_SEEN.is (if wbit v 30 then 0 else c.fld F.FLT_STATUS.SAFE_SEEN)] [.pwr] []
      (fun d => d.pwr = { c.pwr with faultN := if wbit v 29 = true ∧ c.safe = false then false else c.pwr.faultN })) ∧
  (∀ (a : Access) (v : Word) (s : State) (c : Chip), s.passes a ⟨.FLT_CONTAIN_PTN, 0, 0⟩ v c →
    SetsPast c (.partitionContainRelease a v) s [Reg.FLT_CONTAIN_PTN.is (c.reg .FLT_CONTAIN_PTN &&& ~~~v)]) ∧
  (∀ (a : Access) (v : Word) (s : State) (c : Chip), s.passes a ⟨.FLT_CONTAIN_SEG, 0, 0⟩ v c →
    SetsPast c (.segmentContainRelease a v) s
      [F.FLT_CONTAIN_SEG.SEG.is (if wbit v 0 then 0 else c.fld F.FLT_CONTAIN_SEG.SEG)]) ∧
  (∀ (a : Access) (i : Fin 3) (v : Word) (s : State) (c : Chip), s.passes a ⟨.FLT_CONTAIN_PORT, i, 0⟩ v c → c.safe = false →
    SetsPast c (.portContainRelease a i v) s
      (Reg.FLT_CONTAIN_PORT.any i :: (List.range 32).map (fun b => F.PRT_LINK_STATUS.LTSSM.any (32 * i + b))) [] []
      (fun d => ∀ b < 32,
        d.bitOf .FLT_CONTAIN_PORT (32 * i + b) = (c.bitOf .FLT_CONTAIN_PORT (32 * i + b) &&
          !(bit v.toNat b && !(c.isPcie (32 * i + b) && c.role (32 * i + b) != 1))))) ∧
  (∀ (a : Access) (i : Fin 3) (v : Word) (s : State) (c : Chip), s.passes a ⟨.FLT_CONTAIN_PORT, i, 0⟩ v c → c.safe = true →
    SetsPast c (.portContainRelease a i v) s []) ∧
  (∀ (part : Option (Fin 32)) (tag : Fin 16384) (s : State), s.chip.coreUp = true →
    ∀ e ∈ s.chip.flt.dev, e.quarantined = false → e.part = part.map Fin.val → e.tag = tag →
    (∀ x ∈ s.chip.flt.dev, x.part = e.part → x.tag = e.tag → x = e) → (e.who = .segment ∨ e.who = .firmware) →
    Sets (.completionTimeout part tag) s [F.FLT_CPL_TO_CNT.COUNT.is (s.chip.counted F.FLT_CPL_TO_CNT.COUNT)] [.flt, .outs]
      (countRegs ++ faultRegs) (fun c =>
        { e with quarantined := true } ∈ c.flt.dev ∧ e ∉ c.flt.dev ∧
        c.raised (if e.who = .segment then 0x1A2 else 0x1C1) 0x07 (fun h => h = e.addr) ∧
        (e.who = .segment → ∃ x ∈ c.flt.inbox, x.to_ = .segment ∧ x.part = e.part ∧ x.pkt.kind = .cpl ∧ x.pkt.status = .ur ∧
          x.pkt.tag = tag) ∧
        ∃ o ∈ s.chip.newOuts c, ∃ p ∈ o.deliveredTo e.who, p.kind = .cpl ∧ p.status = .ur ∧ p.tag = tag ∧ p.byteCount = e.len)) ∧
  (∀ (part : Option (Fin 32)) (tag : Fin 16384) (s : State),
    (∀ e ∈ s.chip.flt.dev, e.quarantined = false → e.part = part.map Fin.val → e.tag ≠ tag) →
    exec (.completionTimeout part tag) s = .next s) ∧
  (∀ (part : Option (Fin 32)) (tag : Fin 16384) (s : State), s.chip.coreUp = true →
    ∀ e ∈ s.chip.flt.dev, e.quarantined = true → e.part = part.map Fin.val → e.tag = tag →
    (∀ x ∈ s.chip.flt.dev, x.part = e.part → x.tag = e.tag → x = e) →
    Sets (.tagQuarantineExpiry part tag) s [] [.flt] [] (fun c => c.flt = { s.chip.flt with
      dev := s.chip.flt.dev.filter (· != e)
      track := s.chip.flt.track.filter fun t => !(t.copy.src == e.who && t.copy.oTag == tag.val && t.copy.part == e.part) })) ∧
  (∀ (hier : Fin 128) (rid : Fin 65536) (tag : Fin 16384) (s : State), s.chip.coreUp = true →
    ∀ e ∈ s.chip.flt.track, e.orphan = true → e.copy.hier = hier → e.copy.pkt.rid = rid → e.copy.pkt.tag = tag →
    (∀ x ∈ s.chip.flt.track, x.orphan = true → x.copy.hier = hier → x.copy.pkt.rid = rid → x.copy.pkt.tag = tag → x = e) →
    Sets (.orphanRetire hier rid tag) s [] [.flt] [] (fun c =>
      c.flt = { s.chip.flt with track := s.chip.flt.track.erase e })) ∧
  (∀ (hier : Fin 128) (rid : Fin 65536) (tag : Fin 16384) (s : State),
    (∀ e ∈ s.chip.flt.track, e.orphan = true → e.copy.hier = hier → e.copy.pkt.rid = rid → e.copy.pkt.tag ≠ tag) →
    exec (.orphanRetire hier rid tag) s = .next s)

/-! ### Flacons (spec/07_partitions_flacons.md) -/

/-- The commands of GLB_FLC_CMD (R259, R273, R274, Tables 7.5, 7.7 and 7.8), and the end of a drain, of a squash and
of a quarantine (R266, R273 to R275). It rests on log entry 29. -/
def Obligations.FlaconCommandsAndEnds : Prop :=
  (∀ (a : Access) (v : Word) (s : State) (c : Chip), s.passes a ⟨.GLB_FLC_CMD, 0, 0⟩ v c →
    ∀ i ∈ [Instr.flaconAssign a v, .flaconReset a v, .flaconRemove a v],
    let op := wget v 31 30
    let f := wget v 11 0
    let taken : List FieldVal := [F.GLB_FLC_STATUS.RESULT.is 0, F.GLB_FLC_STATUS.INDEX.is f, F.GLB_FLC_CMD.OP.is op,
      F.GLB_FLC_CMD.SQUASH_NOW.is (wget v 29 29), F.GLB_FLC_CMD.INDEX.is f, Reg.GLB_FLC_CMD.any]
    (c.fld F.GLB_FLC_STATUS.BUSY = 1 → SetsPast c i s [F.GLB_CLAMP_SEEN.COUNT.is (c.counted F.GLB_CLAMP_SEEN.COUNT)]) ∧
    (c.fld F.GLB_FLC_STATUS.BUSY = 0 → op = 0 → SetsPast c i s []) ∧
    (c.fld F.GLB_FLC_STATUS.BUSY = 0 → op = 1 → c.assignResult f ≠ 0 →
      SetsPast c i s [F.GLB_FLC_STATUS.RESULT.is (c.assignResult f), F.GLB_FLC_STATUS.INDEX.is f]) ∧
    (c.fld F.GLB_FLC_STATUS.BUSY = 0 → op = 1 → c.assignResult f = 0 →
      SetsPast c i s (F.GLB_FLC_A.STATE.is 1 f :: taken) [.flcs] [] (fun d => d.flc f = {})) ∧
    (c.fld F.GLB_FLC_STATUS.BUSY = 0 → 2 ≤ op → c.fld F.GLB_FLC_A.STATE f = 0 →
      SetsPast c i s [F.GLB_FLC_STATUS.RESULT.is 2, F.GLB_FLC_STATUS.INDEX.is f]) ∧
    (c.fld F.GLB_FLC_STATUS.BUSY = 0 → 2 ≤ op → c.fld F.GLB_FLC_A.STATE f = 1 → wbit v 29 = false →
      SetsPast c i s (F.GLB_FLC_A.STATE.is 2 f :: taken) [.flcs] [] (fun d => (d.flc f).remove = (op == 3))) ∧
    (c.fld F.GLB_FLC_STATUS.BUSY = 0 → 2 ≤ op → c.fld F.GLB_FLC_A.STATE f = 4 →
      SetsPast c i s taken [.flcs] [] (fun d => (d.flc f).remove = (op == 3 || (c.flc f).remove))) ∧
    (c.fld F.GLB_FLC_STATUS.BUSY = 0 → 2 ≤ op → (c.fld F.GLB_FLC_A.STATE f = 1 ∨ c.fld F.GLB_FLC_A.STATE f = 2) →
      wbit v 29 = true →
      Reaches i s fun d => d.fld F.GLB_FLC_A.STATE f = 4 ∧ d.fld F.GLB_FLC_STATUS.RESULT = 0 ∧
        (d.flc f).remove = (op == 3 || (c.fld F.GLB_FLC_A.STATE f == 2 && (c.flc f).remove)) ∧
        ∀ e ∈ d.flcReqs, e.flc = f → e.reserved = true)) ∧
  (∀ (a : Access) (v : Word) (s : State) (c : Chip), s.passes a ⟨.GLB_FLC_CMD, 0, 0⟩ v c → c.fld F.GLB_FLC_STATUS.BUSY = 0 →
    let f := wget v 11 0
    let taken : List FieldVal := [F.GLB_FLC_STATUS.RESULT.is 0, F.GLB_FLC_STATUS.INDEX.is f, Reg.GLB_FLC_CMD.any]
    (wget v 31 29 = 2 → c.assignResult f = 0 →
      SetsPast c (.flaconAssign a v) s (F.GLB_FLC_A.STATE.is 1 f :: taken) [.flcs] [] (fun d => d.flc f = {})) ∧
    (wget v 31 29 = 4 → c.fld F.GLB_FLC_A.STATE f = 1 →
      SetsPast c (.flaconReset a v) s (F.GLB_FLC_A.STATE.is 2 f :: taken) [.flcs] [] (fun d => (d.flc f).remove = false)) ∧
    (wget v 31 29 = 6 → c.fld F.GLB_FLC_A.STATE f = 1 →
      SetsPast c (.flaconRemove a v) s (F.GLB_FLC_A.STATE.is 2 f :: taken) [.flcs] [] (fun d => (d.flc f).remove = true))) ∧
  (∀ (c : Chip) (f : Nat), c.opMode ∉ [3, 5, 6, 7, 8, 9, 10] → c.assignResult f = 1) ∧
  (∀ (c : Chip) (f : Nat), c.opMode = 9 ∨ c.opMode = 3 → c.fld F.GLB_FLC_A.STATE f ≠ 0 → c.assignResult f = 2) ∧
  (∀ (c : Chip) (f : Nat), c.opMode = 9 ∨ c.opMode = 3 → c.fld F.GLB_FLC_A.STATE f = 0 →
    (∀ n < 96, c.isPcie n = true → c.role n = 1 → c.portPart n ≠ c.fld F.GLB_FLC_A.OWNER f) → c.assignResult f = 3) ∧
  (∀ (f : Fin 4096) (s : State), s.chip.coreUp = true → s.chip.fld F.GLB_FLC_A.STATE f = 2 →
    (∀ e ∈ s.chip.flcReqs, e.flc ≠ f) → s.chip.jobsOfFlacon f = [] →
    Sets (.drainDone f) s [F.GLB_FLC_A.STATE.is 4 f]) ∧
  (∀ (f : Fin 4096) (s : State), s.chip.fld F.GLB_FLC_A.STATE f ≠ 2 ∨ (∃ e ∈ s.chip.flcReqs, e.flc = f) →
    exec (.drainDone f) s = .next s) ∧
  (∀ (f : Fin 4096) (s : State), s.chip.coreUp = true → s.chip.fld F.GLB_FLC_A.STATE f = 2 →
    s.chip.jobsOfFlacon f = [] → s.chip.cel.copies = [] → 0 < s.chip.cel.sharedSize →
    ∀ e ∈ s.chip.flcReqs, s.chip.flcEntries f = [e] → e.reserved = false → ∀ m : Fin 96, e.src = .port m →
    s.chip.isPcie m = true → s.chip.linkLive m = true →
    Sets (.drainLimitExpiry f) s [F.GLB_FLC_A.STATE.is 4 f] [.flcReqs, .cel, .free] countRegs (fun c =>
      c.flcReqs = s.chip.flcReqs.map (fun x => if x = e then { e with reserved := true } else x) ∧
      ∃ k ∈ c.cel.copies, k.dest = .port m ∧ k.pkt.kind = .cpl ∧ k.pkt.status = .ur ∧ k.pkt.rid = e.origRid ∧
        k.pkt.tag = e.origTag ∧ k.pkt.cls = e.cls)) ∧
  (∀ (f : Fin 4096) (s : State), s.chip.coreUp = true → s.chip.fld F.GLB_FLC_A.STATE f = 2 →
    Reaches (.drainLimitExpiry f) s fun c => c.fld F.GLB_FLC_A.STATE f = 4 ∧
      ∀ e ∈ c.flcReqs, e.flc = f → e.reserved = true) ∧
  (∀ (f : Fin 4096) (s : State), s.chip.coreUp = true → s.chip.fld F.GLB_FLC_A.STATE f = 4 →
    (∀ e ∈ s.chip.flcReqs, e.flc ≠ f) →
    Sets (.flaconRetired f) s [F.GLB_FLC_A.STATE.is (if (s.chip.flc f).remove then 0 else 1) f] [.flcs] [] (fun c =>
      c.flc f = {})) ∧
  (∀ (f : Fin 4096) (s : State), s.chip.fld F.GLB_FLC_A.STATE f ≠ 4 ∨ (∃ e ∈ s.chip.flcReqs, e.flc = f) →
    exec (.flaconRetired f) s = .next s) ∧
  (∀ (p : Fin 32) (tag : Fin 16384) (s : State), s.chip.coreUp = true →
    ∀ e ∈ s.chip.flcReqs, e.tagPart = p → e.newTag = tag →
    (∀ x ∈ s.chip.flcReqs, x.tagPart = p → x.newTag = tag → x = e) → e.reserved = true →
    Sets (.quarantineExpiry p tag) s [] [.flcReqs, .flt] [] (fun c => c.flcReqs = s.chip.flcReqs.filter (· != e) ∧
      c.flt = { s.chip.flt with track := s.chip.flt.track.filter fun t =>
        !(t.copy.hier == p.val && t.copy.pkt.rid == e.newRid && t.copy.pkt.tag == tag.val && !t.orphan) }) ∧
    exec (.staleEntryTimeout p tag) s = .next s) ∧
  (∀ (p : Fin 32) (tag : Fin 16384) (s : State), s.chip.coreUp = true →
    ∀ e ∈ s.chip.flcReqs, e.tagPart = p → e.newTag = tag →
    (∀ x ∈ s.chip.flcReqs, x.tagPart = p → x.newTag = tag → x = e) → e.reserved = false →
    exec (.quarantineExpiry p tag) s = .next s ∧
    (s.chip.fld F.GLB_FLC_A.STATE e.flc = 1 →
      Sets (.staleEntryTimeout p tag) s [F.GLB_FLC_STALE.COUNT.is (s.chip.counted F.GLB_FLC_STALE.COUNT)] [.flcReqs, .flt] []
        (fun c => c.flcReqs = s.chip.flcReqs.filter (· != e) ∧ c.flt = { s.chip.flt with track := s.chip.flt.track.filter fun t =>
          !(t.copy.hier == p.val && t.copy.pkt.rid == e.newRid && t.copy.pkt.tag == tag.val && !t.orphan) })) ∧
    (s.chip.fld F.GLB_FLC_A.STATE e.flc ≠ 1 → exec (.staleEntryTimeout p tag) s = .next s))

/-! ### Operating modes (spec/01_architecture.md) -/

/-- Requests for a mode (R31 to R33, R38, R42, Tables 1.7 and 1.8); the end of a quiesce, by completion and by its
limit, and the resumption from standby (R42, R43); writes of the tile enables (R37). It rests on log entries 7 and 36.
-/
def Obligations.ModesAndQuiesce : Prop :=
  (∀ (a : Access) (v : Word) (s : State) (c : Chip), s.passes a ⟨.GLB_MODE, 0, 0⟩ v c → c.isExpert a.who = true →
    let m := max 1 (min 12 (wget v 7 4))
    let clamp := F.GLB_CLAMP_SEEN.COUNT.is
      (if wget v 7 4 = m then c.fld F.GLB_CLAMP_SEEN.COUNT else c.counted F.GLB_CLAMP_SEEN.COUNT)
    let now := c.fld F.GLB_MODE.MODE
    (c.fld F.GLB_MODE.BUSY = 1 →
      SetsPast c (.modeRequest a v) s [F.GLB_CLAMP_SEEN.COUNT.is (c.counted F.GLB_CLAMP_SEEN.COUNT)]) ∧
    (c.fld F.GLB_MODE.BUSY = 0 → m = 12 ∨ now = 12 ∨ 1 ≤ now ∧ now ≤ 8 ∧ m ≤ 9 ∨ now = 9 ∧ (m = 9 ∨ m = 10) ∨
        now = 10 ∧ m = 10 ∨ now = 11 ∧ (m ≠ c.fld F.GLB_MODE.PREV_MODE ∨ c.fld F.PWR_STATUS.STATE ≠ 0) →
      SetsPast c (.modeRequest a v) s [clamp, F.GLB_MODE.REQ_MODE.is m, F.GLB_MODE.LAST_RESULT.is 1]) ∧
    (c.fld F.GLB_MODE.BUSY = 0 → now = 9 ∨ now = 10 → 1 ≤ m ∧ m ≤ 8 → c.prereqMet m = false →
      SetsPast c (.modeRequest a v) s [clamp, F.GLB_MODE.REQ_MODE.is m, F.GLB_MODE.LAST_RESULT.is 2]) ∧
    (c.fld F.GLB_MODE.BUSY = 0 → 1 ≤ now ∧ now ≤ 8 → m = 10 ∨ m = 11 →
      SetsPast c (.modeRequest a v) s [clamp, F.GLB_MODE.REQ_MODE.is m, F.GLB_MODE.BUSY.is 1] [.mode] []
        (fun d => d.mode = { c.mode with target := some m, stopped := true })) ∧
    (c.fld F.GLB_MODE.BUSY = 0 → now = 11 → m = c.fld F.GLB_MODE.PREV_MODE → c.fld F.PWR_STATUS.STATE = 0 → 1 ≤ m ∧ m ≤ 8 →
        c.settingsMet m = false →
      SetsPast c (.modeRequest a v) s [clamp, F.GLB_MODE.REQ_MODE.is m, F.GLB_MODE.LAST_RESULT.is 2] [.mode] []
        (fun d => d.mode = { c.mode with wakeHeld := false })) ∧
    (c.fld F.GLB_MODE.BUSY = 0 → (now = 9 ∨ now = 10) ∧ 1 ≤ m ∧ m ≤ 8 ∧ c.prereqMet m = true ∨ now = 10 ∧ m = 9 ∨
        (now = 9 ∨ now = 10) ∧ m = 11 ∨ now = 11 ∧ m = c.fld F.GLB_MODE.PREV_MODE ∧ m ≠ 12 ∧ c.fld F.PWR_STATUS.STATE = 0 ∧
          (1 ≤ m ∧ m ≤ 8 → c.settingsMet m = true) →
      Reaches (.modeRequest a v) s fun d => d.fld F.GLB_MODE.MODE = m ∧ d.fld F.GLB_MODE.PREV_MODE = now ∧
        d.fld F.GLB_MODE.LAST_RESULT = 0 ∧ d.fld F.GLB_MODE.BUSY = 0 ∧ d.mode.target = none ∧
        (1 ≤ m ∧ m ≤ 8 → d.cel.reserved + d.cel.sharedSize = 393216 ∧ d.fld F.CEL_RSV_STATUS.RESERVED = d.cel.reserved) ∧
        (m = 9 → now = 10 → ∀ n < 96, d.isPcie n = true → d.fld F.PRT_LINK_STATUS.DL_ACTIVE n = 0) ∧
        (m = 9 → now = 11 → ∀ n < 96, d.isPcie n = true →
          d.fld F.PRT_LINK_STATUS.DL_ACTIVE n = c.fld F.PRT_LINK_STATUS.DL_ACTIVE n) ∧
        (m = 11 → d.tim.steady = 0 ∧ d.tim.pulses = []))) ∧
  (∀ (c : Chip), c.prereqMet 1 = true → (c.rolePorts 1).length = 1 ∧ c.rolePorts 2 = [] ∧ c.flerenPorts = []) ∧
  (∀ (c : Chip) (m : Nat), c.prereqMet m = true → ∀ n < 96, c.portEn n = true → bit (c.fld F.GLB_TILE_EN.TILE_EN) (n / 8) = true) ∧
  (∀ (s : State), s.chip.coreUp = true → s.chip.mode.stopped = true → ∀ m : Nat, s.chip.mode.target = some m → (m = 10 ∨ m = 11) →
    s.chip.cel.copies = [] → s.chip.cel.waiting = [] → s.chip.cel.flcWaiting = [] → s.chip.cel.meterHeld = [] →
    (∀ e ∈ s.chip.flt.track, e.orphan = true) → (∀ e ∈ s.chip.flcReqs, e.reserved = true) → s.chip.lpb.queue = [] →
    (∀ e ∈ s.chip.flt.dev, e.quarantined = true) →
    (∀ e ∈ s.chip.acd.engs, (e.2.hand = none ∨ s.chip.fld F.ACD_ENG_STATUS.STATE e.1 = enMaster) ∧
      ∀ o ∈ e.2.out, s.chip.busOff (s.chip.windowPart o.job o.win) = true) →
    (∀ x ∈ s.chip.acd.emits, ∀ q ∈ x.dests, s.chip.windowOff x.job q.1 = true) →
    Reaches .quiesceComplete s fun c => c.fld F.GLB_MODE.MODE = m ∧ c.fld F.GLB_MODE.PREV_MODE = s.chip.fld F.GLB_MODE.MODE ∧
      c.fld F.GLB_MODE.LAST_RESULT = 0 ∧ c.fld F.GLB_MODE.BUSY = 0 ∧ c.mode.target = none ∧ c.mode.stopped = false ∧
      (s.chip.fld F.GLB_MODE.MODE = 8 → ∀ i j : Nat, c.fld F.FAB_DRT_A.SIDE i j = 0 ∧ c.live F.FAB_DRT_A.SIDE i j = 0)) ∧
  (∀ (s : State), s.chip.cel.copies ≠ [] ∨ s.chip.cel.waiting ≠ [] ∨ (∃ e ∈ s.chip.flt.track, e.orphan = false) ∨
      s.chip.mode.target = none →
    exec .quiesceComplete s = .next s) ∧
  (∀ (s : State), s.chip.coreUp = true → s.chip.mode.stopped = true → ∀ m : Nat, s.chip.mode.target = some m → (m = 10 ∨ m = 11) →
    Reaches .quiesceLimitExpiry s fun c => c.fld F.GLB_MODE.MODE = m ∧
      c.fld F.GLB_MODE.PREV_MODE = s.chip.fld F.GLB_MODE.MODE ∧ c.fld F.GLB_MODE.LAST_RESULT = 3 ∧
      c.fld F.GLB_MODE.BUSY = 0 ∧ c.mode.target = none ∧ c.cel.flcWaiting = [] ∧ c.cel.meterHeld = [] ∧
      (∀ r ∈ c.lpb.delayed, r.before = []) ∧ (∀ e ∈ c.acd.engs, c.fld F.ACD_ENG_STATUS.STATE e.1 ≠ enMeter) ∧
      (∀ x ∈ c.acd.emits, x ∈ s.chip.acd.emits ∧ ∀ q ∈ x.dests, s.chip.windowOff x.job q.1 = true) ∧
      ∀ e ∈ c.acd.engs, (c.eng e.1).hand ≠ none →
        (c.eng e.1).hand = (s.chip.eng e.1).hand ∧ s.chip.fld F.ACD_ENG_STATUS.STATE e.1 = enMaster) ∧
  (∀ (s : State), s.chip.coreUp = true → s.chip.fld F.GLB_MODE.MODE = 11 → s.chip.mode.wakeHeld = true →
    s.chip.fld F.GLB_MODE.BUSY = 0 → s.chip.fld F.PWR_STATUS.STATE = 0 →
    let m := s.chip.fld F.GLB_MODE.PREV_MODE
    ((isForwarding m = true → s.chip.settingsMet m = true) →
      Reaches .standbyWakeResume s fun c => c.fld F.GLB_MODE.MODE = m ∧
        c.fld F.GLB_MODE.PREV_MODE = 11 ∧ c.fld F.GLB_MODE.LAST_RESULT = 0 ∧ c.mode.wakeHeld = false) ∧
    (isForwarding m = true → s.chip.settingsMet m = false →
      Sets .standbyWakeResume s [F.GLB_MODE.LAST_RESULT.is 2] [.mode] []
        (fun c => c.mode = { s.chip.mode with wakeHeld := false }))) ∧
  (∀ (s : State), s.chip.fld F.GLB_MODE.MODE ≠ 11 ∨ s.chip.mode.wakeHeld = false ∨ s.chip.fld F.PWR_STATUS.STATE ≠ 0 →
    exec .standbyWakeResume s = .next s) ∧
  (∀ (a : Access) (v : Word) (s : State) (c : Chip), s.passes a ⟨.GLB_TILE_EN, 0, 0⟩ v c →
    c.fld F.GLB_MODE.MODE ≠ 9 → c.fld F.GLB_MODE.MODE ≠ 10 →
    SetsPast c (.tileEnableWrite a v) s [F.GLB_CLAMP_SEEN.COUNT.is (c.counted F.GLB_CLAMP_SEEN.COUNT)]) ∧
  (∀ (a : Access) (v : Word) (s : State) (c : Chip), s.passes a ⟨.GLB_TILE_EN, 0, 0⟩ v c → c.isExpert a.who = true →
    c.fld F.GLB_MODE.MODE = 9 ∨ c.fld F.GLB_MODE.MODE = 10 →
    Reaches (.tileEnableWrite a v) s fun d => d.fld F.GLB_TILE_EN.TILE_EN = wget v 11 0 ∧
      d.fld F.GLB_MODE.MODE = c.fld F.GLB_MODE.MODE ∧
      ∀ t < 12, bit (c.fld F.GLB_TILE_EN.TILE_EN) t = true → wbit v t = false →
        (∀ n < 8, d.isPcie (8 * t + n) = true → d.fld F.PRT_LINK_STATUS.DL_ACTIVE (8 * t + n) = 0) ∧
        (∀ n < 8, d.isFleren (8 * t + n) = true → d.lstate (8 * t + n) = flDisabled) ∧
        ∀ l < 16, d.fld F.SDS_LN_STATUS.STATE (16 * t + l) = 0) ∧
  (∀ (a : Access) (v : Word) (s : State) (c : Chip), s.passes a ⟨.GLB_TILE_EN, 0, 0⟩ v c → c.isExpert a.who = true →
    c.fld F.GLB_MODE.MODE = 9 ∨ c.fld F.GLB_MODE.MODE = 10 →
    Nat.land (c.fld F.GLB_TILE_EN.TILE_EN) (wget v 11 0) = c.fld F.GLB_TILE_EN.TILE_EN → (∀ n < 96, c.fld F.PRT_FL_STATUS.LSTATE n = 0) →
    c.flerenPorts = [] →
    SetsPast c (.tileEnableWrite a v) s [F.GLB_TILE_EN.TILE_EN.is (wget v 11 0)] [.ctr])

/-! ### The Fuse Box (spec/13_fuse_box.md) -/

/-- Seating, presence and its loss (R435, R454, R461). It rests on log entries 7, 31 and 51. -/
def Obligations.FusePresence : Prop :=
  (∀ (f : Fin 24) (s : State), s.chip.slotUp = true →
    let waits := s.chip.fuState f = fuEmpty ∨ s.chip.fuState f = fuDebounce
    waits ∨ s.chip.fuState f ≠ fuDisabled ∧ s.chip.flag F.FUS_CHAN_STATUS.PRESENT f = false →
    let old := (s.chip.fus1 f).restarts.filter fun t => Nat.ble s.chip.hwy (t + 1000 * msCycles)
    let recent := if (s.chip.fus1 f).counting then s.chip.hwy :: old else old
    let viol := (s.chip.fus1 f).counting = true ∧ 8 < recent.length
    let h : FusChan := { s.chip.fus1 f with counting := true, restarts := recent }
    Sets (.presencePinsLow f) s (F.FUS_CHAN_STATUS.LONG.is 1 f :: F.FUS_CHAN_STATUS.SHORT.is 1 f ::
        (if waits then s.chip.chanIs f fuDebounce else []) ++
        if viol then [F.FUS_VIOL_LAST.CHAN.is f, F.FUS_VIOL_LAST.CODE.is 0x71] else [])
      ([.fus] ++ if viol then [.flt] else []) (if viol then faultRegs else [])
      (s.chip.fusIs f (if waits then h.at fuDebounce else h))) ∧
  (∀ (f : Fin 24) (s : State), s.chip.slotUp = false ∨ s.chip.fuState f = fuDisabled ∨
      s.chip.fuState f ≠ fuEmpty ∧ s.chip.fuState f ≠ fuDebounce ∧ s.chip.flag F.FUS_CHAN_STATUS.PRESENT f = true →
    Sets (.presencePinsLow f) s [F.FUS_CHAN_STATUS.LONG.is 1 f, F.FUS_CHAN_STATUS.SHORT.is 1 f]) ∧
  (∀ (f : Fin 24) (s : State), s.chip.slotUp = true → s.chip.pinsLow f = true → s.chip.fuState f ≠ fuDisabled →
    s.chip.flag F.FUS_CHAN_STATUS.PRESENT f = false →
    let policy := s.chip.fld F.FUS_CHAN_CFG.POLICY f
    let starts := s.chip.fuState f = fuDebounce ∧ s.chip.fld F.PWR_STATUS.STATE = 0 ∧ s.chip.opMode ≠ 12 ∧
      (policy = 1 ∨ s.chip.fld F.FUS_CHAN_STATUS.REQ_PEND f = 1)
    Sets (.presenceDebounceDone f) s (F.FUS_CHAN_STATUS.PRESENT.is 1 f ::
        if starts then s.chip.chanIs f fuWaitSlot
        else if s.chip.fuState f = fuDebounce then s.chip.chanIs f fuWaitReq else []) [.fus, .cfg, .outs] []
      (fun c => s.chip.fusIs f (let h : FusChan := { s.chip.fus1 f with
            offSince := false, counting := false, presentAt := s.chip.hwy }
          if s.chip.fuState f = fuDebounce then h.at fuWaitReq else h) c ∧ c.slotBit f 19 ∧
        (starts → (f.val, s.chip.fus.samples) ∈ c.fus.order))) ∧
  (∀ (f : Fin 24) (s : State), s.chip.pinsLow f = false → exec (.presenceDebounceDone f) s = .next s) ∧
  (∀ (f : Fin 24) (long short : Bool) (s : State), s.chip.slotUp = true → (long && short) = false →
    s.chip.flag F.FUS_CHAN_STATUS.PRESENT f = true →
    let st := s.chip.fuState f
    let live := s.chip.fuLive f
    let still := st = fuDisabled ∨ st = fuCooldown ∨ live = false ∧ st = fuDischarge ∧ (s.chip.fus1 f).disabling = true
    Sets (.presenceLost f long short) s ([F.FUS_CHAN_STATUS.LONG.is (b2n long) f, F.FUS_CHAN_STATUS.SHORT.is (b2n short) f,
        F.FUS_CHAN_STATUS.PRESENT.is 0 f, F.FUS_CHAN_STATUS.REQ_PEND.is 0 f,
        F.FUS_CHAN_STATUS.RETRIES.is (if st = fuCooldown then s.chip.fld F.FUS_CHAN_STATUS.RETRIES f else 0) f] ++
        if still then [] else if live then s.chip.chanIs f fuDischarge ++ s.chip.pgIs f false else s.chip.chanIs f fuEmpty)
      [.fus, .cfg, .outs] []
      (fun c => c.slotBit f 19 ∧ s.chip.fusIs f (if still then s.chip.fus1 f else if live then
        FusChan.at { s.chip.fus1 f with gate := false, pchg := false, perstHigh := false, delayDone := false } fuDischarge
        else (s.chip.fus1 f).at fuEmpty) c)) ∧
  (∀ (f : Fin 24) (long short : Bool) (s : State), s.chip.slotUp = false ∨ (long && short) = true →
    Sets (.presenceLost f long short) s [F.FUS_CHAN_STATUS.LONG.is (b2n long) f, F.FUS_CHAN_STATUS.SHORT.is (b2n short) f]) ∧
  (∀ (f : Fin 24) (s : State), s.chip.slotUp = true → s.chip.flag F.FUS_CHAN_STATUS.PRESENT f = false → s.chip.fuLive f = false →
    s.chip.fuState f = fuEmpty ∨ s.chip.fuState f = fuDebounce →
    Sets (.shortPinViolation f) s ([F.FUS_CHAN_STATUS.LONG.is 0 f, F.FUS_CHAN_STATUS.SHORT.is 1 f, F.FUS_VIOL_LAST.CHAN.is f,
      F.FUS_VIOL_LAST.CODE.is 0x70] ++ s.chip.chanIs f fuEmpty) [.fus, .flt] faultRegs
      (s.chip.fusIs f ((s.chip.fus1 f).at fuEmpty)))

/-- Writes of FUS_CHAN_CTL and FUS_CTL (R436, R437, R448, R452, R457, R458, Table 13.8), and of FUS_CHAN_CFG:
enabling, disabling, and what may be configured when (R433, R463, Tables 13.2 and 13.3). It rests on log entries 31
and 51. -/
def Obligations.FuseChannelWrites : Prop :=
  (∀ (a : Access) (f : Fin 24) (v : Word) (s : State) (c : Chip), s.passes a ⟨.FUS_CHAN_CTL, f, 0⟩ v c →
    ∀ i ∈ [Instr.on a f v, .off a f v, .release a f v, .eClr a f v],
    let st := c.fuState f
    let op := wget v 31 28
    let may := c.fld F.PWR_STATUS.STATE = 0 ∧ c.opMode ≠ 12
    (op = 0 → SetsPast c i s []) ∧
    (op = 1 → SetsPast c i s [] [.fus] [] (c.fusIs f { c.fus1 f with eClr := true })) ∧
    (op = 8 → st = fuCooldown ∨ st = fuLatched → SetsPast c i s []) ∧
    (op = 8 → st = fuWaitReq → c.flag F.FUS_CHAN_STATUS.PRESENT f = true → c.fld F.FUS_CHAN_CFG.POLICY f ≠ 1 → may →
      SetsPast c i s (F.FUS_CHAN_STATUS.REQ_PEND.is 1 f :: c.chanIs f fuWaitSlot) [.fus, .cfg] [] (fun d =>
        c.fusIs f ((c.fus1 f).at fuWaitSlot) d ∧ (f.val, c.fus.samples) ∈ d.fus.order ∧
        ∀ n : Nat, c.slotPort? f = some n → d.cfgBit (.port n) 0x88 10 = false)) ∧
    (op = 8 → st ≠ fuWaitReq → st ≠ fuCooldown → st ≠ fuLatched → SetsPast c i s [F.FUS_CHAN_STATUS.REQ_PEND.is 1 f]) ∧
    (op = 4 → SetsPast c i s ([F.FUS_CHAN_STATUS.REQ_PEND.is 0 f, F.FUS_CHAN_STATUS.RETRIES.is 0 f] ++
        (if st = fuWaitReq ∨ st = fuWaitSlot then c.chanIs f fuWaitReq
         else if fuPrecharge ≤ st ∧ st ≤ fuOn then c.chanIs f fuPreoff else [])) [.fus, .cfg] []
      (fun d => c.fusIs f { c.fus1 f with
          offSince := true
          timer := if fuWaitReq ≤ st ∧ st ≤ fuOn then 0 else (c.fus1 f).timer
          perstHigh := if fuWaitReq ≤ st ∧ st ≤ fuOn then false else (c.fus1 f).perstHigh
          coolOff := if st = fuCooldown then true else (c.fus1 f).coolOff } d ∧
        ∀ n : Nat, c.slotPort? f = some n → d.cfgBit (.port n) 0x88 10 = true)) ∧
    (op = 2 → st ≠ fuLatched ∨ c.opMode = 12 → SetsPast c i s []) ∧
    (op = 2 → st = fuLatched → c.opMode ≠ 12 → c.flag F.FUS_CHAN_STATUS.PRESENT f = false →
      SetsPast c i s (F.FUS_CHAN_STATUS.RETRIES.is 0 f :: c.chanIs f (if c.pinsLow f then fuDebounce else fuEmpty)) [.fus] []
        (c.fusIs f { c.fus1 f with timer := 0, counting := c.pinsLow f || (c.fus1 f).counting })) ∧
    (op = 2 → st = fuLatched → c.opMode ≠ 12 → c.flag F.FUS_CHAN_STATUS.PRESENT f = true →
      c.fld F.FUS_CHAN_CFG.POLICY f ≠ 1 → c.fld F.FUS_CHAN_STATUS.REQ_PEND f = 0 →
      SetsPast c i s (F.FUS_CHAN_STATUS.RETRIES.is 0 f :: c.chanIs f fuWaitReq) [.fus] []
        (c.fusIs f ((c.fus1 f).at fuWaitReq)))) ∧
  (∀ (a : Access) (f : Fin 24) (v : Word) (s : State) (c : Chip), s.passes a ⟨.FUS_CHAN_CTL, f, 0⟩ v c →
    (wget v 31 28 = 8 → c.fuState f = fuWaitReq → c.flag F.FUS_CHAN_STATUS.PRESENT f = true →
      c.fld F.FUS_CHAN_CFG.POLICY f ≠ 1 → c.fld F.PWR_STATUS.STATE = 0 → c.opMode ≠ 12 →
      SetsPast c (.on a f v) s (F.FUS_CHAN_STATUS.REQ_PEND.is 1 f :: c.chanIs f fuWaitSlot) [.fus, .cfg]) ∧
    (wget v 31 28 = 4 → fuPrecharge ≤ c.fuState f → c.fuState f ≤ fuOn →
      SetsPast c (.off a f v) s (F.FUS_CHAN_STATUS.REQ_PEND.is 0 f :: F.FUS_CHAN_STATUS.RETRIES.is 0 f :: c.chanIs f fuPreoff)
        [.fus, .cfg] [] (fun d => (d.fus1 f).offSince = true ∧ (d.fus1 f).perstHigh = false)) ∧
    (wget v 31 28 = 2 → c.fuState f = fuLatched → c.opMode ≠ 12 → c.flag F.FUS_CHAN_STATUS.PRESENT f = false →
      SetsPast c (.release a f v) s (F.FUS_CHAN_STATUS.RETRIES.is 0 f :: c.chanIs f (if c.pinsLow f then fuDebounce else fuEmpty))
        [.fus]) ∧
    (wget v 31 28 = 1 → SetsPast c (.eClr a f v) s [] [.fus] [] (c.fusIs f { c.fus1 f with eClr := true }))) ∧
  (∀ (a : Access) (v : Word) (s : State) (c : Chip), s.passes a ⟨.FUS_CTL, 0, 0⟩ v c →
    SetsPast c (.hminClr a v) s
      [F.FUS_HOLDUP_V.V_MIN.is (if wbit v 31 then 0xFFFF else c.fld F.FUS_HOLDUP_V.V_MIN)]) ∧
  (∀ (a : Access) (f : Fin 24) (v : Word) (s : State) (c : Chip), s.passes a ⟨.FUS_CHAN_CFG, f, 0⟩ v c → c.isExpert a.who = true →
    (c.fuState f ≤ fuWaitReq → Reaches (.fusChanEnable a f v) s fun d =>
      d.fld F.FUS_CHAN_CFG.NOM_MV f = max 3000 (min (if wbit v 30 then 56000 else 12600) (wget v 15 0)) ∧
      d.fld F.FUS_CHAN_CFG.CLASS f = wget v 30 30 ∧ d.fld F.FUS_CHAN_CFG.POLICY f = (if wget v 29 28 ≤ 1 then wget v 29 28 else 0) ∧
      d.fld F.FUS_CHAN_CFG.RETRY_MAX f = wget v 27 25 ∧ d.fld F.FUS_CHAN_CFG.EN f = wget v 31 31) ∧
    (fuWaitReq < c.fuState f → c.fld F.FUS_CHAN_CFG.POLICY f ≤ 1 → Reaches (.fusChanEnable a f v) s fun d =>
      d.fld F.FUS_CHAN_CFG.EN f = wget v 31 31 ∧
      ∀ x ∈ [F.FUS_CHAN_CFG.CLASS, F.FUS_CHAN_CFG.POLICY, F.FUS_CHAN_CFG.RETRY_MAX, F.FUS_CHAN_CFG.WAKE, F.FUS_CHAN_CFG.NOM_MV],
        d.fld x f = c.fld x f) ∧
    (c.fuState f = fuWaitReq → wbit v 31 = true → (c.fus1 f).disabling = false → wget v 29 28 = 1 →
      c.flag F.FUS_CHAN_STATUS.PRESENT f = true → (c.fus1 f).offSince = false → c.fld F.PWR_STATUS.STATE = 0 → c.opMode ≠ 12 →
      Reaches (.fusChanEnable a f v) s fun d => d.fuState f = fuWaitSlot ∧ (f.val, c.fus.samples) ∈ d.fus.order) ∧
    (c.fuState f = fuDisabled → (c.fus1 f).disabling = false → wbit v 31 = true → Reaches (.fusChanEnable a f v) s fun d =>
      d.fuState f = if c.pinsLow f then fuDebounce else fuEmpty) ∧
    (c.fld F.FUS_CHAN_CFG.EN f = 1 → wbit v 31 = false → c.fuLive f = true → Reaches (.fusChanEnable a f v) s fun d =>
      d.fuState f = fuPreoff ∧ (d.fus1 f).disabling = true ∧ (d.fus1 f).perstHigh = false ∧ d.fuLive f = true) ∧
    (c.fld F.FUS_CHAN_CFG.EN f = 1 → wbit v 31 = false → c.fuLive f = false → Reaches (.fusChanEnable a f v) s fun d =>
      d.fuState f = fuDisabled ∧ (d.fus1 f).perstHigh = false ∧ d.fld F.FUS_CHAN_STATUS.PG f = 0 ∧
        d.fld F.FUS_CHAN_STATUS.RETRIES f = 0))

/-- The ramp phase, qualification and power-off of a channel (R438 to R441, R447 to R452, Tables 13.3, 13.6 and 13.8).
It rests on log entries 7, 31 and 51. -/
def Obligations.FuseSequence : Prop :=
  (∀ (f : Fin 24) (s : State), s.chip.slotUp = true → s.chip.fld F.PWR_STATUS.STATE = 0 → s.chip.opMode ≠ 12 →
    s.chip.ramping < s.chip.fld F.FUS_CFG.MAX_RAMPING → ∀ q : Nat × Nat, s.chip.fus.order.head? = some q → q.1 = f →
    (s.chip.fuP f = true →
      Sets (.rampStart f false) s (s.chip.chanIs f fuRamp) [.fus] []
        (fun c => s.chip.fusIs f (FusChan.at { s.chip.fus1 f with gate := true } fuRamp) c ∧ ∀ q ∈ c.fus.order, q.1 ≠ f)) ∧
    (s.chip.fuP f = false →
      Sets (.rampStart f false) s (s.chip.chanIs f fuPrecharge) [.fus] []
        (fun c => s.chip.fusIs f (FusChan.at { s.chip.fus1 f with pchg := true } fuPrecharge) c ∧ ∀ q ∈ c.fus.order, q.1 ≠ f)) ∧
    Sets (.rampStart f true) s [F.FUS_VIOL_LAST.CHAN.is f, F.FUS_VIOL_LAST.CODE.is 0x72] [.fus, .flt] faultRegs
      (fun c => c.fus.chans = s.chip.fus.chans ∧ c.fus.order.length = s.chip.fus.order.length ∧
        (1 < s.chip.fus.order.length → c.fus.order[0]? = s.chip.fus.order[1]? ∧ c.fus.order[1]? = some q))) ∧
  (∀ (f : Fin 24) (high : Bool) (s : State), s.chip.fus.order.head?.map (·.1) ≠ some f.val ∨
      s.chip.fld F.FUS_CFG.MAX_RAMPING ≤ s.chip.ramping →
    exec (.rampStart f high) s = .next s) ∧
  (∀ (f : Fin 24) (s : State), s.chip.slotUp = true →
    let st := s.chip.fuState f
    let h := s.chip.fus1 f
    (st = fuRamp → Sets (.rampComplete f) s (s.chip.chanIs f fuQualify) [.fus] [] (s.chip.fusIs f h)) ∧
    (st = fuPrecharge → Sets (.prechargeComplete f) s [] [.fus] [] (s.chip.fusIs f { h with gate := true })) ∧
    (st = fuPrecharge → h.gate = true →
      Sets (.pchgEnOff f) s (s.chip.chanIs f fuQualify) [.fus] [] (s.chip.fusIs f { h with pchg := false })) ∧
    (st = fuQualify → s.chip.flag F.FUS_CHAN_STATUS.FT_RUN f = false →
      Sets (.pgQualify f) s (s.chip.chanIs f fuOn ++ s.chip.pgIs f true) [.fus] [] (s.chip.fusIs f h)) ∧
    (st = fuQualify ∨ st = fuOn → s.chip.flag F.FUS_CHAN_STATUS.FT_RUN f = false →
      Sets (.faultTimerStart f) s (F.FUS_CHAN_STATUS.FT_RUN.is 1 f :: s.chip.chanIs f fuQualify ++ s.chip.pgIs f false) [.fus] []
        (s.chip.fusIs f { h with delayDone := false, timer := max h.timer 1 })) ∧
    (st = fuQualify ∨ st = fuOn → s.chip.flag F.FUS_CHAN_STATUS.FT_RUN f = true →
      Sets (.faultTimerStart f) s [] [.fus] [] (s.chip.fusIs f { h with timer := max h.timer 1 })) ∧
    (s.chip.flag F.FUS_CHAN_STATUS.PG f = true → Sets (.retryClear f) s [F.FUS_CHAN_STATUS.RETRIES.is 0 f]) ∧
    (st = fuPreoff →
      Sets (.preoffEnd f) s (s.chip.chanIs f fuDischarge ++ s.chip.pgIs f false) [.fus] []
        (s.chip.fusIs f { h with gate := false, pchg := false, delayDone := false, timer := 0 })) ∧
    (st ≠ fuRamp → exec (.rampComplete f) s = .next s) ∧
    (st ≠ fuPrecharge → exec (.prechargeComplete f) s = .next s ∧ exec (.pchgEnOff f) s = .next s) ∧
    (st ≠ fuQualify ∨ s.chip.flag F.FUS_CHAN_STATUS.FT_RUN f = true → exec (.pgQualify f) s = .next s) ∧
    (st ≠ fuPreoff → exec (.preoffEnd f) s = .next s) ∧
    (st ≠ fuDischarge → exec (.dischargeDone f) s = .next s) ∧
    (st ≠ fuCooldown → exec (.coolEnd f) s = .next s)) ∧
  (∀ (f : Fin 24) (s : State), s.chip.slotUp = true → s.chip.fuState f = fuDischarge →
    let h := s.chip.fus1 f
    let present := s.chip.flag F.FUS_CHAN_STATUS.PRESENT f
    (h.disabling = false → present = false →
      Sets (.dischargeDone f) s (s.chip.chanIs f (if s.chip.pinsLow f then fuDebounce else fuEmpty)) [.fus] []
        (s.chip.fusIs f { h with timer := 0, counting := s.chip.pinsLow f || h.counting })) ∧
    (h.disabling = false → present = true → s.chip.fld F.FUS_CHAN_CFG.POLICY f ≠ 1 → s.chip.fld F.FUS_CHAN_STATUS.REQ_PEND f = 0 →
      Sets (.dischargeDone f) s (s.chip.chanIs f fuWaitReq) [.fus] [] (s.chip.fusIs f (h.at fuWaitReq))) ∧
    (h.disabling = true → s.chip.flag F.FUS_CHAN_CFG.EN f = false →
      Sets (.dischargeDone f) s (s.chip.chanIs f fuDisabled) [.fus] []
        (s.chip.fusIs f { h with disabling := false, coolOff := false, timer := 0 })) ∧
    (h.disabling = true → s.chip.flag F.FUS_CHAN_CFG.EN f = true →
      Sets (.dischargeDone f) s (s.chip.chanIs f (if s.chip.pinsLow f then fuDebounce else fuEmpty)) [.fus] []
        (s.chip.fusIs f { h with disabling := false, coolOff := false, timer := 0, counting := s.chip.pinsLow f || h.counting }))) ∧
  (∀ (f : Fin 24) (s : State), s.chip.slotUp = true → s.chip.fuState f = fuCooldown → (s.chip.fus1 f).disabling = false →
    s.chip.opMode ≠ 12 →
    let h := s.chip.fus1 f
    let present := s.chip.flag F.FUS_CHAN_STATUS.PRESENT f
    let r := s.chip.fld F.FUS_CHAN_STATUS.RETRIES f
    (present = false →
      Sets (.coolEnd f) s (F.FUS_CHAN_STATUS.RETRIES.is 0 f :: s.chip.chanIs f (if s.chip.pinsLow f then fuDebounce else fuEmpty))
        [.fus] [] (s.chip.fusIs f { h with coolOff := false, timer := 0, counting := s.chip.pinsLow f || h.counting })) ∧
    (present = true → h.coolOff = true → h.offSince = true → s.chip.fld F.FUS_CHAN_STATUS.REQ_PEND f = 0 →
      Sets (.coolEnd f) s (F.FUS_CHAN_STATUS.RETRIES.is 0 f :: s.chip.chanIs f fuWaitReq) [.fus] []
        (s.chip.fusIs f { h with coolOff := false, timer := 0 })) ∧
    (present = true → h.coolOff = false → r < s.chip.fld F.FUS_CHAN_CFG.RETRY_MAX f →
      Sets (.coolEnd f) s (F.FUS_CHAN_STATUS.RETRIES.is (r + 1) f :: s.chip.chanIs f fuWaitSlot) [.fus] []
        (fun c => s.chip.fusIs f (h.at fuWaitSlot) c ∧ (f.val, s.chip.fus.samples) ∈ c.fus.order)) ∧
    (present = true → h.coolOff = false → s.chip.fld F.FUS_CHAN_CFG.RETRY_MAX f ≤ r →
      Sets (.coolEnd f) s ([F.FUS_CHAN_STATUS.REQ_PEND.is 0 f,
          F.FUS_CHAN_TRIPS.LATCHES.is (s.chip.counted F.FUS_CHAN_TRIPS.LATCHES f) f] ++ s.chip.chanIs f fuLatched)
        [.fus, .flt, .cfg, .outs] faultRegs (fun c => s.chip.fusIs f (h.at fuLatched) c ∧ c.slotBit f 17 ∧
          c.raised (0x1A8 + f) 0x19 (fun x => x = s.chip.fld F.FUS_CHAN_TRIPS.TRIPS f))))

/-- Trips of a channel (R439, R440, R442 to R446, R461, Table 13.5), a sample of the Fuse Box, and the loss of VDDP
(R456 to R458, R460). It rests on log entries 7, 31 and 51. -/
def Obligations.FuseTripsAndSamples : Prop :=
  (∀ (f : Fin 24) (s : State), s.chip.slotUp = true →
    let st := s.chip.fuState f
    let h := s.chip.fus1 f
    (s.chip.fuLive f = true → Trips (.fastTrip f) s f 1) ∧
    (st = fuQualify ∨ st = fuOn → Trips (.undervoltageTrip f) s f 5 ∧ Trips (.overvoltageTrip f) s f 6) ∧
    (st = fuQualify ∨ st = fuOn → s.chip.flag F.FUS_CHAN_STATUS.FT_RUN f = true → s.chip.faultT f ≤ h.timer + 8 →
      Trips (.slowTrip f) s f 2) ∧
    (s.chip.flag F.FUS_CHAN_STATUS.FT_RUN f = false ∨ h.timer + 8 < s.chip.faultT f → exec (.slowTrip f) s = .next s) ∧
    (st = fuRamp ∨ st = fuPrecharge → Trips (.rampOvercurrent f) s f 3) ∧
    (st = fuRamp ∨ st = fuPrecharge ∧ h.gate = false → Trips (.rampTimeout f) s f 4) ∧
    (st = fuPrecharge → h.gate = false →
      Trips (.prechargeShortCheck f) s f 3 [F.FUS_VIOL_LAST.CHAN.is f, F.FUS_VIOL_LAST.CODE.is 0x73]) ∧
    (s.chip.fuLive f = false →
      Sets (.fetFail f) s [F.FUS_CHAN_STATUS.LAST_TRIP.is 7 f] [.flt] faultRegs (fun c =>
        c.raised (0x1A8 + f) 0x1A (fun x => x = s.chip.fld F.FUS_CHAN_VI.V f))) ∧
    (s.chip.fuLive f = false → Prevails (.fastTrip f) s f 2 1) ∧
    (s.chip.fuLive f = true → exec (.fetFail f) s = .next s) ∧
    (st ≠ fuQualify → st ≠ fuOn →
      ∀ i ∈ [Instr.slowTrip f, .undervoltageTrip f, .overvoltageTrip f, .faultTimerStart f], exec i s = .next s) ∧
    (st ≠ fuRamp → st ≠ fuPrecharge →
      Prevails (.rampOvercurrent f) s f 4 3 ∧
      ∀ i ∈ [Instr.rampTimeout f, .prechargeShortCheck f], exec i s = .next s)) ∧
  (∀ (f : Fin 24) (v i hold : Fin 65536) (s : State), s.chip.slotUp = true → s.chip.fuState f ≠ fuDisabled →
    (∀ k < 24, k ≠ f.val → (s.chip.fus1 k).eClr = false) →
    let mv := min (v * 1200 * s.chip.fld F.FUS_CHAN_SENSE.VDIV f / (65536 * 256)) 65535
    let ma := min (i * 64 * 1000000 / (65536 * s.chip.fld F.FUS_CHAN_SENSE.RSNS f)) 65535
    let mw := mv * ma / 1000
    let e := if (s.chip.fus1 f).eClr then 0 else (s.chip.fus1 f).energy + mw * 20
    let hv := min (hold * 1200 * s.chip.fld F.FUS_HOLDUP_CFG.HDIV / (65536 * 256)) 65535
    let times := s.chip.fuState f = fuQualify ∨ s.chip.fuState f = fuOn
    let after := if times then s.chip.timerAfter f ma else (s.chip.fus1 f).timer
    let starts := times ∧ after ≠ 0 ∧ s.chip.flag F.FUS_CHAN_STATUS.FT_RUN f = false
    let read : List FieldVal := [F.FUS_CHAN_VI.V.is mv f, F.FUS_CHAN_VI.I.is ma f, Reg.FUS_CHAN_P.is (word mw) f,
       Reg.FUS_CHAN_E_LO.is (word (e / 1000)) f, Reg.FUS_CHAN_E_HI.is (word (e / 1000 / 2 ^ 32)) f,
       F.FUS_HOLDUP_V.V_NOW.is hv, F.FUS_HOLDUP_V.V_MIN.is (min hv (s.chip.fld F.FUS_HOLDUP_V.V_MIN)),
       Reg.FUS_HOLDUP_E.is (word (s.chip.fld F.FUS_HOLDUP_CFG.CAP * hv * hv / 20000000))]
    (times → s.chip.faultT f ≤ after → Reaches (.fuseSample [⟨f, v, i⟩] hold) s fun c =>
      (∀ x ∈ read, x.holds c) ∧ c.fuState f = fuCooldown ∧ c.fld F.FUS_CHAN_STATUS.LAST_TRIP f = 2 ∧
        c.fld F.FUS_CHAN_TRIPS.TRIPS f = s.chip.counted F.FUS_CHAN_TRIPS.TRIPS f ∧ c.fld F.FUS_CHAN_STATUS.PG f = 0 ∧
        c.fuLive f = false ∧ c.raised (0x1A8 + f) 0x18 (fun x => x = 2)) ∧
    (¬ (times ∧ s.chip.faultT f ≤ after) →
      Sets (.fuseSample [⟨f, v, i⟩] hold) s (read ++ (if times then [F.FUS_CHAN_STATUS.FT_RUN.is (if after = 0 then 0 else 1) f] else []) ++
          if starts then s.chip.chanIs f fuQualify ++ s.chip.pgIs f false else []) [.fus] countRegs
        (fun c => c.fus1 f = { s.chip.fus1 f with
            eClr := false, energy := e, timer := after
            delayDone := if starts then false else (s.chip.fus1 f).delayDone } ∧
          (∀ k : Nat, k ≠ f → c.fus1 k = s.chip.fus1 k) ∧ c.fus.samples = s.chip.fus.samples + 1 ∧
          (s.chip.fus.order.filter fun q => q.1 != f.val) = c.fus.order.filter fun q => q.1 != f.val))) ∧
  (∀ (f : Fin 24) (rs : List FuseReading) (hold : Fin 65536) (s : State), s.chip.slotUp = true →
    (s.chip.fus1 f).eClr = true → (∀ r ∈ rs, r.chan = f → s.chip.fuState f = fuDisabled) →
    Reaches (.fuseSample rs hold) s fun c => c.fus1 f = { s.chip.fus1 f with eClr := false, energy := 0 } ∧
      c.reg .FUS_CHAN_E_LO f = 0 ∧ c.reg .FUS_CHAN_E_HI f = 0) ∧
  (∀ (hold : Fin 65536) (s : State), s.chip.slotUp = true → (∀ k < 24, (s.chip.fus1 k).eClr = false) →
    let hv := min (hold * 1200 * s.chip.fld F.FUS_HOLDUP_CFG.HDIV / (65536 * 256)) 65535
    Sets (.fuseSample [] hold) s
      [F.FUS_HOLDUP_V.V_NOW.is hv, F.FUS_HOLDUP_V.V_MIN.is (min hv (s.chip.fld F.FUS_HOLDUP_V.V_MIN)),
       Reg.FUS_HOLDUP_E.is (word (s.chip.fld F.FUS_HOLDUP_CFG.CAP * hv * hv / 20000000))] [.fus] []
      (fun c => c.fus = { s.chip.fus with samples := s.chip.fus.samples + 1 })) ∧
  (∀ (s : State), s.chip.slotUp = true →
    Reaches .vddpLoss s fun c => c.fus.order = [] ∧ ∀ f < 24, c.fuState f = fuDisabled ∧ c.fld F.FUS_CHAN_CFG.EN f = 0 ∧
      c.fuLive f = false ∧ (c.fus1 f).perstHigh = false ∧ (c.fus1 f).energy = (s.chip.fus1 f).energy ∧
      (∀ x ∈ [F.FUS_CHAN_STATUS.PG, F.FUS_CHAN_STATUS.PRESENT, F.FUS_CHAN_STATUS.REQ_PEND, F.FUS_CHAN_STATUS.RETRIES,
        F.FUS_CHAN_STATUS.LAST_TRIP, F.FUS_CHAN_STATUS.FT_RUN, F.FUS_CHAN_VI.V, F.FUS_CHAN_VI.I], c.fld x f = 0) ∧
      (∀ x ∈ [F.FUS_CHAN_STATUS.LONG, F.FUS_CHAN_STATUS.SHORT], c.fld x f = s.chip.fld x f) ∧
      ∀ r ∈ [Reg.FUS_CHAN_E_LO, .FUS_CHAN_E_HI], c.reg r f = s.chip.reg r f)

/-! ### Chassis time (spec/09_chassis_time.md) -/

/-- Following a source: TOD frames, SYNC edges, their loss, and CLK100 (R307, R309 to R312, Tables 9.2 and 9.7). It
rests on log entries 3, 7 and 23. -/
def Obligations.TimeFollowing : Prop :=
  (∀ (bs : List Byte) (s : State), s.chip.fld F.TIM_CFG.SRC = 1 →
    ∀ i ∈ [Instr.todFrame bs, .syncEdge, .syncLossTimeout], exec i s = .next s) ∧
  (∀ (b0 : Byte) (e : Fin (2 ^ 56)) (s : State), s.chip.coreUp = true → s.chip.fld F.TIM_CFG.SRC = 0 → s.chip.tim.frame = none →
    let body := b0 :: leBytes 7 e
    let frame := body ++ [BitVec.ofNat 8 (crc8 body)]
    let st := s.chip.fld F.TIM_STATUS.STATE
    let off (p : Nat) : Bool := Nat.blt (s.chip.fld F.TIM_SYNC_CFG.LOCK_NS) ((if e ≤ p then p - e else e - p) * 1000)
    (b0.toNat / 16 ≠ 9 → Sets (.todFrame frame) s [F.TIM_TOD_ERR.COUNT.is (s.chip.counted F.TIM_TOD_ERR.COUNT),
      F.TIM_VIOL_LAST.PORT.is 0x7F, F.TIM_VIOL_LAST.CODE.is 0x40] [.flt] faultRegs) ∧
    (b0.toNat / 16 = 9 → bit b0.toNat 3 = false →
      Sets (.todFrame frame) s [F.TIM_STATUS.STATE.is (if st = 1 ∨ st = 2 then 3 else st)]) ∧
    (b0.toNat / 16 = 9 → bit b0.toNat 3 = true →
      st ≠ 2 ∨ bit b0.toNat 2 = true ∨ (s.chip.tim.edge.map fun p => off (p + s.chip.period)).getD false = false →
      Sets (.todFrame frame) s [F.TIM_STATUS.SRC_QUAL.is (b0.toNat % 4)] [.tim] [] (fun c => c.tim = { s.chip.tim with
        frame := some { edge := e, step := bit b0.toNat 2, since := s.chip.hwy }, odd := [] })) ∧
    (b0.toNat / 16 = 9 → bit b0.toNat 3 = true → st = 2 → bit b0.toNat 2 = false → s.chip.tim.odd = [] →
      ∀ p : Nat, s.chip.tim.edge = some p → off (p + s.chip.period) = true →
      Sets (.todFrame frame) s [F.TIM_STATUS.SRC_QUAL.is (b0.toNat % 4), F.TIM_VIOL_LAST.PORT.is 0x7F, F.TIM_VIOL_LAST.CODE.is 0x43]
        [.tim, .flt] faultRegs (fun c => c.tim = { s.chip.tim with odd := [e.val] }))) ∧
  (∀ (bs : List Byte) (s : State), s.chip.coreUp = true → s.chip.fld F.TIM_CFG.SRC = 0 →
    bs.length ≠ 9 ∨ crc8 (bs.take 8) ≠ (bs.getD 8 0).toNat →
    Sets (.todFrame bs) s [F.TIM_TOD_ERR.COUNT.is (s.chip.counted F.TIM_TOD_ERR.COUNT), F.TIM_VIOL_LAST.PORT.is 0x7F,
      F.TIM_VIOL_LAST.CODE.is 0x40] [.flt] faultRegs) ∧
  (∀ (s : State), s.chip.coreUp = true → s.chip.fld F.TIM_CFG.SRC = 0 → ∀ f : TodFrame, s.chip.tim.frame = some f →
    s.chip.hwy ≤ f.since + s.chip.period * usCycles →
    let tloc : Int := (s.chip.halfNs * 8 : Nat) - (s.chip.fld F.TIM_DELAY_COMP.SYNC_COMP : Int)
    let err : Int := tloc - (f.edge * 16000 : Nat)
    let amount : Int := -err * 2 ^ 44
    let st := s.chip.fld F.TIM_STATUS.STATE
    let near := Nat.ble err.natAbs (s.chip.fld F.TIM_SYNC_CFG.LOCK_NS * 16)
    let far := Nat.blt (s.chip.fld F.TIM_CFG.STEP_NS * 16) err.natAbs
    (st = 2 → f.step = false → ∀ p : Nat, s.chip.tim.edge = some p →
      (tloc - ((p + s.chip.period) * 16000 : Nat)).natAbs ≤ s.chip.period * 2000) →
    (st = 1 ∨ st = 2 → far = false → f.step = false →
      Sets .syncEdge s [Reg.TIM_SYNC_ERR.is (word (unsigned 32 (clampI (-2147483648) 2147483647 err))),
        F.TIM_ADJ_CTL.BUSY.is (b2n (amount != 0)),
        F.TIM_STATUS.STATE.is (if near && (st == 2 || Nat.ble 3 s.chip.tim.good) then 2 else 1)] [.tim] []
        (fun c => c.tim = { s.chip.tim with
          frame := none, edge := some f.edge, blind := 0, slew := amount, good := if near then s.chip.tim.good + 1 else 0 })) ∧
    ((st = 1 ∨ st = 2) ∧ (far = true ∨ f.step = true) ∨
        s.chip.fld F.TIM_STATUS.CLK100_OK = 1 ∧ (st = 0 ∨ st = 3 ∧ (far = true ∨ f.step = true)) →
      Reaches .syncEdge s fun c => c.fld F.TIM_STATUS.STATE = 1 ∧ c.fld F.TIM_STATUS.STEP_SEEN = 1 ∧
        c.fld F.TIM_STATUS.STEP_COUNT = (s.chip.fld F.TIM_STATUS.STEP_COUNT + 1) % 65536 ∧
        c.tim.count = (((s.chip.tim.count : Int) + amount) % (2 ^ 112 : Nat)).toNat ∧ c.tim.edge = some f.edge ∧
        c.tim.frame = none ∧ (s.chip.keepsEdge s.chip.ns c.ns = false → c.tim.stepDue = true ∧ c.tim.sent = none) ∧
        (s.chip.keepsEdge s.chip.ns c.ns = true → c.tim.stepDue = s.chip.tim.stepDue ∧ c.tim.sent = s.chip.tim.sent))) ∧
  (∀ (s : State), s.chip.coreUp = true → s.chip.fld F.TIM_CFG.SRC = 0 → s.chip.tim.frame = none →
    (s.chip.fld F.TIM_STATUS.STATE = 1 ∨ s.chip.fld F.TIM_STATUS.STATE = 2) →
    ∀ e : Nat, s.chip.tim.edge = some e → 2 ≤ s.chip.tim.blind →
    (((s.chip.halfNs * 8 : Nat) : Int) - (s.chip.fld F.TIM_DELAY_COMP.SYNC_COMP : Int) -
      ((e + s.chip.period) * 16000 : Nat)).natAbs ≤ s.chip.period * 2000 →
    Sets .syncEdge s [F.TIM_STATUS.STATE.is 3, Reg.TIM_SYNC_ERR.any, F.TIM_VIOL_LAST.PORT.is 0x7F, F.TIM_VIOL_LAST.CODE.is 0x42]
      [.tim, .flt] faultRegs (fun c => c.tim.edge = some (e + s.chip.period) ∧ c.tim.count = s.chip.tim.count)) ∧
  (∀ (s : State), s.chip.coreUp = true → s.chip.fld F.TIM_CFG.SRC = 0 →
    let st := s.chip.fld F.TIM_STATUS.STATE
    (s.chip.tim.frame = none → Sets .syncLossTimeout s [F.TIM_STATUS.STATE.is (if st = 1 ∨ st = 2 then 3 else st)]) ∧
    (s.chip.tim.frame ≠ none → Sets .syncLossTimeout s [F.TIM_STATUS.STATE.is (if st = 1 ∨ st = 2 then 3 else st),
      F.TIM_VIOL_LAST.PORT.is 0x7F, F.TIM_VIOL_LAST.CODE.is 0x41] [.tim, .flt] faultRegs
      (fun c => c.tim = { s.chip.tim with frame := none }))) ∧
  (∀ (s : State), s.chip.coreUp = true → s.chip.fld F.TIM_STATUS.REF_FALLBACK = 0 →
    let st := s.chip.fld F.TIM_STATUS.STATE
    Sets .clk100Lost s [F.TIM_STATUS.CLK100_OK.is 0, F.TIM_STATUS.REF_FALLBACK.is 1,
      F.TIM_STATUS.STATE.is (if st = 1 ∨ st = 2 then 3 else st)] [.flt] faultRegs (fun c => c.raised 0x190 0x0F (fun _ => True))) ∧
  (∀ (s : State), s.chip.fld F.TIM_STATUS.REF_FALLBACK = 1 → exec .clk100Lost s = .next s) ∧
  (∀ (s : State), s.chip.coreUp = true →
    Sets .clk100Restore s [F.TIM_STATUS.CLK100_OK.is 1, F.TIM_STATUS.REF_FALLBACK.is 0])

/-- The device as the source of chassis time (R306, R313, R316), and what software does to the count (R314, R315,
R328, R330, Table 9.2). It rests on log entries 23 and 49. -/
def Obligations.TimeSourceAndAdjustment : Prop :=
  (∀ (s : State), s.chip.coreUp = true → s.chip.fld F.TIM_CFG.SRC = 1 → s.chip.fld F.TIM_CFG.SYNC_OUT_EN = 1 →
    s.chip.fld F.PWR_STATUS.STATE = 0 →
    let p := s.chip.fld F.TIM_SYNC_CFG.PERIOD * 1000
    (∀ e : Nat, s.chip.tim.sent = some e →
      Sets .syncOutEdge s [] [.tim, .outs] [] (fun c => c.tim = { s.chip.tim with sent := none } ∧
        c.outs = .syncEdge e :: s.chip.outs)) ∧
    (s.chip.tim.sent = none → s.chip.tim.stepDue = false →
      Sets .syncOutEdge s [] [.outs] [] (fun c => c.outs = .syncEdge (s.chip.ns / p * p) :: s.chip.outs)) ∧
    (s.chip.tim.sent = none → s.chip.tim.stepDue = true → exec .syncOutEdge s = .next s) ∧
    let head := BitVec.ofNat 8 (0x98 + 4 * b2n s.chip.tim.stepDue + s.chip.fld F.TIM_CFG.SRC_QUAL) ::
      leBytes 7 ((s.chip.ns / p + 1) * p / 1000)
    Sets .todFrameSend s [] [.tim, .outs] [] (fun c =>
      c.tim = { s.chip.tim with sent := some ((s.chip.ns / p + 1) * p), stepDue := false } ∧
      c.outs = .todFrame (head ++ [BitVec.ofNat 8 (crc8 head)]) :: s.chip.outs)) ∧
  (∀ (s : State), s.chip.fld F.TIM_CFG.SRC = 0 ∨ s.chip.fld F.TIM_CFG.SYNC_OUT_EN = 0 ∨ s.chip.fld F.PWR_STATUS.STATE ≠ 0 →
    ∀ i ∈ [Instr.syncOutEdge, .todFrameSend], exec i s = .next s) ∧
  (∀ (a : Access) (v : Word) (s : State) (c : Chip), s.passes a ⟨.TIM_CFG, 0, 0⟩ v c → c.isExpert a.who = true →
    16 ≤ wget v 11 0 → 1 ≤ wget v 19 12 →
    let regs := [F.TIM_CFG.SRC.is (wget v 31 31), F.TIM_CFG.SYNC_OUT_EN.is (wget v 30 30), F.TIM_CFG.EVT_CLASS.is (wget v 29 27),
      F.TIM_CFG.SRC_QUAL.is (wget v 26 25), F.TIM_CFG.SLEW_PPM.is (wget v 19 12), F.TIM_CFG.STEP_NS.is (wget v 11 0)]
    (wget v 31 31 = c.fld F.TIM_CFG.SRC → SetsPast c (.timSrcWrite a v) s regs) ∧
    (wget v 31 31 ≠ c.fld F.TIM_CFG.SRC →
      SetsPast c (.timSrcWrite a v) s (regs ++ [F.TIM_STATUS.STATE.is (if wbit v 31 then 4 else 0),
        F.TIM_ADJ_CTL.BUSY.is (if wbit v 31 then c.fld F.TIM_ADJ_CTL.BUSY else 0)]) [.tim]
        [] (fun d => d.tim = { c.tim with
          slew := if wbit v 31 then c.tim.slew else 0, go := none, frame := none, edge := none, blind := 0, good := 0, odd := [], sent := none }))) ∧
  (∀ (a : Access) (v : Word) (s : State) (c : Chip), s.passes a ⟨.TIM_RATE_ADJ, 0, 0⟩ v c → c.isExpert a.who = true →
    (c.fld F.TIM_CFG.SRC = 0 →
      SetsPast c (.timRateAdj a v) s [F.TIM_CLAMP_SEEN.COUNT.is (c.counted F.TIM_CLAMP_SEEN.COUNT)]) ∧
    (c.fld F.TIM_CFG.SRC = 1 → -32768000 ≤ v.toInt → v.toInt ≤ 32768000 →
      SetsPast c (.timRateAdj a v) s [Reg.TIM_RATE_ADJ.is v]) ∧
    (c.fld F.TIM_CFG.SRC = 1 → 32768000 < v.toInt →
      SetsPast c (.timRateAdj a v) s [Reg.TIM_RATE_ADJ.is 32768000,
        F.TIM_CLAMP_SEEN.COUNT.is (c.counted F.TIM_CLAMP_SEEN.COUNT)])) ∧
  (∀ (a : Access) (v : Word) (s : State) (c : Chip), s.passes a ⟨.TIM_ADJ_CTL, 0, 0⟩ v c → c.isExpert a.who = true →
    ∀ i ∈ [Instr.timSlew a v, .timStep a v, .timSet a v],
    let ofs : Int := c.sfld F.TIM_OFS_ADJ.OFS * (2 ^ 48 : Nat)
    let step := F.TIM_ADJ_CTL.STEP.is (wget v 30 30)
    let stepped (n : Nat) (d : Chip) : Prop := d.tim.count = n ∧ d.fld F.TIM_STATUS.STEP_SEEN = 1 ∧
      d.fld F.TIM_STATUS.STEP_COUNT = (c.fld F.TIM_STATUS.STEP_COUNT + 1) % 65536 ∧ d.fld F.TIM_ADJ_CTL.BUSY = 0 ∧
      d.tim.slew = 0 ∧ (c.keepsEdge c.ns d.ns = false → d.tim.stepDue = true ∧ d.tim.sent = none) ∧
      d.pair .TIM_STEP_LO .TIM_STEP_HI = unsigned 64 ((d.ns : Int) - (c.ns : Nat))
    let set := c.pair .TIM_SET_LO .TIM_SET_HI * 2 ^ 48 % 2 ^ 112
    (c.fld F.TIM_CFG.SRC = 0 → SetsPast c i s [F.TIM_CLAMP_SEEN.COUNT.is (c.counted F.TIM_CLAMP_SEEN.COUNT)]) ∧
    (c.fld F.TIM_CFG.SRC = 1 → wbit v 31 = false → wbit v 29 = false → SetsPast c i s [step]) ∧
    (c.fld F.TIM_CFG.SRC = 1 → wget v 31 29 = 4 →
      SetsPast c i s [step, F.TIM_ADJ_CTL.BUSY.is (b2n (ofs != 0))] [.tim] [] (fun d => d.tim = { c.tim with slew := ofs })) ∧
    (c.fld F.TIM_CFG.SRC = 1 → wget v 31 29 = 6 →
      Reaches i s (stepped (((c.tim.count : Int) + ofs) % (2 ^ 112 : Nat)).toNat)) ∧
    (c.fld F.TIM_CFG.SRC = 1 → wbit v 29 = true → Reaches i s fun d => stepped set d ∧
      (wbit v 31 = true → d.tim.go = some (wbit v 30)))) ∧
  (∀ (a : Access) (v : Word) (s : State) (c : Chip), s.passes a ⟨.TIM_ADJ_CTL, 0, 0⟩ v c → c.isExpert a.who = true →
    c.fld F.TIM_CFG.SRC = 1 →
    let ofs : Int := c.sfld F.TIM_OFS_ADJ.OFS * (2 ^ 48 : Nat)
    (wget v 31 29 = 4 → SetsPast c (.timSlew a v) s [F.TIM_ADJ_CTL.STEP.is 0, F.TIM_ADJ_CTL.BUSY.is (b2n (ofs != 0))] [.tim] []
      (fun d => d.tim = { c.tim with slew := ofs })) ∧
    (wget v 31 29 = 6 → Reaches (.timStep a v) s fun d =>
      d.tim.count = (((c.tim.count : Int) + ofs) % (2 ^ 112 : Nat)).toNat ∧ d.fld F.TIM_STATUS.STEP_SEEN = 1 ∧ d.tim.slew = 0) ∧
    (wget v 31 29 = 6 → c.sfld F.TIM_OFS_ADJ.OFS ≤ 0 →
      SetsPast c (.timStep a v) s [F.TIM_ADJ_CTL.STEP.is 1, F.TIM_ADJ_CTL.BUSY.is 0, F.TIM_STATUS.STEP_SEEN.is 1,
          F.TIM_STATUS.STEP_COUNT.is ((c.fld F.TIM_STATUS.STEP_COUNT + 1) % 65536), Reg.TIM_STEP_LO.any, Reg.TIM_STEP_HI.any]
        [.tim, .sched] [] (fun d => d.tim.acts = c.tim.acts ∧ d.tim.rules = c.tim.rules)) ∧
    (wget v 31 29 = 1 → Reaches (.timSet a v) s fun d =>
      d.tim.count = c.pair .TIM_SET_LO .TIM_SET_HI * 2 ^ 48 % 2 ^ 112 ∧ d.fld F.TIM_STATUS.STEP_SEEN = 1 ∧ d.tim.slew = 0)) ∧
  (∀ (s : State), s.chip.coreUp = true → s.chip.fld F.TIM_ADJ_CTL.BUSY = 1 →
    Sets .slewDone s [F.TIM_ADJ_CTL.BUSY.is 0] [.tim] [] (fun c => c.tim = { s.chip.tim with
      slew := 0, count := (((s.chip.tim.count : Int) + s.chip.tim.slew) % (2 ^ 112 : Nat)).toNat })) ∧
  (∀ (s : State), s.chip.fld F.TIM_ADJ_CTL.BUSY = 0 → exec .slewDone s = .next s)

/-- Gate lists: enabling, switching and their entries (R317 to R319, R321, R330). It rests on log entries 23 and 49.
-/
def Obligations.GateLists : Prop :=
  (∀ (a : Access) (n : Fin 96) (v : Word) (s : State) (c : Chip), s.passes a ⟨.SCH_GCL_CTL, n, 0⟩ v c → c.isExpert a.who = true →
    ∀ i ∈ [Instr.gclEnable a n v, .gclSwitch a n v, .gclAbort a n v],
    let b := 1 - c.fld F.SCH_GCL_STATUS.ACTIVE_BANK n
    let len := c.fld F.SCH_GCL_LEN.LEN n b
    let cyc := c.gclCycle n b
    let base := c.pair .SCH_GCL_BASE_LO .SCH_GCL_BASE_HI n b
    let en := F.SCH_GCL_CTL.EN.is (wget v 31 31) n
    let bad (e : Nat) (vs : List FieldVal) : Prop := SetsPast c i s (en :: F.SCH_GCL_STATUS.ERROR.is e n :: vs) [.sched]
    (wget v 30 29 = 0 → SetsPast c i s [en, F.SCH_GCL_STATUS.PENDING.is
        (if wbit v 31 then c.fld F.SCH_GCL_STATUS.PENDING n else 0) n] [.sched] []
      (fun d => (wbit v 31 = false → (d.sch n).run = false) ∧
        (wbit v 31 = true → c.fld F.SCH_GCL_CTL.EN n = 1 → d.sched = c.sched) ∧
        (wbit v 31 = true → c.fld F.SCH_GCL_CTL.EN n = 0 → c.gclBase n (1 - b) ≤ c.ns → b ≤ 1 → (d.sch n).run = true) ∧
        ∀ m : Nat, m ≠ n → d.sch m = c.sch m)) ∧
    (wget v 30 29 = 1 → SetsPast c i s [en, F.SCH_GCL_STATUS.PENDING.is 0 n] [.sched]) ∧
    (wget v 30 29 = 2 → c.fld F.SCH_GCL_STATUS.PENDING n = 1 →
      bad 4 [F.SCH_CLAMP_SEEN.COUNT.is (c.counted F.SCH_CLAMP_SEEN.COUNT (n / 8)) (n / 8)]) ∧
    (wbit v 30 = true → c.fld F.SCH_GCL_STATUS.PENDING n = 0 ∨ wbit v 29 = true →
      let pend := F.SCH_GCL_STATUS.PENDING.is (if wbit v 29 then 0 else c.fld F.SCH_GCL_STATUS.PENDING n) n
      (len < 1 ∨ 256 < len → bad 1 [pend]) ∧
      (1 ≤ len → len ≤ 256 → cyc < 64 → bad 2 [pend]) ∧
      (1 ≤ len → len ≤ 256 → 1000000000 < cyc → bad 3 [pend]) ∧
      (1 ≤ len → len ≤ 256 → 64 ≤ cyc → cyc ≤ 1000000000 → base < 2 ^ 62 → c.ns < 2 ^ 62 →
        SetsPast c i s [en, F.SCH_GCL_STATUS.ERROR.is 0 n, F.SCH_GCL_STATUS.PENDING.is 1 n, Reg.SCH_GCL_SWITCH_AT_LO.any n,
          Reg.SCH_GCL_SWITCH_AT_HI.any n] [.sched] [] (fun d =>
          let t := d.pair .SCH_GCL_SWITCH_AT_LO .SCH_GCL_SWITCH_AT_HI n
          base ≤ t ∧ (t - base) % cyc = 0 ∧ c.ns + 1000 ≤ t ∧ (base < t → t < c.ns + 1000 + cyc))))) ∧
  (∀ (a : Access) (n : Fin 96) (v : Word) (s : State) (c : Chip), s.passes a ⟨.SCH_GCL_CTL, n, 0⟩ v c → c.isExpert a.who = true →
    let b := c.fld F.SCH_GCL_STATUS.ACTIVE_BANK n
    let len := c.fld F.SCH_GCL_LEN.LEN n (1 - b)
    (wget v 31 29 = 4 → c.fld F.SCH_GCL_CTL.EN n = 0 → c.gclBase n b ≤ c.ns →
      SetsPast c (.gclEnable a n v) s [F.SCH_GCL_CTL.EN.is 1 n] [.sched] [] (fun d => (d.sch n).run = true ∧
        ∀ m : Nat, m ≠ n → d.sch m = c.sch m)) ∧
    (wget v 31 29 = 6 → c.fld F.SCH_GCL_STATUS.PENDING n = 0 → 1 ≤ len → len ≤ 256 → 64 ≤ c.gclCycle n (1 - b) →
      c.gclCycle n (1 - b) ≤ 1000000000 → c.pair .SCH_GCL_BASE_LO .SCH_GCL_BASE_HI n (1 - b) < 2 ^ 62 → c.ns < 2 ^ 62 →
      SetsPast c (.gclSwitch a n v) s [F.SCH_GCL_CTL.EN.is 1 n, F.SCH_GCL_STATUS.ERROR.is 0 n, F.SCH_GCL_STATUS.PENDING.is 1 n,
        Reg.SCH_GCL_SWITCH_AT_LO.any n, Reg.SCH_GCL_SWITCH_AT_HI.any n] [.sched]) ∧
    (wget v 31 29 = 5 → SetsPast c (.gclAbort a n v) s [F.SCH_GCL_CTL.EN.is 1 n, F.SCH_GCL_STATUS.PENDING.is 0 n] [.sched])) ∧
  (∀ (a : Access) (n : Fin 96) (v : Word) (s : State) (c : Chip), s.passes a ⟨.SCH_GCL_CTL, n, 0⟩ v c → c.isExpert a.who = false →
    wget v 31 29 = 4 → Reaches (.gclEnable a n v) s fun d =>
      d.fld F.SCH_GCL_STATUS.PENDING n = c.fld F.SCH_GCL_STATUS.PENDING n ∧ d.fld F.SCH_GCL_CTL.EN n = c.fld F.SCH_GCL_CTL.EN n) ∧
  (∀ (n : Fin 96) (s : State), s.chip.coreUp = true → s.chip.fld F.SCH_GCL_STATUS.PENDING n = 1 → s.chip.cel.copies = [] →
    let b := 1 - s.chip.fld F.SCH_GCL_STATUS.ACTIVE_BANK n
    Sets (.gclSwitchTime n) s [F.SCH_GCL_STATUS.ACTIVE_BANK.is b n, F.SCH_GCL_STATUS.PENDING.is 0 n, F.SCH_GCL_CTL.EN.is 1 n] [.sched]
      [] (fun d => (d.sch n).run = true ∧ (d.sch n).entry = 0 ∧ (d.sch n).switched = true ∧
        (d.sch n).ends = s.chip.pair .SCH_GCL_SWITCH_AT_LO .SCH_GCL_SWITCH_AT_HI n + s.chip.gclTicks n b 0 ∧
        ∀ m : Nat, m ≠ n → d.sch m = s.chip.sch m)) ∧
  (∀ (n : Fin 96) (s : State), s.chip.fld F.SCH_GCL_STATUS.PENDING n = 0 → exec (.gclSwitchTime n) s = .next s) ∧
  (∀ (n : Fin 96) (s : State), s.chip.coreUp = true → s.chip.fld F.SCH_GCL_CTL.EN n = 1 → s.chip.cel.copies = [] →
    let b := s.chip.fld F.SCH_GCL_STATUS.ACTIVE_BANK n
    let h := s.chip.sch n
    (h.run = true → h.entry + 1 < s.chip.fld F.SCH_GCL_LEN.LEN n b →
      Sets (.gclEntryAdvance n) s [] [.sched] [] (fun d => d.sch n = { h with
        entry := h.entry + 1, ends := h.ends + s.chip.gclTicks n b (h.entry + 1) })) ∧
    (h.run = true → s.chip.fld F.SCH_GCL_LEN.LEN n b ≤ h.entry + 1 → 0 < s.chip.gclTicks n b 0 →
      s.chip.gclBase n b ≤ h.ends → (h.ends - s.chip.gclBase n b) % s.chip.gclCycle n b = 0 →
      Sets (.gclEntryAdvance n) s [] [.sched] [] (fun d => d.sch n = { h with
        entry := 0, ends := h.ends + s.chip.gclTicks n b 0 })) ∧
    (h.run = false → s.chip.ns ≤ s.chip.gclBase n b → 0 < s.chip.gclTicks n b 0 →
      Sets (.gclEntryAdvance n) s [] [.sched] [] (fun d => d.sch n = { h with
        run := true, entry := 0, ends := s.chip.gclBase n b + s.chip.gclTicks n b 0 }))) ∧
  (∀ (n : Fin 96) (s : State), s.chip.fld F.SCH_GCL_CTL.EN n = 0 → exec (.gclEntryAdvance n) s = .next s)

/-- Timed actions, outputs and rules of the matrix that act (R322 to R327, R333, Table 9.4). It rests on log entry 24.
-/
def Obligations.TimedActions : Prop :=
  (∀ (a : Access) (k : Fin 256) (v : Word) (s : State) (c : Chip), s.passes a ⟨.TIM_ACT_A, k, 0⟩ v c → c.isExpert a.who = true →
    (c.fld F.TIM_ACT_A.ARM k = 0 → wbit v 31 = false → Reaches (.timedActionArm a k v) s fun d =>
      d.fld F.TIM_ACT_A.ARM k = 0 ∧ d.fld F.TIM_ACT_A.HALF k = wget v 28 28 ∧ d.tim = c.tim ∧
      (wget v 27 24 ≤ 6 → d.fld F.TIM_ACT_A.KIND k = wget v 27 24) ∧ (7 ≤ wget v 27 24 → d.fld F.TIM_ACT_A.KIND k = 0)) ∧
    (c.fld F.TIM_ACT_A.ARM k = 0 → wbit v 31 = true →
      let t := 2 * c.pair .TIM_ACT_TIME_LO .TIM_ACT_TIME_HI k + wget v 28 28
      c.halfNs ≤ t → Reaches (.timedActionArm a k v) s fun d => d.fld F.TIM_ACT_A.ARM k = 1 ∧
        d.tim.acts.get none k = some { next := t, unlimited := c.fld F.TIM_ACT_COUNT.COUNT k == 0, late := false } ∧
        ∀ m : Nat, m ≠ k → d.tim.acts.get none m = c.tim.acts.get none m) ∧
    (c.fld F.TIM_ACT_A.ARM k = 1 → wbit v 31 = false → Reaches (.timedActionArm a k v) s fun d =>
      d.fld F.TIM_ACT_A.ARM k = 0 ∧ d.tim.acts.get none k = none ∧ d.fld F.TIM_ACT_A.KIND k = c.fld F.TIM_ACT_A.KIND k)) ∧
  (∀ (k : Fin 256) (s : State), s.chip.coreUp = true → s.chip.opMode ≠ 12 →
    ∀ x : TimAct, s.chip.tim.acts.get none k = some x → x.late = false → s.chip.fld F.TIM_ACT_A.KIND k = 0 →
    let p := 2 * (s.chip.reg .TIM_ACT_PERIOD k).toNat
    let left := s.chip.fld F.TIM_ACT_COUNT.COUNT k - 1
    (p = 0 → Sets (.timedActionFire k) s [F.TIM_ACT_A.FIRED.is 1 k, F.TIM_ACT_A.ARM.is 0 k] [.tim] countRegs (fun c =>
      c.tim.acts.get none k = none ∧ ∀ m : Nat, m ≠ k → c.tim.acts.get none m = s.chip.tim.acts.get none m)) ∧
    (0 < p → x.unlimited = true → s.chip.halfNs < x.next + p →
      Sets (.timedActionFire k) s [F.TIM_ACT_A.FIRED.is 1 k] [.tim] countRegs (fun c =>
        c.tim.acts.get none k = some { x with next := x.next + p })) ∧
    (0 < p → x.unlimited = false → left = 0 →
      Sets (.timedActionFire k) s [F.TIM_ACT_A.FIRED.is 1 k, F.TIM_ACT_A.ARM.is 0 k, F.TIM_ACT_COUNT.COUNT.is 0 k] [.tim] countRegs
        (fun c => c.tim.acts.get none k = none)) ∧
    (0 < p → x.unlimited = false → 0 < left → s.chip.halfNs < x.next + p →
      Sets (.timedActionFire k) s [F.TIM_ACT_A.FIRED.is 1 k, F.TIM_ACT_COUNT.COUNT.is left k] [.tim] countRegs (fun c =>
        c.tim.acts.get none k = some { x with next := x.next + p }))) ∧
  (∀ (k : Fin 256) (s : State), s.chip.coreUp = true → 1 ≤ s.chip.opMode → s.chip.opMode ≤ 10 →
    ∀ x : TimAct, s.chip.tim.acts.get none k = some x → s.chip.fld F.TIM_ACT_A.KIND k = 1 →
    let o := s.chip.fld F.TIM_ACT_A.TARGET k % 16
    (s.chip.fld F.TIM_ACT_A.OP k = 0 → Reaches (.timedActionFire k) s fun c => bit c.tim.steady o = true ∧
      bit (c.fld F.TIM_TRIG_STATE.DRIVE) o = true ∧ bit (c.fld F.TIM_TRIG_STATE.LEVEL) o = true ∧ c.fld F.TIM_ACT_A.FIRED k = 1) ∧
    (s.chip.fld F.TIM_ACT_A.OP k = 2 → 0 < s.chip.hwy + s.chip.fld F.TIM_ACT_B.WIDTH k →
      Reaches (.timedActionFire k) s fun c => s.chip.hwy + s.chip.fld F.TIM_ACT_B.WIDTH k ≤ c.tim.pulses.get 0 o ∧
        bit (c.fld F.TIM_TRIG_STATE.DRIVE) o = true)) ∧
  (∀ (k : Fin 256) (s : State), s.chip.opMode = 12 ∨ s.chip.tim.acts.get none k = none → exec (.timedActionFire k) s = .next s) ∧
  (∀ (o : Fin 40) (s : State), s.chip.coreUp = true →
    Reaches (.pulseEnd o) s fun c => c.tim.pulses.get 0 o = 0 ∧ c.tim.steady = s.chip.tim.steady ∧
      (o.val < 16 → bit (c.fld F.TIM_TRIG_STATE.DRIVE) o = bit s.chip.tim.steady o) ∧
      (16 ≤ o.val → bit (c.fld F.TIM_STAR_STATE.DRIVE) (o - 16) = bit s.chip.tim.steady o)) ∧
  (∀ (r : Fin 64) (s : State), s.chip.coreUp = true → ∀ x ∈ s.chip.tim.rules,
    s.chip.tim.rules.find? (fun y => y.rule == r.val) = some x →
    (s.chip.opMode = 12 ∨ x.spec.kind = 0 →
      Sets (.matrixRuleAct r) s [] [.tim] [] (fun c => c.tim = { s.chip.tim with rules := s.chip.tim.rules.erase x })) ∧
    (1 ≤ s.chip.opMode → s.chip.opMode ≤ 10 → x.spec.kind = 2 → x.spec.op = 0 → x.spec.target < 24 →
      Reaches (.matrixRuleAct r) s fun c => bit (c.fld F.TIM_STAR_STATE.DRIVE) x.spec.target = true ∧
        c.tim.rules = s.chip.tim.rules.erase x) ∧
    (s.chip.opMode ≠ 12 → x.spec.kind = 4 → x.spec.target < 24 → s.chip.fuState x.spec.target ≠ fuCooldown →
      s.chip.fuState x.spec.target ≠ fuLatched → s.chip.fuState x.spec.target ≠ fuWaitReq →
      Sets (.matrixRuleAct r) s [F.FUS_CHAN_STATUS.REQ_PEND.is 1 x.spec.target] [.tim])) ∧
  (∀ (r : Fin 64) (s : State), (∀ x ∈ s.chip.tim.rules, x.rule ≠ r) → exec (.matrixRuleAct r) s = .next s)

/-- Trigger inputs, their timestamps, and events that arrive (R331 to R338, Tables 9.6 to 9.8). It rests on log
entries 3, 7, 24 and 49. -/
def Obligations.TriggersAndEvents : Prop :=
  (∀ (l : Fin 16) (release card : Bool) (age : Fin 1024) (s : State), s.chip.coreUp = true → age.val ≤ s.chip.halfNs →
    let seen := bit (s.chip.fld F.TIM_TRIG_CFG.IN_EN) l && !bit (s.chip.fld F.TIM_TRIG_STUCK.STUCK) l
    let e := s.chip.halfNs - age
    (seen = false → Reaches (.trigEdge l release card age) s fun c => c.tim.card = putBit s.chip.tim.card l card ∧
      c.tim.fifo = s.chip.tim.fifo ∧ c.tim.rules = s.chip.tim.rules ∧
      bit (c.fld F.TIM_TRIG_STATE.LEVEL) l = (s.chip.outOn l || card)) ∧
    (seen = true → s.chip.tim.fifo.length < 64 → Reaches (.trigEdge l release card age) s fun c =>
      ∃ x ∈ c.tim.fifo, c.tim.fifo = s.chip.tim.fifo ++ [x] ∧ x.time = e ∧ x.release = release ∧ x.line = l) ∧
    (seen = true → 64 ≤ s.chip.tim.fifo.length → Reaches (.trigEdge l release card age) s fun c =>
      c.tim.fifo = s.chip.tim.fifo ∧ c.fld F.TIM_TS_INFO.OVERFLOW = 1) ∧
    (seen = true → s.chip.opMode ≠ 12 → s.chip.tim.driven.get [] l = [] → s.chip.outOn l = false →
      bit (s.chip.fld F.TIM_TRIG_STATE.DRIVE) l = false → ∀ r < 64, s.chip.fld F.TIM_MTX_A.VALID r = 1 →
      s.chip.fld F.TIM_MTX_A.SRC_KIND r = 0 → s.chip.fld F.TIM_MTX_A.SRC r = l →
      bit (s.chip.fld F.TIM_MTX_A.EDGE r) (b2n release) = true →
      Reaches (.trigEdge l release card age) s fun c => ∃ x ∈ c.tim.rules, x.rule = r ∧ x.spec.tref = e ∧ x.spec.line = l ∧ x.spec.edge = true ∧
        x.spec.kind = s.chip.fld F.TIM_MTX_A.DST_KIND r ∧ e + s.chip.fld F.TIM_MTX_DELAY.DELAY r ≤ x.at_)) ∧
  (∀ (a : Access) (s : State), s.chip.coreUp = true → s.chip.judge 109 (s.chip.gateView a ((⟨.TIM_TS_LO, 0, 0⟩ : RegKey).addr 0) false) = none →
    (∀ e : TsEntry, s.chip.tim.fifo.head? = some e →
      let t := e.time / 2
      Sets (.timTsRead a) s (if a.full && s.chip.isOwner a.who then [Reg.TIM_TS_LO.is (word t), Reg.TIM_TS_HI.is (word (t / 2 ^ 32)),
          F.TIM_TS_INFO.VALID.is 1, F.TIM_TS_INFO.SELF.is (b2n e.self), F.TIM_TS_INFO.EDGE.is (b2n e.release),
          F.TIM_TS_INFO.LINE.is (e.line % 16), F.TIM_TS_INFO.HALF.is (e.time % 2), Reg.TIM_TS_INFO.any]
        else if a.full then [Reg.TIM_TS_LO.any, Reg.TIM_TS_HI.any, Reg.TIM_TS_INFO.any] else [])
        [.tim, .answer] countRegs (fun c => c.answer = [word (enabledBytes a.be (word t).toNat)] ∧
          c.tim = if a.full && s.chip.isOwner a.who then { s.chip.tim with fifo := s.chip.tim.fifo.tail } else s.chip.tim)) ∧
    (s.chip.tim.fifo = [] → Reaches (.timTsRead a) s fun c => c.answer = [0] ∧ (a.full = true → c.fld F.TIM_TS_INFO.VALID = 0))) ∧
  (∀ (l : Fin 16) (s : State), s.chip.coreUp = true →
    let watched := bit (s.chip.fld F.TIM_TRIG_CFG.IN_EN) l && !bit (s.chip.fld F.TIM_TRIG_STUCK.STUCK) l &&
      bit s.chip.tim.card l && !s.chip.outOn l
    (watched = true → Sets (.trigStuck l) s [F.TIM_TRIG_STUCK.STUCK.is (setBit (s.chip.fld F.TIM_TRIG_STUCK.STUCK) l),
      F.TIM_VIOL_LAST.PORT.is 0x7F, F.TIM_VIOL_LAST.CODE.is 0x48] [.flt] faultRegs
      (fun c => c.raised 0x191 0x10 (fun h => h = l))) ∧
    (watched = false → exec (.trigStuck l) s = .next s)) ∧
  (∀ (n : Fin 96) (frac line code flags : Byte) (time : BitVec 64) (s : State), s.chip.coreUp = true →
    s.chip.linkLive n = true → s.chip.admitting = true → bit flags.toNat 0 = true → s.chip.opMode ≠ 12 →
    time.toNat ≤ s.chip.ns + 1000000000 → s.chip.ns ≤ time.toNat + 1000000000 →
    ∀ r < 64, s.chip.fld F.TIM_MTX_A.VALID r = 1 → s.chip.fld F.TIM_MTX_A.SRC_KIND r = 1 →
    s.chip.fld F.TIM_MTX_A.SRC r = code.toNat →
    let at_ := 2 * time.toNat + b2n (decide (0x80 ≤ frac.toNat))
    let taken (c : Chip) : Prop := ∃ x ∈ c.tim.rules, x.rule = r ∧ x.spec.tref = at_ ∧ x.spec.line = line.toNat ∧ x.spec.edge = false ∧
      x.spec.kind = s.chip.fld F.TIM_MTX_A.DST_KIND r
    (s.chip.isPcie n = true → s.chip.role n ≠ 2 → s.chip.partRefuses (s.chip.portPart n) = false → s.chip.portPart n < 32 →
      bit (s.chip.reg .TIM_MTX_SRC_MASK r).toNat (s.chip.portPart n) = true →
      Reaches (.eventMessageReceive n (word (2 ^ 24 + code.toNat * 2 ^ 16 + flags.toNat * 2 ^ 8))
        (leBytes 8 time.toNat ++ [0, line, 0, frac] ++ [0, 0, 0, 0])) s taken) ∧
    (s.chip.isFleren n = true → s.chip.fld F.TIM_MTX_A.FAB_OK r = 1 →
      Reaches (.fabricEventReceive n (BitVec.ofNat 64 (2 ^ 56 + code.toNat * 2 ^ 48 + flags.toNat * 2 ^ 40 + line.toNat * 2 ^ 32 +
        frac.toNat * 2 ^ 24)) time) s taken)) ∧
  (∀ (n : Fin 96) (v : Word) (data : List Byte) (s : State), s.chip.coreUp = true → s.chip.linkLive n = true →
    s.chip.admitting = true → s.chip.isPcie n = true → s.chip.role n ≠ 2 → s.chip.portPart n < 32 →
    s.chip.partRefuses (s.chip.portPart n) = true →
    Sets (.eventMessageReceive n v data) s [F.GLB_PTN_RST_DROP.COUNT.is
      (s.chip.counted F.GLB_PTN_RST_DROP.COUNT (s.chip.portPart n)) (s.chip.portPart n)]) ∧
  (∀ (n : Fin 96) (v : Word) (data : List Byte) (s : State), s.chip.coreUp = true → s.chip.linkLive n = true →
    s.chip.admitting = true → s.chip.isPcie n = true → s.chip.role n ≠ 2 → s.chip.partRefuses (s.chip.portPart n) = false →
    wget v 31 24 ≠ 1 ∨ data.length ≠ 16 →
    Reaches (.eventMessageReceive n v data) s fun c => c.fld F.TIM_VIOL_LAST.PORT = n ∧ c.fld F.TIM_VIOL_LAST.CODE = 0x45 ∧
      c.fld F.PRT_VIOL_LAST.CODE n = 0x45 ∧ c.fld F.PRT_VIOL_COUNT.COUNT n = s.chip.counted F.PRT_VIOL_COUNT.COUNT n ∧
      c.tim = s.chip.tim) ∧
  (∀ (n : Fin 96) (w0 w1 : BitVec 64) (s : State), s.chip.isFleren n = false ∨ s.chip.linkLive n = false →
    exec (.fabricEventReceive n w0 w1) s = .next s)

/-! ### The legacy segment (spec/12_legacy_segment.md) -/

/-- The bridge starts a transaction for the entry that is next (R411, R414, R415, R417, R418), and how the transaction
on the bus ends (R419, Tables 12.2 and 12.4). It rests on log entries 30 and 49. -/
def Obligations.SegmentTransactions : Prop :=
  (∀ (pass : Bool) (s : State), s.chip.coreUp = true → s.chip.fld F.LPB_STATUS.RST_ACTIVE = 0 → s.chip.lpb.active = none →
    s.chip.lpb.grant = none → s.chip.lpb.lock = none →
    (∀ k ∈ s.chip.cel.copies, k.dest = .legacy → ∃ x ∈ s.chip.lpb.queue, x.copy.id = k.id) →
    ∀ e : SegEntry, s.chip.lpb.queue.head? = some e → (pass = false ∨ e.stalled = false) →
    let p := e.copy.pkt
    (s.chip.segWindow? p.isIo p.addr = none → e.copy.cat = .posted →
      Sets (.segmentTransactionStart pass) s [] [.lpb, .cel] [] (fun c => e.copy.id ∉ c.lpb.queue.map (·.copy.id) ∧
        e.copy.id ∉ c.cel.copies.map (·.id) ∧ c.lpb.active = none)) ∧
    (∀ w : Nat, s.chip.segWindow? p.isIo p.addr = some w →
      let bus (cmd : Nat) (c : Chip) : Prop :=
        c.outs = .bus cmd (s.chip.segAddr w (p.addr + e.done)) (s.chip.segSpan w e) :: s.chip.outs
      (p.kind = .memWr →
        Sets (.segmentTransactionStart pass) s [] [.lpb, .outs] countRegs (fun c => bus 7 c ∧ c.lpb = { s.chip.lpb with
          active := some e.copy.id, slotLast := false, prefetch := s.chip.lpb.prefetch.set none w none })) ∧
      (p.kind = .ioWr →
        Sets (.segmentTransactionStart pass) s [] [.lpb, .outs] countRegs (fun c => bus 3 c ∧ c.lpb = { s.chip.lpb with
          active := some e.copy.id, slotLast := false, prefetch := s.chip.lpb.prefetch.set none w none })) ∧
      (p.kind = .memRd → s.chip.segHeld? w e = none →
        Sets (.segmentTransactionStart pass) s [] [.lpb, .outs] countRegs (fun c =>
          bus (if p.len ≤ 8 then 6 else if p.addr / 64 = (p.addr + p.len - 1) / 64 then 14 else 12) c ∧
          c.lpb = { s.chip.lpb with active := some e.copy.id, slotLast := false })) ∧
      (p.kind = .memRdLk →
        Sets (.segmentTransactionStart pass) s [] [.lpb, .outs] countRegs (fun c =>
          c.outs = .bus (if p.len ≤ 8 then 6 else if p.addr / 64 = (p.addr + p.len - 1) / 64 then 14 else 12)
            (s.chip.segAddr w (p.addr + e.done)) (s.chip.segSpan w e) ::
              (if s.chip.lpb.lockPin then s.chip.outs else .lockPin true :: s.chip.outs) ∧
          c.lpb = { s.chip.lpb with active := some e.copy.id, slotLast := false, prefetch := [], lockPin := true })) ∧
      (p.kind = .ioRd →
        Sets (.segmentTransactionStart pass) s [] [.lpb, .outs] countRegs (fun c =>
          bus 2 c ∧ c.lpb = { s.chip.lpb with active := some e.copy.id, slotLast := false })) ∧
      (∀ b : PfBuf, s.chip.lpb.prefetch.get none w = some b → p.kind = .memRd → e.done = 0 → 0 < p.len → b.addr ≤ p.addr →
        p.addr + p.len ≤ b.addr + b.data.length → e.copy.src = .firmware → e.copy.flc = none → s.chip.takesBack p.len →
        Sets (.segmentTransactionStart pass) s [F.LPB_PF_HIT.COUNT.is (s.chip.counted F.LPB_PF_HIT.COUNT)]
          [.lpb, .cel, .flt, .outs, .free]
          [] (fun c => e.copy.id ∉ c.lpb.queue.map (·.copy.id) ∧ c.lpb.active = none ∧
            ∃ o ∈ (s.chip.newOuts c).head?, ∃ q ∈ o.deliveredTo .firmware, q.kind = .cpl ∧ q.status = .sc ∧ q.tag = e.copy.oTag ∧
              q.data = (b.data.drop (p.addr - b.addr)).take p.len)))) ∧
  (∀ (pass : Bool) (s : State), s.chip.coreUp = true → s.chip.fld F.LPB_STATUS.RST_ACTIVE = 0 → s.chip.lpb.active = none →
    s.chip.lpb.grant = none → s.chip.lpb.lock = none → s.chip.lpb.queue = [] → ∀ k : Copy, s.chip.cel.copies.head? = some k →
    s.chip.cel.copies.length = 1 → k.dest = .legacy → k.whole = true →
    k.pkt.cls < 8 → k.pkt.kind = .memWr → ∀ w : Nat, s.chip.segWindow? false k.pkt.addr = some w →
    Sets (.segmentTransactionStart pass) s [] [.lpb, .cel, .outs] countRegs (fun c => c.lpb.active = some k.id ∧
      c.lpb.queue = [{ copy := { k with started := true } }] ∧ c.cel.copies = [{ k with started := true }])) ∧
  (∀ (pass : Bool) (s : State), s.chip.fld F.LPB_STATUS.RST_ACTIVE = 1 ∨ s.chip.lpb.active ≠ none ∨ s.chip.lpb.grant ≠ none →
    exec (.segmentTransactionStart pass) s = .next s) ∧
  (∀ (s : State), s.chip.coreUp = true → s.chip.fld F.LPB_STATUS.RST_ACTIVE = 0 → s.chip.lpb.active = none →
    s.chip.lpb.grant = none → s.chip.lpb.lock = none →
    (∀ k ∈ s.chip.cel.copies, k.dest = .legacy → ∃ x ∈ s.chip.lpb.queue, x.copy.id = k.id) →
    ∀ (r x : SegEntry) (rest : List SegEntry), s.chip.lpb.queue = r :: x :: rest → r.stalled = true → r.copy.pkt.isRead = true →
    x.copy.pkt.kind = .memWr → x.copy.id ≠ r.copy.id → ∀ w : Nat, s.chip.segWindow? false x.copy.pkt.addr = some w →
    Sets (.segmentTransactionStart true) s [] [.lpb, .outs] countRegs (fun c => c.lpb = { s.chip.lpb with
      active := some x.copy.id, slotLast := false, prefetch := s.chip.lpb.prefetch.set none w none
      queue := { r with stalled := false } :: x :: rest })) ∧
  (∀ (pass : Bool) (s : State), (∀ k ∈ s.chip.cel.copies, k.dest = .legacy → ∃ x ∈ s.chip.lpb.queue, x.copy.id = k.id) →
    ∀ r : Nat, s.chip.lpb.lock = some r →
    (∀ x ∈ s.chip.lpb.queue.find? (fun x => x.copy.pkt.rid == r), x.copy.pkt.kind = .memRdLk) →
    exec (.segmentTransactionStart pass) s = .next s) ∧
  (∀ (slot : Fin 16) (bs : List Byte) (n : Nat) (s : State), s.chip.coreUp = true → ∀ e : SegEntry, s.chip.segActive? = some e →
    (∀ x ∈ s.chip.lpb.queue, x.copy.id = e.copy.id → x = e) →
    let p := e.copy.pkt
    let gone (c : Chip) : Prop := c.lpb.active = none ∧ e.copy.id ∉ c.lpb.queue.map (·.copy.id) ∧
      e.copy.id ∉ c.cel.copies.map (·.id)
    let viol (code : Nat) : FieldVal := Reg.LPB_VIOL_LAST.is (word (slot * 256 + code))
    let step (x : SegEntry) (c : Chip) : Prop := c.lpb = { s.chip.lpb with
      active := none, queue := s.chip.lpb.queue.map fun y => if y.copy.id == e.copy.id then x else y }
    (e.retries + 1 < s.chip.fld F.LPB_TMO.RETRY_MAX → p.kind ≠ .memRdLk →
      Sets (.segmentTransactionEnd .retry slot bs n) s [F.LPB_RETRY.COUNT.is (s.chip.counted F.LPB_RETRY.COUNT)] [.lpb] countRegs
        (step { e with retries := e.retries + 1, stalled := true })) ∧
    (e.retries + 1 < s.chip.fld F.LPB_TMO.RETRY_MAX → p.kind = .memRdLk →
      Sets (.segmentTransactionEnd .retry slot bs n) s [F.LPB_RETRY.COUNT.is (s.chip.counted F.LPB_RETRY.COUNT)] [.lpb, .outs]
        countRegs (fun c => c.lpb = { s.chip.lpb with
            active := none, lockPin := false
            queue := s.chip.lpb.queue.map fun y =>
              if y.copy.id == e.copy.id then { e with retries := e.retries + 1, stalled := true } else y } ∧
          c.outs = if s.chip.lpb.lockPin then .lockPin false :: s.chip.outs else s.chip.outs)) ∧
    (s.chip.fld F.LPB_TMO.RETRY_MAX ≤ e.retries + 1 → e.copy.cat = .posted →
      Sets (.segmentTransactionEnd .retry slot bs n) s [F.LPB_RETRY.COUNT.is (s.chip.counted F.LPB_RETRY.COUNT), viol 0x61,
        F.LPB_MABORT.COUNT.is (s.chip.counted F.LPB_MABORT.COUNT)] [.lpb, .cel, .flt] (countRegs ++ faultRegs) gone) ∧
    (e.copy.cat = .posted →
      Sets (.segmentTransactionEnd .masterAbort slot bs n) s [F.LPB_MABORT.COUNT.is (s.chip.counted F.LPB_MABORT.COUNT)]
        [.lpb, .cel] [] gone) ∧
    (e.copy.cat = .posted → p.isRead = false →
      Sets (.segmentTransactionEnd .targetAbort slot bs n) s [F.LPB_TABORT.COUNT.is (s.chip.counted F.LPB_TABORT.COUNT), viol 0x62]
        [.lpb, .cel, .flt] faultRegs gone ∧
      Sets (.holdTimeout ⟨slot, bs, n⟩) s [F.LPB_MABORT.COUNT.is (s.chip.counted F.LPB_MABORT.COUNT), viol 0x60]
        [.lpb, .cel, .flt] faultRegs gone) ∧
    (∀ w : Nat, s.chip.segWindow? p.isIo p.addr = some w →
    (e.copy.cat = .posted → p.isRead = false → p.len ≤ e.done + min n (s.chip.segSpan w e) →
      Sets (.segmentTransactionEnd .parity slot bs n) s [F.LPB_PARITY.COUNT.is (s.chip.counted F.LPB_PARITY.COUNT), viol 0x64]
        [.lpb, .cel, .flt] faultRegs gone) ∧
    (p.isRead = false → e.done + min n (s.chip.segSpan w e) < p.len →
      Sets (.segmentTransactionEnd .parity slot bs n) s [F.LPB_PARITY.COUNT.is (s.chip.counted F.LPB_PARITY.COUNT), viol 0x64]
        [.lpb, .flt] faultRegs (step { e with done := e.done + min n (s.chip.segSpan w e), retries := 0, stalled := false })) ∧
    (p.kind = .memRd → e.copy.src = .firmware → e.copy.flc = none → s.chip.safe = false → s.chip.takesBack bs.length → 0 < bs.length →
      e.done + bs.length < p.len → bs.length ≤ s.chip.segSpan w e →
      ∀ q ∈ [(Instr.segmentTransactionEnd .targetAbort slot bs n, CplStatus.ca), (.holdTimeout ⟨slot, bs, n⟩, .ur)],
      Reaches q.1 s fun c => gone c ∧
        (∃ o ∈ s.chip.newOuts c, ∃ x ∈ o.deliveredTo .firmware, x.status = .sc ∧ x.data = bs ∧ x.lastCpl = false) ∧
        ∃ o ∈ (s.chip.newOuts c).head?, ∃ x ∈ o.deliveredTo .firmware, x.status = q.2 ∧ x.tag = e.copy.oTag) ∧
    (e.copy.cat = .posted → p.isRead = false → p.len ≤ e.done + min n (s.chip.segSpan w e) →
      Sets (.segmentTransactionEnd .transfer slot bs n) s [] [.lpb, .cel] countRegs gone) ∧
    (p.isRead = false → e.done + min n (s.chip.segSpan w e) < p.len →
      Sets (.segmentTransactionEnd .transfer slot bs n) s [] [.lpb] countRegs
        (step { e with done := e.done + min n (s.chip.segSpan w e), retries := 0, stalled := false })) ∧
    (p.kind = .memRd → e.copy.src = .firmware → e.copy.flc = none → s.chip.takesBack bs.length → s.chip.segPref w = true →
      s.chip.lpb.prefetch.get none w = none → (∀ x ∈ s.chip.lpb.queue, x.copy.pkt.isRead = true) → e.done < p.len → bs.length ≤ s.chip.segSpan w e → p.len < e.done + bs.length →
      Reaches (.segmentTransactionEnd .transfer slot bs n) s fun c => c.lpb.active = none ∧
        (∃ b ∈ c.lpb.prefetch.get none w, b.addr = p.addr + p.len ∧ b.data = bs.drop (p.len - e.done)) ∧
        (e.copy.id ∈ c.lpb.queue.map (·.copy.id) ↔ e.done + bs.length < p.len + s.chip.segExtra w p) ∧
        ∃ o ∈ (s.chip.newOuts c).head?, ∃ q ∈ o.deliveredTo .firmware, q.kind = .cpl ∧ q.status = .sc ∧ q.tag = e.copy.oTag ∧
          q.data = bs.take (p.len - e.done) ∧ q.lastCpl = true) ∧
    (p.kind = .memRd → e.copy.src = .firmware → e.copy.flc = none → s.chip.takesBack bs.length → s.chip.segExtra w p = 0 →
      bs.length = p.len - e.done → 0 < bs.length → bs.length ≤ s.chip.segSpan w e →
      Sets (.segmentTransactionEnd .transfer slot bs n) s [] [.lpb, .cel, .flt, .outs, .free] countRegs (fun c => gone c ∧
        ∃ o ∈ (s.chip.newOuts c).head?, ∃ q ∈ o.deliveredTo .firmware, q.kind = .cpl ∧ q.status = .sc ∧ q.tag = e.copy.oTag ∧ q.data = bs ∧
          q.lastCpl = true ∧ q.poisoned = false) ∧
      Sets (.segmentTransactionEnd .parity slot bs n) s [F.LPB_PARITY.COUNT.is (s.chip.counted F.LPB_PARITY.COUNT), viol 0x63]
        [.lpb, .cel, .flt, .outs, .free] faultRegs (fun c => gone c ∧ Out.perr ∈ s.chip.newOuts c ∧
          ∃ o ∈ (s.chip.newOuts c).head?, ∃ q ∈ o.deliveredTo .firmware, q.data = bs ∧ q.poisoned = true)) ∧
    (p.kind = .memRdLk → e.copy.src = .firmware → e.copy.flc = none → s.chip.takesBack bs.length → bs.length = p.len - e.done →
      0 < bs.length → bs.length ≤ s.chip.segSpan w e →
      Sets (.segmentTransactionEnd .transfer slot bs n) s [F.LPB_STATUS.LOCKED.is 1] [.lpb, .cel, .flt, .outs, .free] countRegs
        (fun c => gone c ∧ c.lpb.lock = some p.rid ∧
          ∃ o ∈ (s.chip.newOuts c).head?, ∃ q ∈ o.deliveredTo .firmware, q.data = bs ∧ q.locked = true))) ∧
    (e.copy.cat = .nonPosted → e.copy.src = .firmware → e.copy.flc = none → s.chip.takesBack 0 → e.done < p.len → s.chip.safe = false →
      Sets (.segmentTransactionEnd .masterAbort slot bs n) s [F.LPB_MABORT.COUNT.is (s.chip.counted F.LPB_MABORT.COUNT)]
        [.lpb, .cel, .flt, .outs, .free] [] (fun c => gone c ∧
          ∃ o ∈ (s.chip.newOuts c).head?, ∃ q ∈ o.deliveredTo .firmware, q.status = .ur ∧ q.tag = e.copy.oTag))) ∧
  (∀ (how : SegOutcome) (slot : Fin 16) (bs : List Byte) (n : Nat) (s : State), s.chip.segActive? = none →
    ∀ i ∈ [Instr.segmentTransactionEnd how slot bs n, .holdTimeout ⟨slot, bs, n⟩], exec i s = .next s) ∧
  (∀ (w : Fin 8) (s : State), s.chip.coreUp = true →
    Sets (.prefetchAgeExpiry w) s [] [.lpb] [] (fun c => c.lpb.prefetch.get none w = none ∧
      (∀ k : Nat, k ≠ w → c.lpb.prefetch.get none k = s.chip.lpb.prefetch.get none k) ∧ c.lpb.queue = s.chip.lpb.queue))

/-- The lock, the reset, the grants and the side lines of the segment (R409, R420, R421, R425, R427 to R429, Table
12.4). It rests on log entries 7, 30 and 49. -/
def Obligations.SegmentLines : Prop :=
  (∀ (p : Option (Fin 32)) (s : State), s.chip.coreUp = true → s.chip.segOwner = p.map Fin.val → s.chip.lpb.lock ≠ none →
    Sets (.unlockMessage p) s [F.LPB_STATUS.LOCKED.is 0] [.lpb, .outs] [] (fun c =>
      c.lpb = { s.chip.lpb with lock := none, lockPin := false } ∧
      c.outs = if s.chip.lpb.lockPin then .lockPin false :: s.chip.outs else s.chip.outs)) ∧
  (∀ (p : Option (Fin 32)) (s : State), s.chip.segOwner ≠ p.map Fin.val ∨ s.chip.lpb.lock = none →
    exec (.unlockMessage p) s = .next s) ∧
  (∀ (s : State), s.chip.coreUp = true → s.chip.lpb.lock ≠ none →
    Sets .lockTimeout s [F.LPB_STATUS.LOCKED.is 0, F.LPB_VIOL_LAST.SLOT.is 0xF, F.LPB_VIOL_LAST.CODE.is 0x69, Reg.LPB_VIOL_LAST.any]
      [.lpb, .flt, .outs] faultRegs (fun c => c.lpb = { s.chip.lpb with lock := none, lockPin := false } ∧
        c.outs = (if s.chip.lpb.lockPin then .lockPin false :: s.chip.outs else s.chip.outs) ∧ c.raised 0x1A0 0x17 (fun _ => True))) ∧
  (∀ (s : State), s.chip.lpb.lock = none → exec .lockTimeout s = .next s) ∧
  (∀ (x : Fin 4) (on : Bool) (s : State), s.chip.coreUp = true →
    let line := F.LPB_STATUS.INT.is (putBit (s.chip.fld F.LPB_STATUS.INT) x on)
    (bit s.chip.lpb.intSent x = on → Sets (.intxChange x on) s [line]) ∧
    (bit s.chip.lpb.intSent x ≠ on → Sets (.intxChange x on) s [line] [.lpb, .outs] [] (fun c =>
      c.outs = .intx s.chip.intxVia x on :: s.chip.outs ∧ c.lpb = { s.chip.lpb with intSent := putBit s.chip.lpb.intSent x on }))) ∧
  (∀ (reqs : Fin 64) (s : State), s.chip.coreUp = true →
    let free := s.chip.fld F.LPB_STATUS.RST_ACTIVE = 0 ∧ s.chip.lpb.active = none ∧ s.chip.lpb.grant = none ∧
      s.chip.segPriority = false
    let asks (slot : Nat) : Bool := bit reqs slot && !bit (s.chip.fld F.LPB_ARB.REQ_MASK) slot &&
      !bit (s.chip.fld F.LPB_ARB.BROKEN) slot
    let turn (i : Nat) : Nat := (s.chip.lpb.turn + i) % 6
    (free → ∀ i < 6, asks (turn i) = true → (∀ j < i, asks (turn j) = false) →
      Sets (.segmentGrant reqs) s [] [.lpb] [] (fun c =>
        c.lpb = { s.chip.lpb with grant := some (turn i), turn := (turn i + 1) % 6 })) ∧
    (¬ free ∨ (∀ slot < 6, asks slot = false) → exec (.segmentGrant reqs) s = .next s)) ∧
  (∀ (started : Bool) (s : State), s.chip.coreUp = true → ∀ slot : Nat, s.chip.lpb.grant = some slot →
    let fails := s.chip.lpb.grantFails.get 0 slot
    (started = true → Sets (.grantTimeout started) s [] [.lpb] [] (fun c => c.lpb.grant = none ∧
      c.lpb.grantFails.get 0 slot = 0 ∧ c.lpb.slotLast = true)) ∧
    (started = false → fails ≠ 7 → Sets (.grantTimeout started) s [] [.lpb] [] (fun c => c.lpb.grant = none ∧
      c.lpb.grantFails.get 0 slot = (fails + 1) % 8)) ∧
    (started = false → fails = 7 → slot < 6 → Sets (.grantTimeout started) s
      [F.LPB_ARB.BROKEN.is (setBit (s.chip.fld F.LPB_ARB.BROKEN) slot), Reg.LPB_VIOL_LAST.is (word (slot * 256 + 0x66))]
      [.lpb, .flt] faultRegs (fun c => c.lpb.grant = none))) ∧
  (∀ (started : Bool) (s : State), s.chip.lpb.grant = none → exec (.grantTimeout started) s = .next s) ∧
  (∀ (m66en : Bool) (s : State), s.chip.coreUp = true → s.chip.fld F.LPB_STATUS.RST_ACTIVE = 1 → s.chip.fld F.LPB_CFG.EN = 1 →
    s.chip.opMode ≠ 11 → s.chip.opMode ≠ 12 → s.chip.fld F.PWR_STATUS.STATE = 0 → s.chip.fld F.FLT_CONTAIN_SEG.SEG = 0 →
    (∀ p : Nat, s.chip.segOwner = some p → (s.chip.part p).inReset = false ∧ (s.chip.part p).hot = false) →
    Sets (.segmentResetDeassert m66en) s [F.LPB_STATUS.RST_ACTIVE.is 0,
        F.LPB_STATUS.BUS66.is (if m66en then s.chip.fld F.LPB_CFG.SPEED66 else 0),
        F.LPB_STATUS.BUS64.is (s.chip.fld F.LPB_CFG.WIDTH64)] [.lpb, .outs, .ctr] []
      (fun c => c.lpb = { s.chip.lpb with intSent := 0 } ∧
        ∀ x < 4, bit s.chip.lpb.intSent x = true → Out.intx s.chip.intxVia x false ∈ s.chip.newOuts c)) ∧
  (∀ (m66en : Bool) (s : State), s.chip.fld F.LPB_STATUS.RST_ACTIVE = 0 ∨ s.chip.fld F.LPB_CFG.EN = 0 →
    exec (.segmentResetDeassert m66en) s = .next s) ∧
  (∀ (s : State), s.chip.lpb.queue = [] → (∀ k ∈ s.chip.cel.copies, k.dest ≠ .legacy) → s.chip.segPriority = false) ∧
  (∀ (slot : Fin 16) (s : State), s.chip.coreUp = true →
    Sets (.serrAssert slot) s [Reg.LPB_VIOL_LAST.is (word (slot * 256 + 0x65))] [.flt] faultRegs
      (fun c => c.raised 0x1A0 0x16 (fun _ => True) ∧
        (s.chip.limitOk 4 msCycles = true → c.raised 0x1A0 0x15 (fun h => h = slot * 256 + 0x65))))

/-- Requests of segment masters (R422 to R425), and configuration cycles of segment cards (R426, R618). It rests on
log entries 30 and 49. -/
def Obligations.SegmentUpstreamAndConfig : Prop :=
  (∀ (addr : SegAddr) (data : List Byte) (lanes : List Bool) (cmd : Fin 3) (wide : Bool) (s : State), s.chip.coreUp = true →
    addr.parityOk = false → s.chip.fld F.LPB_STATUS.RST_ACTIVE = 0 →
    ∀ i ∈ [Instr.segmentUpstreamWrite addr data lanes, .segmentUpstreamRead addr cmd wide],
    Sets i s [F.LPB_PARITY.COUNT.is (s.chip.counted F.LPB_PARITY.COUNT), Reg.LPB_VIOL_LAST.is (word (addr.slot * 256 + 0x68))]
      [.answer, .flt] faultRegs (fun c => c.answer = [])) ∧
  (∀ (a : Word) (slot : Fin 16) (data : List Byte) (lanes : List Bool) (cmd : Fin 3) (wide : Bool) (s : State), s.chip.coreUp = true →
    let addr : SegAddr := { at_ := a, slot }
    (s.chip.upClaims a.toNat = false →
      Sets (.segmentUpstreamWrite addr data lanes) s [] [.answer] [] (fun c => c.answer = [])) ∧
    (s.chip.upClaims a.toNat = true → s.chip.lpb.lock ≠ none →
      Sets (.segmentUpstreamWrite addr data lanes) s [] [.answer] [] (fun c => c.answer = [0])) ∧
    (s.chip.upClaims (a.toNat / 4 * 4) = false →
      Sets (.segmentUpstreamRead addr cmd wide) s [] [.answer] [] (fun c => c.answer = [])) ∧
    (s.chip.upClaims (a.toNat / 4 * 4) = true → s.chip.lpb.lock ≠ none →
      Sets (.segmentUpstreamRead addr cmd wide) s [] [.answer] [] (fun c => c.answer = [0]))) ∧
  (∀ (addr : Word) (ok : Bool) (data : List Byte) (lanes : List Bool) (s : State), s.chip.coreUp = true →
    s.chip.upClaims addr.toNat = true → s.chip.lpb.lock = none → 0 < data.length →
    addr.toNat % 512 + data.length ≤ 512 → addr.toNat + data.length ≤ s.chip.upWindow.2 →
    let owner := s.chip.segOwner
    let id := s.chip.ownId owner
    let x : Look := {
      pkt := { kind := .memWr, addr := (s.chip.pair .LPB_UP_HBASE_LO .LPB_UP_HBASE_HI + (addr.toNat - s.chip.upWindow.1)) % 2 ^ 64,
               data, lanes := lanes.take data.length, len := data.length, rid := id.1, poisoned := !ok }
      src := .segment, stamp := s.chip.ns, part := owner, hier := hierNum owner, st := { master := .card, colour := id.2 }
      oRid := id.1, oTag := 0 }
    let d := (if ok then s.chip else (s.chip.inc F.LPB_PARITY.COUNT).emit .perr).lookReq x none
    d.cel.waiting = [] →
    Reaches (.segmentUpstreamWrite { at_ := addr, dataOk := ok } data lanes) s fun c => c = { d with answer := [word data.length] }) ∧
  (∀ (addr : Word) (cmd : Fin 3) (wide : Bool) (s : State), s.chip.coreUp = true → s.chip.lpb.lock = none →
    s.chip.upClaims (addr.toNat / 4 * 4) = true →
    (∀ r : DelRead, s.chip.lpb.delayed.find? (fun r => r.addr == addr.toNat / 4 * 4 && r.cmd == cmd.val) = some r →
      (r.before ≠ [] ∨ r.data.pending = true →
        Sets (.segmentUpstreamRead { at_ := addr } cmd wide) s [] [.answer] [] (fun c => c.answer = [0])) ∧
      (r.before = [] → r.data = .error →
        Sets (.segmentUpstreamRead { at_ := addr } cmd wide) s [F.LPB_TABORT.COUNT.is (s.chip.counted F.LPB_TABORT.COUNT)] [.lpb, .answer] []
          (fun c => c.answer = [] ∧ c.lpb = { s.chip.lpb with delayed := s.chip.lpb.delayed.erase r })) ∧
      (∀ bs : List (Byte × Bool), r.data.held? = some bs → r.before = [] →
        let n := (bs.length + 3) / 4
        let ws := leWords n (bs.map (·.1))
        Sets (.segmentUpstreamRead { at_ := addr } cmd wide) s [] [.lpb, .answer] [] (fun c =>
          c.lpb = { s.chip.lpb with delayed := s.chip.lpb.delayed.erase r } ∧
          ((∀ b ∈ bs, b.2 = false) → c.answer = 1 :: ws) ∧
          ((∃ b ∈ bs, b.2 = true) → c.answer.take (n + 1) = 2 :: ws ∧
            ∀ i < n, bit ((c.answer.getD (n + 1 + i / 32) 0).toNat) (i % 32) = ((bs.drop (4 * i)).take 4).any (·.2))))) ∧
    (s.chip.lpb.delayed = [] → s.chip.flt.dev = [] →
      Reaches (.segmentUpstreamRead { at_ := addr } cmd wide) s fun c => c.answer = [0] ∧
        ∃ r ∈ c.lpb.delayed, r.addr = addr.toNat / 4 * 4 ∧ r.cmd = cmd ∧ r.data = .waiting [])) ∧
  (∀ (s : State), s.chip.coreUp = true → ∀ q : InCpl, s.chip.flt.inbox.head? = some q → q.to_ = .segment →
    ∀ r : DelRead, s.chip.lpb.delayed.head? = some r → r.tag = q.pkt.tag → ∀ got : List (Byte × Bool), r.data.got? = some got →
    let all := got ++ q.pkt.data.map fun b => (b, q.pkt.poisoned)
    let ids := s.chip.lpb.queue.map (·.copy.id)
    Sets .delayedReadCompletion s [] [.lpb, .flt] [] (fun c => c.flt = { s.chip.flt with inbox := s.chip.flt.inbox.tail } ∧
      ∃ x ∈ c.lpb.delayed.head?, x = if q.pkt.status ≠ .sc then { r with data := .error, before := ids }
        else if q.pkt.lastCpl then { r with data := .data all, before := ids }
        else { r with data := .waiting all })) ∧
  (∀ (s : State), (∀ q ∈ s.chip.flt.inbox, q.to_ ≠ .segment) → exec .delayedReadCompletion s = .next s) ∧
  (∀ (i : Fin 4) (s : State), s.chip.coreUp = true → ∀ r : DelRead, s.chip.lpb.delayed[i.val]? = some r →
    (r.data.pending = false → Sets (.delayedReadExpiry i) s [F.LPB_DISCARD.COUNT.is (s.chip.counted F.LPB_DISCARD.COUNT),
      Reg.LPB_VIOL_LAST.is (word (15 * 256 + 0x67))] [.lpb, .flt] faultRegs
      (fun c => c.lpb = { s.chip.lpb with delayed := s.chip.lpb.delayed.erase r })) ∧
    (r.data.pending = true → exec (.delayedReadExpiry i) s = .next s)) ∧
  (∀ (a : Access) (resp : Option Word) (s : State), s.chip.coreUp = true →
    s.chip.judge 109 (s.chip.gateView a ((⟨.LPB_CFG_DATA, 0, 0⟩ : RegKey).addr 0) false) = none →
    (a.full = true → s.chip.isOwner a.who = true →
      Sets (.lpbCfgRead a resp) s [F.LPB_CFG_ADDR.MABORT.is (b2n resp.isNone), Reg.LPB_CFG_DATA.is (resp.getD 0xFFFFFFFF)]
        [.outs, .answer] countRegs (fun c => c.answer = [resp.getD 0xFFFFFFFF] ∧
          c.outs = .bus 10 (s.chip.fld F.LPB_CFG_ADDR.DEV * 0x10000 + s.chip.fld F.LPB_CFG_ADDR.FUNC * 256 +
            s.chip.fld F.LPB_CFG_ADDR.REG * 4) 4 :: s.chip.outs)) ∧
    (a.full = false ∨ s.chip.isOwner a.who = false →
      Sets (.lpbCfgRead a resp) s [] [.answer] countRegs (fun c =>
        c.answer = [word (enabledBytes a.be (s.chip.reg .LPB_CFG_DATA).toNat)]))) ∧
  (∀ (a : Access) (v : Word) (resp : Option Word) (s : State) (c : Chip), s.passes a ⟨.LPB_CFG_DATA, 0, 0⟩ v c →
    SetsPast c (.lpbCfgWrite a v resp) s [F.LPB_CFG_ADDR.MABORT.is (b2n resp.isNone), Reg.LPB_CFG_DATA.is v] [.outs] []
      (fun d => d.outs = .bus 11 (c.fld F.LPB_CFG_ADDR.DEV * 0x10000 + c.fld F.LPB_CFG_ADDR.FUNC * 256 +
        c.fld F.LPB_CFG_ADDR.REG * 4) 4 :: c.outs))

/-! ### Power states, supplies and resets (spec/16_power_resets.md, the boot of spec/15_letterbox_firmware.md) -/

/-- GO of PWR_CTL (R529): a GO that is accepted starts entry to the state in TARGET, which the same write sets and
clamps to 1 to 4 as its field table gives; any other GO is dropped, counted, and leaves ENTRY_FAIL. What becomes of
TARGET then is in PowerEntries (log entry 36). CHIP_RST of the same write is 0: a write of 1 resets the chip
(ChipResetsAndBoot). -/
def Obligations.PowerGo : Prop :=
  ∀ (a : Access) (v : Word) (s : State) (c : Chip), s.passes a ⟨.PWR_CTL, 0, 0⟩ v c → wbit v 30 = false → wbit v 31 = true →
    let tgt := max 1 (min 4 (wget v 2 0))
    let may := c.fld F.GLB_MODE.MODE = 11 ∧ c.fld F.GLB_MODE.BUSY = 0 ∧ c.mode.wakeHeld = false ∧
      c.fld F.PWR_STATUS.STATE = 0 ∧ c.pwr.entering = none ∧ c.pwr.leaving = none
    (may → SetsPast c (.powerGo a v) s [F.PWR_CTL.TARGET.is tgt, F.PWR_CTL.CHIP_RST.is 0,
        F.PWR_STATUS.ENTRY_FAIL.is 0, F.PWR_STATUS.ENTERING.is 1,
        F.PWR_CLAMP_SEEN.COUNT.any] [.pwr] [] (fun d => d.pwr = { c.pwr with entering := some tgt })) ∧
    (¬ may → SetsPast c (.powerGo a v) s [F.PWR_CTL.TARGET.any, F.PWR_CTL.CHIP_RST.is 0,
        F.PWR_CLAMP_SEEN.COUNT.any] [] [] (fun d =>
        c.counted F.PWR_CLAMP_SEEN.COUNT ≤ d.fld F.PWR_CLAMP_SEEN.COUNT ∧
        (wget v 2 0 = tgt → d.fld F.PWR_CLAMP_SEEN.COUNT = c.counted F.PWR_CLAMP_SEEN.COUNT)))

/-- Writes of PWR_CTL without CHIP_RST, and what they store of TARGET (R529, log entry 36); entry to a low-power state
(R530 to R532, R537, R539, R543, Tables 16.1 and 16.9). It rests on log entries 5, 36 and 52. -/
def Obligations.PowerEntries : Prop :=
  (∀ (a : Access) (v : Word) (s : State) (c : Chip), s.passes a ⟨.PWR_CTL, 0, 0⟩ v c → wbit v 30 = false →
    let tgt := max 1 (min 4 (wget v 2 0))
    let clamp (n : Nat) : FieldVal := F.PWR_CLAMP_SEEN.COUNT.is (min (c.fld F.PWR_CLAMP_SEEN.COUNT + n) 65535)
    let may := c.fld F.GLB_MODE.MODE = 11 ∧ c.fld F.GLB_MODE.BUSY = 0 ∧ c.mode.wakeHeld = false ∧
      c.fld F.PWR_STATUS.STATE = 0 ∧ c.pwr.entering = none ∧ c.pwr.leaving = none
    (wbit v 31 = true → may →
      SetsPast c (.powerGo a v) s [F.PWR_CTL.TARGET.is tgt, F.PWR_CTL.CHIP_RST.is 0,
        F.PWR_STATUS.ENTRY_FAIL.is 0, F.PWR_STATUS.ENTERING.is 1,
        clamp (b2n (wget v 2 0 != tgt))] [.pwr] [] (fun d => d.pwr = { c.pwr with entering := some tgt })) ∧
    (wbit v 31 = true → ¬ may →
      SetsPast c (.powerGo a v) s [F.PWR_CTL.TARGET.is tgt, F.PWR_CTL.CHIP_RST.is 0, clamp (1 + b2n (wget v 2 0 != tgt))]) ∧
    (wbit v 31 = false →
      SetsPast c (.powerGo a v) s [F.PWR_CTL.TARGET.is tgt, F.PWR_CTL.CHIP_RST.is 0, clamp (b2n (wget v 2 0 != tgt))])) ∧
  (∀ (s : State), s.chip.coreUp = true → s.chip.fld F.GLB_MODE.MODE = 11 → s.chip.mode.wakeHeld = false →
    s.chip.fld F.PWR_SUPPLY.WARN = 0 → ∀ st : Nat, s.chip.pwr.entering = some st → 1 ≤ st → st ≤ 4 →
    (st ≤ 2 → s.chip.linksIdle st = true →
      Reaches .powerEntryProceed s fun c => c.fld F.PWR_STATUS.STATE = st ∧ c.fld F.PWR_STATUS.ENTERING = 0 ∧
        c.pwr.entering = none ∧ c.pwr.mgmtAwake = false ∧ c.lanes = s.chip.lanes ∧ c.fl = s.chip.fl ∧ c.cel = s.chip.cel) ∧
    (st ≤ 2 → s.chip.linksIdle st = false → exec .powerEntryProceed s = .next s) ∧
    (st = 3 → 4400 < s.chip.lpLoad →
      Sets .powerEntryProceed s [F.PWR_STATUS.ENTERING.is 0, F.PWR_STATUS.ENTRY_FAIL.is 2] [.pwr] []
        (fun c => c.pwr.entering = none)) ∧
    (3 ≤ st → (st = 3 → s.chip.lpLoad ≤ 4400) → s.chip.dbg.busy = none →
      After .powerEntryProceed s fun t => t.chip.fld F.PWR_STATUS.STATE = st ∧ t.chip.fld F.PWR_STATUS.ENTERING = 0 ∧
        t.chip.pwr.entering = none ∧ t.chip.pwr.coreOn = false ∧ t.chip.pwr.slotOn = (st == 3) ∧ t.chip.coreUp = false ∧
        t.chip.pwr.armedLanes = (if st = 3 then s.chip.armedLanes else []) ∧ t.mem.pantry = [] ∧
        s.chip.survives t.chip [.por]
          (fun r => r.block != .pwr && (st == 4 || (r.block != .fus && r.block != .tct)) && resetPlain r) ∧
        (st = 3 → ∀ (r : Reg) (u i : Nat), r.block = .tct →
          t.chip.reg r u i = if 0xC10 ≤ u then s.chip.reg r u i else (RegKey.mk r u i).reset) ∧
        (st = 4 → t.mem.attic = [] ∧ t.chip.fld F.PWR_STATUS.XTAL_OK = 0) ∧
        (st = 3 → t.mem.atticWord 0xFF00 = 0x41545431 ∧
          t.mem.atticWord 0xFF04 = 11 + s.chip.fld F.GLB_MODE.PREV_MODE * 4096 ∧
          t.mem.atticWord 0xFF08 = s.chip.fld F.PWR_RTC_LO.RTC ∧ t.mem.atticWord 0xFF0C = s.chip.fld F.PWR_RTC_HI.RTC ∧
          ∀ a < 0xFF00, Cells.get t.mem.attic a = Cells.get s.mem.attic a))) ∧
  (∀ (s : State), s.chip.pwr.entering = none ∨ s.chip.fld F.PWR_SUPPLY.WARN = 1 ∨ s.chip.mode.wakeHeld = true →
    exec .powerEntryProceed s = .next s) ∧
  (∀ (s : State), s.chip.coreUp = true → s.chip.pwr.entering ≠ none →
    Sets .powerEntryTimeout s [F.PWR_STATUS.ENTERING.is 0,
      F.PWR_STATUS.ENTRY_FAIL.is (if s.chip.fld F.PWR_SUPPLY.WARN = 1 then 4 else 1)] [.pwr] []
      (fun c => c.pwr = { s.chip.pwr with entering := none })) ∧
  (∀ (s : State), s.chip.pwr.entering = none → exec .powerEntryTimeout s = .next s)

/-- What the Attic keeps (R554, Table 16.9): a reset by RESET_N leaves it as it was but for MAGIC; monitors of the
supplies, of the temperature and of the clocks (R533, R541 to R546, R558, R562, R564). It rests on log entries 5, 7
and 36. -/
def Obligations.AtticAndMonitors : Prop :=
  (∀ (lost : Bool) (s : State), ∀ i ∈ [Instr.vaonLow, .powerOnReset lost], After i s fun t => t.mem.attic = []) ∧
  (∀ (s : State), s.chip.pwr.leaving = some 3 ∧ s.chip.pwr.railsBad = true ∨
      s.chip.pwr.leaving = none ∧ (s.chip.fld F.PWR_STATUS.STATE = 3 ∨ s.chip.fld F.PWR_STATUS.STATE = 4) →
    After .brownout s fun t => t.mem.attic = []) ∧
  (∀ (s : State), s.chip.coreUp = true → s.chip.fld F.GLB_MODE.MODE = 11 → s.chip.mode.wakeHeld = false →
    s.chip.fld F.PWR_SUPPLY.WARN = 0 → s.chip.pwr.entering = some 4 → s.chip.dbg.busy = none →
    After .powerEntryProceed s fun t => t.chip.fld F.PWR_STATUS.STATE = 4 ∧ t.mem.attic = []) ∧
  (∀ (s : State), s.chip.fld F.PWR_STATUS.STATE ≠ 4 ∨ s.chip.pwr.leaving ≠ none →
    After .resetNAssert s fun t => t.mem.atticWord 0xFF00 ≠ 0x41545431 ∧
      ∀ x : Nat, (x < 0xFF00 ∨ 0xFF04 ≤ x) → Cells.get t.mem.attic x = Cells.get s.mem.attic x) ∧
  (∀ (vaon : Bool) (mv : Fin 65536) (s : State),
    let f := if vaon then F.PWR_SUPPLY_MIN.VAON_MIN else F.PWR_SUPPLY_MIN.VDD_MIN
    let lowest := min (s.chip.fld f) mv
    let seen := [f.is lowest, F.PWR_SUPPLY.WARN.is 1, F.PWR_SUPPLY.WARN_SEEN.is 1, F.PWR_SUPPLY.RAIL.is (b2n vaon),
      F.PWR_SUPPLY.THROTTLE.is 1]
    (s.chip.coreUp = true → Sets (.supplyWarn vaon mv) s seen [.pwr, .flt] (countRegs ++ faultRegs)
      (fun c => c.raised (0x1CA + b2n vaon) 0x20 (fun h => h = lowest * 2 ^ 48 + b2n vaon))) ∧
    (vaon = false → s.chip.pwr.coreOn = false → exec (.supplyWarn vaon mv) s = .next s) ∧
    (s.chip.coreUp = false → vaon = true ∨ s.chip.pwr.coreOn = true → Sets (.supplyWarn vaon mv) s seen [.pwr] [] (fun c => b2n vaon ∈ c.pwr.warnOwed))) ∧
  (∀ (vaon : Bool) (s : State),
    let other := if vaon then s.chip.pwr.warnVdd else s.chip.pwr.warnVaon
    After (.supplyRecovery vaon) s fun t =>
      Effect s.chip s { t with mem := s.mem } [F.PWR_SUPPLY.WARN.is (b2n other),
        F.PWR_SUPPLY.THROTTLE.is (b2n (other || s.chip.pwr.hot))] [.pwr] [] ∧
      t.mem.pantry = s.mem.pantry ∧ t.mem.fw = s.mem.fw ∧
      t.mem.attic = (if other then s.mem.attic
        else s.chip.pwr.atticHeld.foldl (fun m w => Cells.putAll m w.1 w.2) s.mem.attic) ∧
      t.chip.pwr.atticHeld = (if other then s.chip.pwr.atticHeld else [])) ∧
  (∀ (x : Fin 4096) (s : State),
    let v := signed 12 x
    let throt : Int := s.chip.fld F.PWR_CFG.T_THROT
    let hot := if throt < v then true else if v ≤ throt - 40 then false else s.chip.pwr.hot
    let warn := s.chip.pwr.warnVdd || s.chip.pwr.warnVaon
    Sets (.temperatureSample x) s [F.PWR_TEMP.TEMP.is x, F.PWR_SUPPLY.WARN.is (b2n warn),
        F.PWR_SUPPLY.THROTTLE.is (b2n (warn || hot))] [.pwr, .flt] (countRegs ++ faultRegs)
      (fun c => c.pwr.hot = hot ∧ (v ≤ s.chip.fld F.PWR_CFG.T_WARN → c.flt = s.chip.flt ∧ c.pwr.thermalAt = none) ∧
        ((s.chip.fld F.PWR_CFG.T_WARN : Int) < v → s.chip.coreUp = true → s.chip.pwr.thermalAt = none →
          c.raised 0x1CE 0x21 (fun h => h = x) ∧ c.pwr.thermalAt = some s.chip.hwy) ∧
        (∀ at_ : Nat, s.chip.pwr.thermalAt = some at_ → s.chip.hwy < at_ + 2000000000 → c.flt = s.chip.flt))) ∧
  (∀ (s : State), s.chip.fld F.PWR_STATUS.STATE = 0 →
    Sets .coreOnRise s [] [.pwr] [] (fun c => c.pwr = { s.chip.pwr with coreOn := true, slotOn := true })) ∧
  (∀ (s : State), s.chip.fld F.PWR_STATUS.STATE ≠ 4 → Sets .xtalStart s [F.PWR_STATUS.XTAL_OK.is 1]) ∧
  (∀ (s : State), s.chip.fld F.PWR_STATUS.STATE = 4 → ∀ i ∈ [Instr.coreOnRise, .xtalStart], exec i s = .next s) ∧
  (∀ (t : Fin 12) (x : Fin 256) (s : State), s.chip.coreUp = true → s.chip.fld F.PWR_STATUS.STATE = 0 →
    (s.chip.tileEn t = true → Sets (.cdcTimeout (some t) x) s [] [.flt] (countRegs ++ faultRegs)
      (fun c => c.raised (tileSrc t 22) 0x1F (fun h => h = x))) ∧
    (s.chip.tileEn t = false → exec (.cdcTimeout (some t) x) s = .next s) ∧
    Sets (.cdcTimeout none x) s [] [.flt] (countRegs ++ faultRegs) (fun c => c.raised 0x1D2 0x1F (fun h => h = x))) ∧
  (∀ (s : State), s.chip.coreUp = true → s.chip.fld F.PWR_STATUS.STATE ≤ 1 → s.chip.goodRef? = none →
    Sets .pllFreeRunTimeout s [] [.flt] (countRegs ++ faultRegs) (fun c => c.raised 0x1CF 0x1E (fun _ => True))) ∧
  (∀ (s : State), s.chip.goodRef? ≠ none → exec .pllFreeRunTimeout s = .next s)

/-- Wake events, the exit from a low-power state and a brown-out (R43, R535, R540, R547 to R550, R553, Tables 16.2,
16.6 and 16.12). It rests on log entries 3, 7, 36, 49 and 52. -/
def Obligations.PowerExit : Prop :=
  (∀ (src : Fin 7) (idx : Fin 1024) (s : State), s.chip.pwr.leaving = none →
    let st := s.chip.fld F.PWR_STATUS.STATE
    s.chip.held = false ∨ st = 4 → s.chip.wakeArmed src idx st = true → (st = 0 → s.chip.fld F.GLB_MODE.MODE = 11) → st ≤ 4 →
    let last (x : Fin 7) (k : Fin 1024) : Word := word (2 ^ 31 + st * 2 ^ 24 + x.val * 2 ^ 20 + k.val)
    let record := [Reg.PWR_WAKE_LAST.is (last src idx),
      Reg.PWR_WAKE_RTC_LO.is (s.chip.reg .PWR_RTC_LO), Reg.PWR_WAKE_RTC_HI.is (s.chip.reg .PWR_RTC_HI)]
    (st = 0 →
      Sets (.wakeEvent src idx none) s (record ++ if s.chip.pwr.entering = none then [] else
          [F.PWR_STATUS.ENTERING.is 0, F.PWR_STATUS.ENTRY_FAIL.is 3]) [.mode, .pwr] []
        (fun c => c.mode = { s.chip.mode with wakeHeld := true } ∧ c.pwr = { s.chip.pwr with entering := none })) ∧
    (st = 1 → Sets (.wakeEvent src idx none) s (F.PWR_STATUS.EXITING.is 1 :: record) [.ctr, .pwr] []
      (fun c => c.pwr = { s.chip.pwr with leaving := some 1 })) ∧
    (st = 2 → Reaches (.wakeEvent src idx none) s fun c => (∀ x ∈ record, x.holds c) ∧ c.fld F.PWR_STATUS.EXITING = 1 ∧
      c.pwr.leaving = some 2 ∧ c.pwr.mgmtAwake = true ∧ ∀ l < 192, s.chip.laneState l = lnDeep →
        s.chip.flag F.SDS_REF_STATUS.REF_OK (laneTile l) = false → c.fld F.SDS_LN_STATUS.EXIT_FAIL l = 1) ∧
    (st = 2 → (∀ l < 192, s.chip.laneState l = lnDeep → s.chip.flag F.SDS_REF_STATUS.REF_OK (laneTile l) = true) →
      Sets (.wakeEvent src idx none) s (F.PWR_STATUS.EXITING.is 1 :: record) [.ctr, .pwr, .lanes] [.SDS_LN_STATUS]
      (fun c => c.pwr = { s.chip.pwr with leaving := some 2, mgmtAwake := true } ∧ ∀ l < 192,
        c.laneState l = (if s.chip.laneState l = lnDeep then lnExiting else s.chip.laneState l) ∧
        (s.chip.laneState l = lnEntering → (c.lane l).exitHeld = true))) ∧
    (3 ≤ st → Sets (.wakeEvent src idx none) s (F.PWR_STATUS.EXITING.is 1 :: record) [.ctr, .pwr] []
      (fun c => c.pwr = { s.chip.pwr with leaving := some st, coreOn := true, slotOn := true, railsBad := true })) ∧
    ∀ o : Fin 7 × Fin 1024,
      (s.chip.wakeArmed o.1 o.2 st = true → Reaches (.wakeEvent src idx (some o)) s fun c =>
        c.reg .PWR_WAKE_LAST = (if o.1.val < src.val then last o.1 o.2 else last src idx) ∧
        c.reg .PWR_WAKE_PEND = s.chip.reg .PWR_WAKE_PEND ||| word (2 ^ src.val) ||| word (2 ^ o.1.val) ∧
        c.pwr.leaving = (if st = 0 then none else some st) ∧ (st = 0 → c.mode.wakeHeld = true)) ∧
      (s.chip.wakeArmed o.1 o.2 st = false → exec (.wakeEvent src idx (some o)) s = exec (.wakeEvent src idx none) s ∧
        exec (.wakeEvent o.1 o.2 (some (src, idx))) s = exec (.wakeEvent src idx none) s)) ∧
  (∀ (src : Fin 7) (idx : Fin 1024) (s : State), s.chip.pwr.leaving ≠ none → s.chip.held = false →
    1 ≤ s.chip.fld F.PWR_STATUS.STATE → s.chip.wakeArmed src idx (s.chip.fld F.PWR_STATUS.STATE) = true →
    Sets (.wakeEvent src idx none) s [Reg.PWR_WAKE_PEND.is (s.chip.reg .PWR_WAKE_PEND ||| word (2 ^ src.val))]) ∧
  (∀ (src : Fin 7) (idx : Fin 1024) (s : State),
    let st := s.chip.fld F.PWR_STATUS.STATE
    s.chip.held = true ∧ st ≠ 4 ∨ s.chip.wakeArmed src idx st = false ∨ st = 0 ∧ s.chip.fld F.GLB_MODE.MODE ≠ 11 →
    exec (.wakeEvent src idx none) s = .next s) ∧
  (∀ (s : State), s.chip.pwr.railsBad = true → s.chip.pwr.coreOn = true →
    (s.chip.pwr.leaving = some 3 →
      After .coreRailsGood s fun t => t.mem.atticWord 0xFF00 = 0 ∧ t.chip.pwr.railsBad = false ∧
        (∀ a : Nat, (a < 0xFF00 ∨ 0xFF04 ≤ a) → Cells.get t.mem.attic a = Cells.get s.mem.attic a) ∧
        (¬ (s.mem.atticWord 0xFF00 = 0x41545431 ∧ s.mem.atticWord 0xFFFC = s.mem.atticCrc) → t.chip.fld F.PWR_STATUS.COLD_START = 1 ∧
          t.chip.reg .GLB_MODE = s.chip.reg .GLB_MODE) ∧
        (s.mem.atticWord 0xFF00 = 0x41545431 ∧ s.mem.atticWord 0xFFFC = s.mem.atticCrc →
          t.chip.reg .PWR_STATUS = s.chip.reg .PWR_STATUS ∧ t.chip.fld F.GLB_MODE.MODE = s.mem.atticWord 0xFF04 % 16 ∧
          t.chip.fld F.GLB_MODE.PREV_MODE = s.mem.atticWord 0xFF04 / 4096 % 16)) ∧
    (s.chip.pwr.leaving = some 4 →
      Sets .coreRailsGood s [F.PWR_STATUS.COLD_START.is 1] [.pwr] [] (fun c => c.pwr = { s.chip.pwr with railsBad := false })) ∧
    (s.chip.pwr.leaving = none → s.chip.held = true →
      Sets .coreRailsGood s [F.PWR_RESET_CAUSE.CAUSE.is (if s.chip.pwr.vaonCell then 4 else s.chip.fld F.PWR_RESET_CAUSE.CAUSE)]
        [.pwr] [] (fun c => c.pwr = { s.chip.pwr with railsBad := false, vaonCell := false }))) ∧
  (∀ (s : State), s.chip.pwr.railsBad = false → exec .coreRailsGood s = .next s) ∧
  (∀ (us : Fin 16777216) (s : State), ∀ st : Nat, s.chip.pwr.leaving = some st → (3 ≤ st → s.chip.pwr.railsBad = false) →
    Reaches (.powerExitComplete us) s fun c => c.fld F.PWR_STATUS.STATE = 0 ∧ c.fld F.PWR_STATUS.EXITING = 0 ∧
      c.fld F.PWR_EXIT_LAST.TIME = us ∧ c.pwr.leaving = none ∧
      (let m := s.chip.fld F.GLB_MODE.PREV_MODE
       let refused := isForwarding m = true ∧ s.chip.settingsMet m = false
       st ≤ 2 → s.chip.pwr.perstHeld = [] → c.fld F.GLB_MODE.MODE = (if refused then s.chip.fld F.GLB_MODE.MODE else m) ∧
        c.fld F.GLB_MODE.PREV_MODE = (if refused then m else s.chip.fld F.GLB_MODE.MODE) ∧
        c.fld F.GLB_MODE.LAST_RESULT = (if refused then 2 else 0) ∧
        ∀ f < 24, s.chip.fuState f = fuWaitReq → s.chip.flag F.FUS_CHAN_STATUS.PRESENT f = true →
          s.chip.fld F.FUS_CHAN_CFG.POLICY f ≠ 1 → s.chip.fld F.FUS_CHAN_STATUS.REQ_PEND f = 1 → c.fld F.GLB_MODE.MODE ≠ 12 →
          c.fuState f = fuWaitSlot) ∧
      (st ≤ 2 → c.fld F.TIM_STATUS.STEP_SEEN = 1 ∧ c.tim.count = s.chip.tim.count ∧
        c.fld F.TIM_STATUS.STEP_COUNT = (s.chip.fld F.TIM_STATUS.STEP_COUNT + 1) % 65536 ∧
        (s.chip.fld F.TIM_CFG.SRC = 0 → c.fld F.TIM_STATUS.STATE = 0)) ∧
      (st ≤ 2 → c.pwr.perstHeld = [] ∧ ∀ p < 32, s.chip.pwr.perstHeld = [(p, true)] → (s.chip.part p).perst = false →
        (c.part p).perst = true ∧ (c.part p).inReset = true) ∧
      (3 ≤ st → c.fld F.PWR_RESET_CAUSE.CAUSE = (if s.chip.fld F.PWR_STATUS.COLD_START = 1 ∧ s.chip.pwr.brownOut = false then 8
        else s.chip.fld F.PWR_RESET_CAUSE.CAUSE))) ∧
  (∀ (us : Fin 16777216) (s : State), s.chip.pwr.leaving = none → exec (.powerExitComplete us) s = .next s) ∧
  (∀ (s : State), s.chip.pwr.leaving = none → s.chip.fld F.PWR_STATUS.STATE = 3 ∨ s.chip.fld F.PWR_STATUS.STATE = 4 →
    After .brownout s fun t => t.mem.attic = [] ∧ t.chip.fld F.PWR_STATUS.STATE = 4 ∧
      t.chip.fld F.PWR_STATUS.COLD_START = 1 ∧ t.chip.fld F.PWR_RESET_CAUSE.CAUSE = 7 ∧ t.chip.pwr.brownOut = true ∧
      (s.chip.fld F.PWR_STATUS.STATE = 3 → t.chip.fld F.PWR_STATUS.XTAL_OK = 0 ∧ t.chip.pwr.slotOn = false ∧ t.chip.pwr.armedLanes = [] ∧
        t.chip.pwr.armedPorts = [] ∧ t.mem.pantry = [] ∧
        s.chip.survives t.chip [.por] (fun r => r.block != .pwr && resetPlain r))) ∧
  (∀ (s : State), s.chip.pwr.leaving = none ∧ s.chip.fld F.PWR_STATUS.STATE < 3 ∨
      s.chip.pwr.leaving = some 3 ∧ s.chip.pwr.railsBad = false → exec .brownout s = .next s) ∧
  (∀ (s : State), s.chip.coreUp = true → s.chip.fld F.PWR_STATUS.STATE = 2 → s.chip.pwr.leaving = none →
    Sets .managementSleep s [] [.ctr, .pwr] [] (fun c => c.pwr = { s.chip.pwr with mgmtAwake := false })) ∧
  (∀ (s : State), s.chip.fld F.PWR_STATUS.STATE ≠ 2 → exec .managementSleep s = .next s) ∧
  (∀ (s : State), s.chip.fld F.PWR_ALARM_CTL.EN = 1 → s.chip.fld F.PWR_STATUS.XTAL_OK = 1 →
    (s.chip.fld F.PWR_STATUS.STATE = 0 →
      Sets .alarm s [F.PWR_ALARM_CTL.EN.is 0, F.PWR_ALARM_CTL.FIRED.is 1]) ∧
    (1 ≤ s.chip.fld F.PWR_STATUS.STATE → s.chip.fld F.PWR_STATUS.STATE ≤ 3 → s.chip.fld F.PWR_WAKE_EN.ALARM = 1 →
      s.chip.pwr.leaving = none → s.chip.held = false →
      Reaches .alarm s fun c => c.fld F.PWR_ALARM_CTL.EN = 0 ∧ c.fld F.PWR_ALARM_CTL.FIRED = 1 ∧
        c.fld F.PWR_STATUS.EXITING = 1 ∧ c.pwr.leaving = some (s.chip.fld F.PWR_STATUS.STATE) ∧
        c.reg .PWR_WAKE_LAST = word (2 ^ 31 + s.chip.fld F.PWR_STATUS.STATE * 2 ^ 24 + 5 * 2 ^ 20))) ∧
  (∀ (s : State), s.chip.fld F.PWR_ALARM_CTL.EN = 0 ∨ s.chip.fld F.PWR_STATUS.STATE = 4 → exec .alarm s = .next s)

/-- Resets of the chip and the boot that follows each (R516 to R518, R525, R544, R554 to R558, Tables 15.10 and 16.9).
It rests on log entries 2, 35 and 36. -/
def Obligations.ChipResetsAndBoot : Prop :=
  (∀ (s : State), s.chip.pwr.coreOn = true → ChipResets s.chip .vddLow s 3 (fun c => c.pwr.vddLow = true)) ∧
  (∀ (s : State), s.chip.pwr.coreOn = false → exec .vddLow s = .next s) ∧
  (∀ (s : State), s.chip.fld F.PWR_STATUS.STATE ≠ 4 ∨ s.chip.pwr.leaving ≠ none →
    ChipResets s.chip .resetNAssert s 2 (fun c => c.pwr.resetN = true)) ∧
  (∀ (s : State), s.chip.fld F.PWR_STATUS.STATE = 4 → s.chip.pwr.leaving = none →
    Sets .resetNAssert s [] [.pwr] [] (fun c => c.pwr = { s.chip.pwr with resetN := true })) ∧
  (∀ (a : Access) (v : Word) (s : State) (c : Chip), s.passes a ⟨.PWR_CTL, 0, 0⟩ v c → wbit v 30 = true → wbit v 31 = false →
    let tgt := max 1 (min 4 (wget v 2 0))
    (c.isExpert a.who = true → wget v 2 0 = tgt →
      ChipResets (c.setFld F.PWR_CTL.TARGET tgt) (.chipRst a v) s 5 (fun d => d.pwr.chipRst = true)) ∧
    (c.isExpert a.who = false → wget v 2 0 = tgt →
      SetsPast c (.chipRst a v) s [F.PWR_CTL.TARGET.is tgt,
        F.GLB_CLAMP_SEEN.DROPPED.is (c.counted F.GLB_CLAMP_SEEN.DROPPED)])) ∧
  (∀ (s : State), s.chip.coreUp = true → s.chip.lbx.resetDue = true →
    ChipResets s.chip .recoveryReset s 6 (fun c => c.pwr.chipRst = true)) ∧
  (∀ (s : State), s.chip.lbx.resetDue = false → exec .recoveryReset s = .next s) ∧
  (∀ (s : State), PowersOn .vaonLow s true ∧ PowersOn (.powerOnReset true) s false ∧
    PowersOn (.powerOnReset false) s s.chip.pwr.vaonCell) ∧
  (∀ (s : State), s.chip.pwr.coreOn = true → s.chip.pwr.railsBad = false → s.chip.pwr.leaving = none →
    s.chip.pwr.bootDue = true → ∀ i ∈ [Instr.resetNDeassert, .chipResetEnd, .vddResetRelease],
    (i = .resetNDeassert ∨ s.chip.pwr.resetN = false) → (i = .chipResetEnd ∨ s.chip.pwr.chipRst = false) →
    (i = .vddResetRelease ∨ s.chip.pwr.vddLow = false) →
    let first := s.chip.firstSlot
    let held := { s.chip.pwr with resetN := false, chipRst := false, vddLow := false, bootDue := false, atticBad := false,
                                  brownOut := false, warnOwed := [] }
    (s.chip.imageOk (s.chip.slotImage 0) = false → s.chip.imageOk (s.chip.slotImage 1) = false → s.chip.lbx.ready = false →
      Sets i s [F.LBX_FW_STATUS.RECOVERY.is 1] [.pwr, .flt] (countRegs ++ faultRegs) (fun c => c.coreUp = true ∧ c.pwr = held ∧
        (∀ k ≤ 1, c.raised 0x1D9 0x25 (fun h => h = k)) ∧ (s.chip.pwr.atticBad = true → c.raised 0x1CD 0x2B (fun _ => True)) ∧
        (s.chip.pwr.brownOut = true → c.raised 0x1CC 0x2C (fun _ => True)))) ∧
    (s.chip.imageOk (s.chip.slotImage first) = true → s.chip.lbx.storeA = none → s.chip.lbx.storeB = none →
      s.chip.fld F.GAT_LIFECYCLE.STATE ≠ 2 →
      (s.chip.owner? = none → s.chip.safe = false → s.chip.fld F.FLT_LOG_PROD.PROD ≠ s.chip.fld F.FLT_LOG_CONS.CONS →
        Reaches i s fun c => c.fld F.FLT_LOG_CONS.CONS = s.chip.fld F.FLT_LOG_PROD.PROD ∧
          c.fld F.FLT_LOG_PROD.PROD = s.chip.fld F.FLT_LOG_PROD.PROD ∧ c.lbx.ready = true) ∧
      (s.chip.owner? ≠ none ∨ s.chip.fld F.FLT_LOG_PROD.PROD = s.chip.fld F.FLT_LOG_CONS.CONS →
      let ws := s.chip.slotImage first
      let body := (flashBytes ws 0x1000 (flashWord ws 3)).map (BitVec.ofNat 8)
      After i s fun t => Effect s.chip s { t with mem := s.mem } [F.LBX_FW_STATUS.SLOT.is first,
          F.LBX_FW_STATUS.ACCEPTED.is (2 ^ first), F.LBX_FW_STATUS.SVN.is (imageSvn ws),
          F.LBX_FW_VERSION.VERSION.is (flashWord ws 1), F.LBX_STORE_STATUS.VALID.is 0, F.GLB_MODE.LAST_RESULT.is 2]
          [.pwr, .flt, .lbx, .parts] (countRegs ++ faultRegs) ∧
        t.mem.pantry = s.mem.pantry ∧ t.mem.attic = s.mem.attic ∧ Cells.getAll t.mem.fw 0 body.length = body ∧
        t.chip.coreUp = true ∧ t.chip.pwr = held ∧ t.chip.lbx = { s.chip.lbx with ready := true } ∧
        ∀ p < 32, (s.chip.part p).perst = false → (t.chip.part p).inReset = false))) ∧
  (∀ (s : State), s.chip.pwr.chipRst = true → s.chip.pwr.resetN = true → 
    Sets .resetNDeassert s [] [.pwr] [] (fun c => c.pwr = { s.chip.pwr with resetN := false }) ∧
    Sets .chipResetEnd s [] [.pwr] [] (fun c => c.pwr = { s.chip.pwr with chipRst := false }) ∧
    Sets .vddResetRelease s [] [.pwr] [] (fun c => c.pwr = { s.chip.pwr with vddLow := false }))

/-! ### The Hallway, the Cellar and the schedulers (spec/05_hallway_cellar.md, spec/08_notes_scheduling.md) -/

/-- Packets that enter the lookup (R20, R25, R120, R174, R188, R372, Tables 3.9 and 5.1). It rests on log entries 18,
19, 20, 21, 46, 48 and 49. -/
def Obligations.PacketsEnter : Prop :=
  (∀ (n : Fin 96) (p : Packet) (whole : Bool) (s : State), s.chip.coreUp = true → s.chip.isPcie n = true →
    s.chip.linkLive n = true →
    (Reaches (.packetIngress (.port n) p whole .flowControl) s fun c => c.fld F.PRT_VIOL_LAST.CODE n = 2 ∧
      c.fld F.PRT_VIOL_COUNT.COUNT n = s.chip.counted F.PRT_VIOL_COUNT.COUNT n ∧ c.fld F.PRT_LINK_STATUS.LTSSM n = 5 ∧
      c.cel = s.chip.cel) ∧
    (Reaches (.packetIngress (.port n) p whole .overflow) s fun c => c.fld F.PRT_VIOL_LAST.CODE n = 3 ∧
      c.fld F.PRT_VIOL_COUNT.COUNT n = s.chip.counted F.PRT_VIOL_COUNT.COUNT n ∧ c.cel = s.chip.cel)) ∧
  (∀ (n : Fin 96) (p : Packet) (whole : Bool) (rx : RxState) (s : State),
    s.chip.linkLive n = false ∨ s.chip.portEn n = false →
    exec (.packetIngress (.port n) p whole rx) s = .next s) ∧
  (∀ (n : Fin 96) (p : Packet) (whole : Bool) (s : State), s.chip.coreUp = true → s.chip.isPcie n = true →
    s.chip.linkLive n = true → s.chip.cel.capWaiting = [] → p.kind = .memWr → s.chip.rxViol? n p = none →
    s.chip.capRule? n p = none → s.chip.cardFlc? n p = none → s.chip.mcGroup? n p.addr = none →
    s.chip.fld F.SCH_FLOW_MAP.VALID n p.cls = 0 → s.chip.admitting = true →
    (s.chip.cel.copies.all fun k => k.dest != .mgmt) = true →
    ∀ q : Nat, s.chip.hierPart? n = some q → s.chip.partRefuses q = false → s.chip.segHit (some q) p = none →
    ∀ m < 96, s.chip.resolve (some q) (some n.val) p = .dests [.port m] →
    ∀ d : Dest, (s.chip.passes (s.chip.portLook n p { stamp := s.chip.ns, whole, rx := some s.chip.cel.nextId })
      (.port m)).1 = some d →
    Reaches (.packetIngress (.port n) p whole .accepted) s fun c => ∃ k ∈ c.cel.copies ++ c.cel.waiting,
      k.rx = some s.chip.cel.nextId ∧ k.dest = d ∧ k.pkt = { p with fab := none } ∧ k.src = .port n ∧ k.part = some q ∧
        k.stamp = s.chip.ns ∧ k.whole = whole ∧
        (k.charge = .guarantee → ⟨s.chip.cel.nextId, n, .posted, divUp p.data.length 16⟩ ∈ c.cel.owed) ∧
        ∀ e ∈ c.cel.owed, c.holdsCredits e.rx = true) ∧
  (∀ (e : Fin 1536) (w : Fin 64) (p : Packet) (s : State), s.chip.coreUp = true → p.kind = .memWr →
    ∀ j : Nat, s.chip.jobOf? e = some j → s.chip.windowOff j w = false → s.chip.fld F.ACD_DST_A.KIND (j / 32) w = 1 →
    s.chip.fld F.ACD_DST_A.METER_VALID (j / 32) w = 0 → s.chip.admitting = true → s.chip.engWaits e = false →
    (s.chip.eng e).out = [] →
    (s.chip.cel.copies.all fun k => k.dest != .mgmt) = true →
    let x := s.chip.engineLook e j w p
    (∀ q : Nat, x.part = some q → s.chip.partRefuses q = false) →
    let t := s.chip.fld F.ACD_DST_A.TILE (j / 32) w
    let pkt := { x.pkt with addr := p.addr % 2097152 }
    (s.chip.passes { x with pkt := pkt } (.pantry t)).1 = some (.pantry t) →
    Reaches (.packetIngress (.engine e w) p true .accepted) s fun c => ∃ k ∈ c.cel.copies ++ c.cel.waiting,
      k.id = s.chip.cel.nextId + 1 ∧ k.dest = .pantry t ∧ k.pkt.data = p.data ∧ k.pkt.addr = p.addr % 2097152 ∧
        k.src = .engine e ∧ k.pkt.cls = s.chip.fld F.ACD_DST_A.CLASS (j / 32) w) ∧
  (∀ (e : Fin 1536) (w : Fin 64) (p : Packet) (s : State), s.chip.coreUp = true → p.kind = .memWr →
    (s.chip.cel.copies.all fun k => k.dest != .mgmt) = true →
    ∀ j : Nat, s.chip.jobOf? e = some j → s.chip.windowOff j w = false →
    s.chip.engWaits e = true ∨ (s.chip.eng e).out ≠ [] →
    Sets (.packetIngress (.engine e w) p true .accepted) s [] [.acd] [] (fun c =>
      c.eng e = { s.chip.eng e with out := (s.chip.eng e).out ++ [{ job := j, win := w, pkt := some p }] } ∧
        ∀ k : Nat, k ≠ e → c.eng k = s.chip.eng k)) ∧
  (∀ (q : Fin 32) (p : Packet) (s : State), s.chip.coreUp = true → p.kind ≠ .cpl →
    s.chip.bme (.mgmt q) = false ∧ s.chip.partRefuses q = false ∨ (s.chip.part q).stalled ≠ [] →
    Sets (.packetIngress (.firmware (some q)) p true .accepted) s [] [.parts] [] (fun c =>
      (c.part q).stalled.map (·.pkt) =
        (s.chip.part q).stalled.map (·.pkt) ++ p.cut (s.chip.ownSize (some q.val) (p.kind == .memRd)) ∧
        ∀ r : Nat, r ≠ q → c.part r = s.chip.part r))

/-- Retries at step 8, deferred copies, and requests that wait for a table entry (R188 to R190, R264); ticks of the
shapers and of the meters (R288, R289, R293, R297). It rests on log entries 21, 22, 46, 48 and 49. -/
def Obligations.CellarRetriesAndTicks : Prop :=
  (∀ (s : State), s.chip.coreUp = true → s.chip.cel.waiting = [] → (∀ p < 33, (s.chip.part p).stalled = []) → s.chip.allSent →
    (s.chip.cel.copies.all fun k => k.dest != .mgmt) = true →
    ∀ k ∈ s.chip.cel.copies, s.chip.cel.copies.filter (fun k => k.charge == .guarantee || k.charge == .slots) = [k] →
    (∀ x ∈ s.chip.cel.copies, x.id = k.id → x = k) → k.segPosted = false →
    ({ s.chip with cel := { s.chip.cel with copies := s.chip.cel.copies.filter fun x => x.id != k.id } }).admits k = true →
    Sets .admissionRetry s [] [.cel, .outs] [] (fun c => c.cel = { s.chip.cel with
        copies := s.chip.cel.copies.map fun x => if x.id = k.id then { x with charge := .shared } else x,
        owed := c.cel.owed } ∧
      s.chip.repays c s.chip.outs)) ∧
  (∀ (s : State), s.chip.coreUp = true →
    (s.chip.cel.copies.all fun k => k.charge != .guarantee && k.charge != .slots && k.dest != .mgmt) = true →
    (∀ p < 33, (s.chip.part p).stalled = []) → s.chip.allSent → s.chip.cel.flcWaiting = [] →
    ∀ k : Copy, s.chip.cel.waiting.head? = some k → s.chip.cel.waiting.length = 1 → k.cat = .completion → k.deferred = false →
    k.dest ≠ .mgmt →
    (s.chip.descOk k = true → s.chip.admits k = true → k.charge = .shared → k.src = .device → k.dest ≠ .requester .firmware →
      k.isDisc = false → k.first = true → 0 < k.cells → k.at_ = [] →
      Sets .admissionRetry s [] [.cel, .free, .outs] countRegs (fun c => c.cel = { s.chip.cel with
          waiting := [], copies := s.chip.cel.copies ++ [{ k with at_ := s.chip.alloc k.cells }], owed := c.cel.owed } ∧
        s.chip.repays c s.chip.outs)) ∧
    (s.chip.descOk k = false → s.chip.cel.owed = [] → exec .admissionRetry s = .next s)) ∧
  (∀ (s : State), s.chip.cel.waiting = [] → s.chip.cel.owed = [] → (∀ p < 33, (s.chip.part p).stalled = []) → s.chip.allSent →
    (s.chip.cel.copies.all fun k => k.charge != .guarantee && k.charge != .slots && k.dest != .mgmt) = true →
    exec .admissionRetry s = .next s) ∧
  (∀ (s : State), s.chip.coreUp = true →
    ∀ k : Copy, (s.chip.cel.waiting.find? fun k => k.deferred && (k.whole || !s.chip.inParcels k) && s.chip.descOk k &&
      s.chip.admits k && !s.chip.passing k) = some k →
    k.cat = .completion ∨ (s.chip.gateAllows k.dest k.pkt k.st k.oRid k.part).1 = true →
    s.chip.account k ≠ .none → s.chip.account k ≠ .mgmt → k.first = false → 0 < k.cells → k.at_ = [] →
    Reaches .deferredCopyWrite s fun c => c.cel.waiting = s.chip.cel.waiting.filter (fun x => x.id != k.id) ∧
      c.cel.copies = s.chip.cel.copies ++
        [{ k with whole := true, charge := .shared, deferred := false, at_ := s.chip.alloc k.cells }] ∧
      s.chip.repays c s.chip.outs) ∧
  (∀ (s : State), (∀ k ∈ s.chip.cel.waiting, k.deferred = false) → s.chip.cel.owed = [] →
    exec .deferredCopyWrite s = .next s) ∧
  (∀ (s : State), s.chip.coreUp = true → s.chip.admitting = true → s.chip.allSent →
    (s.chip.cel.copies.all fun k => k.dest != .mgmt) = true →
    ∀ k : Copy, s.chip.cel.flcWaiting.head? = some k →
    (0 < s.chip.flcFree → (∀ q < 32, (s.chip.newTag? (some q)).isSome = true) → (s.chip.newTag? none).isSome = true →
      k.pkt.kind = .memRd →
      Reaches .reqTableRetry s fun c => c.cel.flcWaiting = s.chip.cel.flcWaiting.tail) ∧
    (s.chip.flcFree = 0 → s.chip.cel.owed = [] → exec .reqTableRetry s = .next s)) ∧
  (∀ (s : State), s.chip.cel.flcWaiting = [] → s.chip.cel.owed = [] → s.chip.allSent → (s.chip.cel.copies.all fun k => k.dest != .mgmt) = true →
    exec .reqTableRetry s = .next s) ∧
  (∀ (s : State), s.chip.coreUp = true →
    Sets .shaperTick s [] [.sched] [.SCH_Q_CREDIT] (fun c => ∀ n < 96, ∀ k < 8,
      c.credit n k = match (if s.chip.portEn n then s.chip.shaper? n k else none) with
        | some x => min ((s.chip.fld F.SCH_CTX_CBS.CBS x * 65536 : Nat) : Int)
            (s.chip.credit n k + ((s.chip.fld F.SCH_CTX_CIR.CIR x * 65536 / 1000 : Nat) : Int))
        | none => s.chip.credit n k)) ∧
  (∀ (s : State), s.chip.coreUp = true → s.chip.cel.meterHeld = [] → s.chip.allSent →
    Sets .tokenTick s [] [.sched] [] (fun c => ∀ x < 8192,
      c.tokens x = if s.chip.fld F.SCH_CTX_A.KIND x = 1 then
          (min (s.chip.fld F.SCH_CTX_CBS.CBS x * 65536) ((s.chip.tokens x).1 + s.chip.fld F.SCH_CTX_CIR.CIR x * 65536 / 1000),
            min (s.chip.fld F.SCH_CTX_PBS.PBS x * 65536) ((s.chip.tokens x).2 + s.chip.fld F.SCH_CTX_PIR.PIR x * 65536 / 1000))
        else s.chip.tokens x))

/-- Selections at an egress, and the sending of a copy (R176, R181, R192, R196 to R200, R281, R282, R289, Tables 5.6,
5.7 and 8.2). It rests on log entries 21, 22, 40, 46, 48 and 49. -/
def Obligations.EgressAndSending : Prop :=
  (∀ (n : Fin 96) (s : State), s.chip.coreUp = true → s.chip.isPcie n = true → s.chip.linkLive n = true → s.chip.judgedPorts = [] →
    ∀ k : Copy, s.chip.cel.copies.head? = some k → s.chip.cel.copies.length = 1 → k.dest = .port n → k.cat = .posted →
    k.whole = true → k.started = false → k.resend = false → k.pkt.cls < 8 → s.chip.aged k = false →
    (s.chip.sch n).switched = false → s.chip.gateOpen n k.pkt.cls = true →
    s.chip.gateFits n k.pkt.cls (s.chip.txTime n k.pkt.bytes) = true →
    (s.chip.note n k.pkt.cls = 2 →
      Sets (.egressSelection (.port n) [] []) s [] [.cel, .outs] countRegs (fun c => c.cel = { s.chip.cel with
        copies := [{ k with started := true, blocked := false }], owed := c.cel.owed } ∧ s.chip.repays c s.chip.outs) ∧
      Sets (.egressSelection (.port n) [] [k.id]) s [] [.cel, .sched, .outs] countRegs (fun c => c.cel = { s.chip.cel with
        copies := [{ k with blocked := true }], owed := c.cel.owed } ∧ s.chip.repays c s.chip.outs)) ∧
    (s.chip.note n k.pkt.cls = 1 → ∀ x : Nat, s.chip.shaper? n k.pkt.cls = some x →
      (0 ≤ s.chip.credit n k.pkt.cls →
        Reaches (.egressSelection (.port n) [] []) s fun c => c.cel.copies = [{ k with started := true, blocked := false }] ∧
          c.fld F.SCH_CTX_GREEN.COUNT x = s.chip.counted F.SCH_CTX_GREEN.COUNT x) ∧
      (s.chip.credit n k.pkt.cls < 0 →
        Reaches (.egressSelection (.port n) [] []) s fun c => c.cel.copies = [{ k with blocked := false }] ∧
          c.fld F.SCH_CTX_RED.COUNT x = s.chip.counted F.SCH_CTX_RED.COUNT x))) ∧
  (∀ (t : Fin 12) (s : State), s.chip.coreUp = true → s.chip.judgedPorts = [] → ∀ k : Copy, s.chip.cel.copies.head? = some k →
    s.chip.cel.copies.length = 1 → k.dest = .pantry t → k.pkt.kind = .memWr → k.pkt.lanes = [] → k.pkt.cls < 8 →
    k.whole = true → k.started = false → s.chip.aged k = false → k.pkt.addr + k.pkt.data.length ≤ 2097152 →
    (∀ j < 32, s.chip.fld F.ACD_JOB_DB.VALID t j = 0) → 
    Stores (.egressSelection (.pantry t) [] []) s (pantryAddr t k.pkt.addr) k.pkt.data.length [] [.cel, .sched, .outs] countRegs
      (fun u => u.chip.cel.copies = [] ∧ u.mem.pantryRead t k.pkt.addr k.pkt.data.length = k.pkt.data)) ∧
  (∀ (id : Nat) (how : Ending) (s : State), s.chip.coreUp = true →
    ∀ k : Copy, (s.chip.cel.copies.find? fun k => k.id == id) = some k → ∀ n < 96, k.dest = .port n → s.chip.isFleren n = false →
    let rest := s.chip.cel.copies.filter fun x => x.id != id
    (how = .good → k.started = true → k.resend = false → k.whole = true ∨ s.chip.inParcels k = false →
      Sets (.copySent id how) s [] [.cel, .sched, .outs] countRegs (fun c =>
        c.cel = { s.chip.cel with copies := rest, owed := c.cel.owed } ∧
          s.chip.repays c ((k.onWire.map (.tlp n)).reverse ++ s.chip.outs))) ∧
    (how = .underrun → k.started = true → k.resend = false → k.whole = false →
      Sets (.copySent id how) s [F.HWY_UNDERRUN.COUNT.is (s.chip.counted F.HWY_UNDERRUN.COUNT)] [.cel, .outs] countRegs
        (fun c => c.cel.copies = s.chip.cel.copies.map (fun x => if x.id = id then { x with resend := true } else x) ∧
          s.chip.repays c (.nullified n k.pkt :: s.chip.outs))) ∧
    (how = .bad → k.started = true → k.resend = false → k.whole = false → s.chip.inParcels k = false → s.chip.flt.track = [] →
      s.chip.cel.waiting = [] → (∀ x ∈ s.chip.cel.copies, x.pid = k.pid → x = k) →
      Sets (.copySent id how) s [F.HWY_TAIL_MARK.COUNT.is (s.chip.counted F.HWY_TAIL_MARK.COUNT)] [.cel, .sched, .outs]
        countRegs (fun c => c.cel.copies = rest ∧ s.chip.repays c (.nullified n k.pkt :: s.chip.outs))) ∧
    (how = .good ∨ how = .bad ∨ how = .malformed → k.whole = false → s.chip.inParcels k = true → s.chip.cel.owed = [] →
      exec (.copySent id how) s = .next s) ∧
    (how = .malformed → k.whole = false → s.chip.inParcels k = false → s.chip.flt.track = [] → ∀ i < 96, k.src = .port i →
      s.chip.isPcie i = true →
      Reaches (.copySent id how) s fun c => (∀ x ∈ c.cel.copies, x.pid = k.pid → x.whole = true) ∧
        c.fld F.PRT_VIOL_LAST.CODE i = 1 ∧ c.fld F.PRT_VIOL_COUNT.COUNT i = s.chip.counted F.PRT_VIOL_COUNT.COUNT i)) ∧
  (∀ (id : Nat) (how : Ending) (s : State), (∀ k ∈ s.chip.cel.copies, k.id ≠ id) →
    exec (.copySent id how) s = .next s ∧ exec (.underrunResend id) s = .next s) ∧
  (∀ (id : Nat) (s : State), s.chip.coreUp = true →
    ∀ k : Copy, (s.chip.cel.copies.find? fun k => k.id == id && k.resend) = some k → ∀ n < 96, k.dest = .port n →
    let whole := k.held = false ∧ (k.whole = true ∨ s.chip.inParcels k = false)
    (whole → s.chip.sending n = false → s.chip.gateOpen n k.pkt.cls = true →
      Sets (.underrunResend id) s [] [.cel] [] (fun c => c.cel = { s.chip.cel with
        copies := s.chip.cel.copies.map fun x => if x.id = id then { x with resend := false, whole := true } else x })) ∧
    (¬ whole ∨ s.chip.sending n = true ∨ s.chip.gateOpen n k.pkt.cls = false → exec (.underrunResend id) s = .next s)) ∧
  (∀ (s : State), s.chip.coreUp = true → s.chip.cel.waiting = [] →
    ∀ k : Copy, s.chip.cel.copies.head? = some k → s.chip.cel.copies.length = 1 → ∀ n < 96, k.dest = .port n →
    s.chip.aged k = true →
    (k.cat = .posted → Sets .ageSweep s [F.CEL_AGED_P.COUNT.is (s.chip.counted F.CEL_AGED_P.COUNT)] [.cel, .flt]
      (countRegs ++ faultRegs) (fun c => c.cel.copies = [])) ∧
    (k.cat = .completion → Sets .ageSweep s [F.CEL_AGED_CPL.COUNT.is (s.chip.counted F.CEL_AGED_CPL.COUNT)] [.cel, .flt]
      (countRegs ++ faultRegs) (fun c => c.cel.copies = [])) ∧
    (k.cat = .nonPosted → k.src = .firmware → k.flc = none → s.chip.takesBack 0 →
      Reaches .ageSweep s fun c => c.cel.copies = [] ∧ c.fld F.CEL_AGED_NP.COUNT = s.chip.counted F.CEL_AGED_NP.COUNT ∧
        ∃ o ∈ s.chip.newOuts c, ∃ p ∈ o.deliveredTo .firmware, p.kind = .cpl ∧ p.status = .ca ∧ p.tag = k.oTag)) ∧
  (∀ (s : State), (∀ k ∈ s.chip.cel.copies, s.chip.aged k = false) → exec .ageSweep s = .next s) ∧
  (∀ (cell : Fin 393216) (corr : List (Fin 393216)) (s : State), s.chip.coreUp = true →
    let corrected := min (s.chip.fld F.CEL_ECC_CORR.COUNT + corr.length) F.CEL_ECC_CORR.COUNT.max
    (Sets (.cellEccUncorrectable none corr) s [F.CEL_ECC_CORR.COUNT.is corrected] [.flt] (countRegs ++ faultRegs)
      (fun c => s.chip.flt = {} → ∀ x ∈ corr.head?, c.raised 0x180 0x1C (fun h => h = x))) ∧
    ((∀ k ∈ s.chip.cel.copies ++ s.chip.cel.waiting ++ s.chip.cel.flcWaiting ++ s.chip.cel.capWaiting.map (·.2),
        cell.val ∉ s.chip.cellsAt k) →
      Sets (.cellEccUncorrectable (some cell) corr) s [F.CEL_ECC_UNCORR.COUNT.is (s.chip.counted F.CEL_ECC_UNCORR.COUNT),
        F.CEL_ECC_CORR.COUNT.is corrected, Reg.CEL_ECC_ADDR.is (word (2 ^ 31 + cell.val))] [.flt, .cel, .outs]
        (countRegs ++ faultRegs) (fun c => c.raised 0x180 0x0B (fun h => h = cell) ∧
          c.cel = { s.chip.cel with owed := c.cel.owed } ∧ s.chip.repays c s.chip.outs)) ∧
    ∀ k ∈ s.chip.cel.copies, cell.val ∈ s.chip.cellsAt k → (∀ x ∈ s.chip.cel.copies, x.id ≠ k.id → cell.val ∉ s.chip.cellsAt x) →
      (∀ x ∈ s.chip.cel.copies, x.id = k.id → x = k) → k.started = false → k.cat = .posted → s.chip.cel.waiting = [] →
      s.chip.cel.flcWaiting = [] → s.chip.cel.capWaiting = [] →
      Reaches (.cellEccUncorrectable (some cell) corr) s fun c =>
        c.fld F.CEL_ECC_UNCORR.COUNT = s.chip.counted F.CEL_ECC_UNCORR.COUNT ∧ c.fld F.CEL_ECC_CORR.COUNT = corrected ∧
        c.fld F.CEL_AGED_P.COUNT ≥ s.chip.counted F.CEL_AGED_P.COUNT ∧
        c.cel.copies = s.chip.cel.copies.filter (fun x => x.id != k.id))

/-! ### The Letterboxes, ownership and firmware (spec/15_letterbox_firmware.md) -/

/-- The windows of the Letterboxes and the SMBus target (R4, R492 to R498, Tables 15.2 and 15.3). It rests on log
entry 33. -/
def Obligations.LetterboxWindows : Prop :=
  (∀ (n : Fin 34) (be : Fin 16) (v : Word) (s : State), s.chip.coreUp = true → s.chip.boxExists n = true →
    (be.val = 15 → s.chip.fld F.LBX_STATUS.BUSY n = 0 → (s.chip.box n).req.length < 16 →
      Sets (.lbxReqWrite n be v) s [] [.lbx] [] (fun c => c.lbx = { s.chip.lbx with
        boxes := s.chip.lbx.boxes.set default n { s.chip.box n with req := (s.chip.box n).req ++ [v] } })) ∧
    (be.val = 15 → s.chip.fld F.LBX_STATUS.BUSY n = 1 ∨ 16 ≤ (s.chip.box n).req.length →
      Sets (.lbxReqWrite n be v) s [F.LBX_STATUS.OVERFLOW.is 1 n, F.LBX_DROP.COUNT.is (s.chip.counted F.LBX_DROP.COUNT)]) ∧
    (be.val ≠ 15 → Sets (.lbxReqWrite n be v) s [F.GLB_CLAMP_SEEN.DROPPED.is (s.chip.counted F.GLB_CLAMP_SEEN.DROPPED)]) ∧
    (s.chip.fld F.LBX_STATUS.BUSY n = 1 →
      Sets (.ring n) s [F.LBX_DROP.COUNT.is (s.chip.counted F.LBX_DROP.COUNT)]) ∧
    (s.chip.fld F.LBX_STATUS.BUSY n = 0 → s.chip.fld F.PWR_STATUS.STATE ≠ 2 →
      let ws := (s.chip.box n).req
      let recovery := s.chip.flag F.LBX_FW_STATUS.RECOVERY
      let started (todo : Bool) (r : Option (Nat × List Word)) : LbxH := { s.chip.lbx with
        boxes := s.chip.lbx.boxes.set default n { req := [], rsp := [], cmd := ws, todo, result := r }
        smbAlert := if n.val = 32 ∧ s.chip.fld F.LBX_STATUS.DONE n = 1 then false else s.chip.lbx.smbAlert }
      (∀ k : Nat, ringCode? recovery ws = some k →
        Sets (.ring n) s [F.LBX_STATUS.BUSY.is 1 n, F.LBX_STATUS.DONE.is 0 n] [.lbx] []
          (fun c => c.lbx = started false (some (k, [])))) ∧
      (ringCode? recovery ws = none → Sets (.ring n) s [F.LBX_STATUS.BUSY.is 1 n, F.LBX_STATUS.DONE.is 0 n] [.lbx] []
        (fun c => c.lbx = { started true none with order := s.chip.lbx.order.filter (· != n.val) ++ [n.val] }))) ∧
    (s.chip.fld F.LBX_STATUS.BUSY n = 0 → s.chip.fld F.PWR_STATUS.STATE = 2 →
      Reaches (.ring n) s fun c => c.fld F.LBX_STATUS.BUSY n = 1 ∧ c.pwr.mgmtAwake = true ∧
        c.fld F.PWR_STATUS.STATE = 2 ∧ c.reg .PWR_WAKE_LAST = s.chip.reg .PWR_WAKE_LAST) ∧
    (∀ w : Word, (s.chip.box n).rsp.head? = some w →
      (be.val = 15 → Sets (.lbxRspRead n be) s [] [.lbx, .answer] [] (fun c => c.answer = [w] ∧ c.lbx = { s.chip.lbx with
        boxes := s.chip.lbx.boxes.set default n { s.chip.box n with rsp := (s.chip.box n).rsp.tail } })) ∧
      (be.val ≠ 15 → Sets (.lbxRspRead n be) s [] [.answer])) ∧
    (be.val = 15 → (s.chip.box n).rsp = [] →
      Sets (.lbxRspRead n be) s [F.LBX_STATUS.UNDERRUN.is 1 n] [.answer] [] (fun c => c.answer = [0]))) ∧
  (∀ (n : Fin 34) (be : Fin 16) (v : Word) (s : State), s.chip.boxExists n = false →
    exec (.lbxReqWrite n be v) s = .next s ∧ exec (.ring n) s = .next s) ∧
  (∀ recovery : Bool, ringCode? recovery [] = some 0x8003 ∧
    ∀ (h : Word) (ws : List Word), (ws.length ≠ wget h 23 20 → ringCode? recovery (h :: ws) = some 0x8003) ∧
      (ws.length = wget h 23 20 → wget h 31 24 ∉ [0x01, 0x41, 0x42, 0x43] →
        ringCode? true (h :: ws) = some 0x8014)) ∧
  (∀ (n : Fin 34) (s : State), s.chip.coreUp = true → n.val ∉ s.chip.lbx.modeSet → s.chip.fwRuns n = true →
    ∀ r : Nat × List Word, (s.chip.box n).result = some r →
    let head := (s.chip.box n).cmd.headD 0
    let done := [Reg.LBX_ACK.is (word (wget head 15 0 * 65536 + r.1)) n, F.LBX_STATUS.DONE.is 1 n, F.LBX_STATUS.BUSY.is 0 n,
      F.LBX_STATUS.MASTER_OFF.is 0 n]
    let reply := if r.1 = 0x8003 then [] else word (wget head 31 24 * 2 ^ 24 + r.2.length * 2 ^ 20 + wget head 15 0) :: r.2
    let lbx (alert : Bool) : LbxH := { s.chip.lbx with smbAlert := alert
                                                       boxes := s.chip.lbx.boxes.set default n { s.chip.box n with
                                                         rsp := reply, cmd := [], todo := false, result := none } }
    (s.chip.fld F.LBX_CTL.IRQ_EN n = 0 ∨ n.val = 33 → Sets (.commandAck n) s done [.lbx] []
      (fun c => c.lbx = lbx s.chip.lbx.smbAlert)) ∧
    (s.chip.fld F.LBX_CTL.IRQ_EN n = 1 → n.val = 32 → Sets (.commandAck n) s done [.lbx] [] (fun c => c.lbx = lbx true)) ∧
    (s.chip.fld F.LBX_CTL.IRQ_EN n = 1 → n.val < 32 → s.chip.cfgBit (.mgmt n) 0x50 31 = true →
      s.chip.cfgBit (.mgmt n) 0x50 30 = false →
      s.chip.cfgBit (.mgmt n) (0x1000 + 16 * s.chip.fld F.LBX_CTL.VEC n + 12) 0 = false →
      ((∀ u < 96, s.chip.upPort? n = some u → s.chip.bme (.port u) = true) →
        Sets (.commandAck n) s done [.lbx, .outs] [] (fun c => c.lbx = lbx s.chip.lbx.smbAlert ∧
          c.outs = .msixMgmt n (s.chip.fld F.LBX_CTL.VEC n) :: s.chip.outs)) ∧
      ∀ u < 96, s.chip.upPort? n = some u → s.chip.bme (.port u) = false →
        Sets (.commandAck n) s done [.lbx, .cfg, .outs] [] (fun c => c.lbx = lbx s.chip.lbx.smbAlert ∧
          c.cfgBit (.port u) 0x104 20 = true ∧ ∀ o ∈ s.chip.newOuts c, o ≠ .msixMgmt n (s.chip.fld F.LBX_CTL.VEC n)))) ∧
  (∀ (n : Fin 34) (s : State), s.chip.coreUp = true → n.val ∈ s.chip.lbx.modeSet → s.chip.fld F.GLB_MODE.BUSY = 0 →
    s.chip.fwRuns n = true → s.chip.fld F.LBX_CTL.IRQ_EN n = 0 →
    Reaches (.commandAck n) s fun c => c.fld F.LBX_STATUS.DONE n = 1 ∧ c.fld F.LBX_STATUS.BUSY n = 0 ∧
      wget (c.reg .LBX_ACK n) 15 0 = s.chip.fld F.GLB_MODE.LAST_RESULT ∧ (c.box n).rsp.tail = [s.chip.reg .GLB_MODE]) ∧
  (∀ (n : Fin 34) (s : State), (s.chip.box n).result = none →
    n.val ∉ s.chip.lbx.modeSet ∨ s.chip.fld F.GLB_MODE.BUSY = 1 → exec (.commandAck n) s = .next s) ∧
  (∀ (ws : List Word) (b : Byte) (v : Word) (s : State), s.chip.coreUp = true →
    ∀ i ∈ [Instr.smbBlockWriteReq ws false, .smbRing b false, .smbWriteCtl v false],
    Sets i s [F.LBX_DROP.COUNT.is (s.chip.counted F.LBX_DROP.COUNT)] [.flt, .free] (countRegs ++ faultRegs)
      (fun c => c.raised 0x1D6 0x2F (fun h => h < 256))) ∧
  (∀ (ws : List Word) (s : State), s.chip.coreUp = true → 1 ≤ ws.length → ws.length + (s.chip.box 32).req.length ≤ 16 →
    s.chip.fld F.LBX_STATUS.BUSY 32 = 0 →
    Sets (.smbBlockWriteReq ws true) s [] [.lbx] [] (fun c => c.box 32 = { s.chip.box 32 with
      req := (s.chip.box 32).req ++ ws })) ∧
  (∀ (b : Byte) (s : State), s.chip.coreUp = true →
    (b = 1 → s.chip.fld F.LBX_STATUS.BUSY 32 = 0 → s.chip.fld F.PWR_STATUS.STATE ≠ 2 →
      Sets (.smbRing b true) s [F.LBX_STATUS.BUSY.is 1 32, F.LBX_STATUS.DONE.is 0 32] [.lbx] []
        (fun c => (c.box 32).cmd = (s.chip.box 32).req ∧ (c.box 32).req = [] ∧ (c.box 32).rsp = [])) ∧
    (b ≠ 1 → exec (.smbRing b true) s = .next s)) ∧
  (∀ (s : State), s.chip.coreUp = true →
    Sets .smbReadRsp s [] [.lbx, .answer, .outs] [] (fun c => c.answer = (s.chip.box 32).rsp ∧
      c.outs = .smbus (s.chip.box 32).rsp :: s.chip.outs ∧ c.box 32 = { s.chip.box 32 with rsp := [] }) ∧
    Sets .smbReadAck s [] [.answer, .outs] [] (fun c => c.answer = [s.chip.reg .LBX_ACK 32] ∧
      c.outs = .smbus [s.chip.reg .LBX_ACK 32] :: s.chip.outs)) ∧
  (∀ (s : State), s.chip.coreUp = true →
    Sets .smbReadStatus s [] [.answer, .outs] [] (fun c => ∃ w ∈ c.answer, c.outs = .smbus [w] :: s.chip.outs ∧
      bit w.toNat 31 = s.chip.fwReady 32 ∧ wget w 30 26 = wget (s.chip.reg .LBX_STATUS 32) 30 26 ∧
      bit w.toNat 25 = (s.chip.owner? == some 32) ∧
      ((s.chip.box 32).req.length ≤ 16 → (s.chip.box 32).rsp.length ≤ 16 → wget w 12 8 = (s.chip.box 32).req.length))) ∧
  (∀ (v : Word) (s : State), s.chip.coreUp = true →
    Sets (.smbWriteCtl v true) s [Reg.LBX_CTL.is (v &&& 0xC000003F) 32]) ∧
  (∀ (s : State), s.chip.coreUp = true →
    (s.chip.lbx.smbAlert = true → Sets .smbAlertResponse s [] [.lbx, .answer, .outs] [] (fun c =>
      c.lbx = { s.chip.lbx with smbAlert := false } ∧ c.answer = [word (2 * s.chip.fld F.LBX_SMB_CFG.ADDR)])) ∧
    (s.chip.lbx.smbAlert = false → exec .smbAlertResponse s = .next s))

/-- Claims, elections, leases, handovers and expert unlock, by the commands 0x01 to 0x09 and by their timers (R500,
R506 to R513, Tables 15.5 and 15.6). The nonce of EXPERT_REQ is a free value (log entry 33). It rests on log entries 3
and 33. -/
def Obligations.Ownership : Prop :=
  (∀ (n : Fin 34) (s : State), s.serves n 0x01 = true → Answers (.ident n) s n 0
    [s.chip.replyReg .GLB_ID, s.chip.replyReg .LBX_FW_VERSION, word (n.val + s.chip.fld F.LBX_OWNER.OWNER * 256)]) ∧
  (∀ (n : Fin 34) (s : State), s.serves n 0x02 = true → n.val = 33 → Answers (.claim n) s n 0x8005 []) ∧
  (∀ (n : Fin 34) (s : State), s.serves n 0x02 = true → n.val ≠ 33 → s.chip.owner? ≠ none →
    Answers (.claim n) s n 0x800A [word (s.chip.fld F.LBX_OWNER.OWNER)]) ∧
  (∀ (n : Fin 34) (s : State), s.chip.owner? ≠ some n.val →
    (s.serves n 0x03 = true → Answers (.renew n) s n 0x8005 []) ∧
    (s.serves n 0x04 = true → Answers (.ownerRelease n) s n 0x8005 []) ∧
    (s.serves n 0x05 = true → Answers (.handover n) s n 0x8005 [])) ∧
  (∀ (n : Fin 34) (s : State), s.chip.owner? ≠ some n.val →
    (s.serves n 0x07 = true → Answers (.expertReq n) s n 0x8005 []) ∧
    (s.serves n 0x08 = true → Answers (.expertUnlock n) s n 0x8005 []) ∧
    (s.serves n 0x09 = true → Answers (.expertLock n) s n 0x8005 [])) ∧
  (∀ (n : Fin 34) (s : State), s.chip.owner? = some n.val → s.serves n 0x03 = true →
    Answers (.renew n) s n 0 [] [] [] [] (fun h => { h with renewed := true })) ∧
  (∀ (n : Fin 34) (s : State), s.chip.owner? = some n.val → s.serves n 0x05 = true →
    let t := s.chip.lbxArg n 0 % 64
    let good := t ≠ n.val ∧ (t = 32 ∨ t < 32 ∧ s.chip.upPort? t ≠ none)
    (good → Sets (.handover n) s [F.LBX_OWNER.HO_PEND.is 1, F.LBX_OWNER.HO_TARGET.is t] [.lbx] countRegs (fun c =>
      c.lbx.hoFrom = some n.val ∧ (c.box n).todo = false)) ∧
    (¬ good → Answers (.handover n) s n 0x8004 [])) ∧
  (∀ (n : Fin 34) (s : State), s.chip.owner? = some n.val → s.serves n 0x07 = true →
    Sets (.expertReq n) s [] [.lbx, .free] countRegs (fun c => ∃ w ∈ c.lbx.nonce, w ≠ 0 ∧
      (c.box n).result = some (0, [w]))) ∧
  (∀ (n : Fin 34) (s : State), s.chip.owner? = some n.val → s.serves n 0x08 = true →
    (s.chip.fld F.GAT_LIFECYCLE.STATE = 0 ∨ bit s.chip.lbx.expertMask n = true) → s.chip.lbx.nonce = some (word (s.chip.lbxArg n 0)) →
    Answers (.expertUnlock n) s n 0 [] [F.LBX_OWNER.EXPERT.is 1] [] [] (fun h => { h with nonce := none })) ∧
  (∀ (n : Fin 34) (s : State), s.chip.owner? = some n.val → s.serves n 0x08 = true →
    (s.chip.fld F.GAT_LIFECYCLE.STATE = 0 ∨ bit s.chip.lbx.expertMask n = true) → ¬ s.chip.lbx.nonce = some (word (s.chip.lbxArg n 0)) →
    Answers (.expertUnlock n) s n 0x8004 [] [] [] [] (fun h => { h with nonce := none })) ∧
  (∀ (n : Fin 34) (s : State), s.chip.owner? = some n.val → s.serves n 0x08 = true →
    ¬ (s.chip.fld F.GAT_LIFECYCLE.STATE = 0 ∨ bit s.chip.lbx.expertMask n = true) → Answers (.expertUnlock n) s n 0x800E [] [] [] [] (fun h => { h with nonce := none })) ∧
  (∀ (n : Fin 34) (s : State), s.chip.owner? = some n.val → s.serves n 0x09 = true →
    Answers (.expertLock n) s n 0 [] [F.LBX_OWNER.EXPERT.is 0]) ∧
  (∀ (n : Fin 34) (s : State), s.serves n 0x06 = true → s.chip.fld F.LBX_OWNER.HO_PEND = 1 →
    s.chip.fld F.LBX_OWNER.HO_TARGET = n →
    Reaches (.take n) s fun c => c.owner? = some n.val ∧ c.fld F.LBX_OWNER.EXPERT = 0 ∧ c.fld F.LBX_OWNER.MISSED = 0 ∧
      c.fld F.LBX_OWNER.HO_PEND = 0 ∧ c.fld F.LBX_FW_STATUS.SESSION = 0 ∧ c.lbx.hoFrom = none ∧
      c.raised 0x1D8 0x24 (fun h => h = n.val) ∧ (c.box n).result = some (0, []) ∧
      ∀ m : Nat, s.chip.lbx.hoFrom = some m → (c.box m).result = some (0, [])) ∧
  (∀ (n : Fin 34) (s : State), s.serves n 0x06 = true →
    s.chip.fld F.LBX_OWNER.HO_PEND = 0 ∨ s.chip.fld F.LBX_OWNER.HO_TARGET ≠ n → Answers (.take n) s n 0x800D []) ∧
  (∀ (s : State), s.chip.coreUp = true → s.chip.fld F.LBX_OWNER.ELECTING = 1 →
    ∀ w ∈ s.chip.lbx.cands, w.1 < 34 → (∀ x ∈ s.chip.lbx.cands, x = w ∨ w.2 < x.2 ∨ w.2 = x.2 ∧ w.1 < x.1) →
    Reaches .electionClose s fun c => c.owner? = some w.1 ∧ c.fld F.LBX_OWNER.ELECTING = 0 ∧ c.lbx.cands = [] ∧
      c.fld F.LBX_OWNER.EXPERT = 0 ∧ c.raised 0x1D8 0x24 (fun h => h = w.1) ∧
      ∀ x ∈ s.chip.lbx.cands, (c.box x.1).result =
        if s.chip.claiming x.1 then some (if x.1 = w.1 then 0 else 0x800B, [word w.1]) else (s.chip.box x.1).result) ∧
  (∀ (s : State), s.chip.coreUp = true → s.chip.fld F.LBX_OWNER.ELECTING = 1 → s.chip.lbx.cands = [] →
    Sets .electionClose s [F.LBX_OWNER.ELECTING.is 0]) ∧
  (∀ (s : State), s.chip.fld F.LBX_OWNER.ELECTING = 0 → exec .electionClose s = .next s) ∧
  (∀ (s : State), s.chip.coreUp = true → s.chip.owner? ≠ none → s.chip.lbx.renewed = true →
    Sets .leasePeriodEnd s [F.LBX_OWNER.MISSED.is 0] [.lbx] []
      (fun c => c.lbx = { s.chip.lbx with renewed := false })) ∧
  (∀ (s : State), s.chip.coreUp = true → s.chip.owner? ≠ none → s.chip.lbx.renewed = false →
    s.chip.fld F.LBX_OWNER.MISSED < 2 →
    Sets .leasePeriodEnd s [F.LBX_OWNER.MISSED.is (s.chip.fld F.LBX_OWNER.MISSED + 1)]) ∧
  (∀ (s : State), s.chip.owner? = none → exec .leasePeriodEnd s = .next s) ∧
  (∀ (s : State), s.chip.coreUp = true → s.chip.fld F.LBX_OWNER.HO_PEND = 1 →
    Sets .handoverTimeout s [F.LBX_OWNER.HO_PEND.is 0, F.LBX_OWNER.HO_TARGET.is 0] [.lbx] [] (fun c => c.lbx.hoFrom = none ∧
      ∀ m : Nat, s.chip.lbx.hoFrom = some m → (c.box m).result = some (0x800C, []))) ∧
  (∀ (s : State), s.chip.fld F.LBX_OWNER.HO_PEND = 0 → exec .handoverTimeout s = .next s) ∧
  (∀ (s : State), s.chip.coreUp = true →
    Sets .nonceExpiry s [] [.lbx] [] (fun c => c.lbx = { s.chip.lbx with nonce := none })) ∧
  (∀ (n : Fin 34) (s : State), s.chip.owner? = some n.val → s.serves n 0x04 = true →
    Reaches (.ownerRelease n) s fun c => c.fld F.LBX_OWNER.MISSED = 0 ∧ c.fld F.LBX_FW_STATUS.SESSION = 0 ∧ c.lbx.nonce = none ∧
      (s.chip.safe = false → c.fld F.FLT_LOG_CONS.CONS = s.chip.fld F.FLT_LOG_PROD.PROD)) ∧
  (∀ (s : State), s.chip.coreUp = true → s.chip.owner? ≠ none → s.chip.lbx.renewed = false →
    2 ≤ s.chip.fld F.LBX_OWNER.MISSED →
    Reaches .leasePeriodEnd s fun c => c.fld F.LBX_OWNER.MISSED = 0 ∧ c.fld F.LBX_FW_STATUS.SESSION = 0 ∧ c.lbx.nonce = none ∧
      (s.chip.safe = false → c.fld F.FLT_LOG_CONS.CONS = s.chip.fld F.FLT_LOG_PROD.PROD))

/-- The end of ownership (R509): by RELEASE, at the end of the third period missed, and at the resets of the Owner's
partition that R508 names. The next CLAIM opens an election. -/
def Obligations.OwnershipEnds : Prop :=
  (∀ (n : Fin 34) (s : State), s.chip.owner? = some n.val → s.serves n 0x04 = true →
    Reaches (.ownerRelease n) s fun c => c.ownerless ∧ (c.box n).result = some (0, [])) ∧
  (∀ (s : State), s.chip.coreUp = true → s.chip.owner? ≠ none → s.chip.lbx.renewed = false →
    2 ≤ s.chip.fld F.LBX_OWNER.MISSED → Reaches .leasePeriodEnd s Chip.ownerless) ∧
  (∀ (p : Fin 32) (s : State), s.chip.coreUp = true → s.chip.owner? = some p.val →
    Reaches (.flr p) s Chip.ownerless ∧ (s.chip.perstWaits = false → Reaches (.perstAssert p) s Chip.ownerless)) ∧
  (∀ (n : Fin 96) (s : State), s.chip.coreUp = true → s.chip.isPcie n = true → s.chip.role n = 1 →
    s.chip.owner? = some (s.chip.portPart n) → s.chip.fld F.PRT_LINK_STATUS.DL_ACTIVE n = 1 →
    s.chip.safe = false → (s.chip.part (s.chip.portPart n)).inReset = false →
    Reaches (.hotResetReceived n false) s Chip.ownerless) ∧
  (∀ (n : Fin 34) (s : State), s.serves n 0x02 = true → n.val ≠ 33 → s.chip.owner? = none →
    Sets (.claim n) s [F.LBX_OWNER.ELECTING.is 1] [.lbx] countRegs (fun c =>
      (n.val, s.chip.lbxArg n 0 % 256) ∈ c.lbx.cands ∧ (c.box n).todo = false ∧ (c.box n).result = (s.chip.box n).result))

/-- The commands 0x10 to 0x25: modes, registers, ports, Flacons, fuses, chassis time, the segment and discovery (R31,
R43, R315, R426, R499 to R503, Table 15.5). What a command does to registers it does as writes of Ecseric. It rests on
log entries 33, 34 and 49. -/
def Obligations.LetterboxCommands : Prop :=
  (∀ (n : Fin 34) (s : State), s.serves n 0x11 = true → Answers (.modeGet n) s n 0 [s.chip.reg .GLB_MODE]) ∧
  (∀ (n : Fin 34) (s : State), s.serves n 0x12 = true →
    let off := s.chip.lbxArg n 0
    let q := s.taken.busRead (boxAccess n) off
    (off % 4 ≠ 0 ∨ 2 ^ 28 ≤ off → Answers (.regRead n) s n 0x8004 []) ∧
    (off % 4 = 0 → off < 2 ^ 28 → After (.regRead n) s fun t => t.mem = q.2.mem ∧
      t.chip = q.2.chip.boxResult n (if q.1.deny = none then 0 else 0x8009) [(q.1.deny.map word).getD q.1.data])) ∧
  (∀ (n : Fin 34) (s : State), s.mayOwn n = false →
    (s.serves n 0x10 = true → Answers (.modeSet n) s n 0x8005 []) ∧
    (s.serves n 0x13 = true → Answers (.regWrite n) s n 0x8005 []) ∧
    (s.serves n 0x20 = true → Answers (.portSet n) s n 0x8005 []) ∧
    (s.serves n 0x21 = true → Answers (.flacon n) s n 0x8005 [])) ∧
  (∀ (n : Fin 34) (s : State), s.mayOwn n = false →
    (s.serves n 0x22 = true → Answers (.fuse n) s n 0x8005 []) ∧
    (s.serves n 0x23 = true → Answers (.timeAdj n) s n 0x8005 []) ∧
    (s.serves n 0x24 = true → ∀ r : Option Word, Answers (.lpbConfig n r) s n 0x8005 []) ∧
    (s.serves n 0x25 = true → ∀ x : DiscoverStep, Answers (.discover n x) s n 0x8005 [])) ∧
  (∀ (n : Fin 34) (s : State), s.serves n 0x13 = true → s.mayOwn n = true →
    let off := s.chip.lbxArg n 0
    let q := s.taken.busWrite (boxAccess n) off (word (s.chip.lbxArg n 1))
    (off % 4 ≠ 0 ∨ 2 ^ 28 ≤ off → Answers (.regWrite n) s n 0x8004 []) ∧
    (off % 4 = 0 → off < 2 ^ 28 → After (.regWrite n) s fun t => t.mem = q.2.mem ∧
      t.chip = q.2.chip.boxResult n (if q.1.deny = none then 0 else 0x8009) [(q.1.deny.map word).getD (q.2.peek off)])) ∧
  (∀ (n : Fin 34) (s : State), s.serves n 0x10 = true → s.mayOwn n = true →
    let q := s.taken.fwWrites [(⟨.GLB_MODE, 0, 0⟩, word (s.chip.lbxArg n 0 % 16 * 16))]
    (s.chip.fld F.GLB_MODE.BUSY = 1 →
      Answers (.modeSet n) s n 0x8001 [] [F.GLB_CLAMP_SEEN.COUNT.is (s.chip.counted F.GLB_CLAMP_SEEN.COUNT)]) ∧
    (s.chip.fld F.GLB_MODE.BUSY = 0 → q.1 = none → Reaches (.modeSet n) s fun c =>
      (q.2.chip.fld F.GLB_MODE.BUSY = 0 →
        c = q.2.chip.boxResult n (q.2.chip.fld F.GLB_MODE.LAST_RESULT) [q.2.chip.reg .GLB_MODE]) ∧
      (q.2.chip.fld F.GLB_MODE.BUSY = 1 → c.regs = q.2.chip.regs ∧ n.val ∈ c.lbx.modeSet ∧ (c.box n).todo = false ∧
        (c.box n).result = (s.chip.box n).result))) ∧
  (∀ (n : Fin 34) (s : State), s.serves n 0x20 = true → s.mayOwn n = true →
    let p := s.chip.lbxArg n 0
    let v (i : Nat) : Word := word (s.chip.lbxArg n i)
    let config := s.chip.fld F.GLB_MODE.MODE = 9 ∨ s.chip.fld F.GLB_MODE.MODE = 10
    let q := s.taken.fwWrites [(⟨.PRT_PORT_CFG, p, 0⟩, v 1), (⟨.PRT_PORT_CFG2, p, 0⟩, v 2), (⟨.PRT_HP_CFG, p, 0⟩, v 3)]
    (¬ config → Answers (.portSet n) s n 0x8007 []) ∧ (config → 96 ≤ p → Answers (.portSet n) s n 0x8004 []) ∧
    (config → p < 96 → q.1 = none → Reaches (.portSet n) s fun c => c = q.2.chip.boxResult n 0
      [q.2.chip.replyReg .PRT_PORT_CFG p, q.2.chip.replyReg .PRT_PORT_CFG2 p, q.2.chip.replyReg .PRT_HP_CFG p])) ∧
  (∀ (n : Fin 34) (s : State), s.serves n 0x21 = true → s.mayOwn n = true →
    let v := word (s.chip.lbxArg n 0)
    let f := wget v 11 0
    let entry := [Reg.GLB_FLC_A, .GLB_FLC_B, .GLB_FLC_C, .GLB_FLC_BASE_LO, .GLB_FLC_BASE_HI].mapIdx fun i r =>
      ((⟨r, f, 0⟩ : RegKey), word (s.chip.lbxArg n (i + 1)))
    let q := s.taken.fwWrites ((if wget v 31 30 = 1 then entry else []) ++ [(⟨.GLB_FLC_CMD, 0, 0⟩, v)])
    let r := if wget v 31 30 = 0 then 0 else q.2.chip.fld F.GLB_FLC_STATUS.RESULT
    (s.chip.fld F.GLB_FLC_STATUS.BUSY = 1 → Answers (.flacon n) s n 0x8001 []) ∧
    (s.chip.fld F.GLB_FLC_STATUS.BUSY = 0 → q.1 = none →
      (r = 0 → Reaches (.flacon n) s fun c => c = q.2.chip.boxResult n 0 [q.2.chip.replyReg .GLB_FLC_STATUS]) ∧
      (r ≠ 0 → Reaches (.flacon n) s fun c => (∃ x ∈ (c.box n).result, x.1 = r) ∧
        ∀ e ∈ entry, c.regs.get e.1 = s.chip.regs.get e.1))) ∧
  (∀ (n : Fin 34) (s : State), s.serves n 0x22 = true → s.mayOwn n = true →
    let ch := s.chip.lbxArg n 0
    let op := s.chip.lbxArg n 1
    let q := s.taken.fwWrites [(⟨.FUS_CHAN_CTL, ch, 0⟩, word (2 ^ (31 - op)))]
    (24 ≤ ch ∨ 3 ≤ op → Answers (.fuse n) s n 0x8004 []) ∧
    (ch < 24 → op < 3 → q.1 = none → Reaches (.fuse n) s fun c => c = q.2.chip.boxResult n 0 [q.2.chip.replyReg .FUS_CHAN_STATUS ch])) ∧
  (∀ (n : Fin 34) (s : State), s.serves n 0x23 = true → s.mayOwn n = true →
    let what := s.chip.lbxArg n 0
    let lo := word (s.chip.lbxArg n 1)
    let ctl (v : Nat) : RegKey × Word := (⟨.TIM_ADJ_CTL, 0, 0⟩, word v)
    let ofs : RegKey × Word := (⟨.TIM_OFS_ADJ, 0, 0⟩, lo)
    let ws := if what = 0 then [((⟨.TIM_RATE_ADJ, 0, 0⟩ : RegKey), lo)]
      else if what = 1 then [ofs, ctl 0x80000000] else if what = 2 then [ofs, ctl 0xC0000000]
      else [(⟨.TIM_SET_LO, 0, 0⟩, lo), (⟨.TIM_SET_HI, 0, 0⟩, word (s.chip.lbxArg n 2)),
        ctl (s.chip.fld F.TIM_ADJ_CTL.STEP * 2 ^ 30 + 2 ^ 29)]
    let q := s.taken.fwWrites ws
    (s.chip.fld F.TIM_CFG.SRC = 0 → Answers (.timeAdj n) s n 0x800D []) ∧
    (s.chip.fld F.TIM_CFG.SRC = 1 → 4 ≤ what → Answers (.timeAdj n) s n 0x8004 []) ∧
    (s.chip.fld F.TIM_CFG.SRC = 1 → what < 4 → q.1 = none →
      Reaches (.timeAdj n) s fun c => c = q.2.chip.boxResult n 0 [q.2.chip.replyReg .TIM_STATUS])) ∧
  (∀ (n : Fin 34) (resp : Option Word) (s : State), s.serves n 0x24 = true → s.mayOwn n = true →
    let stalled := s.chip.lpbStalls n = true
    (1 < s.chip.lbxArg n 1 → Answers (.lpbConfig n resp) s n 0x8004 []) ∧
    (s.chip.lbxArg n 1 ≤ 1 → stalled →
      Sets (.lpbConfig n resp) s [F.LBX_STATUS.MASTER_OFF.is 1 n] [.lbx, .parts] countRegs
        (fun c => c.lbx = { s.chip.lbx with order := s.chip.lbx.order.tail } ∧ ∀ p : Nat, s.chip.segOwner = some p →
          ∃ k ∈ (c.part p).stalled, k.ofBox n = true)) ∧
    (s.chip.lbxArg n 1 = 0 → ¬ stalled → s.chip.allSent →
      (∀ p < 32, s.chip.segOwner = some p → ((s.chip.part p).stalled.all fun k => k.ofBox n) = true) → Reaches (.lpbConfig n resp) s fun c => ∃ x ∈ (c.box n).result, x.1 = 0x8009 ∨
      x = (0, [resp.getD 0xFFFFFFFF, word (b2n resp.isNone)]) ∧ c.reg .LPB_CFG_DATA = resp.getD 0xFFFFFFFF ∧
        c.fld F.LPB_CFG_ADDR.MABORT = b2n resp.isNone ∧ c.fld F.LBX_STATUS.MASTER_OFF n = 0) ∧
    (∀ p : Fin 32, s.chip.lbxArg n 1 ≤ 1 → ¬ stalled → s.chip.allSent → s.chip.segOwner = some p.val →
      ((s.chip.part p).stalled.all fun k => k.ofBox n) = true → s.chip.safe = false →
      Reaches (.lpbConfig n resp true) s fun c => ∃ x ∈ (c.box n).result, x.1 = 0x8009 ∨ x = (0x8008, []) ∧
        c.fld F.FLT_CPL_TO_CNT.COUNT = s.chip.counted F.FLT_CPL_TO_CNT.COUNT ∧ c.raised 0x1C1 0x07 (fun _ => True))) ∧
  (∀ (n : Fin 34) (x : DiscoverStep) (s : State), s.serves n 0x25 = true → s.mayOwn n = true → s.chip.fld F.GLB_MODE.MODE ≠ 9 →
    Answers (.discover n x) s n 0x8007 []) ∧
  (∀ (n : Fin 34) (s : State), s.serves n 0x25 = true → s.mayOwn n = true → s.chip.fld F.GLB_MODE.MODE = 9 →
    (∀ found : Nat, Answers (.discover n (.finish found)) s n 0 [word found]) ∧ Answers (.discover n .fail) s n 0x8008 [] ∧
    (∀ (m : Fin 96) (h : FabHdr), h.typ = 2 → h.disc.op = 1 → s.chip.memberLive m = true → s.chip.cel.waiting = [] →
      Reaches (.discover n (.send m h)) s fun c => h.disc.tag ∈ c.fab.discOut ∧ ∃ k ∈ c.cel.copies ++ c.cel.waiting,
        k.dest = .port m ∧ k.charge = .mgmt ∧ (k.pkt.fab.map (·.disc)) = some h.disc ∧
        (k.pkt.fab.map (·.hops)) = some (s.chip.fld F.FAB_CFG.HOPS_INIT)) ∧
    (∀ (off : Nat) (v : Word), (∀ r ∈ [Reg.FAB_ID, .FAB_ROUTE_COMMIT], ∀ i < 2, s.chip.keyAt off ≠ some ⟨r, i, 0⟩) →
      (∀ k : RegKey, s.chip.keyAt off = some k → k.reg.block ≠ .fab) →
      Sets (.discover n (.store off v)) s [] [.lbx] countRegs))

/-- The persistent store and firmware updates (R519 to R524, Tables 15.8 and 15.9). The length of the body that a
commit writes, and the mask and mode it stores, are free values (log entry 34). It rests on log entries 3, 33, 34, 35
and 49. -/
def Obligations.StoreAndFirmware : Prop :=
  (∀ (n : Fin 34) (ok : Bool) (s : State), s.serves n 0x30 = true →
    (s.mayOwn n = false → Answers (.storeCommit n ok) s n 0x8005 []) ∧
    (s.mayOwn n = true → s.chip.lbx.committing = none → s.chip.fld F.PWR_SUPPLY.WARN = 1 →
      Sets (.storeCommit n ok) s [F.LBX_STORE_STATUS.LAST_CODE.is 0x8010] [.lbx, .flt] (countRegs ++ faultRegs) (fun c =>
        (c.box n).result = some (0x8010, []) ∧ c.raised 0x1D5 0x26 (fun h => h = 0x8010) ∧ c.lbx.storeA = s.chip.lbx.storeA ∧
          c.lbx.storeB = s.chip.lbx.storeB)) ∧
    (s.mayOwn n = true → s.chip.lbx.committing = none → s.chip.fld F.PWR_SUPPLY.WARN = 0 →
      s.taken.chip.holdupOk (4 * (s.taken.chip.freeVal % 261121)) = true →
      Sets (.storeCommit n ok) s [F.LBX_STORE_STATUS.COMMITTING.is 1, F.LBX_STORE_STATUS.VALID.any, F.LBX_STORE_GEN.GEN.any]
        [.lbx, .free] countRegs (fun c => ∃ x ∈ c.lbx.committing, x.1 = n.val ∧ x.2.1 = s.chip.storeTarget ∧
          x.2.2.gen = (((s.chip.bestStore?.map fun b => b.2.gen).getD 0) + 1) % 2 ^ 32 ∧
          x.2.2.locks = s.chip.storeLocks ∧
          (if x.2.1 = 0 then c.lbx.storeA = none ∧ c.lbx.storeB = s.chip.lbx.storeB
            else c.lbx.storeB = none ∧ c.lbx.storeA = s.chip.lbx.storeA) ∧
          c.fld F.LBX_STORE_STATUS.VALID = b2n c.lbx.storeA.isSome + 2 * b2n c.lbx.storeB.isSome ∧
          (c.box n).result = (s.chip.box n).result)) ∧
    (s.mayOwn n = true → s.chip.lbx.committing = none → s.chip.fld F.PWR_SUPPLY.WARN = 0 →
      s.taken.chip.holdupOk (4 * (s.taken.chip.freeVal % 261121)) = false →
      Sets (.storeCommit n ok) s [F.LBX_STORE_STATUS.LAST_CODE.is 0x800F] [.lbx, .flt, .free] (countRegs ++ faultRegs)
        (fun c => (∃ x ∈ (c.box n).result, x.1 = 0x800F ∧ x.2.head? = some (word (s.chip.fld F.FUS_HOLDUP_E.E_MJ))) ∧
          c.raised 0x1D5 0x26 (fun h => h = 0x800F) ∧ c.lbx.committing = none)) ∧
    (s.mayOwn n = true → ∀ x : Nat × Nat × StoreCopy, s.chip.lbx.committing = some x → x.1 ≠ n.val →
      Answers (.storeCommit n ok) s n 0x8001 [] [F.LBX_STORE_STATUS.LAST_CODE.is 0x8001])) ∧
  (∀ (n : Fin 34) (ok : Bool) (s : State), s.chip.coreUp = true → s.chip.fwAwake = true → n.val ∉ s.chip.lbx.order →
    ∀ x : Nat × Nat × StoreCopy, s.chip.lbx.committing = some x → x.1 = n.val → x.2.1 ≤ 1 →
    let mine := (s.chip.box n).todo = true ∧ boxOp (s.chip.box n).cmd = 0x30
    (ok = true →
      Sets (.storeCommit n ok) s [F.LBX_STORE_STATUS.COMMITTING.is 0, F.LBX_STORE_STATUS.LAST_CODE.is 0,
          F.LBX_STORE_STATUS.VALID.any, F.LBX_STORE_GEN.GEN.any] [.lbx] [] (fun c => c.lbx.committing = none ∧
        (if x.2.1 = 0 then c.lbx.storeA = some x.2.2 ∧ c.lbx.storeB = s.chip.lbx.storeB
          else c.lbx.storeB = some x.2.2 ∧ c.lbx.storeA = s.chip.lbx.storeA) ∧
        c.fld F.LBX_STORE_STATUS.VALID = b2n c.lbx.storeA.isSome + 2 * b2n c.lbx.storeB.isSome ∧
        (mine → (c.box n).result = some (0, [word x.2.2.gen, word x.2.1])))) ∧
    (ok = false →
      Sets (.storeCommit n ok) s [F.LBX_STORE_STATUS.COMMITTING.is 0, F.LBX_STORE_STATUS.LAST_CODE.is 0x8011] [.lbx] []
        (fun c => c.lbx.committing = none ∧ c.lbx.storeA = s.chip.lbx.storeA ∧ c.lbx.storeB = s.chip.lbx.storeB ∧
          (mine → (c.box n).result = some (0x8011, []))))) ∧
  (∀ (n : Fin 34) (s : State),
    (s.serves n 0x31 = true → Answers (.storeInfo n) s n 0 [s.chip.replyReg .LBX_STORE_GEN, s.chip.replyReg .LBX_STORE_STATUS,
      word ((s.chip.bestStore?.map fun b => b.2.length).getD 0)]) ∧
    (s.serves n 0x43 = true → Answers (.fwInfo n) s n 0 [s.chip.replyReg .LBX_FW_STATUS, s.chip.replyReg .LBX_FW_VERSION])) ∧
  (∀ (n : Fin 34) (s : State), s.serves n 0x41 = true → s.mayOwn n = true →
    let ws := (s.chip.box n).cmd.drop 2
    let next := if s.chip.fld F.LBX_FW_STATUS.SESSION = 1 then 4 * s.chip.lbx.loaded.length else 0
    let other := 1 - s.chip.fld F.LBX_FW_STATUS.SLOT
    (s.chip.lbxArg n 0 ≠ next → Answers (.fwLoadChunk n) s n 0x8004 []) ∧
    (s.chip.lbxArg n 0 = next → next + 4 * ws.length ≤ 0x400000 → s.chip.fld F.LBX_FW_STATUS.SESSION = 1 →
      Answers (.fwLoadChunk n) s n 0 [word (next + 4 * ws.length)] [] [] [] (fun h => { h with loaded := h.loaded ++ ws })) ∧
    (s.chip.lbxArg n 0 = next → next + 4 * ws.length ≤ 0x400000 → s.chip.fld F.LBX_FW_STATUS.SESSION = 0 →
      Answers (.fwLoadChunk n) s n 0 [word (4 * ws.length)] [F.LBX_FW_STATUS.SESSION.is 1] [] [] (fun h => { h with
        loaded := ws
        slotA := if other = 0 then [] else h.slotA
        slotB := if other = 0 then h.slotB else [] }))) ∧
  (∀ (n : Fin 34) (s : State), s.serves n 0x40 = true → s.chip.owner? = some n.val → n.val < 32 →
    let length := s.chip.lbxArg n 2
    (s.chip.lbx.load = none → length < 4 ∨ 4190208 < length → Answers (.fwLoadHost n) s n 0x8004 []) ∧
    (s.chip.lbx.load = none → 4 ≤ length → length ≤ 4190208 → s.chip.fld F.LBX_FW_STATUS.SESSION = 1 →
      Sets (.fwLoadHost n) s [] [.lbx] countRegs (fun c => c.lbx = { s.chip.lbx with
        order := s.chip.lbx.order.tail
        loaded := []
        load := some { box := n, base := s.chip.lbxArg n 1 * 2 ^ 32 + s.chip.lbxArg n 0, total := length + 4096 } })) ∧
    (∀ h : HostLoad, s.chip.lbx.load = some h → h.box ≠ n → Answers (.fwLoadHost n) s n 0x8001 [])) ∧
  (∀ (n : Fin 34) (s : State), s.chip.coreUp = true → s.chip.lbxDue n 0x40 = true → n.val ∉ s.chip.lbx.order →
    ∀ h : HostLoad, s.chip.lbx.load = some h → h.box = n →
    (h.tag = none → h.total ≤ h.got.length → s.chip.fld F.LBX_FW_STATUS.SESSION = 1 →
      Sets (.fwLoadHost n) s [] [.lbx] [] (fun c => c.lbx = ({ s.chip.lbx with
        load := none
        loaded := if s.chip.owner? = some n.val then bytesWords h.got else s.chip.lbx.loaded } : LbxH).answer n 0 [word h.total])) ∧
    (h.tag = none → h.got.length < h.total → s.chip.masterHeld (some n.val) = true → n.val < 32 →
      Sets (.fwLoadHost n) s [F.LBX_STATUS.MASTER_OFF.is 1 n] [.parts] [] (fun c =>
        (∃ k ∈ (c.part n).stalled, k.ofBox n = true) ∧ ∀ p : Nat, p ≠ n → c.part p = s.chip.part p)) ∧
    (∀ t : Nat, h.tag = some t → ∀ q : InCpl,
      (s.chip.flt.inbox.find? fun q => q.to_ == .firmware && q.part == some n.val && q.pkt.tag == t) = some q →
      (q.pkt.status = .sc → Sets (.fwLoadHost n) s [] [.lbx, .flt] [] (fun c => c.lbx = { s.chip.lbx with
        load := some { h with got := h.got ++ q.pkt.data, tag := if q.pkt.lastCpl then none else some t } })) ∧
      (q.pkt.status ≠ .sc → Sets (.fwLoadHost n) s [] [.lbx, .flt] [] (fun c => c.lbx = ({ s.chip.lbx with load := none } : LbxH).answer n
        0x8008 [])))) ∧
  (∀ (n : Fin 34) (ok : Bool) (s : State), s.serves n 0x42 = true → s.mayOwn n = true →
    let ws := s.chip.lbx.loaded
    let other := 1 - s.chip.fld F.LBX_FW_STATUS.SLOT
    let ends := [F.LBX_FW_STATUS.SESSION.is 0]
    let fails := F.LBX_FW_STATUS.ACCEPTED.is (clrBit (s.chip.fld F.LBX_FW_STATUS.ACCEPTED) other) :: ends
    let drop (h : LbxH) : LbxH := { h with loaded := [] }
    (s.chip.fld F.LBX_FW_STATUS.SESSION = 0 → Answers (.fwFinish n ok) s n 0x800D []) ∧
    (s.chip.fld F.LBX_FW_STATUS.SESSION = 1 → imageHeader ws = false → Answers (.fwFinish n ok) s n 0x8012 [] fails [] [] drop) ∧
    (s.chip.fld F.LBX_FW_STATUS.SESSION = 1 → imageHeader ws = true → imageSvn ws < s.chip.fld F.LBX_FW_STATUS.MIN_SVN →
      Answers (.fwFinish n ok) s n 0x8013 [] fails [] [] drop) ∧
    (s.chip.fld F.LBX_FW_STATUS.SESSION = 1 → s.chip.imageFit ws = true → imageSigned ws = false →
      Answers (.fwFinish n ok) s n 0x8012 [] fails [] [] drop) ∧
    (s.chip.fld F.LBX_FW_STATUS.SESSION = 1 → s.chip.imageOk ws = true → ok = false →
      Answers (.fwFinish n ok) s n 0x8011 [] fails [] [] drop) ∧
    (s.chip.fld F.LBX_FW_STATUS.SESSION = 1 → s.chip.imageOk ws = true → ok = true →
      Answers (.fwFinish n ok) s n 0 [word (flashWord ws 1), word (imageSvn ws)]
        (F.LBX_FW_STATUS.ACCEPTED.is (setBit (s.chip.fld F.LBX_FW_STATUS.ACCEPTED) other) :: ends) [] [] (fun h => { h with
          loaded := []
          slotA := if other = 0 then ws else h.slotA
          slotB := if other = 0 then h.slotB else ws }))) ∧
  (∀ (n : Fin 34) (s : State), s.serves n 0x44 = true →
    let svn := s.chip.fld F.LBX_FW_STATUS.SVN
    let debug := n.val = 33 ∧ s.chip.fld F.GAT_LIFECYCLE.STATE = 0
    (s.mayOwn n = false → Answers (.fwSvnCommit n) s n 0x8005 []) ∧
    (¬ debug → s.chip.owner? = some n.val → s.chip.fld F.LBX_OWNER.EXPERT = 0 → Answers (.fwSvnCommit n) s n 0x8006 []) ∧
    (debug ∨ s.chip.owner? = some n.val ∧ s.chip.fld F.LBX_OWNER.EXPERT = 1 →
      (svn ≤ s.chip.fld F.LBX_FW_STATUS.MIN_SVN → Answers (.fwSvnCommit n) s n 0x800D []) ∧
      (s.chip.fld F.LBX_FW_STATUS.MIN_SVN < svn →
        Answers (.fwSvnCommit n) s n 0 [word svn] [F.LBX_FW_STATUS.MIN_SVN.is svn])))
end

