-- ==== Sys2Proof/Laws/State.lean ====
section
/-! SUPPORT. What each update of the state and of the device leaves as it is: one lemma for each field and update. -/

namespace Sys2Proof.Machine

/-! ### The state -/

section
variable (s : State) (f : Chip → Chip) (g : Dev → Dev)

@[simp] theorem State.onPin_pending : (s.onPin f).pending = s.pending := (rfl)
@[simp] theorem State.onPin_mem : (s.onPin f).mem = s.mem := (rfl)
@[simp] theorem State.onPin_chip : (s.onPin f).chip = f s.chip := (rfl)
@[simp] theorem State.always_pending : (s.always g).pending = s.pending := (rfl)
@[simp] theorem State.always_mem : (s.always g).mem = (g ⟨s.mem, s.chip⟩).mem := (rfl)
@[simp] theorem State.always_chip : (s.always g).chip = (g ⟨s.mem, s.chip⟩).chip := (rfl)
@[simp] theorem State.onChip_pending : (s.onChip f).pending = s.pending := by unfold State.onChip; split <;> rfl
@[simp] theorem State.onChip_mem : (s.onChip f).mem = s.mem := by unfold State.onChip; split <;> rfl
@[simp] theorem State.onSlot_pending : (s.onSlot f).pending = s.pending := by unfold State.onSlot; split <;> rfl
@[simp] theorem State.onSlot_mem : (s.onSlot f).mem = s.mem := by unfold State.onSlot; split <;> rfl
@[simp] theorem State.onDev_pending : (s.onDev g).pending = s.pending := by unfold State.onDev; split <;> rfl

/-- With the core domain running, a command of that domain has its effect. -/
theorem State.onChip_up (h : s.chip.coreUp = true) : s.onChip f = { s with chip := f s.chip } := if_pos h
/-- Without the core domain, a command of that domain has none. -/
theorem State.onChip_down (h : s.chip.coreUp = false) : s.onChip f = s := if_neg (by simp [h])
theorem State.onDev_up (h : s.chip.coreUp = true) : s.onDev g = s.always g := if_pos h
theorem State.onDev_down (h : s.chip.coreUp = false) : s.onDev g = s := if_neg (by simp [h])
theorem State.onSlot_up (h : s.chip.slotUp = true) : s.onSlot f = { s with chip := f s.chip } := if_pos h
theorem State.onSlot_down (h : s.chip.slotUp = false) : s.onSlot f = s := if_neg (by simp [h])
end

/-! ### setReg -/

section
variable (c : Chip) (r : Reg) (v : Word) (i j : Nat)

@[simp] theorem Chip.setReg_heldLo : (c.setReg r v i j).heldLo = c.heldLo := (rfl)
@[simp] theorem Chip.setReg_snaps : (c.setReg r v i j).snaps = c.snaps := (rfl)
@[simp] theorem Chip.setReg_cfg : (c.setReg r v i j).cfg = c.cfg := (rfl)
@[simp] theorem Chip.setReg_mode : (c.setReg r v i j).mode = c.mode := (rfl)
@[simp] theorem Chip.setReg_lanes : (c.setReg r v i j).lanes = c.lanes := (rfl)
@[simp] theorem Chip.setReg_ports : (c.setReg r v i j).ports = c.ports := (rfl)
@[simp] theorem Chip.setReg_fl : (c.setReg r v i j).fl = c.fl := (rfl)
@[simp] theorem Chip.setReg_cel : (c.setReg r v i j).cel = c.cel := (rfl)
@[simp] theorem Chip.setReg_fab : (c.setReg r v i j).fab = c.fab := (rfl)
@[simp] theorem Chip.setReg_parts : (c.setReg r v i j).parts = c.parts := (rfl)
@[simp] theorem Chip.setReg_flcs : (c.setReg r v i j).flcs = c.flcs := (rfl)
@[simp] theorem Chip.setReg_flcReqs : (c.setReg r v i j).flcReqs = c.flcReqs := (rfl)
@[simp] theorem Chip.setReg_flt : (c.setReg r v i j).flt = c.flt := (rfl)
@[simp] theorem Chip.setReg_gat : (c.setReg r v i j).gat = c.gat := (rfl)
@[simp] theorem Chip.setReg_tim : (c.setReg r v i j).tim = c.tim := (rfl)
@[simp] theorem Chip.setReg_sched : (c.setReg r v i j).sched = c.sched := (rfl)
@[simp] theorem Chip.setReg_acd : (c.setReg r v i j).acd = c.acd := (rfl)
@[simp] theorem Chip.setReg_lpb : (c.setReg r v i j).lpb = c.lpb := (rfl)
@[simp] theorem Chip.setReg_fus : (c.setReg r v i j).fus = c.fus := (rfl)
@[simp] theorem Chip.setReg_ctr : (c.setReg r v i j).ctr = c.ctr := (rfl)
@[simp] theorem Chip.setReg_sil : (c.setReg r v i j).sil = c.sil := (rfl)
@[simp] theorem Chip.setReg_dbg : (c.setReg r v i j).dbg = c.dbg := (rfl)
@[simp] theorem Chip.setReg_pwr : (c.setReg r v i j).pwr = c.pwr := (rfl)
@[simp] theorem Chip.setReg_lbx : (c.setReg r v i j).lbx = c.lbx := (rfl)
@[simp] theorem Chip.setReg_hwy : (c.setReg r v i j).hwy = c.hwy := (rfl)
@[simp] theorem Chip.setReg_free : (c.setReg r v i j).free = c.free := (rfl)
@[simp] theorem Chip.setReg_answer : (c.setReg r v i j).answer = c.answer := (rfl)
@[simp] theorem Chip.setReg_outs : (c.setReg r v i j).outs = c.outs := (rfl)
@[simp] theorem Chip.lane_setReg (m : Nat) : (c.setReg r v i j).lane m = c.lane m := (rfl)
@[simp] theorem Chip.port_setReg (m : Nat) : (c.setReg r v i j).port m = c.port m := (rfl)
@[simp] theorem Chip.flp_setReg (m : Nat) : (c.setReg r v i j).flp m = c.flp m := (rfl)
@[simp] theorem Chip.part_setReg (m : Nat) : (c.setReg r v i j).part m = c.part m := (rfl)
@[simp] theorem Chip.flc_setReg (m : Nat) : (c.setReg r v i j).flc m = c.flc m := (rfl)
@[simp] theorem Chip.box_setReg (m : Nat) : (c.setReg r v i j).box m = c.box m := (rfl)
end

/-! ### setFld -/

section
variable (c : Chip) (f : Fld) (v i j : Nat)

@[simp] theorem Chip.setFld_heldLo : (c.setFld f v i j).heldLo = c.heldLo := (rfl)
@[simp] theorem Chip.setFld_snaps : (c.setFld f v i j).snaps = c.snaps := (rfl)
@[simp] theorem Chip.setFld_cfg : (c.setFld f v i j).cfg = c.cfg := (rfl)
@[simp] theorem Chip.setFld_mode : (c.setFld f v i j).mode = c.mode := (rfl)
@[simp] theorem Chip.setFld_lanes : (c.setFld f v i j).lanes = c.lanes := (rfl)
@[simp] theorem Chip.setFld_ports : (c.setFld f v i j).ports = c.ports := (rfl)
@[simp] theorem Chip.setFld_fl : (c.setFld f v i j).fl = c.fl := (rfl)
@[simp] theorem Chip.setFld_cel : (c.setFld f v i j).cel = c.cel := (rfl)
@[simp] theorem Chip.setFld_fab : (c.setFld f v i j).fab = c.fab := (rfl)
@[simp] theorem Chip.setFld_parts : (c.setFld f v i j).parts = c.parts := (rfl)
@[simp] theorem Chip.setFld_flcs : (c.setFld f v i j).flcs = c.flcs := (rfl)
@[simp] theorem Chip.setFld_flcReqs : (c.setFld f v i j).flcReqs = c.flcReqs := (rfl)
@[simp] theorem Chip.setFld_flt : (c.setFld f v i j).flt = c.flt := (rfl)
@[simp] theorem Chip.setFld_gat : (c.setFld f v i j).gat = c.gat := (rfl)
@[simp] theorem Chip.setFld_tim : (c.setFld f v i j).tim = c.tim := (rfl)
@[simp] theorem Chip.setFld_sched : (c.setFld f v i j).sched = c.sched := (rfl)
@[simp] theorem Chip.setFld_acd : (c.setFld f v i j).acd = c.acd := (rfl)
@[simp] theorem Chip.setFld_lpb : (c.setFld f v i j).lpb = c.lpb := (rfl)
@[simp] theorem Chip.setFld_fus : (c.setFld f v i j).fus = c.fus := (rfl)
@[simp] theorem Chip.setFld_ctr : (c.setFld f v i j).ctr = c.ctr := (rfl)
@[simp] theorem Chip.setFld_sil : (c.setFld f v i j).sil = c.sil := (rfl)
@[simp] theorem Chip.setFld_dbg : (c.setFld f v i j).dbg = c.dbg := (rfl)
@[simp] theorem Chip.setFld_pwr : (c.setFld f v i j).pwr = c.pwr := (rfl)
@[simp] theorem Chip.setFld_lbx : (c.setFld f v i j).lbx = c.lbx := (rfl)
@[simp] theorem Chip.setFld_hwy : (c.setFld f v i j).hwy = c.hwy := (rfl)
@[simp] theorem Chip.setFld_free : (c.setFld f v i j).free = c.free := (rfl)
@[simp] theorem Chip.setFld_answer : (c.setFld f v i j).answer = c.answer := (rfl)
@[simp] theorem Chip.setFld_outs : (c.setFld f v i j).outs = c.outs := (rfl)
@[simp] theorem Chip.lane_setFld (m : Nat) : (c.setFld f v i j).lane m = c.lane m := (rfl)
@[simp] theorem Chip.port_setFld (m : Nat) : (c.setFld f v i j).port m = c.port m := (rfl)
@[simp] theorem Chip.flp_setFld (m : Nat) : (c.setFld f v i j).flp m = c.flp m := (rfl)
@[simp] theorem Chip.part_setFld (m : Nat) : (c.setFld f v i j).part m = c.part m := (rfl)
@[simp] theorem Chip.flc_setFld (m : Nat) : (c.setFld f v i j).flc m = c.flc m := (rfl)
@[simp] theorem Chip.box_setFld (m : Nat) : (c.setFld f v i j).box m = c.box m := (rfl)
end

/-! ### updLane -/

section
variable (c : Chip) (n : Nat) (f : LaneH → LaneH)

@[simp] theorem Chip.updLane_regs : (c.updLane n f).regs = c.regs := (rfl)
@[simp] theorem Chip.updLane_heldLo : (c.updLane n f).heldLo = c.heldLo := (rfl)
@[simp] theorem Chip.updLane_snaps : (c.updLane n f).snaps = c.snaps := (rfl)
@[simp] theorem Chip.updLane_cfg : (c.updLane n f).cfg = c.cfg := (rfl)
@[simp] theorem Chip.updLane_mode : (c.updLane n f).mode = c.mode := (rfl)
@[simp] theorem Chip.updLane_ports : (c.updLane n f).ports = c.ports := (rfl)
@[simp] theorem Chip.updLane_fl : (c.updLane n f).fl = c.fl := (rfl)
@[simp] theorem Chip.updLane_cel : (c.updLane n f).cel = c.cel := (rfl)
@[simp] theorem Chip.updLane_fab : (c.updLane n f).fab = c.fab := (rfl)
@[simp] theorem Chip.updLane_parts : (c.updLane n f).parts = c.parts := (rfl)
@[simp] theorem Chip.updLane_flcs : (c.updLane n f).flcs = c.flcs := (rfl)
@[simp] theorem Chip.updLane_flcReqs : (c.updLane n f).flcReqs = c.flcReqs := (rfl)
@[simp] theorem Chip.updLane_flt : (c.updLane n f).flt = c.flt := (rfl)
@[simp] theorem Chip.updLane_gat : (c.updLane n f).gat = c.gat := (rfl)
@[simp] theorem Chip.updLane_tim : (c.updLane n f).tim = c.tim := (rfl)
@[simp] theorem Chip.updLane_sched : (c.updLane n f).sched = c.sched := (rfl)
@[simp] theorem Chip.updLane_acd : (c.updLane n f).acd = c.acd := (rfl)
@[simp] theorem Chip.updLane_lpb : (c.updLane n f).lpb = c.lpb := (rfl)
@[simp] theorem Chip.updLane_fus : (c.updLane n f).fus = c.fus := (rfl)
@[simp] theorem Chip.updLane_ctr : (c.updLane n f).ctr = c.ctr := (rfl)
@[simp] theorem Chip.updLane_sil : (c.updLane n f).sil = c.sil := (rfl)
@[simp] theorem Chip.updLane_dbg : (c.updLane n f).dbg = c.dbg := (rfl)
@[simp] theorem Chip.updLane_pwr : (c.updLane n f).pwr = c.pwr := (rfl)
@[simp] theorem Chip.updLane_lbx : (c.updLane n f).lbx = c.lbx := (rfl)
@[simp] theorem Chip.updLane_hwy : (c.updLane n f).hwy = c.hwy := (rfl)
@[simp] theorem Chip.updLane_free : (c.updLane n f).free = c.free := (rfl)
@[simp] theorem Chip.updLane_answer : (c.updLane n f).answer = c.answer := (rfl)
@[simp] theorem Chip.updLane_outs : (c.updLane n f).outs = c.outs := (rfl)
@[simp] theorem Chip.reg_updLane (r' : Reg) (i' j' : Nat) : (c.updLane n f).reg r' i' j' = c.reg r' i' j' := (rfl)
@[simp] theorem Chip.fld_updLane (g : Fld) (i' j' : Nat) : (c.updLane n f).fld g i' j' = c.fld g i' j' := (rfl)
@[simp] theorem Chip.flag_updLane (g : Fld) (i' j' : Nat) : (c.updLane n f).flag g i' j' = c.flag g i' j' := (rfl)
@[simp] theorem Chip.port_updLane (m : Nat) : (c.updLane n f).port m = c.port m := (rfl)
@[simp] theorem Chip.flp_updLane (m : Nat) : (c.updLane n f).flp m = c.flp m := (rfl)
@[simp] theorem Chip.part_updLane (m : Nat) : (c.updLane n f).part m = c.part m := (rfl)
@[simp] theorem Chip.flc_updLane (m : Nat) : (c.updLane n f).flc m = c.flc m := (rfl)
@[simp] theorem Chip.box_updLane (m : Nat) : (c.updLane n f).box m = c.box m := (rfl)
end

/-! ### updPort -/

section
variable (c : Chip) (n : Nat) (f : PortH → PortH)

@[simp] theorem Chip.updPort_regs : (c.updPort n f).regs = c.regs := (rfl)
@[simp] theorem Chip.updPort_heldLo : (c.updPort n f).heldLo = c.heldLo := (rfl)
@[simp] theorem Chip.updPort_snaps : (c.updPort n f).snaps = c.snaps := (rfl)
@[simp] theorem Chip.updPort_cfg : (c.updPort n f).cfg = c.cfg := (rfl)
@[simp] theorem Chip.updPort_mode : (c.updPort n f).mode = c.mode := (rfl)
@[simp] theorem Chip.updPort_lanes : (c.updPort n f).lanes = c.lanes := (rfl)
@[simp] theorem Chip.updPort_fl : (c.updPort n f).fl = c.fl := (rfl)
@[simp] theorem Chip.updPort_cel : (c.updPort n f).cel = c.cel := (rfl)
@[simp] theorem Chip.updPort_fab : (c.updPort n f).fab = c.fab := (rfl)
@[simp] theorem Chip.updPort_parts : (c.updPort n f).parts = c.parts := (rfl)
@[simp] theorem Chip.updPort_flcs : (c.updPort n f).flcs = c.flcs := (rfl)
@[simp] theorem Chip.updPort_flcReqs : (c.updPort n f).flcReqs = c.flcReqs := (rfl)
@[simp] theorem Chip.updPort_flt : (c.updPort n f).flt = c.flt := (rfl)
@[simp] theorem Chip.updPort_gat : (c.updPort n f).gat = c.gat := (rfl)
@[simp] theorem Chip.updPort_tim : (c.updPort n f).tim = c.tim := (rfl)
@[simp] theorem Chip.updPort_sched : (c.updPort n f).sched = c.sched := (rfl)
@[simp] theorem Chip.updPort_acd : (c.updPort n f).acd = c.acd := (rfl)
@[simp] theorem Chip.updPort_lpb : (c.updPort n f).lpb = c.lpb := (rfl)
@[simp] theorem Chip.updPort_fus : (c.updPort n f).fus = c.fus := (rfl)
@[simp] theorem Chip.updPort_ctr : (c.updPort n f).ctr = c.ctr := (rfl)
@[simp] theorem Chip.updPort_sil : (c.updPort n f).sil = c.sil := (rfl)
@[simp] theorem Chip.updPort_dbg : (c.updPort n f).dbg = c.dbg := (rfl)
@[simp] theorem Chip.updPort_pwr : (c.updPort n f).pwr = c.pwr := (rfl)
@[simp] theorem Chip.updPort_lbx : (c.updPort n f).lbx = c.lbx := (rfl)
@[simp] theorem Chip.updPort_hwy : (c.updPort n f).hwy = c.hwy := (rfl)
@[simp] theorem Chip.updPort_free : (c.updPort n f).free = c.free := (rfl)
@[simp] theorem Chip.updPort_answer : (c.updPort n f).answer = c.answer := (rfl)
@[simp] theorem Chip.updPort_outs : (c.updPort n f).outs = c.outs := (rfl)
@[simp] theorem Chip.reg_updPort (r' : Reg) (i' j' : Nat) : (c.updPort n f).reg r' i' j' = c.reg r' i' j' := (rfl)
@[simp] theorem Chip.fld_updPort (g : Fld) (i' j' : Nat) : (c.updPort n f).fld g i' j' = c.fld g i' j' := (rfl)
@[simp] theorem Chip.flag_updPort (g : Fld) (i' j' : Nat) : (c.updPort n f).flag g i' j' = c.flag g i' j' := (rfl)
@[simp] theorem Chip.lane_updPort (m : Nat) : (c.updPort n f).lane m = c.lane m := (rfl)
@[simp] theorem Chip.flp_updPort (m : Nat) : (c.updPort n f).flp m = c.flp m := (rfl)
@[simp] theorem Chip.part_updPort (m : Nat) : (c.updPort n f).part m = c.part m := (rfl)
@[simp] theorem Chip.flc_updPort (m : Nat) : (c.updPort n f).flc m = c.flc m := (rfl)
@[simp] theorem Chip.box_updPort (m : Nat) : (c.updPort n f).box m = c.box m := (rfl)
end

/-! ### updFl -/

section
variable (c : Chip) (n : Nat) (f : FlH → FlH)

@[simp] theorem Chip.updFl_regs : (c.updFl n f).regs = c.regs := (rfl)
@[simp] theorem Chip.updFl_heldLo : (c.updFl n f).heldLo = c.heldLo := (rfl)
@[simp] theorem Chip.updFl_snaps : (c.updFl n f).snaps = c.snaps := (rfl)
@[simp] theorem Chip.updFl_cfg : (c.updFl n f).cfg = c.cfg := (rfl)
@[simp] theorem Chip.updFl_mode : (c.updFl n f).mode = c.mode := (rfl)
@[simp] theorem Chip.updFl_lanes : (c.updFl n f).lanes = c.lanes := (rfl)
@[simp] theorem Chip.updFl_ports : (c.updFl n f).ports = c.ports := (rfl)
@[simp] theorem Chip.updFl_cel : (c.updFl n f).cel = c.cel := (rfl)
@[simp] theorem Chip.updFl_fab : (c.updFl n f).fab = c.fab := (rfl)
@[simp] theorem Chip.updFl_parts : (c.updFl n f).parts = c.parts := (rfl)
@[simp] theorem Chip.updFl_flcs : (c.updFl n f).flcs = c.flcs := (rfl)
@[simp] theorem Chip.updFl_flcReqs : (c.updFl n f).flcReqs = c.flcReqs := (rfl)
@[simp] theorem Chip.updFl_flt : (c.updFl n f).flt = c.flt := (rfl)
@[simp] theorem Chip.updFl_gat : (c.updFl n f).gat = c.gat := (rfl)
@[simp] theorem Chip.updFl_tim : (c.updFl n f).tim = c.tim := (rfl)
@[simp] theorem Chip.updFl_sched : (c.updFl n f).sched = c.sched := (rfl)
@[simp] theorem Chip.updFl_acd : (c.updFl n f).acd = c.acd := (rfl)
@[simp] theorem Chip.updFl_lpb : (c.updFl n f).lpb = c.lpb := (rfl)
@[simp] theorem Chip.updFl_fus : (c.updFl n f).fus = c.fus := (rfl)
@[simp] theorem Chip.updFl_ctr : (c.updFl n f).ctr = c.ctr := (rfl)
@[simp] theorem Chip.updFl_sil : (c.updFl n f).sil = c.sil := (rfl)
@[simp] theorem Chip.updFl_dbg : (c.updFl n f).dbg = c.dbg := (rfl)
@[simp] theorem Chip.updFl_pwr : (c.updFl n f).pwr = c.pwr := (rfl)
@[simp] theorem Chip.updFl_lbx : (c.updFl n f).lbx = c.lbx := (rfl)
@[simp] theorem Chip.updFl_hwy : (c.updFl n f).hwy = c.hwy := (rfl)
@[simp] theorem Chip.updFl_free : (c.updFl n f).free = c.free := (rfl)
@[simp] theorem Chip.updFl_answer : (c.updFl n f).answer = c.answer := (rfl)
@[simp] theorem Chip.updFl_outs : (c.updFl n f).outs = c.outs := (rfl)
@[simp] theorem Chip.reg_updFl (r' : Reg) (i' j' : Nat) : (c.updFl n f).reg r' i' j' = c.reg r' i' j' := (rfl)
@[simp] theorem Chip.fld_updFl (g : Fld) (i' j' : Nat) : (c.updFl n f).fld g i' j' = c.fld g i' j' := (rfl)
@[simp] theorem Chip.flag_updFl (g : Fld) (i' j' : Nat) : (c.updFl n f).flag g i' j' = c.flag g i' j' := (rfl)
@[simp] theorem Chip.lane_updFl (m : Nat) : (c.updFl n f).lane m = c.lane m := (rfl)
@[simp] theorem Chip.port_updFl (m : Nat) : (c.updFl n f).port m = c.port m := (rfl)
@[simp] theorem Chip.part_updFl (m : Nat) : (c.updFl n f).part m = c.part m := (rfl)
@[simp] theorem Chip.flc_updFl (m : Nat) : (c.updFl n f).flc m = c.flc m := (rfl)
@[simp] theorem Chip.box_updFl (m : Nat) : (c.updFl n f).box m = c.box m := (rfl)
end

/-! ### updPart -/

section
variable (c : Chip) (n : Nat) (f : PartH → PartH)

@[simp] theorem Chip.updPart_regs : (c.updPart n f).regs = c.regs := (rfl)
@[simp] theorem Chip.updPart_heldLo : (c.updPart n f).heldLo = c.heldLo := (rfl)
@[simp] theorem Chip.updPart_snaps : (c.updPart n f).snaps = c.snaps := (rfl)
@[simp] theorem Chip.updPart_cfg : (c.updPart n f).cfg = c.cfg := (rfl)
@[simp] theorem Chip.updPart_mode : (c.updPart n f).mode = c.mode := (rfl)
@[simp] theorem Chip.updPart_lanes : (c.updPart n f).lanes = c.lanes := (rfl)
@[simp] theorem Chip.updPart_ports : (c.updPart n f).ports = c.ports := (rfl)
@[simp] theorem Chip.updPart_fl : (c.updPart n f).fl = c.fl := (rfl)
@[simp] theorem Chip.updPart_cel : (c.updPart n f).cel = c.cel := (rfl)
@[simp] theorem Chip.updPart_fab : (c.updPart n f).fab = c.fab := (rfl)
@[simp] theorem Chip.updPart_flcs : (c.updPart n f).flcs = c.flcs := (rfl)
@[simp] theorem Chip.updPart_flcReqs : (c.updPart n f).flcReqs = c.flcReqs := (rfl)
@[simp] theorem Chip.updPart_flt : (c.updPart n f).flt = c.flt := (rfl)
@[simp] theorem Chip.updPart_gat : (c.updPart n f).gat = c.gat := (rfl)
@[simp] theorem Chip.updPart_tim : (c.updPart n f).tim = c.tim := (rfl)
@[simp] theorem Chip.updPart_sched : (c.updPart n f).sched = c.sched := (rfl)
@[simp] theorem Chip.updPart_acd : (c.updPart n f).acd = c.acd := (rfl)
@[simp] theorem Chip.updPart_lpb : (c.updPart n f).lpb = c.lpb := (rfl)
@[simp] theorem Chip.updPart_fus : (c.updPart n f).fus = c.fus := (rfl)
@[simp] theorem Chip.updPart_ctr : (c.updPart n f).ctr = c.ctr := (rfl)
@[simp] theorem Chip.updPart_sil : (c.updPart n f).sil = c.sil := (rfl)
@[simp] theorem Chip.updPart_dbg : (c.updPart n f).dbg = c.dbg := (rfl)
@[simp] theorem Chip.updPart_pwr : (c.updPart n f).pwr = c.pwr := (rfl)
@[simp] theorem Chip.updPart_lbx : (c.updPart n f).lbx = c.lbx := (rfl)
@[simp] theorem Chip.updPart_hwy : (c.updPart n f).hwy = c.hwy := (rfl)
@[simp] theorem Chip.updPart_free : (c.updPart n f).free = c.free := (rfl)
@[simp] theorem Chip.updPart_answer : (c.updPart n f).answer = c.answer := (rfl)
@[simp] theorem Chip.updPart_outs : (c.updPart n f).outs = c.outs := (rfl)
@[simp] theorem Chip.reg_updPart (r' : Reg) (i' j' : Nat) : (c.updPart n f).reg r' i' j' = c.reg r' i' j' := (rfl)
@[simp] theorem Chip.fld_updPart (g : Fld) (i' j' : Nat) : (c.updPart n f).fld g i' j' = c.fld g i' j' := (rfl)
@[simp] theorem Chip.flag_updPart (g : Fld) (i' j' : Nat) : (c.updPart n f).flag g i' j' = c.flag g i' j' := (rfl)
@[simp] theorem Chip.lane_updPart (m : Nat) : (c.updPart n f).lane m = c.lane m := (rfl)
@[simp] theorem Chip.port_updPart (m : Nat) : (c.updPart n f).port m = c.port m := (rfl)
@[simp] theorem Chip.flp_updPart (m : Nat) : (c.updPart n f).flp m = c.flp m := (rfl)
@[simp] theorem Chip.flc_updPart (m : Nat) : (c.updPart n f).flc m = c.flc m := (rfl)
@[simp] theorem Chip.box_updPart (m : Nat) : (c.updPart n f).box m = c.box m := (rfl)
end

/-! ### updFlc -/

section
variable (c : Chip) (n : Nat) (f : FlcH → FlcH)

@[simp] theorem Chip.updFlc_regs : (c.updFlc n f).regs = c.regs := (rfl)
@[simp] theorem Chip.updFlc_heldLo : (c.updFlc n f).heldLo = c.heldLo := (rfl)
@[simp] theorem Chip.updFlc_snaps : (c.updFlc n f).snaps = c.snaps := (rfl)
@[simp] theorem Chip.updFlc_cfg : (c.updFlc n f).cfg = c.cfg := (rfl)
@[simp] theorem Chip.updFlc_mode : (c.updFlc n f).mode = c.mode := (rfl)
@[simp] theorem Chip.updFlc_lanes : (c.updFlc n f).lanes = c.lanes := (rfl)
@[simp] theorem Chip.updFlc_ports : (c.updFlc n f).ports = c.ports := (rfl)
@[simp] theorem Chip.updFlc_fl : (c.updFlc n f).fl = c.fl := (rfl)
@[simp] theorem Chip.updFlc_cel : (c.updFlc n f).cel = c.cel := (rfl)
@[simp] theorem Chip.updFlc_fab : (c.updFlc n f).fab = c.fab := (rfl)
@[simp] theorem Chip.updFlc_parts : (c.updFlc n f).parts = c.parts := (rfl)
@[simp] theorem Chip.updFlc_flcReqs : (c.updFlc n f).flcReqs = c.flcReqs := (rfl)
@[simp] theorem Chip.updFlc_flt : (c.updFlc n f).flt = c.flt := (rfl)
@[simp] theorem Chip.updFlc_gat : (c.updFlc n f).gat = c.gat := (rfl)
@[simp] theorem Chip.updFlc_tim : (c.updFlc n f).tim = c.tim := (rfl)
@[simp] theorem Chip.updFlc_sched : (c.updFlc n f).sched = c.sched := (rfl)
@[simp] theorem Chip.updFlc_acd : (c.updFlc n f).acd = c.acd := (rfl)
@[simp] theorem Chip.updFlc_lpb : (c.updFlc n f).lpb = c.lpb := (rfl)
@[simp] theorem Chip.updFlc_fus : (c.updFlc n f).fus = c.fus := (rfl)
@[simp] theorem Chip.updFlc_ctr : (c.updFlc n f).ctr = c.ctr := (rfl)
@[simp] theorem Chip.updFlc_sil : (c.updFlc n f).sil = c.sil := (rfl)
@[simp] theorem Chip.updFlc_dbg : (c.updFlc n f).dbg = c.dbg := (rfl)
@[simp] theorem Chip.updFlc_pwr : (c.updFlc n f).pwr = c.pwr := (rfl)
@[simp] theorem Chip.updFlc_lbx : (c.updFlc n f).lbx = c.lbx := (rfl)
@[simp] theorem Chip.updFlc_hwy : (c.updFlc n f).hwy = c.hwy := (rfl)
@[simp] theorem Chip.updFlc_free : (c.updFlc n f).free = c.free := (rfl)
@[simp] theorem Chip.updFlc_answer : (c.updFlc n f).answer = c.answer := (rfl)
@[simp] theorem Chip.updFlc_outs : (c.updFlc n f).outs = c.outs := (rfl)
@[simp] theorem Chip.reg_updFlc (r' : Reg) (i' j' : Nat) : (c.updFlc n f).reg r' i' j' = c.reg r' i' j' := (rfl)
@[simp] theorem Chip.fld_updFlc (g : Fld) (i' j' : Nat) : (c.updFlc n f).fld g i' j' = c.fld g i' j' := (rfl)
@[simp] theorem Chip.flag_updFlc (g : Fld) (i' j' : Nat) : (c.updFlc n f).flag g i' j' = c.flag g i' j' := (rfl)
@[simp] theorem Chip.lane_updFlc (m : Nat) : (c.updFlc n f).lane m = c.lane m := (rfl)
@[simp] theorem Chip.port_updFlc (m : Nat) : (c.updFlc n f).port m = c.port m := (rfl)
@[simp] theorem Chip.flp_updFlc (m : Nat) : (c.updFlc n f).flp m = c.flp m := (rfl)
@[simp] theorem Chip.part_updFlc (m : Nat) : (c.updFlc n f).part m = c.part m := (rfl)
@[simp] theorem Chip.box_updFlc (m : Nat) : (c.updFlc n f).box m = c.box m := (rfl)
end

/-! ### updBox -/

section
variable (c : Chip) (n : Nat) (f : Box → Box)

@[simp] theorem Chip.updBox_regs : (c.updBox n f).regs = c.regs := (rfl)
@[simp] theorem Chip.updBox_heldLo : (c.updBox n f).heldLo = c.heldLo := (rfl)
@[simp] theorem Chip.updBox_snaps : (c.updBox n f).snaps = c.snaps := (rfl)
@[simp] theorem Chip.updBox_cfg : (c.updBox n f).cfg = c.cfg := (rfl)
@[simp] theorem Chip.updBox_mode : (c.updBox n f).mode = c.mode := (rfl)
@[simp] theorem Chip.updBox_lanes : (c.updBox n f).lanes = c.lanes := (rfl)
@[simp] theorem Chip.updBox_ports : (c.updBox n f).ports = c.ports := (rfl)
@[simp] theorem Chip.updBox_fl : (c.updBox n f).fl = c.fl := (rfl)
@[simp] theorem Chip.updBox_cel : (c.updBox n f).cel = c.cel := (rfl)
@[simp] theorem Chip.updBox_fab : (c.updBox n f).fab = c.fab := (rfl)
@[simp] theorem Chip.updBox_parts : (c.updBox n f).parts = c.parts := (rfl)
@[simp] theorem Chip.updBox_flcs : (c.updBox n f).flcs = c.flcs := (rfl)
@[simp] theorem Chip.updBox_flcReqs : (c.updBox n f).flcReqs = c.flcReqs := (rfl)
@[simp] theorem Chip.updBox_flt : (c.updBox n f).flt = c.flt := (rfl)
@[simp] theorem Chip.updBox_gat : (c.updBox n f).gat = c.gat := (rfl)
@[simp] theorem Chip.updBox_tim : (c.updBox n f).tim = c.tim := (rfl)
@[simp] theorem Chip.updBox_sched : (c.updBox n f).sched = c.sched := (rfl)
@[simp] theorem Chip.updBox_acd : (c.updBox n f).acd = c.acd := (rfl)
@[simp] theorem Chip.updBox_lpb : (c.updBox n f).lpb = c.lpb := (rfl)
@[simp] theorem Chip.updBox_fus : (c.updBox n f).fus = c.fus := (rfl)
@[simp] theorem Chip.updBox_ctr : (c.updBox n f).ctr = c.ctr := (rfl)
@[simp] theorem Chip.updBox_sil : (c.updBox n f).sil = c.sil := (rfl)
@[simp] theorem Chip.updBox_dbg : (c.updBox n f).dbg = c.dbg := (rfl)
@[simp] theorem Chip.updBox_pwr : (c.updBox n f).pwr = c.pwr := (rfl)
@[simp] theorem Chip.updBox_hwy : (c.updBox n f).hwy = c.hwy := (rfl)
@[simp] theorem Chip.updBox_free : (c.updBox n f).free = c.free := (rfl)
@[simp] theorem Chip.updBox_answer : (c.updBox n f).answer = c.answer := (rfl)
@[simp] theorem Chip.updBox_outs : (c.updBox n f).outs = c.outs := (rfl)
@[simp] theorem Chip.reg_updBox (r' : Reg) (i' j' : Nat) : (c.updBox n f).reg r' i' j' = c.reg r' i' j' := (rfl)
@[simp] theorem Chip.fld_updBox (g : Fld) (i' j' : Nat) : (c.updBox n f).fld g i' j' = c.fld g i' j' := (rfl)
@[simp] theorem Chip.flag_updBox (g : Fld) (i' j' : Nat) : (c.updBox n f).flag g i' j' = c.flag g i' j' := (rfl)
@[simp] theorem Chip.lane_updBox (m : Nat) : (c.updBox n f).lane m = c.lane m := (rfl)
@[simp] theorem Chip.port_updBox (m : Nat) : (c.updBox n f).port m = c.port m := (rfl)
@[simp] theorem Chip.flp_updBox (m : Nat) : (c.updBox n f).flp m = c.flp m := (rfl)
@[simp] theorem Chip.part_updBox (m : Nat) : (c.updBox n f).part m = c.part m := (rfl)
@[simp] theorem Chip.flc_updBox (m : Nat) : (c.updBox n f).flc m = c.flc m := (rfl)
end

/-! ### drawn -/

section
variable (c : Chip)

@[simp] theorem Chip.drawn_regs : c.drawn.regs = c.regs := (rfl)
@[simp] theorem Chip.drawn_heldLo : c.drawn.heldLo = c.heldLo := (rfl)
@[simp] theorem Chip.drawn_snaps : c.drawn.snaps = c.snaps := (rfl)
@[simp] theorem Chip.drawn_cfg : c.drawn.cfg = c.cfg := (rfl)
@[simp] theorem Chip.drawn_mode : c.drawn.mode = c.mode := (rfl)
@[simp] theorem Chip.drawn_lanes : c.drawn.lanes = c.lanes := (rfl)
@[simp] theorem Chip.drawn_ports : c.drawn.ports = c.ports := (rfl)
@[simp] theorem Chip.drawn_fl : c.drawn.fl = c.fl := (rfl)
@[simp] theorem Chip.drawn_cel : c.drawn.cel = c.cel := (rfl)
@[simp] theorem Chip.drawn_fab : c.drawn.fab = c.fab := (rfl)
@[simp] theorem Chip.drawn_parts : c.drawn.parts = c.parts := (rfl)
@[simp] theorem Chip.drawn_flcs : c.drawn.flcs = c.flcs := (rfl)
@[simp] theorem Chip.drawn_flcReqs : c.drawn.flcReqs = c.flcReqs := (rfl)
@[simp] theorem Chip.drawn_flt : c.drawn.flt = c.flt := (rfl)
@[simp] theorem Chip.drawn_gat : c.drawn.gat = c.gat := (rfl)
@[simp] theorem Chip.drawn_tim : c.drawn.tim = c.tim := (rfl)
@[simp] theorem Chip.drawn_sched : c.drawn.sched = c.sched := (rfl)
@[simp] theorem Chip.drawn_acd : c.drawn.acd = c.acd := (rfl)
@[simp] theorem Chip.drawn_lpb : c.drawn.lpb = c.lpb := (rfl)
@[simp] theorem Chip.drawn_fus : c.drawn.fus = c.fus := (rfl)
@[simp] theorem Chip.drawn_ctr : c.drawn.ctr = c.ctr := (rfl)
@[simp] theorem Chip.drawn_sil : c.drawn.sil = c.sil := (rfl)
@[simp] theorem Chip.drawn_dbg : c.drawn.dbg = c.dbg := (rfl)
@[simp] theorem Chip.drawn_pwr : c.drawn.pwr = c.pwr := (rfl)
@[simp] theorem Chip.drawn_lbx : c.drawn.lbx = c.lbx := (rfl)
@[simp] theorem Chip.drawn_hwy : c.drawn.hwy = c.hwy := (rfl)
@[simp] theorem Chip.drawn_answer : c.drawn.answer = c.answer := (rfl)
@[simp] theorem Chip.drawn_outs : c.drawn.outs = c.outs := (rfl)
@[simp] theorem Chip.reg_drawn (r' : Reg) (i' j' : Nat) : c.drawn.reg r' i' j' = c.reg r' i' j' := (rfl)
@[simp] theorem Chip.fld_drawn (g : Fld) (i' j' : Nat) : c.drawn.fld g i' j' = c.fld g i' j' := (rfl)
@[simp] theorem Chip.flag_drawn (g : Fld) (i' j' : Nat) : c.drawn.flag g i' j' = c.flag g i' j' := (rfl)
@[simp] theorem Chip.lane_drawn (m : Nat) : c.drawn.lane m = c.lane m := (rfl)
@[simp] theorem Chip.port_drawn (m : Nat) : c.drawn.port m = c.port m := (rfl)
@[simp] theorem Chip.flp_drawn (m : Nat) : c.drawn.flp m = c.flp m := (rfl)
@[simp] theorem Chip.part_drawn (m : Nat) : c.drawn.part m = c.part m := (rfl)
@[simp] theorem Chip.flc_drawn (m : Nat) : c.drawn.flc m = c.flc m := (rfl)
@[simp] theorem Chip.box_drawn (m : Nat) : c.drawn.box m = c.box m := (rfl)
end

/-! ### answering -/

section
variable (c : Chip) (ws : List Word)

@[simp] theorem Chip.answering_regs : (c.answering ws).regs = c.regs := (rfl)
@[simp] theorem Chip.answering_heldLo : (c.answering ws).heldLo = c.heldLo := (rfl)
@[simp] theorem Chip.answering_snaps : (c.answering ws).snaps = c.snaps := (rfl)
@[simp] theorem Chip.answering_cfg : (c.answering ws).cfg = c.cfg := (rfl)
@[simp] theorem Chip.answering_mode : (c.answering ws).mode = c.mode := (rfl)
@[simp] theorem Chip.answering_lanes : (c.answering ws).lanes = c.lanes := (rfl)
@[simp] theorem Chip.answering_ports : (c.answering ws).ports = c.ports := (rfl)
@[simp] theorem Chip.answering_fl : (c.answering ws).fl = c.fl := (rfl)
@[simp] theorem Chip.answering_cel : (c.answering ws).cel = c.cel := (rfl)
@[simp] theorem Chip.answering_fab : (c.answering ws).fab = c.fab := (rfl)
@[simp] theorem Chip.answering_parts : (c.answering ws).parts = c.parts := (rfl)
@[simp] theorem Chip.answering_flcs : (c.answering ws).flcs = c.flcs := (rfl)
@[simp] theorem Chip.answering_flcReqs : (c.answering ws).flcReqs = c.flcReqs := (rfl)
@[simp] theorem Chip.answering_flt : (c.answering ws).flt = c.flt := (rfl)
@[simp] theorem Chip.answering_gat : (c.answering ws).gat = c.gat := (rfl)
@[simp] theorem Chip.answering_tim : (c.answering ws).tim = c.tim := (rfl)
@[simp] theorem Chip.answering_sched : (c.answering ws).sched = c.sched := (rfl)
@[simp] theorem Chip.answering_acd : (c.answering ws).acd = c.acd := (rfl)
@[simp] theorem Chip.answering_lpb : (c.answering ws).lpb = c.lpb := (rfl)
@[simp] theorem Chip.answering_fus : (c.answering ws).fus = c.fus := (rfl)
@[simp] theorem Chip.answering_ctr : (c.answering ws).ctr = c.ctr := (rfl)
@[simp] theorem Chip.answering_sil : (c.answering ws).sil = c.sil := (rfl)
@[simp] theorem Chip.answering_dbg : (c.answering ws).dbg = c.dbg := (rfl)
@[simp] theorem Chip.answering_pwr : (c.answering ws).pwr = c.pwr := (rfl)
@[simp] theorem Chip.answering_lbx : (c.answering ws).lbx = c.lbx := (rfl)
@[simp] theorem Chip.answering_hwy : (c.answering ws).hwy = c.hwy := (rfl)
@[simp] theorem Chip.answering_free : (c.answering ws).free = c.free := (rfl)
@[simp] theorem Chip.answering_outs : (c.answering ws).outs = c.outs := (rfl)
@[simp] theorem Chip.reg_answering (r' : Reg) (i' j' : Nat) : (c.answering ws).reg r' i' j' = c.reg r' i' j' := (rfl)
@[simp] theorem Chip.fld_answering (g : Fld) (i' j' : Nat) : (c.answering ws).fld g i' j' = c.fld g i' j' := (rfl)
@[simp] theorem Chip.flag_answering (g : Fld) (i' j' : Nat) : (c.answering ws).flag g i' j' = c.flag g i' j' := (rfl)
@[simp] theorem Chip.lane_answering (m : Nat) : (c.answering ws).lane m = c.lane m := (rfl)
@[simp] theorem Chip.port_answering (m : Nat) : (c.answering ws).port m = c.port m := (rfl)
@[simp] theorem Chip.flp_answering (m : Nat) : (c.answering ws).flp m = c.flp m := (rfl)
@[simp] theorem Chip.part_answering (m : Nat) : (c.answering ws).part m = c.part m := (rfl)
@[simp] theorem Chip.flc_answering (m : Nat) : (c.answering ws).flc m = c.flc m := (rfl)
@[simp] theorem Chip.box_answering (m : Nat) : (c.answering ws).box m = c.box m := (rfl)
end

/-! ### emit -/

section
variable (c : Chip) (o : Out)

@[simp] theorem Chip.emit_regs : (c.emit o).regs = c.regs := (rfl)
@[simp] theorem Chip.emit_heldLo : (c.emit o).heldLo = c.heldLo := (rfl)
@[simp] theorem Chip.emit_snaps : (c.emit o).snaps = c.snaps := (rfl)
@[simp] theorem Chip.emit_cfg : (c.emit o).cfg = c.cfg := (rfl)
@[simp] theorem Chip.emit_mode : (c.emit o).mode = c.mode := (rfl)
@[simp] theorem Chip.emit_lanes : (c.emit o).lanes = c.lanes := (rfl)
@[simp] theorem Chip.emit_ports : (c.emit o).ports = c.ports := (rfl)
@[simp] theorem Chip.emit_fl : (c.emit o).fl = c.fl := (rfl)
@[simp] theorem Chip.emit_cel : (c.emit o).cel = c.cel := (rfl)
@[simp] theorem Chip.emit_fab : (c.emit o).fab = c.fab := (rfl)
@[simp] theorem Chip.emit_parts : (c.emit o).parts = c.parts := (rfl)
@[simp] theorem Chip.emit_flcs : (c.emit o).flcs = c.flcs := (rfl)
@[simp] theorem Chip.emit_flcReqs : (c.emit o).flcReqs = c.flcReqs := (rfl)
@[simp] theorem Chip.emit_flt : (c.emit o).flt = c.flt := (rfl)
@[simp] theorem Chip.emit_gat : (c.emit o).gat = c.gat := (rfl)
@[simp] theorem Chip.emit_tim : (c.emit o).tim = c.tim := (rfl)
@[simp] theorem Chip.emit_sched : (c.emit o).sched = c.sched := (rfl)
@[simp] theorem Chip.emit_acd : (c.emit o).acd = c.acd := (rfl)
@[simp] theorem Chip.emit_lpb : (c.emit o).lpb = c.lpb := (rfl)
@[simp] theorem Chip.emit_fus : (c.emit o).fus = c.fus := (rfl)
@[simp] theorem Chip.emit_ctr : (c.emit o).ctr = c.ctr := (rfl)
@[simp] theorem Chip.emit_sil : (c.emit o).sil = c.sil := (rfl)
@[simp] theorem Chip.emit_dbg : (c.emit o).dbg = c.dbg := (rfl)
@[simp] theorem Chip.emit_pwr : (c.emit o).pwr = c.pwr := (rfl)
@[simp] theorem Chip.emit_lbx : (c.emit o).lbx = c.lbx := (rfl)
@[simp] theorem Chip.emit_hwy : (c.emit o).hwy = c.hwy := (rfl)
@[simp] theorem Chip.emit_free : (c.emit o).free = c.free := (rfl)
@[simp] theorem Chip.emit_answer : (c.emit o).answer = c.answer := (rfl)
@[simp] theorem Chip.reg_emit (r' : Reg) (i' j' : Nat) : (c.emit o).reg r' i' j' = c.reg r' i' j' := (rfl)
@[simp] theorem Chip.fld_emit (g : Fld) (i' j' : Nat) : (c.emit o).fld g i' j' = c.fld g i' j' := (rfl)
@[simp] theorem Chip.flag_emit (g : Fld) (i' j' : Nat) : (c.emit o).flag g i' j' = c.flag g i' j' := (rfl)
@[simp] theorem Chip.lane_emit (m : Nat) : (c.emit o).lane m = c.lane m := (rfl)
@[simp] theorem Chip.port_emit (m : Nat) : (c.emit o).port m = c.port m := (rfl)
@[simp] theorem Chip.flp_emit (m : Nat) : (c.emit o).flp m = c.flp m := (rfl)
@[simp] theorem Chip.part_emit (m : Nat) : (c.emit o).part m = c.part m := (rfl)
@[simp] theorem Chip.flc_emit (m : Nat) : (c.emit o).flc m = c.flc m := (rfl)
@[simp] theorem Chip.box_emit (m : Nat) : (c.emit o).box m = c.box m := (rfl)
end

/-! ### emitAll -/

section
variable (c : Chip) (os : List Out)

@[simp] theorem Chip.emitAll_regs : (c.emitAll os).regs = c.regs := (rfl)
@[simp] theorem Chip.emitAll_heldLo : (c.emitAll os).heldLo = c.heldLo := (rfl)
@[simp] theorem Chip.emitAll_snaps : (c.emitAll os).snaps = c.snaps := (rfl)
@[simp] theorem Chip.emitAll_cfg : (c.emitAll os).cfg = c.cfg := (rfl)
@[simp] theorem Chip.emitAll_mode : (c.emitAll os).mode = c.mode := (rfl)
@[simp] theorem Chip.emitAll_lanes : (c.emitAll os).lanes = c.lanes := (rfl)
@[simp] theorem Chip.emitAll_ports : (c.emitAll os).ports = c.ports := (rfl)
@[simp] theorem Chip.emitAll_fl : (c.emitAll os).fl = c.fl := (rfl)
@[simp] theorem Chip.emitAll_cel : (c.emitAll os).cel = c.cel := (rfl)
@[simp] theorem Chip.emitAll_fab : (c.emitAll os).fab = c.fab := (rfl)
@[simp] theorem Chip.emitAll_parts : (c.emitAll os).parts = c.parts := (rfl)
@[simp] theorem Chip.emitAll_flcs : (c.emitAll os).flcs = c.flcs := (rfl)
@[simp] theorem Chip.emitAll_flcReqs : (c.emitAll os).flcReqs = c.flcReqs := (rfl)
@[simp] theorem Chip.emitAll_flt : (c.emitAll os).flt = c.flt := (rfl)
@[simp] theorem Chip.emitAll_gat : (c.emitAll os).gat = c.gat := (rfl)
@[simp] theorem Chip.emitAll_tim : (c.emitAll os).tim = c.tim := (rfl)
@[simp] theorem Chip.emitAll_sched : (c.emitAll os).sched = c.sched := (rfl)
@[simp] theorem Chip.emitAll_acd : (c.emitAll os).acd = c.acd := (rfl)
@[simp] theorem Chip.emitAll_lpb : (c.emitAll os).lpb = c.lpb := (rfl)
@[simp] theorem Chip.emitAll_fus : (c.emitAll os).fus = c.fus := (rfl)
@[simp] theorem Chip.emitAll_ctr : (c.emitAll os).ctr = c.ctr := (rfl)
@[simp] theorem Chip.emitAll_sil : (c.emitAll os).sil = c.sil := (rfl)
@[simp] theorem Chip.emitAll_dbg : (c.emitAll os).dbg = c.dbg := (rfl)
@[simp] theorem Chip.emitAll_pwr : (c.emitAll os).pwr = c.pwr := (rfl)
@[simp] theorem Chip.emitAll_lbx : (c.emitAll os).lbx = c.lbx := (rfl)
@[simp] theorem Chip.emitAll_hwy : (c.emitAll os).hwy = c.hwy := (rfl)
@[simp] theorem Chip.emitAll_free : (c.emitAll os).free = c.free := (rfl)
@[simp] theorem Chip.emitAll_answer : (c.emitAll os).answer = c.answer := (rfl)
@[simp] theorem Chip.reg_emitAll (r' : Reg) (i' j' : Nat) : (c.emitAll os).reg r' i' j' = c.reg r' i' j' := (rfl)
@[simp] theorem Chip.fld_emitAll (g : Fld) (i' j' : Nat) : (c.emitAll os).fld g i' j' = c.fld g i' j' := (rfl)
@[simp] theorem Chip.flag_emitAll (g : Fld) (i' j' : Nat) : (c.emitAll os).flag g i' j' = c.flag g i' j' := (rfl)
@[simp] theorem Chip.lane_emitAll (m : Nat) : (c.emitAll os).lane m = c.lane m := (rfl)
@[simp] theorem Chip.port_emitAll (m : Nat) : (c.emitAll os).port m = c.port m := (rfl)
@[simp] theorem Chip.flp_emitAll (m : Nat) : (c.emitAll os).flp m = c.flp m := (rfl)
@[simp] theorem Chip.part_emitAll (m : Nat) : (c.emitAll os).part m = c.part m := (rfl)
@[simp] theorem Chip.flc_emitAll (m : Nat) : (c.emitAll os).flc m = c.flc m := (rfl)
@[simp] theorem Chip.box_emitAll (m : Nat) : (c.emitAll os).box m = c.box m := (rfl)
end

/-! ### noteLimit -/

section
variable (c : Chip) (k : Nat)

@[simp] theorem Chip.noteLimit_regs : (c.noteLimit k).regs = c.regs := (rfl)
@[simp] theorem Chip.noteLimit_heldLo : (c.noteLimit k).heldLo = c.heldLo := (rfl)
@[simp] theorem Chip.noteLimit_snaps : (c.noteLimit k).snaps = c.snaps := (rfl)
@[simp] theorem Chip.noteLimit_cfg : (c.noteLimit k).cfg = c.cfg := (rfl)
@[simp] theorem Chip.noteLimit_mode : (c.noteLimit k).mode = c.mode := (rfl)
@[simp] theorem Chip.noteLimit_lanes : (c.noteLimit k).lanes = c.lanes := (rfl)
@[simp] theorem Chip.noteLimit_ports : (c.noteLimit k).ports = c.ports := (rfl)
@[simp] theorem Chip.noteLimit_fl : (c.noteLimit k).fl = c.fl := (rfl)
@[simp] theorem Chip.noteLimit_cel : (c.noteLimit k).cel = c.cel := (rfl)
@[simp] theorem Chip.noteLimit_fab : (c.noteLimit k).fab = c.fab := (rfl)
@[simp] theorem Chip.noteLimit_parts : (c.noteLimit k).parts = c.parts := (rfl)
@[simp] theorem Chip.noteLimit_flcs : (c.noteLimit k).flcs = c.flcs := (rfl)
@[simp] theorem Chip.noteLimit_flcReqs : (c.noteLimit k).flcReqs = c.flcReqs := (rfl)
@[simp] theorem Chip.noteLimit_gat : (c.noteLimit k).gat = c.gat := (rfl)
@[simp] theorem Chip.noteLimit_tim : (c.noteLimit k).tim = c.tim := (rfl)
@[simp] theorem Chip.noteLimit_sched : (c.noteLimit k).sched = c.sched := (rfl)
@[simp] theorem Chip.noteLimit_acd : (c.noteLimit k).acd = c.acd := (rfl)
@[simp] theorem Chip.noteLimit_lpb : (c.noteLimit k).lpb = c.lpb := (rfl)
@[simp] theorem Chip.noteLimit_fus : (c.noteLimit k).fus = c.fus := (rfl)
@[simp] theorem Chip.noteLimit_ctr : (c.noteLimit k).ctr = c.ctr := (rfl)
@[simp] theorem Chip.noteLimit_sil : (c.noteLimit k).sil = c.sil := (rfl)
@[simp] theorem Chip.noteLimit_dbg : (c.noteLimit k).dbg = c.dbg := (rfl)
@[simp] theorem Chip.noteLimit_pwr : (c.noteLimit k).pwr = c.pwr := (rfl)
@[simp] theorem Chip.noteLimit_lbx : (c.noteLimit k).lbx = c.lbx := (rfl)
@[simp] theorem Chip.noteLimit_hwy : (c.noteLimit k).hwy = c.hwy := (rfl)
@[simp] theorem Chip.noteLimit_free : (c.noteLimit k).free = c.free := (rfl)
@[simp] theorem Chip.noteLimit_answer : (c.noteLimit k).answer = c.answer := (rfl)
@[simp] theorem Chip.noteLimit_outs : (c.noteLimit k).outs = c.outs := (rfl)
@[simp] theorem Chip.reg_noteLimit (r' : Reg) (i' j' : Nat) : (c.noteLimit k).reg r' i' j' = c.reg r' i' j' := (rfl)
@[simp] theorem Chip.fld_noteLimit (g : Fld) (i' j' : Nat) : (c.noteLimit k).fld g i' j' = c.fld g i' j' := (rfl)
@[simp] theorem Chip.flag_noteLimit (g : Fld) (i' j' : Nat) : (c.noteLimit k).flag g i' j' = c.flag g i' j' := (rfl)
@[simp] theorem Chip.lane_noteLimit (m : Nat) : (c.noteLimit k).lane m = c.lane m := (rfl)
@[simp] theorem Chip.port_noteLimit (m : Nat) : (c.noteLimit k).port m = c.port m := (rfl)
@[simp] theorem Chip.flp_noteLimit (m : Nat) : (c.noteLimit k).flp m = c.flp m := (rfl)
@[simp] theorem Chip.part_noteLimit (m : Nat) : (c.noteLimit k).part m = c.part m := (rfl)
@[simp] theorem Chip.flc_noteLimit (m : Nat) : (c.noteLimit k).flc m = c.flc m := (rfl)
@[simp] theorem Chip.box_noteLimit (m : Nat) : (c.noteLimit k).box m = c.box m := (rfl)
end

/-! ### The last answer, the outputs, the free values -/

@[simp] theorem Chip.answering_answer (c : Chip) (ws : List Word) : (c.answering ws).answer = ws := (rfl)
@[simp] theorem Chip.emit_outs (c : Chip) (o : Out) : (c.emit o).outs = o :: c.outs := (rfl)
@[simp] theorem Chip.emitAll_outs (c : Chip) (os : List Out) : (c.emitAll os).outs = os.reverse ++ c.outs := (rfl)
@[simp] theorem Chip.drawn_free (c : Chip) : c.drawn.free = c.free + 1 := (rfl)

end Sys2Proof.Machine
end

