-- ==== Sys2Proof/Laws/Store.lean ====
section
/-! SUPPORT. Reading after writing, in the register file, in a sparse table and in a field of a word. -/

namespace Sys2Proof.Machine

theorem RegFile.get_erase (m : RegFile) (k k' : RegKey) :
    RegFile.get (RegFile.erase m k) k' = if k = k' then k'.reset else m.get k' := by
  induction m with
  | nil => simp [RegFile.erase, RegFile.get]
  | cons e m ih =>
    obtain ⟨a, v⟩ := e
    by_cases h : a = k
    · subst h
      simp only [RegFile.erase, RegFile.get, if_true, ih]
      split <;> simp_all
    · simp only [RegFile.erase, if_neg h, RegFile.get, ih]
      split <;> split <;> simp_all

theorem RegFile.get_insert (m : RegFile) (k k' : RegKey) (v : Word) :
    RegFile.get (RegFile.insert m k v) k' = if k = k' then v else m.get k' := by
  induction m with
  | nil => simp [RegFile.insert, RegFile.get]
  | cons e m ih =>
    obtain ⟨a, w⟩ := e
    simp only [RegFile.insert]
    split
    · next h => subst h; simp only [RegFile.get]; split <;> rfl
    · next h =>
      split
      · simp only [RegFile.get]
      · simp only [RegFile.get, ih]
        split <;> split <;> simp_all

/-- Reading after a write of the register file. -/
@[simp] theorem RegFile.get_set (m : RegFile) (k k' : RegKey) (v : Word) :
    (m.set k v).get k' = if k = k' then v else m.get k' := by
  simp only [RegFile.set]
  split
  · next h => rw [RegFile.get_erase]; split
              · next e => subst e; exact h.symm
              · rfl
  · exact RegFile.get_insert m k k' v

theorem Table.get_erase {α : Type} (d : α) (m : Table α) (k k' : Nat) :
    Table.get d (Table.erase m k) k' = if k = k' then d else Table.get d m k' := by
  induction m with
  | nil => simp [Table.erase, Table.get]
  | cons e m ih =>
    obtain ⟨a, v⟩ := e
    by_cases h : a = k
    · subst h
      simp only [Table.erase, Table.get, if_true, ih]
      split <;> simp_all
    · simp only [Table.erase, if_neg h, Table.get, ih]
      split <;> split <;> simp_all

theorem Table.get_insert {α : Type} (d : α) (m : Table α) (k k' : Nat) (v : α) :
    Table.get d (Table.insert m k v) k' = if k = k' then v else Table.get d m k' := by
  induction m with
  | nil => simp [Table.insert, Table.get]
  | cons e m ih =>
    obtain ⟨a, w⟩ := e
    simp only [Table.insert]
    split
    · next h => subst h; simp only [Table.get]; split <;> rfl
    · next h =>
      split
      · simp only [Table.get]
      · simp only [Table.get, ih]
        split <;> split <;> simp_all

/-- Reading after a write of a sparse table. -/
@[simp] theorem Table.get_set {α : Type} [DecidableEq α] (d : α) (m : Table α) (k k' : Nat) (v : α) :
    Table.get d (Table.set d m k v) k' = if k = k' then v else Table.get d m k' := by
  simp only [Table.set]
  split
  · next h => rw [Table.get_erase]; split
              · exact h.symm
              · rfl
  · exact Table.get_insert d m k k' v

/-! ### Fields of a word -/

theorem bits_lt (n hi lo : Nat) : bits n hi lo < 2 ^ (hi + 1 - lo) := Nat.mod_lt _ (Nat.two_pow_pos _)

/-- The number with a field replaced: what is below it, the new value, what is above it. -/
theorem field_replace (n lo k v : Nat) :
    n - bits n (lo + k - 1) lo * 2 ^ lo + v * 2 ^ lo = n % 2 ^ lo + 2 ^ lo * (v + 2 ^ k * (n / 2 ^ lo / 2 ^ k)) ∨ k = 0 := by
  rcases Nat.eq_zero_or_pos k with h | h
  · exact .inr h
  · refine .inl ?_
    have e : lo + k - 1 + 1 - lo = k := by omega
    simp only [bits, e]
    have h1 := Nat.div_add_mod n (2 ^ lo)
    have h2 := Nat.div_add_mod (n / 2 ^ lo) (2 ^ k)
    generalize n / 2 ^ lo = m at *
    generalize m / 2 ^ k = u at *
    generalize m % 2 ^ k = b at *
    generalize n % 2 ^ lo = a at *
    subst h2 h1
    generalize 2 ^ lo = p
    generalize 2 ^ k = q
    have : p * (q * u + b) + a = a + p * (q * u) + b * p := by grind
    rw [this, Nat.add_sub_cancel]
    grind

/-- The word with a field replaced, as a number: below the field, the field, above it. -/
theorem wset_toNat (w : Word) (hi lo v : Nat) (h : lo ≤ hi) (h' : hi < 32) :
    (wset w hi lo v).toNat = w.toNat % 2 ^ lo + 2 ^ lo * (v % 2 ^ (hi + 1 - lo) + 2 ^ (hi + 1 - lo) * (w.toNat / 2 ^ lo / 2 ^ (hi + 1 - lo))) := by
  obtain ⟨k, rfl⟩ : ∃ k, hi = lo + (k + 1) - 1 := ⟨hi - lo, by omega⟩
  have e : lo + (k + 1) - 1 + 1 - lo = k + 1 := by omega
  have f := (field_replace w.toNat lo (k + 1) (v % 2 ^ (k + 1))).resolve_right (by omega)
  simp only [wset, e, word, BitVec.toNat_ofNat, f]
  apply Nat.mod_eq_of_lt
  have hw : w.toNat < 2 ^ 32 := w.isLt
  have hv : v % 2 ^ (k + 1) < 2 ^ (k + 1) := Nat.mod_lt _ (Nat.two_pow_pos _)
  have hu : w.toNat / 2 ^ lo / 2 ^ (k + 1) < 2 ^ (32 - lo - (k + 1)) := by
    rw [Nat.div_div_eq_div_mul, ← Nat.pow_add]
    apply Nat.div_lt_of_lt_mul
    rw [← Nat.pow_add]
    have : lo + (k + 1) + (32 - lo - (k + 1)) = 32 := by omega
    rw [this]; exact hw
  have hn : w.toNat % 2 ^ lo < 2 ^ lo := Nat.mod_lt _ (Nat.two_pow_pos _)
  have e32 : (2 : Nat) ^ 32 = 2 ^ lo * (2 ^ (k + 1) * 2 ^ (32 - lo - (k + 1))) := by
    rw [← Nat.pow_add, ← Nat.pow_add]; congr 1; omega
  rw [e32]
  generalize w.toNat / 2 ^ lo / 2 ^ (k + 1) = u at *
  generalize v % 2 ^ (k + 1) = b at *
  generalize w.toNat % 2 ^ lo = a at *
  generalize 2 ^ (32 - lo - (k + 1)) = r at *
  generalize 2 ^ (k + 1) = q at *
  generalize 2 ^ lo = p at *
  have h1 : b + q * u + 1 ≤ q * r := by
    have : q * (u + 1) ≤ q * r := Nat.mul_le_mul_left _ hu
    rw [Nat.mul_add] at this; omega
  have h2 : p * (b + q * u + 1) ≤ p * (q * r) := Nat.mul_le_mul_left _ h1
  rw [Nat.mul_add] at h2; omega

/-- A field reads back what was written to it. -/
theorem wget_wset_self (w : Word) (hi lo v : Nat) (h : lo ≤ hi) (h' : hi < 32) :
    wget (wset w hi lo v) hi lo = v % 2 ^ (hi + 1 - lo) := by
  have hn : w.toNat % 2 ^ lo < 2 ^ lo := Nat.mod_lt _ (Nat.two_pow_pos _)
  rw [wget, wset_toNat w hi lo v h h', bits, Nat.add_mul_div_left _ _ (Nat.two_pow_pos _), Nat.div_eq_of_lt hn, Nat.zero_add,
    Nat.add_mul_mod_self_left, Nat.mod_mod]

/-- A field above the one written keeps its value. -/
theorem wget_wset_above (w : Word) (hi lo v hi' lo' : Nat) (h : lo ≤ hi) (h' : hi < 32) (d : hi < lo') :
    wget (wset w hi lo v) hi' lo' = wget w hi' lo' := by
  have hn : w.toNat % 2 ^ lo < 2 ^ lo := Nat.mod_lt _ (Nat.two_pow_pos _)
  have hv : v % 2 ^ (hi + 1 - lo) < 2 ^ (hi + 1 - lo) := Nat.mod_lt _ (Nat.two_pow_pos _)
  have key : (wset w hi lo v).toNat / 2 ^ (hi + 1) = w.toNat / 2 ^ (hi + 1) := by
    have e : 2 ^ (hi + 1) = 2 ^ lo * 2 ^ (hi + 1 - lo) := by rw [← Nat.pow_add]; congr 1; omega
    rw [wset_toNat w hi lo v h h', e, ← Nat.div_div_eq_div_mul, ← Nat.div_div_eq_div_mul,
      Nat.add_mul_div_left _ _ (Nat.two_pow_pos _), Nat.div_eq_of_lt hn, Nat.zero_add,
      Nat.add_mul_div_left _ _ (Nat.two_pow_pos _), Nat.div_eq_of_lt hv, Nat.zero_add]
  have e : 2 ^ lo' = 2 ^ (hi + 1) * 2 ^ (lo' - (hi + 1)) := by rw [← Nat.pow_add]; congr 1; omega
  simp only [wget, bits, e, ← Nat.div_div_eq_div_mul, key]

/-- A field below the one written keeps its value. -/
theorem wget_wset_below (w : Word) (hi lo v hi' lo' : Nat) (h : lo ≤ hi) (h' : hi < 32) (d : hi' < lo) :
    wget (wset w hi lo v) hi' lo' = wget w hi' lo' := by
  rcases Nat.lt_or_ge hi' lo' with o | o
  · have : hi' + 1 - lo' = 0 := by omega
    simp [wget, bits, this, Nat.mod_one]
  · have key : (wset w hi lo v).toNat % 2 ^ lo = w.toNat % 2 ^ lo := by
      rw [wset_toNat w hi lo v h h', Nat.add_mul_mod_self_left, Nat.mod_mod]
    have e : 2 ^ lo = 2 ^ lo' * (2 ^ (hi' + 1 - lo') * 2 ^ (lo - (hi' + 1))) := by
      rw [← Nat.pow_add, ← Nat.pow_add]; congr 1; omega
    have f (n : Nat) : n / 2 ^ lo' % 2 ^ (hi' + 1 - lo') = n % 2 ^ lo / 2 ^ lo' % 2 ^ (hi' + 1 - lo') := by
      rw [e, Nat.mod_mul_right_div_self, Nat.mod_mul_right_mod]
    simp only [wget, bits]
    rw [f, key, ← f]

end Sys2Proof.Machine
end

