-- ==== Sys2Proof/Laws/Chip.lean ====
section
/-! SUPPORT. Fields of the device after an update, and the frames of the updates. -/

namespace Sys2Proof.Machine

/-- The field's bits lie in a word. -/
def Fld.ok (f : Fld) : Bool := Nat.ble f.lo f.hi && Nat.blt f.hi 32

/-- The fields share no bit: other registers, or other bits of one. -/
def Fld.apart (f g : Fld) : Bool := f.reg != g.reg || Nat.blt f.hi g.lo || Nat.blt g.hi f.lo

@[simp] theorem Chip.reg_setReg (c : Chip) (r r' : Reg) (v : Word) (i j i' j' : Nat) :
    (c.setReg r v i j).reg r' i' j' = if r = r' ∧ i = i' ∧ j = j' then v else c.reg r' i' j' := by
  simp only [Chip.reg, Chip.setReg, RegFile.get_set, RegKey.mk.injEq]

/-- A field reads back what was written to it. -/
theorem Chip.fld_setFld_self (c : Chip) (f : Fld) (v i j : Nat) (h : f.ok = true) :
    (c.setFld f v i j).fld f i j = v % 2 ^ (f.hi + 1 - f.lo) := by
  simp only [Fld.ok, Bool.and_eq_true, Nat.ble_eq, Nat.blt_eq] at h
  simp only [Chip.fld, Chip.setFld, Chip.reg_setReg, and_self, if_true]
  exact wget_wset_self _ _ _ _ h.1 h.2

/-- A field reads back a value that fits. -/
theorem Chip.fld_setFld_fits (c : Chip) (f : Fld) (v i j : Nat) (h : f.ok = true) (l : v < 2 ^ (f.hi + 1 - f.lo)) :
    (c.setFld f v i j).fld f i j = v := by rw [Chip.fld_setFld_self _ _ _ _ _ h, Nat.mod_eq_of_lt l]

/-- A field that shares no bit with the one written keeps its value. -/
theorem Chip.fld_setFld_apart (c : Chip) (f g : Fld) (v i j i' j' : Nat) (h : f.ok = true) (d : f.apart g = true) :
    (c.setFld f v i j).fld g i' j' = c.fld g i' j' := by
  simp only [Fld.ok, Bool.and_eq_true, Nat.ble_eq, Nat.blt_eq] at h
  simp only [Fld.apart, Bool.or_eq_true, bne_iff_ne, ne_eq, Nat.blt_eq] at d
  simp only [Chip.fld, Chip.setFld, Chip.reg_setReg]
  split
  · next e =>
    obtain ⟨e, rfl, rfl⟩ := e
    rcases d with (d | d) | d
    · exact absurd e d
    · rw [wget_wset_above _ _ _ _ _ _ h.1 h.2 d, e]
    · rw [wget_wset_below _ _ _ _ _ _ h.1 h.2 d, e]
  · rfl

/-- A field of another instance keeps its value. -/
theorem Chip.fld_setFld_index (c : Chip) (f g : Fld) (v i j i' j' : Nat) (h : i ≠ i' ∨ j ≠ j') :
    (c.setFld f v i j).fld g i' j' = c.fld g i' j' := by
  simp only [Chip.fld, Chip.setFld, Chip.reg_setReg]
  rw [if_neg]; rintro ⟨_, rfl, rfl⟩; simp at h

/-- A field is less than the number of its values. -/
theorem Chip.fld_lt (c : Chip) (f : Fld) (i j : Nat) : c.fld f i j < 2 ^ (f.hi + 1 - f.lo) := bits_lt _ _ _

theorem Chip.flag_eq (c : Chip) (f : Fld) (i j : Nat) : c.flag f i j = (c.fld f i j != 0) := rfl

/-! ### Frames -/

theorem Chip.partsSame_refl (ps : List Part) (c : Chip) : c.partsSame ps c := by
  simp [Chip.partsSame]

theorem Chip.partsSame_trans {ps : List Part} {a b c : Chip} (h : a.partsSame ps b) (g : b.partsSame ps c) :
    a.partsSame ps c := by
  simp only [Chip.partsSame] at *
  obtain ⟨h1, h2, h3, h4, h5, h6, h7, h8, h9, h10, h11, h12, h13, h14, h15, h16, h17, h18, h19, h20, h21, h22, h23, h24,
    h25, h26, h27, h28⟩ := h
  obtain ⟨g1, g2, g3, g4, g5, g6, g7, g8, g9, g10, g11, g12, g13, g14, g15, g16, g17, g18, g19, g20, g21, g22, g23, g24,
    g25, g26, g27, g28⟩ := g
  exact ⟨fun n => (g1 n).trans (h1 n), fun n => (g2 n).trans (h2 n), fun n => (g3 n).trans (h3 n),
    fun n => (g4 n).trans (h4 n), fun n => (g5 n).trans (h5 n), fun n => (g6 n).trans (h6 n),
    fun n => (g7 n).trans (h7 n), fun n => (g8 n).trans (h8 n), fun n => (g9 n).trans (h9 n),
    fun n => (g10 n).trans (h10 n), fun n => (g11 n).trans (h11 n), fun n => (g12 n).trans (h12 n),
    fun n => (g13 n).trans (h13 n), fun n => (g14 n).trans (h14 n), fun n => (g15 n).trans (h15 n),
    fun n => (g16 n).trans (h16 n), fun n => (g17 n).trans (h17 n), fun n => (g18 n).trans (h18 n),
    fun n => (g19 n).trans (h19 n), fun n => (g20 n).trans (h20 n), fun n => (g21 n).trans (h21 n),
    fun n => (g22 n).trans (h22 n), fun n => (g23 n).trans (h23 n), fun n => (g24 n).trans (h24 n),
    fun n => (g25 n).trans (h25 n), fun n => (g26 n).trans (h26 n), fun n => (g27 n).trans (h27 n),
    fun n => (g28 n).trans (h28 n)⟩

theorem Chip.frame_refl (vals : List FieldVal) (rs : List Reg) (ps : List Part) (c : Chip) : c.frame vals rs ps c :=
  ⟨fun _ _ _ _ => rfl, c.partsSame_refl ps⟩

theorem Chip.frame_trans {vals : List FieldVal} {rs : List Reg} {ps : List Part} {a b c : Chip}
    (h : a.frame vals rs ps b) (g : b.frame vals rs ps c) : a.frame vals rs ps c :=
  ⟨fun k n hr hv => (g.1 k n hr hv).trans (h.1 k n hr hv), Chip.partsSame_trans h.2 g.2⟩

/-- A bit outside the field written keeps its value. -/
theorem getLsbD_wset (w : Word) (hi lo v b : Nat) (h : lo ≤ hi) (h' : hi < 32) (o : b < lo ∨ hi < b) :
    (wset w hi lo v).getLsbD b = w.getLsbD b := by
  have key : wget (wset w hi lo v) b b = wget w b b := by
    rcases o with o | o
    · exact wget_wset_below _ _ _ _ _ _ h h' o
    · exact wget_wset_above _ _ _ _ _ _ h h' o
  have one (w : Word) : w.getLsbD b = decide (wget w b b = 1) := by
    have e : b + 1 - b = 1 := by omega
    simp only [wget, bits, e, BitVec.getLsbD, Nat.testBit, Nat.shiftRight_eq_div_pow, Nat.pow_one]
    rw [Nat.and_comm, Nat.and_one_is_mod]
    rcases Nat.mod_two_eq_zero_or_one (w.toNat / 2 ^ b) with e | e <;> simp [e]
  rw [one, one, key]

/-- The frame of a field's write: the field is among those listed, or its register among those named. -/
theorem Chip.frame_setFld {vals : List FieldVal} {rs : List Reg} {ps : List Part} {a c : Chip} {f : Fld} {v i j : Nat}
    (h : a.frame vals rs ps c) (ok : f.ok = true)
    (m : f.reg ∈ rs ∨ ∃ e ∈ vals, e.f.reg = f.reg ∧ e.i = i ∧ e.j = j ∧ e.f.lo ≤ f.lo ∧ f.hi ≤ e.f.hi) :
    a.frame vals rs ps (c.setFld f v i j) := by
  refine ⟨fun k b hr hv => ?_, h.2⟩
  rw [← h.1 k b hr hv]
  simp only [Chip.setFld, Chip.setReg, RegFile.get_set]
  split
  · next e =>
    subst e
    rcases m with m | ⟨e, he, e1, e2, e3, e4, e5⟩
    · exact absurd m hr
    · simp only [Fld.ok, Bool.and_eq_true, Nat.ble_eq, Nat.blt_eq] at ok
      have := hv e he
      simp only [FieldVal.covers, e1, e2, e3, true_and] at this
      exact getLsbD_wset _ _ _ _ _ ok.1 ok.2 (by omega)
  · rfl

/-- The frame of a register's write. -/
theorem Chip.frame_setReg {vals : List FieldVal} {rs : List Reg} {ps : List Part} {a c : Chip} {r : Reg} {v : Word}
    {i j : Nat} (h : a.frame vals rs ps c)
    (m : r ∈ rs ∨ ∃ e ∈ vals, e.f.reg = r ∧ e.i = i ∧ e.j = j ∧ e.f.lo = 0 ∧ 31 ≤ e.f.hi) :
    a.frame vals rs ps (c.setReg r v i j) := by
  refine ⟨fun k b hr hv => ?_, h.2⟩
  rw [← h.1 k b hr hv]
  simp only [Chip.setReg, RegFile.get_set]
  split
  · next e =>
    subst e
    rcases m with m | ⟨e, he, e1, e2, e3, e4, e5⟩
    · exact absurd m hr
    · have := hv e he
      simp only [FieldVal.covers, e1, e2, e3, e4, true_and] at this
      rw [BitVec.getLsbD_of_ge _ _ (by omega), BitVec.getLsbD_of_ge _ _ (by omega)]
  · rfl

theorem Chip.partsSame_mono {ps qs : List Part} {a b : Chip} (h : a.partsSame ps b) (m : ∀ p ∈ ps, p ∈ qs) :
    a.partsSame qs b := by
  simp only [Chip.partsSame] at *
  obtain ⟨h1, h2, h3, h4, h5, h6, h7, h8, h9, h10, h11, h12, h13, h14, h15, h16, h17, h18, h19, h20, h21, h22, h23, h24,
    h25, h26, h27, h28⟩ := h
  exact ⟨fun n => h1 (mt (m _) n), fun n => h2 (mt (m _) n), fun n => h3 (mt (m _) n), fun n => h4 (mt (m _) n),
    fun n => h5 (mt (m _) n), fun n => h6 (mt (m _) n), fun n => h7 (mt (m _) n), fun n => h8 (mt (m _) n),
    fun n => h9 (mt (m _) n), fun n => h10 (mt (m _) n), fun n => h11 (mt (m _) n), fun n => h12 (mt (m _) n),
    fun n => h13 (mt (m _) n), fun n => h14 (mt (m _) n), fun n => h15 (mt (m _) n), fun n => h16 (mt (m _) n),
    fun n => h17 (mt (m _) n), fun n => h18 (mt (m _) n), fun n => h19 (mt (m _) n), fun n => h20 (mt (m _) n),
    fun n => h21 (mt (m _) n), fun n => h22 (mt (m _) n), fun n => h23 (mt (m _) n), fun n => h24 (mt (m _) n),
    fun n => h25 (mt (m _) n), fun n => h26 (mt (m _) n), fun n => h27 (mt (m _) n), fun n => h28 (mt (m _) n)⟩

/-- A frame that allows more. -/
theorem Chip.frame_mono {vals vals' : List FieldVal} {rs rs' : List Reg} {ps ps' : List Part} {a b : Chip}
    (h : a.frame vals rs ps b) (mv : ∀ e ∈ vals, e.f.reg ∈ rs' ∨ ∃ e' ∈ vals', e'.f.reg = e.f.reg ∧ e'.i = e.i ∧
      e'.j = e.j ∧ e'.f.lo ≤ e.f.lo ∧ e.f.hi ≤ e'.f.hi)
    (mr : ∀ r ∈ rs, r ∈ rs') (mp : ∀ p ∈ ps, p ∈ ps') : a.frame vals' rs' ps' b := by
  refine ⟨fun k n hr hv => h.1 k n (mt (mr _) hr) fun e he hc => ?_, Chip.partsSame_mono h.2 mp⟩
  obtain ⟨rfl, c2, c3⟩ := hc
  rcases mv e he with m | ⟨e', he', e1, e2, e3, e4, e5⟩
  · exact hr m
  · exact hv e' he' ⟨by rw [e1, e2, e3], by omega, by omega⟩

/-- A field that no part of a frame reaches keeps its value. -/
theorem Chip.frame_fld {vals : List FieldVal} {rs : List Reg} {ps : List Part} {a b : Chip} (h : a.frame vals rs ps b)
    (g : Fld) (i j : Nat) (nr : g.reg ∉ rs) (nv : ∀ e ∈ vals, e.f.apart g = true ∨ e.i ≠ i ∨ e.j ≠ j) :
    b.fld g i j = a.fld g i j := by
  have key (n : Nat) (lo : g.lo ≤ n) (hi : n ≤ g.hi) :
      (b.regs.get ⟨g.reg, i, j⟩).getLsbD n = (a.regs.get ⟨g.reg, i, j⟩).getLsbD n := by
    refine h.1 _ _ nr fun e he hc => ?_
    obtain ⟨c1, c2, c3⟩ := hc
    simp only [RegKey.mk.injEq] at c1
    obtain ⟨c1, rfl, rfl⟩ := c1
    rcases nv e he with d | d | d
    · simp only [Fld.apart, Bool.or_eq_true, bne_iff_ne, ne_eq, Nat.blt_eq] at d
      rcases d with (d | d) | d
      · exact d c1.symm
      · omega
      · omega
    · exact d rfl
    · exact d rfl
  simp only [Chip.fld, Chip.reg, wget, bits]
  refine Nat.eq_of_testBit_eq fun n => ?_
  simp only [Nat.testBit_mod_two_pow, Nat.testBit_div_two_pow]
  by_cases q : n < g.hi + 1 - g.lo
  · have := key (n + g.lo) (by omega) (by omega)
    simp only [BitVec.getLsbD] at this
    simp [q, this]
  · simp [q]

/-- A one-bit field that no part of a frame reaches keeps its value. -/
theorem Chip.frame_flag {vals : List FieldVal} {rs : List Reg} {ps : List Part} {a b : Chip} (h : a.frame vals rs ps b)
    (g : Fld) (i j : Nat) (nr : g.reg ∉ rs) (nv : ∀ e ∈ vals, e.f.apart g = true ∨ e.i ≠ i ∨ e.j ≠ j) :
    b.flag g i j = a.flag g i j := by
  simp only [Chip.flag, Chip.frame_fld h g i j nr nv]

/-- The frame of a change that touches no register. -/
theorem Chip.frame_noRegs {vals : List FieldVal} {rs : List Reg} {ps : List Part} {a c c' : Chip} (h : a.frame vals rs ps c)
    (r : c'.regs = c.regs) (m : c.partsSame ps c') : a.frame vals rs ps c' :=
  ⟨fun k b hr hv => by rw [r]; exact h.1 k b hr hv, Chip.partsSame_trans h.2 m⟩

end Sys2Proof.Machine
end

