-- ==== Sys2Proof/Laws/Parts.lean ====
section
/-! SUPPORT. The frame of a change of one part of the device: one lemma for each part. -/

namespace Sys2Proof.Machine

variable {vals : List FieldVal} {rs : List Reg} {ps : List Part} {a c : Chip}

theorem Chip.frame_heldLo {x : List (RegKey × Word)} (h : a.frame vals rs ps c) (m : .heldLo ∈ ps) :
    a.frame vals rs ps { c with heldLo := x } :=
  ⟨h.1, Chip.partsSame_trans h.2 (by simp [Chip.partsSame, m])⟩

theorem Chip.frame_snaps {x : List (RegKey × Word)} (h : a.frame vals rs ps c) (m : .snaps ∈ ps) :
    a.frame vals rs ps { c with snaps := x } :=
  ⟨h.1, Chip.partsSame_trans h.2 (by simp [Chip.partsSame, m])⟩

theorem Chip.frame_cfg {x : Table Word} (h : a.frame vals rs ps c) (m : .cfg ∈ ps) :
    a.frame vals rs ps { c with cfg := x } :=
  ⟨h.1, Chip.partsSame_trans h.2 (by simp [Chip.partsSame, m])⟩

theorem Chip.frame_mode {x : ModeH} (h : a.frame vals rs ps c) (m : .mode ∈ ps) :
    a.frame vals rs ps { c with mode := x } :=
  ⟨h.1, Chip.partsSame_trans h.2 (by simp [Chip.partsSame, m])⟩

theorem Chip.frame_lanes {x : Table LaneH} (h : a.frame vals rs ps c) (m : .lanes ∈ ps) :
    a.frame vals rs ps { c with lanes := x } :=
  ⟨h.1, Chip.partsSame_trans h.2 (by simp [Chip.partsSame, m])⟩

theorem Chip.frame_ports {x : Table PortH} (h : a.frame vals rs ps c) (m : .ports ∈ ps) :
    a.frame vals rs ps { c with ports := x } :=
  ⟨h.1, Chip.partsSame_trans h.2 (by simp [Chip.partsSame, m])⟩

theorem Chip.frame_fl {x : Table FlH} (h : a.frame vals rs ps c) (m : .fl ∈ ps) :
    a.frame vals rs ps { c with fl := x } :=
  ⟨h.1, Chip.partsSame_trans h.2 (by simp [Chip.partsSame, m])⟩

theorem Chip.frame_cel {x : CelH} (h : a.frame vals rs ps c) (m : .cel ∈ ps) :
    a.frame vals rs ps { c with cel := x } :=
  ⟨h.1, Chip.partsSame_trans h.2 (by simp [Chip.partsSame, m])⟩

theorem Chip.frame_fab {x : FabH} (h : a.frame vals rs ps c) (m : .fab ∈ ps) :
    a.frame vals rs ps { c with fab := x } :=
  ⟨h.1, Chip.partsSame_trans h.2 (by simp [Chip.partsSame, m])⟩

theorem Chip.frame_parts {x : Table PartH} (h : a.frame vals rs ps c) (m : .parts ∈ ps) :
    a.frame vals rs ps { c with parts := x } :=
  ⟨h.1, Chip.partsSame_trans h.2 (by simp [Chip.partsSame, m])⟩

theorem Chip.frame_flcs {x : Table FlcH} (h : a.frame vals rs ps c) (m : .flcs ∈ ps) :
    a.frame vals rs ps { c with flcs := x } :=
  ⟨h.1, Chip.partsSame_trans h.2 (by simp [Chip.partsSame, m])⟩

theorem Chip.frame_flcReqs {x : List FlcReq} (h : a.frame vals rs ps c) (m : .flcReqs ∈ ps) :
    a.frame vals rs ps { c with flcReqs := x } :=
  ⟨h.1, Chip.partsSame_trans h.2 (by simp [Chip.partsSame, m])⟩

theorem Chip.frame_flt {x : FltH} (h : a.frame vals rs ps c) (m : .flt ∈ ps) :
    a.frame vals rs ps { c with flt := x } :=
  ⟨h.1, Chip.partsSame_trans h.2 (by simp [Chip.partsSame, m])⟩

theorem Chip.frame_gat {x : GatH} (h : a.frame vals rs ps c) (m : .gat ∈ ps) :
    a.frame vals rs ps { c with gat := x } :=
  ⟨h.1, Chip.partsSame_trans h.2 (by simp [Chip.partsSame, m])⟩

theorem Chip.frame_tim {x : TimH} (h : a.frame vals rs ps c) (m : .tim ∈ ps) :
    a.frame vals rs ps { c with tim := x } :=
  ⟨h.1, Chip.partsSame_trans h.2 (by simp [Chip.partsSame, m])⟩

theorem Chip.frame_sched {x : SchedH} (h : a.frame vals rs ps c) (m : .sched ∈ ps) :
    a.frame vals rs ps { c with sched := x } :=
  ⟨h.1, Chip.partsSame_trans h.2 (by simp [Chip.partsSame, m])⟩

theorem Chip.frame_acd {x : AcdH} (h : a.frame vals rs ps c) (m : .acd ∈ ps) :
    a.frame vals rs ps { c with acd := x } :=
  ⟨h.1, Chip.partsSame_trans h.2 (by simp [Chip.partsSame, m])⟩

theorem Chip.frame_lpb {x : LpbH} (h : a.frame vals rs ps c) (m : .lpb ∈ ps) :
    a.frame vals rs ps { c with lpb := x } :=
  ⟨h.1, Chip.partsSame_trans h.2 (by simp [Chip.partsSame, m])⟩

theorem Chip.frame_fus {x : FusH} (h : a.frame vals rs ps c) (m : .fus ∈ ps) :
    a.frame vals rs ps { c with fus := x } :=
  ⟨h.1, Chip.partsSame_trans h.2 (by simp [Chip.partsSame, m])⟩

theorem Chip.frame_ctr {x : CtrH} (h : a.frame vals rs ps c) (m : .ctr ∈ ps) :
    a.frame vals rs ps { c with ctr := x } :=
  ⟨h.1, Chip.partsSame_trans h.2 (by simp [Chip.partsSame, m])⟩

theorem Chip.frame_sil {x : SilH} (h : a.frame vals rs ps c) (m : .sil ∈ ps) :
    a.frame vals rs ps { c with sil := x } :=
  ⟨h.1, Chip.partsSame_trans h.2 (by simp [Chip.partsSame, m])⟩

theorem Chip.frame_dbg {x : DbgH} (h : a.frame vals rs ps c) (m : .dbg ∈ ps) :
    a.frame vals rs ps { c with dbg := x } :=
  ⟨h.1, Chip.partsSame_trans h.2 (by simp [Chip.partsSame, m])⟩

theorem Chip.frame_pwr {x : PwrH} (h : a.frame vals rs ps c) (m : .pwr ∈ ps) :
    a.frame vals rs ps { c with pwr := x } :=
  ⟨h.1, Chip.partsSame_trans h.2 (by simp [Chip.partsSame, m])⟩

theorem Chip.frame_lbx {x : LbxH} (h : a.frame vals rs ps c) (m : .lbx ∈ ps) :
    a.frame vals rs ps { c with lbx := x } :=
  ⟨h.1, Chip.partsSame_trans h.2 (by simp [Chip.partsSame, m])⟩

theorem Chip.frame_hwy {x : Nat} (h : a.frame vals rs ps c) (m : .hwy ∈ ps) :
    a.frame vals rs ps { c with hwy := x } :=
  ⟨h.1, Chip.partsSame_trans h.2 (by simp [Chip.partsSame, m])⟩

theorem Chip.frame_free {x : Nat} (h : a.frame vals rs ps c) (m : .free ∈ ps) :
    a.frame vals rs ps { c with free := x } :=
  ⟨h.1, Chip.partsSame_trans h.2 (by simp [Chip.partsSame, m])⟩

theorem Chip.frame_answer {x : List Word} (h : a.frame vals rs ps c) (m : .answer ∈ ps) :
    a.frame vals rs ps { c with answer := x } :=
  ⟨h.1, Chip.partsSame_trans h.2 (by simp [Chip.partsSame, m])⟩

theorem Chip.frame_outs {x : List Out} (h : a.frame vals rs ps c) (m : .outs ∈ ps) :
    a.frame vals rs ps { c with outs := x } :=
  ⟨h.1, Chip.partsSame_trans h.2 (by simp [Chip.partsSame, m])⟩

end Sys2Proof.Machine
end

