-- ==== Sys2Proof/Laws/Ops.lean ====
section
/-! SUPPORT. What each shared operation of Machine/Ops.lean and Machine/CtrOps.lean changes, said once. -/

namespace Sys2Proof.Machine

/-- A fold of steps that each stay in a frame stays in it. -/
theorem Chip.frame_foldl {α : Type} {vals : List FieldVal} {rs : List Reg} {ps : List Part} (g : Chip → α → Chip)
    (h : ∀ (c : Chip) (x : α), c.frame vals rs ps (g c x)) (xs : List α) (c : Chip) : c.frame vals rs ps (xs.foldl g c) := by
  induction xs generalizing c with
  | nil => exact Chip.frame_refl _ _ _ _
  | cons x xs ih => exact Chip.frame_trans (h c x) (ih _)

theorem Chip.logLost_frame (c : Chip) : c.frame [] faultRegs [.flt] c.logLost := by
  have h : c.frame [] faultRegs [.flt] (c.inc F.FLT_LOG_LOST.COUNT) :=
    Chip.frame_setFld (Chip.frame_refl _ _ _ _) (by decide) (Or.inl (by decide))
  unfold Chip.logLost
  generalize c.inc F.FLT_LOG_LOST.COUNT = d at *
  dsimp only
  split
  · exact Chip.frame_flt (Chip.frame_flt h (by decide)) (by decide)
  · exact h

theorem Chip.logLost_intake (c : Chip) (m : FaultMsg) (h : m ∈ c.flt.intake) : m ∈ c.logLost.flt.intake := by
  have h : m ∈ (c.inc F.FLT_LOG_LOST.COUNT).flt.intake := h
  unfold Chip.logLost
  generalize c.inc F.FLT_LOG_LOST.COUNT = d at *
  dsimp only
  split
  · exact List.mem_append_left _ h
  · exact h

/-- Raising a fault message changes the collector's intake, and FLT_LOG_LOST when the source's queue is full. -/
theorem Chip.raise_frame (c : Chip) (source kind sev handle : Nat) (part : Option Nat) :
    c.frame [] faultRegs [.flt] (c.raise source kind sev handle part) := by
  unfold Chip.raise Chip.enqueueFault
  split
  · exact Chip.frame_flt (Chip.frame_refl _ _ _ _) (by decide)
  · exact Chip.frame_trans (Chip.frame_flt (Chip.frame_refl _ _ _ _) (by decide)) (Chip.logLost_frame _)

/-- A message raised waits in the collector's intake. -/
theorem Chip.raise_intake (c : Chip) (source kind sev handle : Nat) (part : Option Nat) :
    ∃ m ∈ (c.raise source kind sev handle part).flt.intake,
      m.source = source ∧ m.kind = kind ∧ m.sev = sev ∧ m.handle = handle ∧ m.part = part := by
  unfold Chip.raise Chip.enqueueFault
  split
  · exact ⟨_, List.mem_append_right _ (List.mem_singleton_self _), rfl, rfl, rfl, rfl, rfl⟩
  · exact ⟨_, Chip.logLost_intake _ _ (List.mem_append_right _ (List.mem_singleton_self _)), rfl, rfl, rfl, rfl, rfl⟩

/-- What waited in the intake before a message waits still. -/
theorem Chip.raise_keeps (c : Chip) (source kind sev handle : Nat) (part : Option Nat) (m : FaultMsg)
    (h : m ∈ c.flt.intake) : m ∈ (c.raise source kind sev handle part).flt.intake := by
  unfold Chip.raise Chip.enqueueFault
  split
  · exact List.mem_append_left _ h
  · exact Chip.logLost_intake _ _ (List.mem_append_left _ h)

/-- A message raised at most once in a time changes what a message changes. -/
theorem Chip.raiseLimited_frame (c : Chip) (key n source kind sev handle : Nat) (part : Option Nat) :
    c.frame [] faultRegs [.flt] (c.raiseLimited key n source kind sev handle part) := by
  unfold Chip.raiseLimited
  split
  · exact Chip.frame_trans (Chip.frame_flt (Chip.frame_refl _ _ _ _) (by decide)) (Chip.raise_frame _ _ _ _ _ _)
  · exact Chip.frame_refl _ _ _ _

/-- A partner violation's message changes what a message changes. -/
theorem Chip.raiseViol_frame (c : Chip) (source port code : Nat) (part : Option Nat) :
    c.frame [] faultRegs [.flt] (c.raiseViol source port code part) := Chip.raiseLimited_frame _ _ _ _ _ _ _ _

/-- A programmable counter's step changes counters alone. -/
theorem Chip.bump_frame (c : Chip) (u i n : Nat) : c.frame [] countRegs [] (c.bump u i n) := by
  unfold Chip.bump Chip.setPair
  have h (v : Nat) : c.frame [] countRegs [] ((c.setReg .TCT_CNT_LO (word v) u i).setReg .TCT_CNT_HI (word (v / 2 ^ 32)) u i) :=
    Chip.frame_setReg (Chip.frame_setReg (Chip.frame_refl _ _ _ _) (Or.inl (by decide))) (Or.inl (by decide))
  dsimp only
  split
  · exact Chip.frame_setFld (h _) (by decide) (Or.inl (by decide))
  · exact h _

/-- An event of a unit changes counters alone. -/
theorem Chip.pulse_frame (c : Chip) (u code n : Nat) : c.frame [] countRegs [] (c.pulse u code n) := by
  unfold Chip.pulse
  split
  · exact Chip.frame_refl _ _ _ _
  · refine Chip.frame_foldl _ (fun d i => ?_) _ _
    split
    · exact Chip.bump_frame _ _ _ _
    · exact Chip.frame_refl _ _ _ _

/-! ### Fields that these leave as they are -/

theorem Chip.fld_raise (c : Chip) (source kind sev handle : Nat) (part : Option Nat) (g : Fld) (i j : Nat)
    (h : g.reg ∉ faultRegs) : (c.raise source kind sev handle part).fld g i j = c.fld g i j :=
  Chip.frame_fld (c.raise_frame _ _ _ _ _) g i j h (by simp)

theorem Chip.fld_raiseLimited (c : Chip) (key n source kind sev handle : Nat) (part : Option Nat) (g : Fld) (i j : Nat)
    (h : g.reg ∉ faultRegs) : (c.raiseLimited key n source kind sev handle part).fld g i j = c.fld g i j :=
  Chip.frame_fld (c.raiseLimited_frame _ _ _ _ _ _ _) g i j h (by simp)

theorem Chip.fld_pulse (c : Chip) (u code n : Nat) (g : Fld) (i j : Nat) (h : g.reg ∉ countRegs) :
    (c.pulse u code n).fld g i j = c.fld g i j :=
  Chip.frame_fld (c.pulse_frame _ _ _) g i j h (by simp)

/-! ### Units after an update -/

@[simp] theorem Chip.lane_updLane (c : Chip) (n m : Nat) (f : LaneH → LaneH) :
    (c.updLane n f).lane m = if n = m then f (c.lane n) else c.lane m := by
  simp only [Chip.lane, Chip.updLane, Table.get_set]

@[simp] theorem Chip.port_updPort (c : Chip) (n m : Nat) (f : PortH → PortH) :
    (c.updPort n f).port m = if n = m then f (c.port n) else c.port m := by
  simp only [Chip.port, Chip.updPort, Table.get_set]

@[simp] theorem Chip.flp_updFl (c : Chip) (n m : Nat) (f : FlH → FlH) :
    (c.updFl n f).flp m = if n = m then f (c.flp n) else c.flp m := by
  simp only [Chip.flp, Chip.updFl, Table.get_set]

@[simp] theorem Chip.part_updPart (c : Chip) (n m : Nat) (f : PartH → PartH) :
    (c.updPart n f).part m = if n = m then f (c.part n) else c.part m := by
  simp only [Chip.part, Chip.updPart, Table.get_set]

@[simp] theorem Chip.flc_updFlc (c : Chip) (n m : Nat) (f : FlcH → FlcH) :
    (c.updFlc n f).flc m = if n = m then f (c.flc n) else c.flc m := by
  simp only [Chip.flc, Chip.updFlc, Table.get_set]

end Sys2Proof.Machine
end

