-- ==== Sys2Proof/Laws/Access.lean ====
section
/-! SUPPORT. What gate 109 and the checks of a register write change (Machine/Gates.lean, Machine/Access.lean). -/

namespace Sys2Proof.Machine

/-- A gate that allows an access changes counters alone. -/
theorem Chip.gate_allows_frame (c c' : Chip) (g : Nat) (x : GateAccess) (h : c.gate g x = (none, c')) :
    c.frame [] countRegs [] c' := by
  unfold Chip.gate at h
  dsimp only at h
  split at h
  · simp only [Prod.mk.injEq, true_and] at h
    exact h ▸ c.pulse_frame _ _ _
  · simp at h

/-- A write that passes every check has changed counters alone. -/
theorem Chip.passAt_ok_frame (c c' : Chip) (a : Access) (k : RegKey) (off : Nat) (v : Word)
    (h : c.passAt a k off v = (.ok, c')) : c.frame [] countRegs [] c' := by
  unfold Chip.passAt at h
  split at h
  · simp at h
  · split at h
    · simp at h
    · split at h
      · simp at h
      · split at h
        · simp at h
        · rename_i hg _ _; simp only [Prod.mk.injEq, true_and] at h; exact h ▸ Chip.gate_allows_frame _ _ _ _ hg

/-- A write that passes takes the register's own effect on the device that the gate leaves. -/
theorem State.ownWrite_passes (s : State) (a : Access) (k : RegKey) (v : Word) (c : Chip) (f : Chip → Chip)
    (h : s.passes a k v c) : s.onChip (fun d => d.ownWrite a k v f) = { s with chip := f c } := by
  obtain ⟨h1, h2⟩ := h
  simp only [State.onChip, h1, if_true, Chip.ownWrite, Chip.guardWrite, h2]

end Sys2Proof.Machine
end

