-- ==== Sys2Proof/Laws/Lane.lean ====
section
/-! SUPPORT. What the shared operations of the lanes change (Machine/LaneOps.lean). -/

namespace Sys2Proof.Machine

/-- The registers of the eye monitor's result. -/
def eyeRegs : List Reg :=
  [.SDS_LN_EYE_STAT, .SDS_LN_EYE_ERR_LO, .SDS_LN_EYE_ERR_HI, .SDS_LN_EYE_CNT_LO, .SDS_LN_EYE_CNT_HI]

/-- The end of a measurement: the fields of `eyeEnds`, and the free values drawn. -/
theorem Chip.eyeAbort_frame (c : Chip) (l : Nat) : c.frame (eyeEnds c l) [] [.free] (c.eyeAbort l) := by
  unfold Chip.eyeAbort eyeEnds
  split
  · simp only [Chip.setPair]
    refine Chip.frame_setFld (Chip.frame_setReg (Chip.frame_setReg ?_ (Or.inr ?_)) (Or.inr ?_)) (by decide) (Or.inr ?_)
    · refine Chip.frame_free (Chip.frame_setReg (Chip.frame_setReg ?_ (Or.inr ?_)) (Or.inr ?_)) (by decide)
      · exact Chip.frame_free (Chip.frame_refl _ _ _ _) (by decide)
      all_goals simp [Fld.is, Reg.any]
    all_goals simp [Fld.is, Reg.any]
  · exact Chip.frame_refl _ _ _ _

/-- Every field outside the eye monitor's result keeps its value. -/
theorem Chip.fld_eyeAbort (c : Chip) (l : Nat) (g : Fld) (i j : Nat) (h : g.reg ∉ eyeRegs) :
    (c.eyeAbort l).fld g i j = c.fld g i j := by
  refine Chip.frame_fld (c.eyeAbort_frame l) g i j (by simp) fun e he => .inl ?_
  simp only [eyeRegs, List.mem_cons, List.not_mem_nil, or_false, not_or] at h
  unfold eyeEnds at he
  split at he
  · simp only [List.mem_cons, List.not_mem_nil, or_false] at he
    rcases he with rfl | rfl | rfl | rfl | rfl <;>
      simp only [Fld.is, Reg.any, Fld.apart, Bool.or_eq_true, bne_iff_ne] <;> left <;> left
    · exact fun q => h.1 (q ▸ rfl)
    · exact fun q => h.2.1 (q ▸ rfl)
    · exact fun q => h.2.2.1 (q ▸ rfl)
    · exact fun q => h.2.2.2.1 (q ▸ rfl)
    · exact fun q => h.2.2.2.2 (q ▸ rfl)
  · simp at he

/-- The monitor's state after the end of a measurement. -/
theorem Chip.eyeAbort_state (c : Chip) (l : Nat) : (c.eyeAbort l).fld F.SDS_LN_EYE_STAT.STATE l =
    if c.fld F.SDS_LN_EYE_STAT.STATE l = 1 then 3 else c.fld F.SDS_LN_EYE_STAT.STATE l := by
  unfold Chip.eyeAbort
  split
  · exact Chip.fld_setFld_self _ _ _ _ _ (by decide)
  · rfl

@[simp] theorem Chip.eyeAbort_lanes (c : Chip) (l : Nat) : (c.eyeAbort l).lanes = c.lanes := by
  unfold Chip.eyeAbort; split <;> rfl

@[simp] theorem Chip.lane_eyeAbort (c : Chip) (l m : Nat) : (c.eyeAbort l).lane m = c.lane m := by
  simp only [Chip.lane, Chip.eyeAbort_lanes]

/-- A coefficient set in effect: its fields, and the preset that the lane remembers. -/
theorem Chip.applyTx_frame (c : Chip) (l : Nat) (x : TxSet) :
    c.frame (txIs (c.lane l).preset l x) [] [.lanes] (c.applyTx l x) := by
  unfold Chip.applyTx txIs
  refine Chip.frame_setFld (Chip.frame_setFld (Chip.frame_setFld (Chip.frame_setFld (Chip.frame_setFld
    ?_ (by decide) (Or.inr ?_)) (by decide) (Or.inr ?_)) (by decide) (Or.inr ?_)) (by decide) (Or.inr ?_))
    (by decide) (Or.inr ?_)
  · split
    · exact Chip.frame_lanes (Chip.frame_refl _ _ _ _) (by decide)
    · exact Chip.frame_refl _ _ _ _
  all_goals simp [Fld.is]

theorem Chip.fld_applyTx (c : Chip) (l : Nat) (x : TxSet) (g : Fld) (i j : Nat) (h : g.reg ≠ .SDS_LN_TXEQ_STAT) :
    (c.applyTx l x).fld g i j = c.fld g i j := by
  refine Chip.frame_fld (c.applyTx_frame l x) g i j (by simp) fun e he => .inl ?_
  simp only [txIs, List.mem_cons, List.not_mem_nil, or_false] at he
  rcases he with rfl | rfl | rfl | rfl | rfl <;>
    exact Bool.or_eq_true_iff.mpr (.inl (Bool.or_eq_true_iff.mpr (.inl (bne_iff_ne.mpr (Ne.symm h)))))

/-- A legal coefficient set reads back from SDS_LN_TXEQ_STAT. -/
theorem Chip.applyTx_holds (c : Chip) (l : Nat) (x : TxSet) (h1 : x.pre ≤ 12) (h2 : x.post ≤ 16) (h3 : x.source < 4)
    (h4 : x.preset < 16) (h5 : (c.lane l).preset < 16) : ∀ e ∈ txIs (c.lane l).preset l x, e.holds (c.applyTx l x) := by
  have h6 : x.index (c.lane l).preset < 16 := by unfold TxSet.index; split <;> (try split) <;> omega
  unfold txIs Chip.applyTx
  simp only [List.mem_cons, List.not_mem_nil, or_false, forall_eq_or_imp, forall_eq]
  simp (disch := decide) only [FieldVal.holds, Fld.is, Option.some.injEq, forall_eq', Chip.fld_setFld_self, Chip.fld_setFld_apart]
  refine ⟨Nat.mod_eq_of_lt ?_, Nat.mod_eq_of_lt ?_, Nat.mod_eq_of_lt ?_, Nat.mod_eq_of_lt ?_, Nat.mod_eq_of_lt ?_⟩ <;>
    simp only [F.SDS_LN_TXEQ_STAT.SOURCE, F.SDS_LN_TXEQ_STAT.PRESET, F.SDS_LN_TXEQ_STAT.APP_PRE, F.SDS_LN_TXEQ_STAT.APP_POST,
      F.SDS_LN_TXEQ_STAT.APP_MAIN] <;> omega

/-- What a lane remembers after a set takes effect: nothing but the preset. -/
theorem Chip.applyTx_lanes (c : Chip) (l : Nat) (x : TxSet) :
    (c.applyTx l x).lanes = if x.isPreset then (c.updLane l fun h => { h with preset := x.preset }).lanes else c.lanes := by
  unfold Chip.applyTx
  simp only [Chip.setFld_lanes]
  split <;> rfl

end Sys2Proof.Machine
end

