-- ==== Sys2Proof/Laws/PerInstr.lean ====
section
/-! SUPPORT. What a well-formed command says of the access that carries it, command by command. -/

namespace Sys2Proof.Laws.WellFormedAt

open Machine

/-- The access of a well-formed command has a 16-bit Requester ID and four byte enables. -/
def Statement (i : Instr) : Prop :=
  i.wellFormed = true → ∀ a, i.access? = some a → a.rid < 65536 ∧ a.be < 16

/-- The bounds of a well-formed access. -/
theorem of_access (a : Access) (h : a.wf = true) : a.rid < 65536 ∧ a.be < 16 := by
  simp only [Access.wf, Bool.and_eq_true, Nat.blt_eq] at h
  exact ⟨h.1.1, h.1.2⟩

/-- A command that comes by no access. -/
theorem of_none (i : Instr) (h : i.access? = none) : Statement i := by
  intro _ a ha
  rw [h] at ha
  cases ha

/-- A command whose well-formedness is that of its access. -/
theorem of_some (i : Instr) (b : Access) (h : i.access? = some b) (w : i.wellFormed = b.wf) : Statement i := by
  intro hw a ha
  rw [h] at ha
  cases ha
  exact of_access _ (w ▸ hw)

/-- registerWrite. -/
theorem registerWrite (x0 : Access) (x1 : Fin 0x10000000) (x2 : Word) : Statement (.registerWrite x0 x1 x2) := of_some _ x0 rfl rfl

/-- readClear. -/
theorem readClear (x0 : Access) (x1 : Fin 0x10000000) : Statement (.readClear x0 x1) := of_some _ x0 rfl rfl

/-- pairLoRead. -/
theorem pairLoRead (x0 : Access) (x1 : Fin 0x10000000) : Statement (.pairLoRead x0 x1) := of_some _ x0 rfl rfl

/-- pairLoWrite. -/
theorem pairLoWrite (x0 : Access) (x1 : Fin 0x10000000) (x2 : Word) : Statement (.pairLoWrite x0 x1 x2) := of_some _ x0 rfl rfl

/-- pairHiWrite. -/
theorem pairHiWrite (x0 : Access) (x1 : Fin 0x10000000) (x2 : Word) : Statement (.pairHiWrite x0 x1 x2) := of_some _ x0 rfl rfl

/-- modeRequest. -/
theorem modeRequest (x0 : Access) (x1 : Word) : Statement (.modeRequest x0 x1) := of_some _ x0 rfl rfl

/-- quiesceComplete. -/
theorem quiesceComplete : Statement .quiesceComplete := of_none _ rfl

/-- quiesceLimitExpiry. -/
theorem quiesceLimitExpiry : Statement .quiesceLimitExpiry := of_none _ rfl

/-- standbyWakeResume. -/
theorem standbyWakeResume : Statement .standbyWakeResume := of_none _ rfl

/-- tileEnableWrite. -/
theorem tileEnableWrite (x0 : Access) (x1 : Word) : Statement (.tileEnableWrite x0 x1) := of_some _ x0 rfl rfl

/-- refLost. -/
theorem refLost (x0 : Fin 12) : Statement (.refLost x0) := of_none _ rfl

/-- refRestore. -/
theorem refRestore (x0 : Fin 12) : Statement (.refRestore x0) := of_none _ rfl

/-- freqOffsetLoss. -/
theorem freqOffsetLoss (x0 : Fin 192) (x1 : Fin 1024) : Statement (.freqOffsetLoss x0 x1) := of_none _ rfl

/-- deepEntry. -/
theorem deepEntry (x0 : Fin 192) : Statement (.deepEntry x0) := of_none _ rfl

/-- deepEntryDone. -/
theorem deepEntryDone (x0 : Fin 192) : Statement (.deepEntryDone x0) := of_none _ rfl

/-- deepExit. -/
theorem deepExit (x0 : Fin 192) (x1 : Bool) : Statement (.deepExit x0 x1) := of_none _ rfl

/-- deepExitDone. -/
theorem deepExitDone (x0 : Fin 192) (x1 : Fin 65536) : Statement (.deepExitDone x0 x1) := of_none _ rfl

/-- standbyExit. -/
theorem standbyExit (x0 : Fin 192) : Statement (.standbyExit x0) := of_none _ rfl

/-- txeqWrite. -/
theorem txeqWrite (x0 : Access) (x1 : Fin 192) (x2 : Word) (x3 : Bool) : Statement (.txeqWrite x0 x1 x2 x3) := of_some _ x0 rfl rfl

/-- txeqHeldApply. -/
theorem txeqHeldApply (x0 : Fin 192) : Statement (.txeqHeldApply x0) := of_none _ rfl

/-- partnerCoeffRequest. -/
theorem partnerCoeffRequest (x0 : Fin 192) (x1 : Bool) (x2 : Fin 16) (x3 : Fin 1024) (x4 : Fin 1024) (x5 : Fin 1024) : Statement (.partnerCoeffRequest x0 x1 x2 x3 x4 x5) := of_none _ rfl

/-- adaptRestart. -/
theorem adaptRestart (x0 : Access) (x1 : Fin 192) (x2 : Word) : Statement (.adaptRestart x0 x1 x2) := of_some _ x0 rfl rfl

/-- adaptFreeze. -/
theorem adaptFreeze (x0 : Access) (x1 : Fin 192) (x2 : Word) : Statement (.adaptFreeze x0 x1 x2) := of_some _ x0 rfl rfl

/-- coarseDone. -/
theorem coarseDone (x0 : Fin 192) (x1 : Fin 16) (x2 : Fin 16) : Statement (.coarseDone x0 x1 x2) := of_none _ rfl

/-- fineDone. -/
theorem fineDone (x0 : Fin 192) (x1 : Fin 16) (x2 : Fin 16) (x3 : Fin 256) : Statement (.fineDone x0 x1 x2 x3) := of_none _ rfl

/-- adaptTimeout. -/
theorem adaptTimeout (x0 : Fin 192) : Statement (.adaptTimeout x0) := of_none _ rfl

/-- eyeStart. -/
theorem eyeStart (x0 : Access) (x1 : Fin 192) (x2 : Word) : Statement (.eyeStart x0 x1 x2) := of_some _ x0 rfl rfl

/-- eyeDone. -/
theorem eyeDone (x0 : Fin 192) (x1 : Nat) : Statement (.eyeDone x0 x1) := of_none _ rfl

/-- eyeAbort. -/
theorem eyeAbort (x0 : Access) (x1 : Fin 192) (x2 : Word) : Statement (.eyeAbort x0 x1 x2) := of_some _ x0 rfl rfl

/-- laneMargining. -/
theorem laneMargining (x0 : Fin 192) (x1 : Bool) : Statement (.laneMargining x0 x1) := of_none _ rfl

/-- packetIngress. -/
theorem packetIngress (x0 : Entry) (x1 : Packet) (x2 : Bool) (x3 : RxState) : Statement (.packetIngress x0 x1 x2 x3) := of_none _ rfl

/-- configRequest. -/
theorem configRequest (x0 : Fin 32) (x1 : Packet) : Statement (.configRequest x0 x1) := of_none _ rfl

/-- admissionRetry. -/
theorem admissionRetry : Statement .admissionRetry := of_none _ rfl

/-- deferredCopyWrite. -/
theorem deferredCopyWrite : Statement .deferredCopyWrite := of_none _ rfl

/-- reqTableRetry. -/
theorem reqTableRetry : Statement .reqTableRetry := of_none _ rfl

/-- egressSelection. -/
theorem egressSelection (x0 : Dest) (x1 : List Nat) (x2 : List Nat) : Statement (.egressSelection x0 x1 x2) := of_none _ rfl

/-- copySent. -/
theorem copySent (x0 : Nat) (x1 : Ending) : Statement (.copySent x0 x1) := of_none _ rfl

/-- underrunResend. -/
theorem underrunResend (x0 : Nat) : Statement (.underrunResend x0) := of_none _ rfl

/-- ageSweep. -/
theorem ageSweep : Statement .ageSweep := of_none _ rfl

/-- cellEccUncorrectable. -/
theorem cellEccUncorrectable (x0 : Option (Fin 393216)) (x1 : List (Fin 393216)) : Statement (.cellEccUncorrectable x0 x1) := of_none _ rfl

/-- linkUp. -/
theorem linkUp (x0 : Fin 96) (x1 : Fin 5) (x2 : Fin 7) (x3 : Bool) (x4 : Bool) : Statement (.linkUp x0 x1 x2 x3 x4) := of_none _ rfl

/-- trainFail. -/
theorem trainFail (x0 : Fin 96) (x1 : Bool) : Statement (.trainFail x0 x1) := of_none _ rfl

/-- linkDown. -/
theorem linkDown (x0 : Fin 96) (x1 : Fin 7) : Statement (.linkDown x0 x1) := of_none _ rfl

/-- perstAssert. -/
theorem perstAssert (x0 : Fin 32) : Statement (.perstAssert x0) := of_none _ rfl

/-- perstDeassert. -/
theorem perstDeassert (x0 : Fin 32) : Statement (.perstDeassert x0) := of_none _ rfl

/-- partitionRestoreDone. -/
theorem partitionRestoreDone (x0 : Fin 32) : Statement (.partitionRestoreDone x0) := of_none _ rfl

/-- hotResetReceived. -/
theorem hotResetReceived (x0 : Fin 96) (x1 : Bool) : Statement (.hotResetReceived x0 x1) := of_none _ rfl

/-- partitionResetEnd. -/
theorem partitionResetEnd (x0 : Fin 32) : Statement (.partitionResetEnd x0) := of_none _ rfl

/-- secondaryBusReset. -/
theorem secondaryBusReset (x0 : Fin 96) (x1 : SbrWrite) : Statement (.secondaryBusReset x0 x1) := of_none _ rfl

/-- hotResetSendEnd. -/
theorem hotResetSendEnd (x0 : Fin 96) : Statement (.hotResetSendEnd x0) := of_none _ rfl

/-- linkDisable. -/
theorem linkDisable (x0 : Fin 96) (x1 : Bool) : Statement (.linkDisable x0 x1) := of_none _ rfl

/-- flr. -/
theorem flr (x0 : Fin 32) : Statement (.flr x0) := of_none _ rfl

/-- perstOutDeassert. -/
theorem perstOutDeassert (x0 : Fin 24) : Statement (.perstOutDeassert x0) := of_none _ rfl

/-- attentionIndicatorControl. -/
theorem attentionIndicatorControl (x0 : Fin 96) (x1 : Fin 4) : Statement (.attentionIndicatorControl x0 x1) := of_none _ rfl

/-- powerIndicatorControl. -/
theorem powerIndicatorControl (x0 : Fin 96) (x1 : Fin 4) : Statement (.powerIndicatorControl x0 x1) := of_none _ rfl

/-- powerControllerControl. -/
theorem powerControllerControl (x0 : Fin 96) (x1 : Bool) : Statement (.powerControllerControl x0 x1) := of_none _ rfl

/-- commandCompleted. -/
theorem commandCompleted (x0 : Fin 96) : Statement (.commandCompleted x0) := of_none _ rfl

/-- attentionButtonPressed. -/
theorem attentionButtonPressed (x0 : Fin 96) : Statement (.attentionButtonPressed x0) := of_none _ rfl

/-- powerFaultDetectedClear. -/
theorem powerFaultDetectedClear (x0 : Fin 96) : Statement (.powerFaultDetectedClear x0) := of_none _ rfl

/-- dpcTrigger. -/
theorem dpcTrigger (x0 : Fin 96) (x1 : Fin 3) : Statement (.dpcTrigger x0 x1) := of_none _ rfl

/-- dpcSoftwareTrigger. -/
theorem dpcSoftwareTrigger (x0 : Fin 96) : Statement (.dpcSoftwareTrigger x0) := of_none _ rfl

/-- dpcTriggerStatusWrite. -/
theorem dpcTriggerStatusWrite (x0 : Fin 96) : Statement (.dpcTriggerStatusWrite x0) := of_none _ rfl

/-- dpcRelease. -/
theorem dpcRelease (x0 : Fin 96) : Statement (.dpcRelease x0) := of_none _ rfl

/-- busMasterEnableClear. -/
theorem busMasterEnableClear (x0 : BmeFn) : Statement (.busMasterEnableClear x0) := of_none _ rfl

/-- busMasterEnableSet. -/
theorem busMasterEnableSet (x0 : BmeFn) : Statement (.busMasterEnableSet x0) := of_none _ rfl

/-- l1Entry. -/
theorem l1Entry (x0 : Fin 96) (x1 : Fin 3) (x2 : Bool) : Statement (.l1Entry x0 x1 x2) := of_none _ rfl

/-- l1Exit. -/
theorem l1Exit (x0 : Fin 96) : Statement (.l1Exit x0) := of_none _ rfl

/-- l0pWidthChange. -/
theorem l0pWidthChange (x0 : Fin 96) (x1 : Fin 5) : Statement (.l0pWidthChange x0 x1) := of_none _ rfl

/-- parcelBoundary. -/
theorem parcelBoundary (x0 : Fin 96) (x1 : List Nat) : Statement (.parcelBoundary x0 x1) := of_none _ rfl

/-- parcelHeadReceive. -/
theorem parcelHeadReceive (x0 : Fin 96) (x1 : BlockRest) (x2 : Fin 16) (x3 : Fin 8) (x4 : Fin 65536) : Statement (.parcelHeadReceive x0 x1 x2 x3 x4) := of_none _ rfl

/-- parcelTrailer. -/
theorem parcelTrailer (x0 : Fin 96) (x1 : ParcelBody) (x2 : Word) (x3 : Bool) (x4 : Bool) (x5 : Nat) (x6 : Nat) (x7 : Nat) : Statement (.parcelTrailer x0 x1 x2 x3 x4 x5 x6 x7) := of_none _ rfl

/-- parcelCommit. -/
theorem parcelCommit (x0 : Fin 96) : Statement (.parcelCommit x0) := of_none _ rfl

/-- ackTimer. -/
theorem ackTimer (x0 : Fin 96) : Statement (.ackTimer x0) := of_none _ rfl

/-- ackReceive. -/
theorem ackReceive (x0 : Fin 96) (x1 : BlockRest) (x2 : Fin 65536) : Statement (.ackReceive x0 x1 x2) := of_none _ rfl

/-- nakReceive. -/
theorem nakReceive (x0 : Fin 96) (x1 : BlockRest) (x2 : Fin 65536) (x3 : Fin 8) : Statement (.nakReceive x0 x1 x2 x3) := of_none _ rfl

/-- sackReceive. -/
theorem sackReceive (x0 : Fin 96) (x1 : BlockRest) (x2 : Fin 65536) : Statement (.sackReceive x0 x1 x2) := of_none _ rfl

/-- creditReceive. -/
theorem creditReceive (x0 : Fin 96) (x1 : BlockRest) (x2 : Fin 8) (x3 : Fin 65536) : Statement (.creditReceive x0 x1 x2 x3) := of_none _ rfl

/-- deskewReceive. -/
theorem deskewReceive (x0 : Fin 96) (x1 : Fin 16) (x2 : BlockRest) (x3 : Fin 16) (x4 : Fin 8) (x5 : Fin 4096) (x6 : Nat) : Statement (.deskewReceive x0 x1 x2 x3 x4 x5 x6) := of_none _ rfl

/-- initReceive. -/
theorem initReceive (x0 : Fin 96) (x1 : BlockRest) (x2 : Fin 8) (x3 : Fin 65536) : Statement (.initReceive x0 x1 x2 x3) := of_none _ rfl

/-- lpiReceive. -/
theorem lpiReceive (x0 : Fin 96) (x1 : BlockRest) (x2 : Bool) : Statement (.lpiReceive x0 x1 x2) := of_none _ rfl

/-- resetReceive. -/
theorem resetReceive (x0 : Fin 96) (x1 : BlockRest) : Statement (.resetReceive x0 x1) := of_none _ rfl

/-- replayTimeout. -/
theorem replayTimeout (x0 : Fin 96) (x1 : Fin 65536) : Statement (.replayTimeout x0 x1) := of_none _ rfl

/-- blockLock. -/
theorem blockLock (x0 : Fin 96) (x1 : LaneHeaders) : Statement (.blockLock x0 x1) := of_none _ rfl

/-- blockLockLoss. -/
theorem blockLockLoss (x0 : Fin 96) (x1 : LaneHeaders) : Statement (.blockLockLoss x0 x1) := of_none _ rfl

/-- bringupTimeout. -/
theorem bringupTimeout (x0 : Fin 96) : Statement (.bringupTimeout x0) := of_none _ rfl

/-- rtCountClear. -/
theorem rtCountClear (x0 : Fin 96) : Statement (.rtCountClear x0) := of_none _ rfl

/-- retrain. -/
theorem retrain (x0 : Access) (x1 : Fin 96) (x2 : Word) : Statement (.retrain x0 x1 x2) := of_some _ x0 rfl rfl

/-- linkReset. -/
theorem linkReset (x0 : Access) (x1 : Fin 96) (x2 : Word) : Statement (.linkReset x0 x1 x2) := of_some _ x0 rfl rfl

/-- retrainTimeout. -/
theorem retrainTimeout (x0 : Fin 96) : Statement (.retrainTimeout x0) := of_none _ rfl

/-- f1LockTimeout. -/
theorem f1LockTimeout (x0 : Fin 96) : Statement (.f1LockTimeout x0) := of_none _ rfl

/-- downTimeout. -/
theorem downTimeout (x0 : Fin 96) : Statement (.downTimeout x0) := of_none _ rfl

/-- lpIdleTimeout. -/
theorem lpIdleTimeout (x0 : Fin 96) : Statement (.lpIdleTimeout x0) := of_none _ rfl

/-- flerenWake. -/
theorem flerenWake (x0 : Fin 96) : Statement (.flerenWake x0) := of_none _ rfl

/-- wakePatternDone. -/
theorem wakePatternDone (x0 : Fin 96) : Statement (.wakePatternDone x0) := of_none _ rfl

/-- routeCommit. -/
theorem routeCommit (x0 : Access) (x1 : Word) : Statement (.routeCommit x0 x1) := of_some _ x0 rfl rfl

/-- routeMove. -/
theorem routeMove (x0 : Fin 128) (x1 : Fin 64) : Statement (.routeMove x0 x1) := of_none _ rfl

/-- moveForced. -/
theorem moveForced (x0 : Fin 128) (x1 : Fin 64) : Statement (.moveForced x0 x1) := of_none _ rfl

/-- discRequest. -/
theorem discRequest (x0 : Fin 96) (x1 : FabHdr) : Statement (.discRequest x0 x1) := of_none _ rfl

/-- discResponse. -/
theorem discResponse (x0 : Fin 96) (x1 : FabHdr) : Statement (.discResponse x0 x1) := of_none _ rfl

/-- discLost. -/
theorem discLost (x0 : Fin 65536) : Statement (.discLost x0) := of_none _ rfl

/-- flaconAssign. -/
theorem flaconAssign (x0 : Access) (x1 : Word) : Statement (.flaconAssign x0 x1) := of_some _ x0 rfl rfl

/-- flaconReset. -/
theorem flaconReset (x0 : Access) (x1 : Word) : Statement (.flaconReset x0 x1) := of_some _ x0 rfl rfl

/-- flaconRemove. -/
theorem flaconRemove (x0 : Access) (x1 : Word) : Statement (.flaconRemove x0 x1) := of_some _ x0 rfl rfl

/-- drainDone. -/
theorem drainDone (x0 : Fin 4096) : Statement (.drainDone x0) := of_none _ rfl

/-- drainLimitExpiry. -/
theorem drainLimitExpiry (x0 : Fin 4096) : Statement (.drainLimitExpiry x0) := of_none _ rfl

/-- flaconRetired. -/
theorem flaconRetired (x0 : Fin 4096) : Statement (.flaconRetired x0) := of_none _ rfl

/-- quarantineExpiry. -/
theorem quarantineExpiry (x0 : Fin 32) (x1 : Fin 16384) : Statement (.quarantineExpiry x0 x1) := of_none _ rfl

/-- staleEntryTimeout. -/
theorem staleEntryTimeout (x0 : Fin 32) (x1 : Fin 16384) : Statement (.staleEntryTimeout x0 x1) := of_none _ rfl

/-- shaperTick. -/
theorem shaperTick : Statement .shaperTick := of_none _ rfl

/-- tokenTick. -/
theorem tokenTick : Statement .tokenTick := of_none _ rfl

/-- todFrame. -/
theorem todFrame (x0 : List Byte) : Statement (.todFrame x0) := of_none _ rfl

/-- syncEdge. -/
theorem syncEdge : Statement .syncEdge := of_none _ rfl

/-- syncLossTimeout. -/
theorem syncLossTimeout : Statement .syncLossTimeout := of_none _ rfl

/-- clk100Lost. -/
theorem clk100Lost : Statement .clk100Lost := of_none _ rfl

/-- clk100Restore. -/
theorem clk100Restore : Statement .clk100Restore := of_none _ rfl

/-- syncOutEdge. -/
theorem syncOutEdge : Statement .syncOutEdge := of_none _ rfl

/-- todFrameSend. -/
theorem todFrameSend : Statement .todFrameSend := of_none _ rfl

/-- timSrcWrite. -/
theorem timSrcWrite (x0 : Access) (x1 : Word) : Statement (.timSrcWrite x0 x1) := of_some _ x0 rfl rfl

/-- timRateAdj. -/
theorem timRateAdj (x0 : Access) (x1 : Word) : Statement (.timRateAdj x0 x1) := of_some _ x0 rfl rfl

/-- timSlew. -/
theorem timSlew (x0 : Access) (x1 : Word) : Statement (.timSlew x0 x1) := of_some _ x0 rfl rfl

/-- timStep. -/
theorem timStep (x0 : Access) (x1 : Word) : Statement (.timStep x0 x1) := of_some _ x0 rfl rfl

/-- timSet. -/
theorem timSet (x0 : Access) (x1 : Word) : Statement (.timSet x0 x1) := of_some _ x0 rfl rfl

/-- slewDone. -/
theorem slewDone : Statement .slewDone := of_none _ rfl

/-- gclEnable. -/
theorem gclEnable (x0 : Access) (x1 : Fin 96) (x2 : Word) : Statement (.gclEnable x0 x1 x2) := of_some _ x0 rfl rfl

/-- gclSwitch. -/
theorem gclSwitch (x0 : Access) (x1 : Fin 96) (x2 : Word) : Statement (.gclSwitch x0 x1 x2) := of_some _ x0 rfl rfl

/-- gclAbort. -/
theorem gclAbort (x0 : Access) (x1 : Fin 96) (x2 : Word) : Statement (.gclAbort x0 x1 x2) := of_some _ x0 rfl rfl

/-- gclSwitchTime. -/
theorem gclSwitchTime (x0 : Fin 96) : Statement (.gclSwitchTime x0) := of_none _ rfl

/-- gclEntryAdvance. -/
theorem gclEntryAdvance (x0 : Fin 96) : Statement (.gclEntryAdvance x0) := of_none _ rfl

/-- timedActionArm. -/
theorem timedActionArm (x0 : Access) (x1 : Fin 256) (x2 : Word) : Statement (.timedActionArm x0 x1 x2) := of_some _ x0 rfl rfl

/-- timedActionFire. -/
theorem timedActionFire (x0 : Fin 256) : Statement (.timedActionFire x0) := of_none _ rfl

/-- pulseEnd. -/
theorem pulseEnd (x0 : Fin 40) : Statement (.pulseEnd x0) := of_none _ rfl

/-- trigEdge. -/
theorem trigEdge (x0 : Fin 16) (x1 : Bool) (x2 : Bool) (x3 : Fin 1024) : Statement (.trigEdge x0 x1 x2 x3) := of_none _ rfl

/-- matrixRuleAct. -/
theorem matrixRuleAct (x0 : Fin 64) : Statement (.matrixRuleAct x0) := of_none _ rfl

/-- timTsRead. -/
theorem timTsRead (x0 : Access) : Statement (.timTsRead x0) := of_some _ x0 rfl rfl

/-- trigStuck. -/
theorem trigStuck (x0 : Fin 16) : Statement (.trigStuck x0) := of_none _ rfl

/-- eventMessageReceive. -/
theorem eventMessageReceive (x0 : Fin 96) (x1 : Word) (x2 : List Byte) : Statement (.eventMessageReceive x0 x1 x2) := of_none _ rfl

/-- fabricEventReceive. -/
theorem fabricEventReceive (x0 : Fin 96) (x1 : BitVec 64) (x2 : BitVec 64) : Statement (.fabricEventReceive x0 x1 x2) := of_none _ rfl

/-- captureStallResume. -/
theorem captureStallResume (x0 : Fin 96) : Statement (.captureStallResume x0) := of_none _ rfl

/-- jobEnable. -/
theorem jobEnable (x0 : Access) (x1 : Fin 12) (x2 : Fin 32) (x3 : Word) : Statement (.jobEnable x0 x1 x2 x3) := of_some _ x0 rfl rfl

/-- recordDispatch. -/
theorem recordDispatch (x0 : Fin 12) (x1 : Fin 32) : Statement (.recordDispatch x0 x1) := of_none _ rfl

/-- kick. -/
theorem kick (x0 : Access) (x1 : Fin 12) (x2 : Fin 32) (x3 : Word) : Statement (.kick x0 x1 x2 x3) := of_some _ x0 rfl rfl

/-- jobStop. -/
theorem jobStop (x0 : Access) (x1 : Fin 12) (x2 : Fin 32) (x3 : Word) : Statement (.jobStop x0 x1 x2 x3) := of_some _ x0 rfl rfl

/-- jobStopDone. -/
theorem jobStopDone (x0 : Fin 12) (x1 : Fin 32) : Statement (.jobStopDone x0 x1) := of_none _ rfl

/-- jobAbort. -/
theorem jobAbort (x0 : Access) (x1 : Fin 12) (x2 : Fin 32) (x3 : Word) : Statement (.jobAbort x0 x1 x2 x3) := of_some _ x0 rfl rfl

/-- doorbellStart. -/
theorem doorbellStart (x0 : Fin 12) (x1 : Fin 512) (x2 : Word) : Statement (.doorbellStart x0 x1 x2) := of_none _ rfl

/-- nop. -/
theorem nop (x0 : Fin 1536) : Statement (.nop x0) := of_none _ rfl

/-- done. -/
theorem done (x0 : Fin 1536) : Statement (.done x0) := of_none _ rfl

/-- fault. -/
theorem fault (x0 : Fin 1536) : Statement (.fault x0) := of_none _ rfl

/-- jmp. -/
theorem jmp (x0 : Fin 1536) : Statement (.jmp x0) := of_none _ rfl

/-- setlc. -/
theorem setlc (x0 : Fin 1536) : Statement (.setlc x0) := of_none _ rfl

/-- djnz. -/
theorem djnz (x0 : Fin 1536) : Statement (.djnz x0) := of_none _ rfl

/-- add. -/
theorem add (x0 : Fin 1536) : Statement (.add x0) := of_none _ rfl

/-- sub. -/
theorem sub (x0 : Fin 1536) : Statement (.sub x0) := of_none _ rfl

/-- and. -/
theorem and (x0 : Fin 1536) : Statement (.and x0) := of_none _ rfl

/-- or. -/
theorem or (x0 : Fin 1536) : Statement (.or x0) := of_none _ rfl

/-- xor. -/
theorem xor (x0 : Fin 1536) : Statement (.xor x0) := of_none _ rfl

/-- shl. -/
theorem shl (x0 : Fin 1536) : Statement (.shl x0) := of_none _ rfl

/-- shr. -/
theorem shr (x0 : Fin 1536) : Statement (.shr x0) := of_none _ rfl

/-- sar. -/
theorem sar (x0 : Fin 1536) : Statement (.sar x0) := of_none _ rfl

/-- mul. -/
theorem mul (x0 : Fin 1536) : Statement (.mul x0) := of_none _ rfl

/-- min. -/
theorem min (x0 : Fin 1536) : Statement (.min x0) := of_none _ rfl

/-- max. -/
theorem max (x0 : Fin 1536) : Statement (.max x0) := of_none _ rfl

/-- cmp. -/
theorem cmp (x0 : Fin 1536) : Statement (.cmp x0) := of_none _ rfl

/-- addi. -/
theorem addi (x0 : Fin 1536) : Statement (.addi x0) := of_none _ rfl

/-- andi. -/
theorem andi (x0 : Fin 1536) : Statement (.andi x0) := of_none _ rfl

/-- ori. -/
theorem ori (x0 : Fin 1536) : Statement (.ori x0) := of_none _ rfl

/-- xori. -/
theorem xori (x0 : Fin 1536) : Statement (.xori x0) := of_none _ rfl

/-- shli. -/
theorem shli (x0 : Fin 1536) : Statement (.shli x0) := of_none _ rfl

/-- shri. -/
theorem shri (x0 : Fin 1536) : Statement (.shri x0) := of_none _ rfl

/-- sari. -/
theorem sari (x0 : Fin 1536) : Statement (.sari x0) := of_none _ rfl

/-- cmpi. -/
theorem cmpi (x0 : Fin 1536) : Statement (.cmpi x0) := of_none _ rfl

/-- ldc. -/
theorem ldc (x0 : Fin 1536) : Statement (.ldc x0) := of_none _ rfl

/-- getip. -/
theorem getip (x0 : Fin 1536) : Statement (.getip x0) := of_none _ rfl

/-- getop. -/
theorem getop (x0 : Fin 1536) : Statement (.getop x0) := of_none _ rfl

/-- setip. -/
theorem setip (x0 : Fin 1536) : Statement (.setip x0) := of_none _ rfl

/-- setop. -/
theorem setop (x0 : Fin 1536) : Statement (.setop x0) := of_none _ rfl

/-- addip. -/
theorem addip (x0 : Fin 1536) : Statement (.addip x0) := of_none _ rfl

/-- addop. -/
theorem addop (x0 : Fin 1536) : Statement (.addop x0) := of_none _ rfl

/-- unpk. -/
theorem unpk (x0 : Fin 1536) : Statement (.unpk x0) := of_none _ rfl

/-- conv. -/
theorem conv (x0 : Fin 1536) : Statement (.conv x0) := of_none _ rfl

/-- pack. -/
theorem pack (x0 : Fin 1536) : Statement (.pack x0) := of_none _ rfl

/-- xfrm. -/
theorem xfrm (x0 : Fin 1536) : Statement (.xfrm x0) := of_none _ rfl

/-- copyb. -/
theorem copyb (x0 : Fin 1536) : Statement (.copyb x0) := of_none _ rfl

/-- putw. -/
theorem putw (x0 : Fin 1536) : Statement (.putw x0) := of_none _ rfl

/-- tstamp. -/
theorem tstamp (x0 : Fin 1536) : Statement (.tstamp x0) := of_none _ rfl

/-- emit. -/
theorem emit (x0 : Fin 1536) : Statement (.emit x0) := of_none _ rfl

/-- fetch. -/
theorem fetch (x0 : Fin 1536) : Statement (.fetch x0) := of_none _ rfl

/-- fwait. -/
theorem fwait (x0 : Fin 1536) : Statement (.fwait x0) := of_none _ rfl

/-- engineWaitResume. -/
theorem engineWaitResume (x0 : Fin 1536) : Statement (.engineWaitResume x0) := of_none _ rfl

/-- fetchCompletion. -/
theorem fetchCompletion (x0 : Fin 1536) : Statement (.fetchCompletion x0) := of_none _ rfl

/-- emissionDone. -/
theorem emissionDone (x0 : Fin 1536) : Statement (.emissionDone x0) := of_none _ rfl

/-- recordWatchdog. -/
theorem recordWatchdog (x0 : Fin 1536) : Statement (.recordWatchdog x0) := of_none _ rfl

/-- accordLoad. -/
theorem accordLoad (x0 : Access) (x1 : Fin 12) (x2 : Word) : Statement (.accordLoad x0 x1 x2) := of_some _ x0 rfl rfl

/-- accordLoadDone. -/
theorem accordLoadDone (x0 : Fin 12) (x1 : Bool) : Statement (.accordLoadDone x0 x1) := of_none _ rfl

/-- pantryEccUncorrectable. -/
theorem pantryEccUncorrectable (x0 : Fin 12) (x1 : Bool) (x2 : Fin 128) (x3 : EccAt) : Statement (.pantryEccUncorrectable x0 x1 x2 x3) := of_none _ rfl

/-- gateCommit. -/
theorem gateCommit (x0 : Access) (x1 : Word) : Statement (.gateCommit x0 x1) := of_some _ x0 rfl rfl

/-- gateEpochDone. -/
theorem gateEpochDone : Statement .gateEpochDone := of_none _ rfl

/-- segmentTransactionStart. -/
theorem segmentTransactionStart (x0 : Bool) : Statement (.segmentTransactionStart x0) := of_none _ rfl

/-- segmentTransactionEnd. -/
theorem segmentTransactionEnd (x0 : SegOutcome) (x1 : Fin 16) (x2 : List Byte) (x3 : Nat) : Statement (.segmentTransactionEnd x0 x1 x2 x3) := of_none _ rfl

/-- holdTimeout. -/
theorem holdTimeout (x0 : SegStop) : Statement (.holdTimeout x0) := of_none _ rfl

/-- prefetchAgeExpiry. -/
theorem prefetchAgeExpiry (x0 : Fin 8) : Statement (.prefetchAgeExpiry x0) := of_none _ rfl

/-- unlockMessage. -/
theorem unlockMessage (x0 : Option (Fin 32)) : Statement (.unlockMessage x0) := of_none _ rfl

/-- lockTimeout. -/
theorem lockTimeout : Statement .lockTimeout := of_none _ rfl

/-- segmentUpstreamWrite. -/
theorem segmentUpstreamWrite (x0 : SegAddr) (x1 : List Byte) (x2 : List Bool) : Statement (.segmentUpstreamWrite x0 x1 x2) := of_none _ rfl

/-- segmentUpstreamRead. -/
theorem segmentUpstreamRead (x0 : SegAddr) (x1 : Fin 3) (x2 : Bool) : Statement (.segmentUpstreamRead x0 x1 x2) := of_none _ rfl

/-- delayedReadCompletion. -/
theorem delayedReadCompletion : Statement .delayedReadCompletion := of_none _ rfl

/-- delayedReadExpiry. -/
theorem delayedReadExpiry (x0 : Fin 4) : Statement (.delayedReadExpiry x0) := of_none _ rfl

/-- intxChange. -/
theorem intxChange (x0 : Fin 4) (x1 : Bool) : Statement (.intxChange x0 x1) := of_none _ rfl

/-- lpbCfgRead. -/
theorem lpbCfgRead (x0 : Access) (x1 : Option Word) : Statement (.lpbCfgRead x0 x1) := of_some _ x0 rfl rfl

/-- lpbCfgWrite. -/
theorem lpbCfgWrite (x0 : Access) (x1 : Word) (x2 : Option Word) : Statement (.lpbCfgWrite x0 x1 x2) := of_some _ x0 rfl rfl

/-- grantTimeout. -/
theorem grantTimeout (x0 : Bool) : Statement (.grantTimeout x0) := of_none _ rfl

/-- segmentResetDeassert. -/
theorem segmentResetDeassert (x0 : Bool) : Statement (.segmentResetDeassert x0) := of_none _ rfl

/-- serrAssert. -/
theorem serrAssert (x0 : Fin 16) : Statement (.serrAssert x0) := of_none _ rfl

/-- presencePinsLow. -/
theorem presencePinsLow (x0 : Fin 24) : Statement (.presencePinsLow x0) := of_none _ rfl

/-- presenceDebounceDone. -/
theorem presenceDebounceDone (x0 : Fin 24) : Statement (.presenceDebounceDone x0) := of_none _ rfl

/-- presenceLost. -/
theorem presenceLost (x0 : Fin 24) (x1 : Bool) (x2 : Bool) : Statement (.presenceLost x0 x1 x2) := of_none _ rfl

/-- shortPinViolation. -/
theorem shortPinViolation (x0 : Fin 24) : Statement (.shortPinViolation x0) := of_none _ rfl

/-- on. -/
theorem on (x0 : Access) (x1 : Fin 24) (x2 : Word) : Statement (.on x0 x1 x2) := of_some _ x0 rfl rfl

/-- off. -/
theorem off (x0 : Access) (x1 : Fin 24) (x2 : Word) : Statement (.off x0 x1 x2) := of_some _ x0 rfl rfl

/-- release. -/
theorem release (x0 : Access) (x1 : Fin 24) (x2 : Word) : Statement (.release x0 x1 x2) := of_some _ x0 rfl rfl

/-- eClr. -/
theorem eClr (x0 : Access) (x1 : Fin 24) (x2 : Word) : Statement (.eClr x0 x1 x2) := of_some _ x0 rfl rfl

/-- hminClr. -/
theorem hminClr (x0 : Access) (x1 : Word) : Statement (.hminClr x0 x1) := of_some _ x0 rfl rfl

/-- fusChanEnable. -/
theorem fusChanEnable (x0 : Access) (x1 : Fin 24) (x2 : Word) : Statement (.fusChanEnable x0 x1 x2) := of_some _ x0 rfl rfl

/-- rampStart. -/
theorem rampStart (x0 : Fin 24) (x1 : Bool) : Statement (.rampStart x0 x1) := of_none _ rfl

/-- rampComplete. -/
theorem rampComplete (x0 : Fin 24) : Statement (.rampComplete x0) := of_none _ rfl

/-- prechargeComplete. -/
theorem prechargeComplete (x0 : Fin 24) : Statement (.prechargeComplete x0) := of_none _ rfl

/-- prechargeShortCheck. -/
theorem prechargeShortCheck (x0 : Fin 24) : Statement (.prechargeShortCheck x0) := of_none _ rfl

/-- rampTimeout. -/
theorem rampTimeout (x0 : Fin 24) : Statement (.rampTimeout x0) := of_none _ rfl

/-- rampOvercurrent. -/
theorem rampOvercurrent (x0 : Fin 24) : Statement (.rampOvercurrent x0) := of_none _ rfl

/-- fastTrip. -/
theorem fastTrip (x0 : Fin 24) : Statement (.fastTrip x0) := of_none _ rfl

/-- faultTimerStart. -/
theorem faultTimerStart (x0 : Fin 24) : Statement (.faultTimerStart x0) := of_none _ rfl

/-- slowTrip. -/
theorem slowTrip (x0 : Fin 24) : Statement (.slowTrip x0) := of_none _ rfl

/-- undervoltageTrip. -/
theorem undervoltageTrip (x0 : Fin 24) : Statement (.undervoltageTrip x0) := of_none _ rfl

/-- overvoltageTrip. -/
theorem overvoltageTrip (x0 : Fin 24) : Statement (.overvoltageTrip x0) := of_none _ rfl

/-- fetFail. -/
theorem fetFail (x0 : Fin 24) : Statement (.fetFail x0) := of_none _ rfl

/-- pgQualify. -/
theorem pgQualify (x0 : Fin 24) : Statement (.pgQualify x0) := of_none _ rfl

/-- preoffEnd. -/
theorem preoffEnd (x0 : Fin 24) : Statement (.preoffEnd x0) := of_none _ rfl

/-- dischargeDone. -/
theorem dischargeDone (x0 : Fin 24) : Statement (.dischargeDone x0) := of_none _ rfl

/-- coolEnd. -/
theorem coolEnd (x0 : Fin 24) : Statement (.coolEnd x0) := of_none _ rfl

/-- retryClear. -/
theorem retryClear (x0 : Fin 24) : Statement (.retryClear x0) := of_none _ rfl

/-- fuseSample. -/
theorem fuseSample (x0 : List FuseReading) (x1 : Fin 65536) : Statement (.fuseSample x0 x1) := of_none _ rfl

/-- faultMessage. -/
theorem faultMessage (x0 : Option OwnFault) : Statement (.faultMessage x0) := of_none _ rfl

/-- collectorSelfError. -/
theorem collectorSelfError (x0 : Bool) (x1 : BitVec 64) : Statement (.collectorSelfError x0 x1) := of_none _ rfl

/-- faultForce. -/
theorem faultForce (x0 : Access) (x1 : Fin 15) (x2 : Word) : Statement (.faultForce x0 x1 x2) := of_some _ x0 rfl rfl

/-- faultNRelease. -/
theorem faultNRelease (x0 : Access) (x1 : Word) : Statement (.faultNRelease x0 x1) := of_some _ x0 rfl rfl

/-- partitionContainRelease. -/
theorem partitionContainRelease (x0 : Access) (x1 : Word) : Statement (.partitionContainRelease x0 x1) := of_some _ x0 rfl rfl

/-- portContainRelease. -/
theorem portContainRelease (x0 : Access) (x1 : Fin 3) (x2 : Word) : Statement (.portContainRelease x0 x1 x2) := of_some _ x0 rfl rfl

/-- segmentContainRelease. -/
theorem segmentContainRelease (x0 : Access) (x1 : Word) : Statement (.segmentContainRelease x0 x1) := of_some _ x0 rfl rfl

/-- orphanRetire. -/
theorem orphanRetire (x0 : Fin 128) (x1 : Fin 65536) (x2 : Fin 16384) : Statement (.orphanRetire x0 x1 x2) := of_none _ rfl

/-- completionTimeout. -/
theorem completionTimeout (x0 : Option (Fin 32)) (x1 : Fin 16384) : Statement (.completionTimeout x0 x1) := of_none _ rfl

/-- tagQuarantineExpiry. -/
theorem tagQuarantineExpiry (x0 : Option (Fin 32)) (x1 : Fin 16384) : Statement (.tagQuarantineExpiry x0 x1) := of_none _ rfl

/-- lbxReqWrite. -/
theorem lbxReqWrite (x0 : Fin 34) (x1 : Fin 16) (x2 : Word) : Statement (.lbxReqWrite x0 x1 x2) := of_none _ rfl

/-- ring. -/
theorem ring (x0 : Fin 34) : Statement (.ring x0) := of_none _ rfl

/-- lbxRspRead. -/
theorem lbxRspRead (x0 : Fin 34) (x1 : Fin 16) : Statement (.lbxRspRead x0 x1) := of_none _ rfl

/-- commandAck. -/
theorem commandAck (x0 : Fin 34) : Statement (.commandAck x0) := of_none _ rfl

/-- smbBlockWriteReq. -/
theorem smbBlockWriteReq (x0 : List Word) (x1 : Bool) : Statement (.smbBlockWriteReq x0 x1) := of_none _ rfl

/-- smbRing. -/
theorem smbRing (x0 : Byte) (x1 : Bool) : Statement (.smbRing x0 x1) := of_none _ rfl

/-- smbReadRsp. -/
theorem smbReadRsp : Statement .smbReadRsp := of_none _ rfl

/-- smbReadAck. -/
theorem smbReadAck : Statement .smbReadAck := of_none _ rfl

/-- smbReadStatus. -/
theorem smbReadStatus : Statement .smbReadStatus := of_none _ rfl

/-- smbWriteCtl. -/
theorem smbWriteCtl (x0 : Word) (x1 : Bool) : Statement (.smbWriteCtl x0 x1) := of_none _ rfl

/-- smbAlertResponse. -/
theorem smbAlertResponse : Statement .smbAlertResponse := of_none _ rfl

/-- ident. -/
theorem ident (x0 : Fin 34) : Statement (.ident x0) := of_none _ rfl

/-- claim. -/
theorem claim (x0 : Fin 34) : Statement (.claim x0) := of_none _ rfl

/-- renew. -/
theorem renew (x0 : Fin 34) : Statement (.renew x0) := of_none _ rfl

/-- ownerRelease. -/
theorem ownerRelease (x0 : Fin 34) : Statement (.ownerRelease x0) := of_none _ rfl

/-- handover. -/
theorem handover (x0 : Fin 34) : Statement (.handover x0) := of_none _ rfl

/-- take. -/
theorem take (x0 : Fin 34) : Statement (.take x0) := of_none _ rfl

/-- expertReq. -/
theorem expertReq (x0 : Fin 34) : Statement (.expertReq x0) := of_none _ rfl

/-- expertUnlock. -/
theorem expertUnlock (x0 : Fin 34) : Statement (.expertUnlock x0) := of_none _ rfl

/-- expertLock. -/
theorem expertLock (x0 : Fin 34) : Statement (.expertLock x0) := of_none _ rfl

/-- modeSet. -/
theorem modeSet (x0 : Fin 34) : Statement (.modeSet x0) := of_none _ rfl

/-- modeGet. -/
theorem modeGet (x0 : Fin 34) : Statement (.modeGet x0) := of_none _ rfl

/-- regRead. -/
theorem regRead (x0 : Fin 34) : Statement (.regRead x0) := of_none _ rfl

/-- regWrite. -/
theorem regWrite (x0 : Fin 34) : Statement (.regWrite x0) := of_none _ rfl

/-- portSet. -/
theorem portSet (x0 : Fin 34) : Statement (.portSet x0) := of_none _ rfl

/-- flacon. -/
theorem flacon (x0 : Fin 34) : Statement (.flacon x0) := of_none _ rfl

/-- fuse. -/
theorem fuse (x0 : Fin 34) : Statement (.fuse x0) := of_none _ rfl

/-- timeAdj. -/
theorem timeAdj (x0 : Fin 34) : Statement (.timeAdj x0) := of_none _ rfl

/-- lpbConfig. -/
theorem lpbConfig (x0 : Fin 34) (x1 : Option Word) (x2 : Bool) : Statement (.lpbConfig x0 x1 x2) := of_none _ rfl

/-- discover. -/
theorem discover (x0 : Fin 34) (x1 : DiscoverStep) : Statement (.discover x0 x1) := of_none _ rfl

/-- storeCommit. -/
theorem storeCommit (x0 : Fin 34) (x1 : Bool) : Statement (.storeCommit x0 x1) := of_none _ rfl

/-- storeInfo. -/
theorem storeInfo (x0 : Fin 34) : Statement (.storeInfo x0) := of_none _ rfl

/-- fwLoadHost. -/
theorem fwLoadHost (x0 : Fin 34) : Statement (.fwLoadHost x0) := of_none _ rfl

/-- fwLoadChunk. -/
theorem fwLoadChunk (x0 : Fin 34) : Statement (.fwLoadChunk x0) := of_none _ rfl

/-- fwFinish. -/
theorem fwFinish (x0 : Fin 34) (x1 : Bool) : Statement (.fwFinish x0 x1) := of_none _ rfl

/-- fwInfo. -/
theorem fwInfo (x0 : Fin 34) : Statement (.fwInfo x0) := of_none _ rfl

/-- fwSvnCommit. -/
theorem fwSvnCommit (x0 : Fin 34) : Statement (.fwSvnCommit x0) := of_none _ rfl

/-- electionClose. -/
theorem electionClose : Statement .electionClose := of_none _ rfl

/-- leasePeriodEnd. -/
theorem leasePeriodEnd : Statement .leasePeriodEnd := of_none _ rfl

/-- handoverTimeout. -/
theorem handoverTimeout : Statement .handoverTimeout := of_none _ rfl

/-- nonceExpiry. -/
theorem nonceExpiry : Statement .nonceExpiry := of_none _ rfl

/-- resetNAssert. -/
theorem resetNAssert : Statement .resetNAssert := of_none _ rfl

/-- resetNDeassert. -/
theorem resetNDeassert : Statement .resetNDeassert := of_none _ rfl

/-- recoveryReset. -/
theorem recoveryReset : Statement .recoveryReset := of_none _ rfl

/-- powerOnReset. -/
theorem powerOnReset (x0 : Bool) : Statement (.powerOnReset x0) := of_none _ rfl

/-- chipRst. -/
theorem chipRst (x0 : Access) (x1 : Word) : Statement (.chipRst x0 x1) := of_some _ x0 rfl rfl

/-- powerGo. -/
theorem powerGo (x0 : Access) (x1 : Word) : Statement (.powerGo x0 x1) := of_some _ x0 rfl rfl

/-- powerEntryProceed. -/
theorem powerEntryProceed : Statement .powerEntryProceed := of_none _ rfl

/-- powerEntryTimeout. -/
theorem powerEntryTimeout : Statement .powerEntryTimeout := of_none _ rfl

/-- wakeEvent. -/
theorem wakeEvent (x0 : Fin 7) (x1 : Fin 1024) (x2 : Option (Fin 7 × Fin 1024)) : Statement (.wakeEvent x0 x1 x2) := of_none _ rfl

/-- coreRailsGood. -/
theorem coreRailsGood : Statement .coreRailsGood := of_none _ rfl

/-- powerExitComplete. -/
theorem powerExitComplete (x0 : Fin 16777216) : Statement (.powerExitComplete x0) := of_none _ rfl

/-- managementSleep. -/
theorem managementSleep : Statement .managementSleep := of_none _ rfl

/-- brownout. -/
theorem brownout : Statement .brownout := of_none _ rfl

/-- supplyWarn. -/
theorem supplyWarn (x0 : Bool) (x1 : Fin 65536) : Statement (.supplyWarn x0 x1) := of_none _ rfl

/-- supplyRecovery. -/
theorem supplyRecovery (x0 : Bool) : Statement (.supplyRecovery x0) := of_none _ rfl

/-- vddLow. -/
theorem vddLow : Statement .vddLow := of_none _ rfl

/-- vaonLow. -/
theorem vaonLow : Statement .vaonLow := of_none _ rfl

/-- temperatureSample. -/
theorem temperatureSample (x0 : Fin 4096) : Statement (.temperatureSample x0) := of_none _ rfl

/-- alarm. -/
theorem alarm : Statement .alarm := of_none _ rfl

/-- xtalStart. -/
theorem xtalStart : Statement .xtalStart := of_none _ rfl

/-- pllFreeRunTimeout. -/
theorem pllFreeRunTimeout : Statement .pllFreeRunTimeout := of_none _ rfl

/-- cdcTimeout. -/
theorem cdcTimeout (x0 : Option (Fin 12)) (x1 : Fin 256) : Statement (.cdcTimeout x0 x1) := of_none _ rfl

/-- counterSnapshot. -/
theorem counterSnapshot (x0 : Access) (x1 : Word) : Statement (.counterSnapshot x0 x1) := of_some _ x0 rfl rfl

/-- snapshotDone. -/
theorem snapshotDone : Statement .snapshotDone := of_none _ rfl

/-- counterFreeze. -/
theorem counterFreeze (x0 : Access) (x1 : Word) : Statement (.counterFreeze x0 x1) := of_some _ x0 rfl rfl

/-- counterClear. -/
theorem counterClear (x0 : Access) (x1 : Word) : Statement (.counterClear x0 x1) := of_some _ x0 rfl rfl

/-- sillageArm. -/
theorem sillageArm (x0 : Access) (x1 : Word) : Statement (.sillageArm x0 x1) := of_some _ x0 rfl rfl

/-- sillageDisarm. -/
theorem sillageDisarm (x0 : Access) (x1 : Word) : Statement (.sillageDisarm x0 x1) := of_some _ x0 rfl rfl

/-- sillageProbeChange. -/
theorem sillageProbeChange (x0 : Fin 16) (x1 : Fin 65536) (x2 : Bool) : Statement (.sillageProbeChange x0 x1 x2) := of_none _ rfl

/-- sillageTrigger. -/
theorem sillageTrigger (x0 : Access) (x1 : Word) : Statement (.sillageTrigger x0 x1) := of_some _ x0 rfl rfl

/-- sillagePostDone. -/
theorem sillagePostDone : Statement .sillagePostDone := of_none _ rfl

/-- debugAccess. -/
theorem debugAccess (x0 : Option (BitVec 40)) (x1 : Bool) (x2 : Bool) (x3 : Word) : Statement (.debugAccess x0 x1 x2 x3) := of_none _ rfl

/-- debugAccessDone. -/
theorem debugAccessDone : Statement .debugAccessDone := of_none _ rfl

/-- lcNonce. -/
theorem lcNonce : Statement .lcNonce := of_none _ rfl

/-- lcSecure. -/
theorem lcSecure : Statement .lcSecure := of_none _ rfl

/-- lcReturn. -/
theorem lcReturn (x0 : Word) (x1 : List Byte) (x2 : List Byte) : Statement (.lcReturn x0 x1 x2) := of_none _ rfl

/-- tapReset. -/
theorem tapReset : Statement .tapReset := of_none _ rfl

/-- idcode. -/
theorem idcode : Statement .idcode := of_none _ rfl

/-- samplePreload. -/
theorem samplePreload (x0 : List Bool) (x1 : List Bool) : Statement (.samplePreload x0 x1) := of_none _ rfl

/-- extest. -/
theorem extest (x0 : List Bool) (x1 : List Bool) : Statement (.extest x0 x1) := of_none _ rfl

/-- extestPulse. -/
theorem extestPulse (x0 : List Bool) (x1 : List Bool) : Statement (.extestPulse x0 x1) := of_none _ rfl

/-- extestTrain. -/
theorem extestTrain (x0 : List Bool) (x1 : List Bool) : Statement (.extestTrain x0 x1) := of_none _ rfl

/-- boundaryClamp. -/
theorem boundaryClamp : Statement .boundaryClamp := of_none _ rfl

/-- highz. -/
theorem highz : Statement .highz := of_none _ rfl

/-- bypass. -/
theorem bypass : Statement .bypass := of_none _ rfl

/-- vddResetRelease. -/
theorem vddResetRelease : Statement .vddResetRelease := of_none _ rfl

/-- chipResetEnd. -/
theorem chipResetEnd : Statement .chipResetEnd := of_none _ rfl

/-- coreOnRise. -/
theorem coreOnRise : Statement .coreOnRise := of_none _ rfl

/-- pchgEnOff. -/
theorem pchgEnOff (x0 : Fin 24) : Statement (.pchgEnOff x0) := of_none _ rfl

/-- segmentGrant. -/
theorem segmentGrant (x0 : Fin 64) : Statement (.segmentGrant x0) := of_none _ rfl

/-- vddpLoss. -/
theorem vddpLoss : Statement .vddpLoss := of_none _ rfl

/-- counterWrap. -/
theorem counterWrap (x0 : Fin 4096) (x1 : Option (Fin 8)) : Statement (.counterWrap x0 x1) := of_none _ rfl

end Sys2Proof.Laws.WellFormedAt
end

