-- ==== Sys2Proof/Tests/Slice0.lean ====
section
/-! SUPPORT. Tests: worked examples of the spec, the checks of well-formedness, and, for every statement that has hypotheses, states
that meet all hypotheses of each of its clauses together (`witness_<statement>`; lanes, ports, engines and partitions at the
ends of their ranges). Nothing here is a claim about the hardware. -/

namespace Sys2Proof.Tests
open Machine

set_option Elab.async false
set_option linter.unusedVariables false

/-! ### The words of this file for states -/

/-- A state whose fields hold the values given, the rest as after reset; `f` changes what no register shows. -/
def mk (vals : List FieldVal) (f : Chip → Chip := id) : State :=
    { chip := f (vals.foldl (fun c e => c.setFld e.f (e.v.getD 0) e.i e.j) {}) }

/-- An access of Ecseric. -/
def fw : Access := { who := .fw }

/-- An access of the host of partition 0. -/
def host : Access := { who := .part 0 }

/-- The device once a write has passed gate 109. -/
def pc (s : State) (a : Access) (k : RegKey) (v : Word) : Chip := (s.chip.passAt a k (k.addr k.tile) v).2

/-- Lane l in a state, with a state of its adaptation. -/
def lane (l st ad : Nat) : List FieldVal := [F.SDS_LN_STATUS.STATE.is st l, F.SDS_LN_RXSTAT.ADAPT_STATE.is ad l]

/-- Port 95 as a Fleren port in a state. -/
def flv (st : Nat) : List FieldVal := [F.PRT_PORT_CFG.EN.is 1 95, F.PRT_PORT_CFG.PROTO.is 1 95,
    F.PRT_FL_STATUS.LSTATE.is st 95]

/-- A device whose port 95 is a Fleren port in a state. -/
def fl (st : Nat) (h : FlH := {}) (more : List FieldVal := []) (f : Chip → Chip := id) : State := mk (flv st ++ more)
    fun c => f (c.updFl 95 fun _ => h)

/-- Port 95 as a PCI Express port of a role and partition. -/
def pv (role : Nat) (p : Nat := 0) : List FieldVal := [F.PRT_PORT_CFG.EN.is 1 95, F.PRT_PORT_CFG.ROLE.is role 95,
    F.PRT_PORT_CFG.PART.is p 95]

/-- A device whose port 95 is a PCI Express port with its link up. -/
def up (role : Nat) (more : List FieldVal := []) (f : Chip → Chip := id) : State :=
  mk (pv role ++ [F.PRT_LINK_STATUS.DL_ACTIVE.is 1 95, F.PRT_LINK_STATUS.NEG_WIDTH.is 0 95,
    F.PRT_LINK_STATUS.NEG_RATE.is 1 95, F.PRT_LINK_STATUS.PM_STATE.is 0 95, F.PRT_LINK_STATUS.LTSSM.is 4 95] ++ more)
    f

/-- The same with its link down. -/
def dn (role : Nat) (more : List FieldVal := []) (f : Chip → Chip := id) : State := mk (pv role ++ more) f

/-- A device whose port 95 is a hot-plug slot fed by channel 23. -/
def slot (more : List FieldVal := []) (f : Chip → Chip := id) : State := mk (pv 0 ++ [F.PRT_HP_CFG.HP_EN.is 1 95,
    F.PRT_HP_CFG.FUS_CHAN.is 23 95] ++ more) f

/-- A record of job 383 in hand. -/
def rec0 : RecInHand := { job := 383, recno := 7, loc := 0x1000, len := 64, first := 5, last := 6, start := 7 }

/-- A device whose engine 1535 runs with that record, an instruction at its PC. -/
def en (w : Nat) (h : EngH := {}) (more : List FieldVal := []) (f : Chip → Chip := id) : State :=
  mk ([F.ACD_ENG_STATUS.STATE.is 1 1535, F.ACD_ENG_STATUS.PC.is 510 1535, F.ACD_PS_INSN.INSN.is w 1535 510,
    F.ACD_JOB_CFG.EN.is 1 11 31,
       F.ACD_JOB_SET.FIRST.is 127 11 31, F.ACD_JOB_SET.COUNT.is 1 11 31, F.ACD_JOB_LEN.OUT_LEN.is 64 11 31,
    F.ACD_JOB_STAGE.STAGE.is 256 11 31] ++ more)
    fun c => f
    { c with acd := { c.acd with engs := [(1535, { h with hand := h.hand.or (some rec0) })], jobs := [(383, { order := [7] })] } }

/-- What comes with a control block of a KIND and body: no trailer, and the right CHECK. -/
def blk (kind body : Nat) : BlockRest := { check := Fin.ofNat 256 (checkOf (blockBits 0 false kind body)) }

/-- An instruction word of an engine in the REG format (Table 10.5). -/
def ins (op d a b imm : Nat) : Nat := op * 2^18 + d * 2^14 + a * 2^10 + b * 2^6 + imm

/-! ### Worked examples of the spec -/

/-- The device after a command. -/
def after (i : Instr) (s : State) : Chip := match exec i s with
  | .next t => t.chip
  | _ => s.chip

/-- R138: the CRC of the ASCII string "123456789". -/
theorem test_crc32 : crc32 [0x31, 0x32, 0x33, 0x34, 0x35, 0x36, 0x37, 0x38, 0x39] = 0xCBF43926 := by decide +kernel

/-- The worked example "locating and decoding offsets" of spec/19_register_map.md, the address of SDS_LN_TXEQ of lane L117 in
spec/02_serdes.md, and that of FUS_CHAN_CFG_07 in spec/13_fuse_box.md. -/
theorem test_offsets :
    [0x08620004, 0x03509A44, 0x08005010, 0x005011C0, 0x00900000].map State.reset.chip.keyAt =
      [some ⟨.ACD_DST_B, 7, 0⟩, some ⟨.SCH_CTX_CIR, 1234, 0⟩, some ⟨.SDS_LN_TXEQ, 117, 0⟩, some ⟨.FUS_CHAN_CFG, 7, 0⟩, none] := by
  decide +kernel

/-- The source ID of port P41 (spec/14_faults_containment.md). -/
theorem test_source_of_port : tileSrc 5 1 = 0x0A1 := by decide

/-- The estimate of the worked example "two commits on one board" (spec/15_letterbox_firmware.md). -/
theorem test_store_estimate : storeEstimate 196608 = 92 := by decide

/-- Hand-tuning lane L117 (spec/02_serdes.md): the clamped coefficients, and one more in SDS_CLAMP_SEEN of T7. -/
theorem test_txeq_clamped :
    let c := after (.registerWrite fw 0x08005010 0x800AE000) {}
    (c.fld F.SDS_LN_TXEQ.C_PRE 117, c.fld F.SDS_LN_TXEQ.C_POST 117, c.fld F.SDS_LN_TXEQ_STAT.SOURCE 117,
      c.fld F.SDS_CLAMP_SEEN.COUNT 7) = (12, 4, 3, 1) := by decide +kernel

/-- R367: C of an addition is its carry out, and N the sign of the result. -/
theorem test_add_carry :
    let h := (after (.add 1535) (en (ins 0x08 4 1 2 0) { g := [(1, 0xFFFFFFFF), (2, 0x80000001)] })).eng 1535
    (h.g.get 0 4, h.z, h.n, h.c) = (0x80000000, false, true, true) := by decide +kernel

/-- R367: C of a subtraction is 1 when A < B unsigned. -/
theorem test_cmp_borrow :
    let h := (after (.cmp 1535) (en (ins 0x13 0 3 1 0) { g := [(1, 0xFFFFFFFF), (3, 5)] })).eng 1535
    (h.z, h.n, h.c) = (false, false, true) := by decide +kernel

/-- R495: RING on an empty request queue is answered BAD_LEN. -/
theorem test_ring_empty : ((after (.ring 33) {}).box 33).result = some (0x8003, []) := by decide +kernel

/-- R500: an opcode that Table 15.5 does not name is answered BAD_OPCODE. -/
theorem test_ring_opcode :
    let s : State := { chip := { lbx := { boxes := [(33, { req := [0xEE000000] })] } } }
    ((after (.ring 33) s).box 33).result = some (0x8002, []) := by decide +kernel

/-! ### Ill-formed commands -/

/-- Each bound of an access, of a packet, of a fabric header and of a destination refuses a term beyond it. -/
theorem test_ill_formed :
    ([.modeRequest { who := .fw, rid := 65536 } 0, .modeRequest { who := .fw, be := 16 } 0,
      .modeRequest { who := .fw, st := some { colour := 16 } } 0,
      .discRequest 0 { typ := 16 }, .discRequest 0 { hops := 64 }, .discRequest 0 { lenWords := 1024 },
      .discRequest 0 { dstChip := 64 }, .discRequest 0 { srcChip := 64 }, .discRequest 0 { dstDomain := 65536 },
      .discRequest 0 { srcDomain := 65536 }, .discRequest 0 { vh := 65536 }, .discRequest 0 { colour := 16 },
      .discRequest 0 { spread := 65536 }, .discRequest 0 { disc := { hopCnt := 9 } },
      .discResponse 0 { disc := { hops := List.replicate 9 0 } },
      .configRequest 0 { cls := 8 }, .configRequest 0 { addr := 2 ^ 64 }, .configRequest 0 { rid := 65536 },
      .configRequest 0 { tag := 16384 }, .configRequest 0 { len := 4097 }, .configRequest 0 { idRoute := 65536 },
      .packetIngress (.port 0) { data := List.replicate 4097 0 } true .accepted,
      .packetIngress (.port 0) { fab := some { typ := 16 } } true .accepted,
      .egressSelection (.port 96) [] [], .egressSelection (.pantry 12) [] [],
      .parcelTrailer 0 { words := List.replicate 32 0, tlps := [{ cls := 8 }] } 0 false true 0 0 1,
      .parcelTrailer 0 { words := List.replicate 31 0 } 0 false true 0 0 1,
      .parcelTrailer 0 { words := List.replicate 32 0, used := 33 } 0 false true 0 0 1,
      .segmentUpstreamWrite { at_ := 0 } [1, 2] [true], .discover 0 (.store 0x10000000 0), .discover 0 (.send 0 { typ := 16 })] : List Instr).all
        (fun i => !i.wellFormed) = true := by decide +kernel

/-- The same commands within the bounds are well-formed. -/
theorem test_well_formed :
    ([.modeRequest { who := .fw, rid := 65535, st := some { colour := 15 } } 0, .discRequest 0 { typ := 15, hops := 63 },
      .configRequest 0 { cls := 7, tag := 16383, len := 4096 }, .egressSelection (.port 95) [] [],
      .parcelTrailer 0 { words := List.replicate 32 0, used := 32, tlps := [{ cls := 7 }] } 0 false true 8 8 1, .segmentUpstreamWrite { at_ := 0 } [1, 2] [true, false],
      .discover 0 (.store 0x0FFFFFFC 0)] : List Instr).all Instr.wellFormed = true := by decide +kernel

/-! ### Witnesses of the first statements -/

theorem witness_ResetValues : (100 : Nat) < 4096 ∧ Reg.GLB_MODE ∉ [Reg.GAT_GATE_CFG, .GAT_GATE_DEF, .FLT_ACT, .TCT_UNIT_STATUS] := by
  decide

theorem witness_StepsKeepMemory : ∃ (s t : State), s.memOk ∧ step s = .next t :=
  ⟨{ mem := { pantry := [(5, 1), (9, 2)] }, pending := [.admissionRetry] }, _, by unfold State.memOk; decide +kernel, rfl⟩

namespace Group1

def sAct := mk (lane 191 lnActive 3)

def ref : FieldVal := F.SDS_REF_STATUS.REF_OK.is 1 11

theorem witness_LaneStates :
    (∃ (s : State), s.chip.coreUp = true) ∧
    (∃ (t : Fin 12) (s : State), s.chip.coreUp = true ∧ (∀ n < 96, tileOf n = t.val → s.chip.isFleren n = true →
      s.chip.lstate n ∉ [flHunt, flAlign, flInit, flUpState, flRetrain])) ∧
    (∃ (l : Fin 192) (s : State), s.chip.coreUp = true ∧ (s.chip.laneState l.val = lnActive ∨ s.chip.laneState l.val =
      lnStandby)) ∧
    (∃ (l : Fin 192) (s : State), s.chip.coreUp = true ∧ s.chip.laneState l.val = lnEntering ∧ ((s.chip.lane
      l.val).exitHeld = false ∨ s.chip.flag F.SDS_REF_STATUS.REF_OK (laneTile l.val) = true ∨ s.chip.laneOwner? l.val
      = none)) ∧
    (∃ (l : Fin 192) (s : State), s.chip.coreUp = true ∧ s.chip.laneState l.val = lnDeep ∧ (s.chip.flag
      F.SDS_REF_STATUS.REF_OK (laneTile l.val) = true ∨ s.chip.laneOwner? l.val = none)) ∧
    (∃ (l : Fin 192) (s : State), s.chip.coreUp = true ∧ s.chip.laneState l.val = lnDeep ∧ s.chip.flLane? l.val = none
      ∧ (s.chip.flag F.SDS_REF_STATUS.REF_OK (laneTile l.val) = true ∨ s.chip.laneOwner? l.val = none)) ∧
    (∃ (l : Fin 192) (n : Nat) (s : State), s.chip.coreUp = true ∧ s.chip.laneState l.val = lnDeep ∧ s.chip.flag
      F.SDS_REF_STATUS.REF_OK (laneTile l.val) = false ∧ s.chip.laneOwner? l.val = some n ∧ s.chip.isPcie n = true ∧
      s.chip.flag F.PRT_LINK_STATUS.DL_ACTIVE n = true) ∧
    (∃ (l : Fin 192) (s : State), s.chip.coreUp = true ∧ s.chip.laneState l.val = lnEntering) ∧
    (∃ (l : Fin 192) (s : State), s.chip.coreUp = true ∧ s.chip.laneState l.val = lnExiting ∧ s.chip.frozen l.val =
      false ∧ s.chip.adapt l.val ≠ 4 ∧ s.chip.txAsked? l.val = none) ∧
    (∃ (l : Fin 192) (s : State), s.chip.coreUp = true ∧ s.chip.laneState l.val = lnExiting) ∧
    (∃ (l : Fin 192) (s : State), s.chip.coreUp = true ∧ s.chip.laneState l.val = lnStandby ∧ s.chip.flLane? l.val =
      none ∧ s.chip.frozen l.val = false ∧ s.chip.adapt l.val ≠ 4 ∧ s.chip.txAsked? l.val = none) :=
  ⟨
    ⟨{}, by decide +kernel⟩,
    ⟨11, {}, by decide +kernel⟩,
    ⟨191, sAct, by decide +kernel⟩,
    ⟨191, mk (lane 191 lnEntering 3), by decide +kernel⟩,
    ⟨191, mk (lane 191 lnDeep 3), by decide +kernel⟩,
    ⟨191, mk (ref :: lane 191 lnDeep 3), by decide +kernel⟩,
    ⟨191, 95, up 0 ([F.PRT_PORT_CFG.LANE_BASE.is 15 95] ++ lane 191 lnDeep 3), by decide +kernel⟩,
    ⟨191, mk (lane 191 lnEntering 3), by decide +kernel⟩,
    ⟨191, mk (lane 191 lnExiting 3), by decide +kernel⟩,
    ⟨191, mk (lane 191 lnExiting 4), by decide +kernel⟩,
    ⟨191, mk (lane 191 lnStandby 3), by decide +kernel⟩⟩

end Group1

namespace Group2

def sEye := mk (F.SDS_LN_EYE_STAT.STATE.is 1 191 :: lane 191 1 3)

def sTrk := mk (lane 191 1 3)

def sFine := mk (lane 191 1 2)

def sPc := mk [F.PRT_PORT_CFG.EN.is 1 95, F.PRT_PORT_CFG.LANE_BASE.is 15 95]

def sPm := mk [F.PRT_PORT_CFG.EN.is 1 95, F.PRT_PORT_CFG.LANE_BASE.is 15 95, F.SDS_LN_TXEQ.MODE.is 1 191]

def tx3 : FlH := {replay := [{seq := 3, cls := 0}, {seq := 4, cls := 1}, {seq := 5, cls := 2}]}

def tx2 : FlH := {replay := [{seq := 3, cls := 0, timer := true}, {seq := 4, cls := 0}]}

def nx6 : List FieldVal := [F.PRT_FL_SEQ.TX_NEXT.is 6 95]

def cfg1 : Word := word (7 * 2^23 + 7 * 2^20 + 4 * 2^16)

theorem witness_LaneAdaptationAndEye :
    (∃ (l : Fin 192) (s : State), s.chip.coreUp = true ∧ s.chip.laneState l.val = lnActive ∧ s.chip.adapt l.val = 1 ∧
      s.chip.frozen l.val = false) ∧
    (∃ (l : Fin 192) (s : State), s.chip.coreUp = true ∧ s.chip.laneState l.val = lnActive ∧ s.chip.adapt l.val = 2 ∧
      s.chip.frozen l.val = false) ∧
    (∃ (l : Fin 192) (s : State), s.chip.coreUp = true ∧ (s.chip.adapt l.val = 1 ∨ s.chip.adapt l.val = 2) ∧
      s.chip.frozen l.val = false ∧ s.chip.laneFleren l.val = false) ∧
    (∃ (l : Fin 192) (s : State), s.chip.frozen l.val = true) ∧
    (∃ (a : Access) (l : Fin 192) (v : Word) (s : State) (c : Chip), s.passes a
      { reg := Reg.SDS_LN_RXCTL, i := l.val } v c ∧ wbit v 1 = true ∧ (c.isExpert a.who = false → c.frozen l.val =
      false) ∧ (c.isExpert a.who = true → wbit v 0 = false)) ∧
    (∃ (a : Access) (l : Fin 192) (v : Word) (s : State) (c : Chip), s.passes a
      { reg := Reg.SDS_LN_RXCTL, i := l.val } v c ∧ c.isExpert a.who = true ∧ wbit v 1 = false) ∧
    (∃ (a : Access) (l : Fin 192) (v : Word) (s : State) (c : Chip), s.passes a
      { reg := Reg.SDS_LN_EYE_CTL, i := l.val } v c ∧ wbit v 31 = true ∧ c.fld F.SDS_LN_EYE_STAT.STATE l.val = 1) ∧
    (∃ (a : Access) (l : Fin 192) (v : Word) (s : State) (c : Chip), s.passes a
      { reg := Reg.SDS_LN_EYE_CTL, i := l.val } v c ∧ wbit v 31 = true ∧ c.fld F.SDS_LN_EYE_STAT.STATE l.val ≠ 1 ∧
      (c.lane l.val).margining = false ∧ c.laneState l.val = lnActive ∧ c.adapt l.val = 3) ∧
    (∃ (a : Access) (l : Fin 192) (v : Word) (s : State) (c : Chip), s.passes a
      { reg := Reg.SDS_LN_EYE_CTL, i := l.val } v c ∧ wbit v 31 = true ∧ c.fld F.SDS_LN_EYE_STAT.STATE l.val ≠ 1 ∧
      ((c.lane l.val).margining = true ∨ c.laneState l.val ≠ lnActive ∨ c.adapt l.val ≠ 3)) ∧
    (∃ (l : Fin 192) (s : State), s.chip.coreUp = true ∧ s.chip.fld F.SDS_LN_EYE_STAT.STATE l.val = 1) ∧
    (∃ (a : Access) (l : Fin 192) (v : Word) (s : State) (c : Chip), s.passes a
      { reg := Reg.SDS_LN_EYE_CTL, i := l.val } v c ∧ wbit v 31 = false ∧ wbit v 30 = true) ∧
    (∃ (l : Fin 192) (s : State), s.chip.coreUp = true ∧ 3 ≤ s.chip.fld F.SDS_LN_STATUS.RATE l.val ∧ s.chip.fld
      F.SDS_LN_STATUS.RATE l.val ≤ 6) :=
  ⟨
    ⟨191, mk (lane 191 1 1), by decide +kernel⟩,
    ⟨191, mk (lane 191 1 2), by decide +kernel⟩,
    ⟨191, mk (lane 191 1 2), by decide +kernel⟩,
    ⟨191, mk (F.SDS_LN_RXCTL.FREEZE.is 1 191 :: lane 191 1 2), by decide +kernel⟩,
    ⟨fw, 191, 2, mk (lane 191 1 3), pc (mk (lane 191 1 3)) fw ⟨.SDS_LN_RXCTL, 191, 0⟩ 2, by decide +kernel⟩,
    ⟨fw, 191, 1, mk (lane 191 1 3), pc (mk (lane 191 1 3)) fw ⟨.SDS_LN_RXCTL, 191, 0⟩ 1, by decide +kernel⟩,
    ⟨fw, 191, 0x80000000, sEye, pc sEye fw ⟨.SDS_LN_EYE_CTL, 191, 0⟩ 0x80000000, by decide +kernel⟩,
    ⟨fw, 191, 0x80000000, sTrk, pc sTrk fw ⟨.SDS_LN_EYE_CTL, 191, 0⟩ 0x80000000, by decide +kernel⟩,
    ⟨fw, 191, 0x80000000, sFine, pc sFine fw ⟨.SDS_LN_EYE_CTL, 191, 0⟩ 0x80000000, by decide +kernel⟩,
    ⟨191, mk (F.SDS_LN_EYE_STAT.STATE.is 1 191 :: lane 191 1 3) fun c => c.updLane 191 fun h =>
      {h with probe := word (40 * 2^22)}, by decide +kernel⟩,
    ⟨fw, 191, 0x40000000, sEye, pc sEye fw ⟨.SDS_LN_EYE_CTL, 191, 0⟩ 0x40000000, by decide +kernel⟩,
    ⟨191, mk (F.SDS_LN_EYE_STAT.STATE.is 1 191 :: F.SDS_LN_STATUS.RATE.is 6 191 :: lane 191 1 3), by decide +kernel⟩⟩

theorem witness_LaneEqualiser :
    (∃ (a : Access) (l : Fin 192) (v : Word) (inEq : Bool) (s : State) (c : Chip), s.passes a
      { reg := Reg.SDS_LN_TXEQ, i := l.val } v c ∧ c.isExpert a.who = true ∧ inEq = false) ∧
    (∃ (a : Access) (l : Fin 192) (v : Word) (inEq : Bool) (s : State) (c : Chip), s.passes a
      { reg := Reg.SDS_LN_TXEQ, i := l.val } v c ∧ c.isExpert a.who = true ∧ inEq = true) ∧
    (∃ (l : Fin 192) (s : State) (w : Word), s.chip.coreUp = true ∧ w ∈ (s.chip.lane l.val).txHeld) ∧
    (∃ (l : Fin 192) (isPreset : Bool) (pre main post : Fin 1024) (s : State), s.chip.coreUp = true ∧ s.chip.lanePcie
      l.val = true ∧ s.chip.flag F.SDS_LN_TXEQ.MODE l.val = true ∧ (isPreset = true ∨ legalTx pre.val main.val
      post.val = true)) ∧
    (∃ (l : Fin 192) (pre main post : Fin 1024) (s : State) (n : Nat), s.chip.coreUp = true ∧ s.chip.lanePcie l.val =
      true ∧ s.chip.laneOwner? l.val = some n ∧ legalTx pre.val main.val post.val = false) ∧
    (∃ (l : Fin 192) (pre main post : Fin 1024) (s : State), s.chip.coreUp = true ∧ s.chip.lanePcie l.val = true ∧
      s.chip.flag F.SDS_LN_TXEQ.MODE l.val = false ∧ pre.val + main.val + post.val = 48 ∧ pre.val ≤ 12 ∧ pre.val +
      post.val ≤ 16) ∧
    (∃ (l : Fin 192) (s : State), s.chip.coreUp = true ∧ s.chip.lanePcie l.val = true ∧ s.chip.flag F.SDS_LN_TXEQ.MODE
      l.val = false) :=
  ⟨
    ⟨fw, 191, 0x87FFFFFF, false, {}, pc {} fw ⟨.SDS_LN_TXEQ, 191, 0⟩ 0x87FFFFFF, by decide +kernel⟩,
    ⟨fw, 191, 0x87FFFFFF, true, {}, pc {} fw ⟨.SDS_LN_TXEQ, 191, 0⟩ 0x87FFFFFF, by decide +kernel⟩,
    ⟨191, mk [] (fun c => c.updLane 191 fun h => {h with txHeld := some 0x80104020}), 0x80104020, by decide +kernel⟩,
    ⟨191, true, 4, 40, 4, sPm, by decide +kernel⟩,
    ⟨191, 13, 31, 4, sPc, 95, by decide +kernel⟩,
    ⟨191, 12, 32, 4, sPc, by decide +kernel⟩,
    ⟨191, sPc, by decide +kernel⟩⟩

theorem witness_FlerenControlBlocks :
    (∃ (n : Fin 96) (b : BlockRest) (q cnt : Fin 65536) (r x : Fin 8) (k : Fin 16) (y : Bool) (s : State) (e : Bool ×
      Instr), s.chip.coreUp = true ∧ s.chip.isFleren n.val = true ∧ receives (s.chip.lstate n.val) = true ∧ (b.damaged
      && (s.chip.flp n.val).light) = false ∧ e ∈ [(b.ok k.val (x.val * 2 ^ 16 + q.val), Instr.parcelHeadReceive n b k
      x q), (b.ok 2 (b.spare % 8 * 2 ^ 16 + q.val), Instr.ackReceive n b q), (b.ok 3 (r.val * 2 ^ 16 + q.val),
      Instr.nakReceive n b q r), (b.ok 4 (b.spare % 8 * 2 ^ 16 + q.val), Instr.sackReceive n b q), (b.ok 5 (x.val * 2
      ^ 16 + cnt.val), Instr.creditReceive n b x cnt), (b.ok 7 (x.val * 2 ^ 16 + cnt.val), Instr.initReceive n b x
      cnt), (b.ok 8 (b.spare % 2 ^ 18 * 2 + b2n y), Instr.lpiReceive n b y), (b.ok 9 (b.spare % 2 ^ 19),
      Instr.resetReceive n b)] ∧ e.1 = false) ∧
    (∃ (n : Fin 96) (b : BlockRest) (no : Fin 16) (w : Fin 8) (mc : Fin 4096) (s : State), s.chip.coreUp = true ∧
      s.chip.isFleren n.val = true ∧ receives (s.chip.lstate n.val) = true ∧ (b.damaged && (s.chip.flp n.val).light) =
      false ∧ b.ok 6 (no.val * 2 ^ 15 + w.val * 2 ^ 12 + mc.val) = false) ∧
    (∃ (n : Fin 96) (b : BlockRest) (q : Fin 65536) (s : State), s.chip.coreUp = true ∧ s.chip.hears n.val b 2
      (b.spare % 8 * 2 ^ 16 + q.val) ∧ s.chip.lstate n.val = flUpState ∧ (s.chip.flp n.val).receiving = none ∧ seqD
      ((s.chip.txNext n.val + 65535) % 65536) q.val < 32768) ∧
    (∃ (n : Fin 96) (b : BlockRest) (q : Fin 65536) (s : State), s.chip.coreUp = true ∧ s.chip.hears n.val b 2
      (b.spare % 8 * 2 ^ 16 + q.val) ∧ s.chip.lstate n.val = flUpState ∧ (s.chip.flp n.val).receiving = none ∧ 32768 ≤
      seqD ((s.chip.txNext n.val + 65535) % 65536) q.val) ∧
    (∃ (n : Fin 96) (b : BlockRest) (q : Fin 65536) (r : Fin 8) (s : State), s.chip.coreUp = true ∧ s.chip.hears n.val
      b 3 (r.val * 2 ^ 16 + q.val) ∧ s.chip.lstate n.val = flUpState ∧ (s.chip.flp n.val).receiving = none ∧ (6 ≤
      r.val ∨ r.val ≠ 2 ∧ s.chip.sentParcel? n.val q.val = none)) ∧
    (∃ (n : Fin 96) (b : BlockRest) (q : Fin 65536) (s : State), s.chip.coreUp = true ∧ s.chip.hears n.val b 3 (2 * 2
      ^ 16 + q.val) ∧ s.chip.lstate n.val = flUpState ∧ (s.chip.flp n.val).receiving = none ∧ seqD (s.chip.txNext
      n.val) (s.chip.txOld n.val) < seqD q.val (s.chip.txOld n.val)) ∧
    (∃ (n : Fin 96) (b : BlockRest) (q : Fin 65536) (r : Fin 8) (s : State), s.chip.coreUp = true ∧ s.chip.hears n.val
      b 3 (r.val * 2 ^ 16 + q.val) ∧ s.chip.lstate n.val = flUpState ∧ (s.chip.flp n.val).receiving = none ∧ r.val < 6
      ∧ r.val ≠ 2 ∧ (∃ p ∈ s.chip.sentParcel? n.val q.val, p.due = false ∧ p.replays < (s.chip.flp n.val).replayN)) ∧
    (∃ (n : Fin 96) (b : BlockRest) (q : Fin 65536) (r : Fin 8) (s : State), s.chip.coreUp = true ∧ s.chip.hears n.val
      b 3 (r.val * 2 ^ 16 + q.val) ∧ s.chip.lstate n.val = flUpState ∧ (s.chip.flp n.val).receiving = none ∧ r.val < 6
      ∧ r.val ≠ 2 ∧ (∃ p ∈ s.chip.sentParcel? n.val q.val, p.due = false ∧ (s.chip.flp n.val).replayN ≤ p.replays ∧
      (s.chip.flp n.val).f1 = true)) ∧
    (∃ (n : Fin 96) (b : BlockRest) (q : Fin 65536) (s : State), s.chip.coreUp = true ∧ s.chip.hears n.val b 4
      (b.spare % 8 * 2 ^ 16 + q.val) ∧ s.chip.lstate n.val = flUpState ∧ (s.chip.flp n.val).receiving = none ∧
      (s.chip.flp n.val).f1 = false ∧ (s.chip.sentParcel? n.val q.val).isSome = true) ∧
    (∃ (n : Fin 96) (b : BlockRest) (q : Fin 65536) (s : State), s.chip.coreUp = true ∧ s.chip.hears n.val b 4
      (b.spare % 8 * 2 ^ 16 + q.val) ∧ s.chip.lstate n.val = flUpState ∧ (s.chip.flp n.val).receiving = none ∧
      ((s.chip.flp n.val).f1 = true ∨ s.chip.sentParcel? n.val q.val = none)) ∧
    (∃ (n : Fin 96) (b : BlockRest) (k : Fin 8) (m : Fin 65536) (s : State), s.chip.coreUp = true ∧ s.chip.hears n.val
      b 5 (k.val * 2 ^ 16 + m.val) ∧ (s.chip.lstate n.val = flUpState ∨ s.chip.inInit n.val = true) ∧ (s.chip.flp
      n.val).receiving = none ∧ seqD m.val (Table.get 0 (s.chip.flp n.val).released k.val) < 32768 ∧ seqD m.val
      (Table.get 0 (s.chip.flp n.val).consumed k.val) ≤ 512) ∧
    (∃ (n : Fin 96) (b : BlockRest) (s : State), s.chip.coreUp = true ∧ s.chip.hears n.val b 8 (b.spare % 2 ^ 18 * 2)
      ∧ s.chip.lstate n.val = flUpState ∧ (s.chip.flp n.val).receiving = none ∧ (s.chip.flp n.val).f1 = false ∧
      (s.chip.flp n.val).replay = [] ∧ s.chip.flTraffic n.val = false) ∧
    (∃ (n : Fin 96) (b : BlockRest) (s : State), s.chip.coreUp = true ∧ s.chip.hears n.val b 8 (b.spare % 2 ^ 18 * 2 +
      1) ∧ s.chip.lstate n.val = flUpState ∧ (s.chip.flp n.val).receiving = none ∧ (s.chip.flp n.val).f1 = false ∧
      (s.chip.flp n.val).lpiSent = true ∧ s.chip.flTraffic n.val = false) ∧
    (∃ (n : Fin 96) (b : BlockRest) (s : State), s.chip.coreUp = true ∧ s.chip.hears n.val b 9 (b.spare % 2 ^ 19) ∧
      (s.chip.lstate n.val = flUpState ∨ s.chip.lstate n.val = flRetrain)) :=
  ⟨
    ⟨95, {check := 0xFF}, 65535, 4, 5, 6, 7, true, fl 4, (false, .ackReceive 95 {check := 0xFF} 65535),
      by decide +kernel⟩,
    ⟨95, {check := 0xFF}, 3, 4, 5, fl 4, by decide +kernel⟩,
    ⟨95, blk 2 4, 4, fl 4 tx3 nx6, by decide +kernel⟩,
    ⟨95, blk 2 7, 7, fl 4 tx3 nx6, by decide +kernel⟩,
    ⟨95, blk 3 (6 * 65536 + 7), 7, 6, fl 4, by decide +kernel⟩,
    ⟨95, blk 3 (2 * 65536 + 8), 8, fl 4 {replay := [{seq := 3, cls := 0}]} nx6, by decide +kernel⟩,
    ⟨95, blk 3 (65536 + 3), 3, 1, fl 4 {tx2 with cfg := cfg1} nx6, by decide +kernel⟩,
    ⟨95, blk 3 (65536 + 3), 3, 1, fl 4 {cfg := 0x40000000, replay := [{seq := 3, cls := 0, replays := 7}]} nx6,
      by decide +kernel⟩,
    ⟨95, blk 4 3, 3, fl 4 {tx2 with cfg := cfg1} nx6, by decide +kernel⟩,
    ⟨95, blk 4 9, 9, fl 4 {tx2 with cfg := cfg1} nx6, by decide +kernel⟩,
    ⟨95, blk 5 (7 * 65536 + 9), 7, 9, fl 4, by decide +kernel⟩,
    ⟨95, blk 8 0, fl 4, by decide +kernel⟩,
    ⟨95, blk 8 1, fl 4 {lpiSent := true}, by decide +kernel⟩,
    ⟨95, blk 9 0, fl 4, by decide +kernel⟩⟩

end Group2

namespace Group3

def cfg1 : Word := word (7 * 2^23 + 7 * 2^20 + 4 * 2^16)

def cfgF1 : Word := word (2^30 + 7 * 2^23 + 7 * 2^20 + 4 * 2^16)

def hd9 : RxHead := {seq := 9, cls := 1, keep := true}

def rx9 : FlH := {receiving := some hd9, slots := [{seq := 9, cls := 1}]}

def cm9 : List FieldVal := [F.PRT_FL_SEQ.RX_COMMIT.is 9 95]

def crc9 : Word := word (parcelCrc 1 9 [])

def pl : Parcel := {seq := 65535, cls := 1, good := true, looked := true}

def pt : Parcel := {seq := 3, cls := 1, timer := true}

def pt7 : Parcel := {seq := 3, cls := 1, timer := true, replays := 7}

def lk : List FieldVal := [F.PRT_FL_STATUS.LANE_LOCK.is 1 95]

def sR := fl 4 {cfg := cfg1}

def sR0 := fl 4

def sR6 := fl 6

theorem witness_FlerenParcels :
    (∃ (n : Fin 96) (s : State), s.chip.coreUp = true ∧ s.chip.isFleren n.val = true ∧ (s.chip.inHunt n.val = true ∨
      s.chip.inAlign n.val = true) ∧ (s.chip.flp n.val).pos + 1 < 16383 * s.chip.flWidth n.val) ∧
    (∃ (n : Fin 96) (s : State), s.chip.coreUp = true ∧ s.chip.isFleren n.val = true ∧ (s.chip.inHunt n.val = true ∨
      s.chip.inAlign n.val = true) ∧ (s.chip.flp n.val).pos + 1 = 16383 * s.chip.flWidth n.val) ∧
    (∃ (n : Fin 96) (s : State), s.chip.coreUp = true ∧ s.chip.isFleren n.val = true ∧ s.chip.inInit n.val = true ∧
      (s.chip.flp n.val).initNext < 8 ∧ (s.chip.flp n.val).initSent < 15 ∧ (s.chip.flp n.val).pos + 1 < 16383 *
      s.chip.flWidth n.val) ∧
    (∃ (n : Fin 96) (s : State) (b : CtlBlock), s.chip.coreUp = true ∧ s.chip.isFleren n.val = true ∧ s.chip.lstate
      n.val = flUpState ∧ (s.chip.flp n.val).pos + 1 < 16383 * s.chip.flWidth n.val ∧ (s.chip.flp n.val).firstDue? =
      some b ∧ b ≠ CtlBlock.lpi true) ∧
    (∃ (n : Fin 96) (s : State) (p : Parcel), s.chip.coreUp = true ∧ s.chip.isFleren n.val = true ∧ s.chip.lstate
      n.val = flUpState ∧ (s.chip.flp n.val).firstDue? = none ∧ (s.chip.flp n.val).lpiIdle = none ∧ (s.chip.flp
      n.val).pos + 33 < 16383 * s.chip.flWidth n.val ∧ (List.find? (fun q => q.due) (s.chip.flp n.val).replay = some
      p)) ∧
    (∃ (n : Fin 96) (b : BlockRest) (k : Fin 8) (q : Fin 65536) (s : State), s.chip.coreUp = true ∧ s.chip.hears n.val
      b 1 (k.val * 2 ^ 16 + q.val) ∧ s.chip.lstate n.val = flUpState ∧ (s.chip.flp n.val).receiving = none ∧ seqD
      q.val (s.chip.rxCommit n.val) < (s.chip.flp n.val).window ∧ s.chip.slot? n.val q.val = none ∧ s.chip.slotsUsed
      n.val k.val < (s.chip.flp n.val).cred k.val) ∧
    (∃ (n : Fin 96) (b : BlockRest) (k : Fin 8) (q : Fin 65536) (s : State), s.chip.coreUp = true ∧ s.chip.hears n.val
      b 1 (k.val * 2 ^ 16 + q.val) ∧ s.chip.lstate n.val = flUpState ∧ (s.chip.flp n.val).receiving = none ∧ seqD
      q.val (s.chip.rxCommit n.val) < (s.chip.flp n.val).window ∧ s.chip.slot? n.val q.val = none ∧ (s.chip.flp
      n.val).cred k.val ≤ s.chip.slotsUsed n.val k.val) ∧
    (∃ (n : Fin 96) (b : ParcelBody) (crc : Word) (s : State) (r : RxHead) (p : Parcel), s.chip.coreUp = true ∧
      s.chip.isFleren n.val = true ∧ s.chip.lstate n.val = flUpState ∧ (s.chip.flp n.val).receiving = some r ∧
      BitVec.toNat crc = parcelCrc r.cls r.seq b.words ∧ r.keep = true ∧ s.chip.slot? n.val r.seq = some p ∧ p.good =
      false ∧ s.chip.beyondGap n.val r.seq = false) ∧
    (∃ (n : Fin 96) (b : ParcelBody) (crc : Word) (readable : Bool) (uncorr : Nat) (s : State) (r : RxHead),
      s.chip.coreUp = true ∧ s.chip.isFleren n.val = true ∧ s.chip.lstate n.val = flUpState ∧ (s.chip.flp
      n.val).receiving = some r ∧ (readable = false ∨ BitVec.toNat crc ≠ parcelCrc r.cls r.seq b.words ∨ (s.chip.flp
      n.val).light = true ∧ 0 < uncorr) ∧ (∀ p ∈ (s.chip.flp n.val).slots, ∀ k ∈ s.chip.cel.copies, s.chip.failing
      n.val p k = false)) ∧
    (∃ (n : Fin 96) (s : State) (p : Parcel), s.chip.coreUp = true ∧ s.chip.nextCommit? n.val = some p ∧ p.looked =
      true ∧ s.chip.opens n.val p.cell = false ∧ s.chip.lstate n.val = flUpState ∧ s.chip.isFleren n.val = true ∧
      s.chip.acd.engs = [] ∧ s.chip.cel = { } ∧ s.chip.lbx = { } ∧ (s.chip.flp n.val).unacked + 1 < (s.chip.flp
      n.val).ackEvery) ∧
    (∃ (n : Fin 96) (s : State), s.chip.coreUp = true ∧ s.chip.lstate n.val = flUpState ∧ (s.chip.flp n.val).unacked ≠
      0) ∧
    (∃ (n : Fin 96) (q : Fin 65536) (s : State) (p : Parcel), s.chip.coreUp = true ∧ s.chip.lstate n.val = flUpState ∧
      s.chip.sentParcel? n.val q.val = some p ∧ p.timer = true ∧ p.due = false ∧ p.replays < (s.chip.flp
      n.val).replayN) ∧
    (∃ (n : Fin 96) (q : Fin 65536) (s : State) (p : Parcel), s.chip.coreUp = true ∧ s.chip.isFleren n.val = true ∧
      s.chip.lstate n.val = flUpState ∧ s.chip.sentParcel? n.val q.val = some p ∧ p.timer = true ∧ p.due = false ∧
      (s.chip.flp n.val).replayN ≤ p.replays ∧ (s.chip.flp n.val).f1 = true) :=
  ⟨
    ⟨95, fl 1, by decide +kernel⟩,
    ⟨95, fl 2 {pos := 32765, mcount := 4095} [F.PRT_PORT_CFG.WIDTH.is 1 95], by decide +kernel⟩,
    ⟨95, fl 3, by decide +kernel⟩,
    ⟨95, fl 4 {due := [.credit 3 4, .nak 3 4, .ack 7]}, .nak 3 4, by decide +kernel⟩,
    ⟨95, fl 4 {replay := [{seq := 3, cls := 1}, {seq := 4, cls := 1, due := true, counts := true}]},
      {seq := 4, cls := 1, due := true, counts := true}, by decide +kernel⟩,
    ⟨95, blk 1 (7 * 65536 + 255), 7, 255, fl 4 {credB := 0xFFFFFFFF}, by decide +kernel⟩,
    ⟨95, blk 1 (7 * 65536 + 255), 7, 255, fl 4, by decide +kernel⟩,
    ⟨95, {}, crc9, fl 4 rx9 cm9, hd9, {seq := 9, cls := 1}, by decide +kernel⟩,
    ⟨95, {}, crc9, true, 4, fl 4 {rx9 with cfg := 0x10000000} cm9, hd9, by decide +kernel⟩,
    ⟨95, fl 4 {cfg := cfg1, slots := [pl]} [F.PRT_FL_SEQ.RX_COMMIT.is 65535 95], pl, by decide +kernel⟩,
    ⟨95, fl 4 {unacked := 3} [F.PRT_FL_SEQ.RX_COMMIT.is 0 95], by decide +kernel⟩,
    ⟨95, 3, fl 4 {cfg := cfg1, replay := [pt]}, pt, by decide +kernel⟩,
    ⟨95, 3, fl 4 {cfg := cfgF1, replay := [pt7]}, pt7, by decide +kernel⟩⟩

theorem witness_FlerenBringUp :
    (∃ (n : Fin 96) (i : Fin 16) (v : Fin 4) (s : State), s.chip.coreUp = true ∧ s.chip.hunts n.val i.val = true ∧ bit
      (s.chip.fld F.PRT_FL_STATUS.LANE_LOCK n.val) i.val = false ∧ (v = 1 ∨ v = 2) ∧ (Table.get default (s.chip.flp
      n.val).hunt i.val).good < 63) ∧
    (∃ (n : Fin 96) (i : Fin 16) (v : Fin 4) (s : State), s.chip.coreUp = true ∧ s.chip.hunts n.val i.val = true ∧ bit
      (s.chip.fld F.PRT_FL_STATUS.LANE_LOCK n.val) i.val = false ∧ v ≠ 1 ∧ v ≠ 2) ∧
    (∃ (n : Fin 96) (i : Fin 16) (vs : List (Fin 4)) (s : State), s.chip.coreUp = true ∧ s.chip.hunts n.val i.val =
      true ∧ bit (s.chip.fld F.PRT_FL_STATUS.LANE_LOCK n.val) i.val = false ∧ vs.length = 64 ∧ (∀ v ∈ vs, v = 1 ∨ v =
      2) ∧ s.chip.lstate n.val = flHunt) ∧
    (∃ (n : Fin 96) (i : Fin 16) (s : State), s.chip.coreUp = true ∧ s.chip.hunts n.val i.val = true ∧ bit (s.chip.fld
      F.PRT_FL_STATUS.LANE_LOCK n.val) i.val = true ∧ (Table.get default (s.chip.flp n.val).hunt i.val).seen < 63) ∧
    (∃ (n : Fin 96) (i : Fin 16) (v : Fin 4) (s : State), s.chip.coreUp = true ∧ s.chip.hunts n.val i.val = true ∧ bit
      (s.chip.fld F.PRT_FL_STATUS.LANE_LOCK n.val) i.val = true ∧ 63 ≤ (Table.get default (s.chip.flp n.val).hunt
      i.val).seen ∧ (Table.get default (s.chip.flp n.val).hunt i.val).bad + b2n (v != 1 && v != 2) < 16) ∧
    (∃ (n : Fin 96) (i : Fin 16) (v : Fin 4) (s : State), s.chip.coreUp = true ∧ s.chip.hunts n.val i.val = true ∧ bit
      (s.chip.fld F.PRT_FL_STATUS.LANE_LOCK n.val) i.val = true ∧ 63 ≤ (Table.get default (s.chip.flp n.val).hunt
      i.val).seen ∧ 16 ≤ (Table.get default (s.chip.flp n.val).hunt i.val).bad + b2n (v != 1 && v != 2) ∧
      s.chip.lstate n.val = flUpState ∧ (s.chip.flp n.val).f1 = true) ∧
    (∃ (n : Fin 96) (i : Fin 16) (v : Fin 4) (s : State), s.chip.coreUp = true ∧ s.chip.hunts n.val i.val = true ∧ bit
      (s.chip.fld F.PRT_FL_STATUS.LANE_LOCK n.val) i.val = true ∧ 63 ≤ (Table.get default (s.chip.flp n.val).hunt
      i.val).seen ∧ 16 ≤ (Table.get default (s.chip.flp n.val).hunt i.val).bad + b2n (v != 1 && v != 2) ∧
      (s.chip.lstate n.val = flAlign ∨ s.chip.lstate n.val = flInit)) ∧
    (∃ (n : Fin 96) (lane : Fin 16) (b : BlockRest) (no : Fin 16) (width : Fin 8) (mc : Fin 4096) (s : State),
      s.chip.coreUp = true ∧ s.chip.hears n.val b 6 (no.val * 2 ^ 15 + width.val * 2 ^ 12 + mc.val) ∧ s.chip.lstate
      n.val = flAlign ∧ lane.val < s.chip.flWidth n.val ∧ width.val ≠ s.chip.fld F.PRT_PORT_CFG.WIDTH n.val) ∧
    (∃ (n : Fin 96) (b : BlockRest) (mc : Fin 4096) (skew : Nat) (s : State), s.chip.coreUp = true ∧ s.chip.hears
      n.val b 6 mc.val ∧ s.chip.lstate n.val = flAlign ∧ s.chip.fld F.PRT_PORT_CFG.WIDTH n.val = 0 ∧ (s.chip.flp
      n.val).marks = [(0, { lane := 0, mcount := (mc.val + 4095) % 4096, run := 1 })] ∧ skew ≤ 64) ∧
    (∃ (n : Fin 96) (b : BlockRest) (mc : Fin 4096) (skew : Nat) (s : State), s.chip.coreUp = true ∧ s.chip.hears
      n.val b 6 mc.val ∧ s.chip.lstate n.val = flAlign ∧ s.chip.fld F.PRT_PORT_CFG.WIDTH n.val = 0 ∧ (s.chip.flp
      n.val).marks = [(0, { lane := 0, mcount := (mc.val + 4095) % 4096, run := 1 })] ∧ 64 < skew) ∧
    (∃ (n : Fin 96) (b : BlockRest) (v : Fin 65536) (s : State), s.chip.coreUp = true ∧ s.chip.hears n.val b 7 v.val ∧
      s.chip.lstate n.val = flInit ∧ (s.chip.flp n.val).receiving = none ∧ s.chip.initMatches n.val v.val = false) ∧
    (∃ (n : Fin 96) (b : BlockRest) (v : Fin 65536) (s : State), s.chip.coreUp = true ∧ s.chip.hears n.val b 7 v.val ∧
      s.chip.lstate n.val = flInit ∧ (s.chip.flp n.val).receiving = none ∧ s.chip.initMatches n.val v.val = true ∧
      (bit v.val 15 = true ∨ (s.chip.flp n.val).partnerSeen = true) ∧ 16 ≤ (s.chip.flp n.val).initSent) ∧
    (∃ (n : Fin 96) (s : State), s.chip.coreUp = true ∧ (s.chip.lstate n.val = flHunt ∨ s.chip.lstate n.val = flAlign
      ∨ s.chip.lstate n.val = flInit)) ∧
    (∃ (n : Fin 96) (s : State), s.chip.coreUp = true ∧ s.chip.isFleren n.val = true ∧ s.chip.lstate n.val = flDown ∧
      s.chip.portHeld n.val = false ∧ s.chip.cel = { } ∧ s.chip.tileEn (tileOf n.val) = true ∧ s.chip.safe = false ∧
      isForwarding s.chip.opMode = true) ∧
    (∃ (n : Fin 96) (s : State), s.chip.coreUp = true ∧ s.chip.isFleren n.val = true ∧ s.chip.lstate n.val = flUpState
      ∧ (s.chip.flp n.val).f1 = true ∧ s.chip.allLocked n.val = false) ∧
    (∃ (l : Fin 192) (ofs : Fin 1024) (s : State) (q : Nat × Nat), s.chip.coreUp = true ∧ s.chip.flLane? l.val = some
      q ∧ (signed 10 ofs.val).natAbs ≤ 300) ∧
    (∃ (l : Fin 192) (ofs : Fin 1024) (s : State) (q : Nat × Nat), s.chip.coreUp = true ∧ s.chip.flLane? l.val = some
      q ∧ 300 < (signed 10 ofs.val).natAbs ∧ s.chip.lstate q.1 = flHunt) :=
  ⟨
    ⟨95, 0, 1, fl 1, by decide +kernel⟩,
    ⟨95, 0, 3, fl 1, by decide +kernel⟩,
    ⟨95, 0, List.replicate 64 1, fl 1, by decide +kernel⟩,
    ⟨95, 0, fl 4 {} lk, by decide +kernel⟩,
    ⟨95, 0, 2, fl 4 {hunt := [(0, {seen := 63, bad := 15})]} lk, by decide +kernel⟩,
    ⟨95, 0, 0, fl 4 {cfg := cfgF1, hunt := [(0, {seen := 63, bad := 15})]} lk, by decide +kernel⟩,
    ⟨95, 0, 0, fl 2 {hunt := [(0, {seen := 63, bad := 15})]} lk, by decide +kernel⟩,
    ⟨95, 0, blk 6 (7 * 4096 + 9), 0, 7, 9, fl 2, by decide +kernel⟩,
    ⟨95, blk 6 0, 0, 64, fl 2 {marks := [(0, {lane := 0, mcount := 4095, run := 1})]} [F.PRT_PORT_CFG.WIDTH.is 0 95],
      by decide +kernel⟩,
    ⟨95, blk 6 0, 0, 65, fl 2 {marks := [(0, {lane := 0, mcount := 4095, run := 1})]} [F.PRT_PORT_CFG.WIDTH.is 0 95],
      by decide +kernel⟩,
    ⟨95, blk 7 0, 0, fl 3, by decide +kernel⟩,
    ⟨95, blk 7 0xA200, 0xA200, fl 3 {initSent := 16}, by decide +kernel⟩,
    ⟨95, fl 1 {cfg := cfg1, replay := [{seq := 3, cls := 1}]}, by decide +kernel⟩,
    ⟨95, fl 7 {cfg := cfg1} [F.GLB_MODE.MODE.is 4, F.GLB_TILE_EN.TILE_EN.is 0xFFF], by decide +kernel⟩,
    ⟨95, fl 4 {cfg := cfgF1}, by decide +kernel⟩,
    ⟨191, 300, fl 4 {} [F.PRT_PORT_CFG.LANE_BASE.is 15 95], (95,0), by decide +kernel⟩,
    ⟨191, 512, fl 1 {} [F.PRT_PORT_CFG.LANE_BASE.is 15 95, F.PRT_FL_STATUS.LANE_LOCK.is 1 95], (95,0),
      by decide +kernel⟩⟩

theorem witness_FlerenRetrainAndLowPower :
    (∃ (n : Fin 96) (s : State), s.chip.coreUp = true ∧ s.chip.lstate n.val = flUpState) ∧
    (∃ (a : Access) (n : Fin 96) (v : Word) (s : State) (c : Chip), s.passes a { reg := Reg.PRT_FL_CTL, i := n.val } v
      c ∧ wbit v 0 = true ∧ wbit v 1 = false ∧ c.lstate n.val = flUpState ∧ (c.flp n.val).f1 = false ∧ min (c.fld
      F.PRT_FL_STATUS.RT_COUNT n.val + 1) 8 ≤ (c.flp n.val).retrainM) ∧
    (∃ (a : Access) (n : Fin 96) (v : Word) (s : State) (c : Chip), s.passes a { reg := Reg.PRT_FL_CTL, i := n.val } v
      c ∧ wbit v 0 = true ∧ wbit v 1 = false ∧ c.isFleren n.val = true ∧ c.lstate n.val = flUpState ∧ (c.flp n.val).f1
      = false ∧ (c.flp n.val).retrainM < min (c.fld F.PRT_FL_STATUS.RT_COUNT n.val + 1) 8) ∧
    (∃ (a : Access) (n : Fin 96) (v : Word) (s : State) (c : Chip), s.passes a { reg := Reg.PRT_FL_CTL, i := n.val } v
      c ∧ wbit v 1 = true ∧ c.isFleren n.val = true ∧ 4 ≤ c.lstate n.val ∧ c.lstate n.val ≤ 6) ∧
    (∃ (n : Fin 96) (s : State), s.chip.coreUp = true ∧ s.chip.lstate n.val = flRetrain ∧ min (s.chip.fld
      F.PRT_FL_STATUS.RT_COUNT n.val + 1) 8 ≤ (s.chip.flp n.val).retrainM) ∧
    (∃ (n : Fin 96) (s : State), s.chip.coreUp = true ∧ s.chip.isFleren n.val = true ∧ s.chip.lstate n.val = flRetrain
      ∧ (s.chip.flp n.val).retrainM < min (s.chip.fld F.PRT_FL_STATUS.RT_COUNT n.val + 1) 8) ∧
    (∃ (n : Fin 96) (s : State), s.chip.coreUp = true ∧ s.chip.lstate n.val = flUpState ∧ (s.chip.flp n.val).lpIdle ≠
      0 ∧ (s.chip.flp n.val).replay = [] ∧ (s.chip.flp n.val).due = [] ∧ (s.chip.flp n.val).lpiIdle = none) ∧
    (∃ (n : Fin 96) (s : State), s.chip.coreUp = true ∧ s.chip.lstate n.val = flLp ∧ s.chip.flTraffic n.val = true ∧
      (s.chip.flp n.val).waking = false) ∧
    (∃ (n : Fin 96) (s : State), s.chip.coreUp = true ∧ s.chip.lstate n.val = flLp ∧ (s.chip.flp n.val).waking = true
      ∧ (∀ l ∈ s.chip.portLanes n.val, s.chip.laneState l ≠ lnDeep ∧ s.chip.laneState l ≠ lnOff ∨ s.chip.flag
      F.SDS_REF_STATUS.REF_OK (laneTile l) = true)) :=
  ⟨
    ⟨95, fl 4 {} [F.PRT_FL_STATUS.RT_COUNT.is 7 95], by decide +kernel⟩,
    ⟨fw, 95, 1, sR, pc sR fw ⟨.PRT_FL_CTL, 95, 0⟩ 1, by decide +kernel⟩,
    ⟨fw, 95, 1, sR0, pc sR0 fw ⟨.PRT_FL_CTL, 95, 0⟩ 1, by decide +kernel⟩,
    ⟨fw, 95, 3, sR6, pc sR6 fw ⟨.PRT_FL_CTL, 95, 0⟩ 3, by decide +kernel⟩,
    ⟨95, fl 5 {cfg := cfg1}, by decide +kernel⟩,
    ⟨95, fl 5, by decide +kernel⟩,
    ⟨95, fl 4 {timer := 63}, by decide +kernel⟩,
    ⟨95, fl 6 {tx := [{cls := 0, pkt := {}, rem := 4}]}, by decide +kernel⟩,
    ⟨95, fl 6 {waking := true} ((List.range 12).map fun t => F.SDS_REF_STATUS.REF_OK.is 1 t), by decide +kernel⟩⟩

end Group3

namespace Group4

def sL0p (a b : Nat) := up 0 [F.PRT_LINK_STATUS.FLIT.is 1 95, F.PRT_PORT_CFG2.L0P_EN.is 1 95,
    F.PRT_LINK_STATUS.NEG_WIDTH.is 1 95, F.PRT_PORT_CFG.LANE_BASE.is 14 95, F.SDS_LN_STATUS.STATE.is a 190,
    F.SDS_LN_STATUS.STATE.is b 191]

def shared := up 0 [F.GLB_MODE.MODE.is 3, F.GLB_FLC_A.STATE.is 1 4095, F.GLB_FLC_A.OWNER.is 31 4095,
    F.GLB_FLC_A.TARGET.is 95 4095]

theorem witness_LinkTraining :
    (∃ (n : Fin 96) (width : Fin 5) (rate : Fin 7) (s : State), s.chip.coreUp = true ∧ s.chip.trains n.val = true ∧
      s.chip.fld F.PRT_LINK_STATUS.DL_ACTIVE n.val = 0 ∧ width.val ≤ s.chip.fld F.PRT_PORT_CFG.WIDTH n.val ∧ rate.val
      ≤ s.chip.fld F.PRT_PORT_CFG.MAX_RATE n.val) ∧
    (∃ (n : Fin 96) (width : Fin 5) (rate : Fin 7) (s : State), s.chip.coreUp = true ∧ s.chip.trains n.val = true ∧
      s.chip.fld F.PRT_LINK_STATUS.DL_ACTIVE n.val = 1 ∧ width.val ≤ s.chip.fld F.PRT_PORT_CFG.WIDTH n.val ∧ rate.val
      ≤ s.chip.fld F.PRT_PORT_CFG.MAX_RATE n.val) ∧
    (∃ (n : Fin 96) (s : State), s.chip.coreUp = true ∧ s.chip.isPcie n.val = true ∧ s.chip.fld
      F.PRT_LINK_STATUS.DL_ACTIVE n.val = 0) ∧
    (∃ (n : Fin 96) (s : State), s.chip.coreUp = true ∧ s.chip.isPcie n.val = true ∧ s.chip.role n.val ≠ 1 ∧
      s.chip.fld F.PRT_LINK_STATUS.DL_ACTIVE n.val = 1 ∧ s.chip.safe = false ∧ s.chip.heldInReset n.val = false ∧
      s.chip.inDpc n.val = false) ∧
    (∃ (n : Fin 96) (s : State), s.chip.coreUp = true ∧ s.chip.isPcie n.val = true ∧ s.chip.role n.val = 1 ∧
      s.chip.fld F.PRT_LINK_STATUS.DL_ACTIVE n.val = 1 ∧ s.chip.safe = false ∧ (s.chip.part (s.chip.portPart
      n.val)).inReset = false) ∧
    (∃ (n : Fin 96) (s : State), s.chip.coreUp = true ∧ s.chip.isFleren n.val = true ∧ 4 ≤ s.chip.lstate n.val ∧
      s.chip.lstate n.val ≤ 6) ∧
    (∃ (n : Fin 96) (s : State), s.chip.linkUp n.val = false) ∧
    (∃ (n : Fin 96) (s : State), s.chip.coreUp = true ∧ s.chip.isPcie n.val = true ∧ s.chip.role n.val ≠ 1) ∧
    (∃ (n : Fin 96) (sub : Fin 3) (s : State), s.chip.coreUp = true ∧ s.chip.fld F.PRT_LINK_STATUS.DL_ACTIVE n.val = 1
      ∧ s.chip.fld F.PRT_LINK_STATUS.PM_STATE n.val = 0 ∧ (sub = 0 ∨ s.chip.fld F.PRT_PORT_CFG2.L1SS_EN n.val = 1)) ∧
    (∃ (n : Fin 96) (s : State), s.chip.coreUp = true ∧ s.chip.isPcie n.val = true ∧ s.chip.fld
      F.PRT_LINK_STATUS.DL_ACTIVE n.val = 1) ∧
    (∃ (n : Fin 96) (s : State), s.chip.coreUp = true ∧ s.chip.fld F.PRT_LINK_STATUS.DL_ACTIVE n.val = 1 ∧ 2 ≤
      s.chip.fld F.PRT_LINK_STATUS.PM_STATE n.val ∧ s.chip.fld F.PRT_LINK_STATUS.PM_STATE n.val ≤ 4 ∧ (∀ l ∈
      s.chip.linkLanes n.val, s.chip.laneState l ≠ lnDeep ∨ s.chip.flag F.SDS_REF_STATUS.REF_OK (laneTile l) = true)) ∧
    (∃ (n : Fin 96) (s : State), s.chip.coreUp = true ∧ s.chip.fld F.PRT_LINK_STATUS.DL_ACTIVE n.val = 1 ∧ s.chip.fld
      F.PRT_LINK_STATUS.LTSSM n.val = 5 ∧ s.chip.fld F.PRT_LINK_STATUS.PM_STATE n.val < 2 ∧ (s.chip.linkLanes
      n.val).any s.chip.exitFailed = false) ∧
    (∃ (n : Fin 96) (width : Fin 5) (s : State), s.chip.coreUp = true ∧ s.chip.fld F.PRT_LINK_STATUS.DL_ACTIVE n.val =
      1 ∧ s.chip.fld F.PRT_LINK_STATUS.FLIT n.val = 1 ∧ (s.chip.fld F.PRT_PORT_CFG2.L0P_EN n.val = 1 ∨ (if s.chip.fld
      F.PRT_LINK_STATUS.L0P_WIDTH n.val = 7 then s.chip.fld F.PRT_LINK_STATUS.NEG_WIDTH n.val else s.chip.fld
      F.PRT_LINK_STATUS.L0P_WIDTH n.val) ≤ width.val) ∧ s.chip.fld F.PRT_LINK_STATUS.PM_STATE n.val ≤ 1 ∧ width.val ≤
      s.chip.fld F.PRT_LINK_STATUS.NEG_WIDTH n.val) :=
  ⟨
    ⟨95, 4, 6, dn 0 [F.SDS_REF_STATUS.REF_OK.is 1 11], by decide +kernel⟩,
    ⟨95, 2, 6, up 0 [F.SDS_REF_STATUS.REF_OK.is 1 11], by decide +kernel⟩,
    ⟨95, dn 0, by decide +kernel⟩,
    ⟨95, up 0, by decide +kernel⟩,
    ⟨95, up 1, by decide +kernel⟩,
    ⟨95, fl 5, by decide +kernel⟩,
    ⟨95, dn 1, by decide +kernel⟩,
    ⟨95, up 2, by decide +kernel⟩,
    ⟨95, 2, up 0 [F.PRT_PORT_CFG2.L1SS_EN.is 1 95, F.PRT_PORT_CFG.LANE_BASE.is 15 95, F.SDS_LN_STATUS.STATE.is 1 191,
      F.SDS_LN_PWR.DEEP_EN.is 1 191, F.PRT_LINK_STATUS.L0P_WIDTH.is 7 95], by decide +kernel⟩,
    ⟨95, up 0, by decide +kernel⟩,
    ⟨95, up 0 [F.PRT_LINK_STATUS.PM_STATE.is 4 95, F.PRT_PORT_CFG.LANE_BASE.is 15 95, F.SDS_LN_STATUS.STATE.is 3 191,
      F.SDS_REF_STATUS.REF_OK.is 1 11], by decide +kernel⟩,
    ⟨95, up 0 [F.PRT_LINK_STATUS.LTSSM.is 5 95], by decide +kernel⟩,
    ⟨95, 0, sL0p 1 1, by decide +kernel⟩⟩

theorem witness_LinkResets :
    (∃ (s : State), s.chip.coreUp = true ∧ s.chip.perstWaits = false) ∧
    (∃ (s : State), s.chip.coreUp = false ∧ s.chip.perstWaits = false) ∧
    (∃ (s : State), s.chip.perstWaits = true) ∧
    (∃ (p : Fin 32) (s : State), s.chip.coreUp = true ∧ s.chip.perstWaits = false ∧ (s.chip.part p.val).perst = true) ∧
    (∃ (p : Fin 32) (s : State), s.chip.coreUp = true ∧ (s.chip.part p.val).perst = false) ∧
    (∃ (p : Fin 32) (s : State), s.chip.coreUp = true ∧ (s.chip.part p.val).hot = true) ∧
    (∃ (n : Fin 96) (root : Bool) (s : State), s.chip.coreUp = true ∧ s.chip.isPcie n.val = true ∧ s.chip.role n.val =
      0 ∧ s.chip.cfgBit (Fn.port n.val) 60 22 = false ∧ (s.chip.sharedPort n.val = false ∨ root = true)) ∧
    (∃ (n : Fin 96) (s : State), s.chip.coreUp = true ∧ s.chip.isPcie n.val = true ∧ s.chip.role n.val = 0 ∧
      s.chip.cfgBit (Fn.port n.val) 60 22 = false ∧ s.chip.sharedPort n.val = true) ∧
    (∃ (n : Fin 96) (s : State), s.chip.coreUp = true ∧ s.chip.isPcie n.val = true ∧ s.chip.role n.val = 1 ∧
      s.chip.cfgBit (Fn.port n.val) 60 22 = false) ∧
    (∃ (n : Fin 96) (s : State), s.chip.coreUp = true ∧ s.chip.isPcie n.val = true ∧ s.chip.role n.val = 1 ∧
      s.chip.cfgBit (Fn.port n.val) 60 22 = true) ∧
    (∃ (n : Fin 96) (s : State), s.chip.coreUp = true ∧ s.chip.isPcie n.val = true ∧ s.chip.role n.val ≠ 1 ∧
      s.chip.cfgBit (Fn.port n.val) 60 22 = true) ∧
    (∃ (n : Fin 96) (s : State), s.chip.coreUp = true ∧ (s.chip.port n.val).hotSent = true ∧ (s.chip.port n.val).hotUp
      = false ∧ (s.chip.port n.val).hotOwn = false) ∧
    (∃ (n : Fin 96) (s : State), s.chip.coreUp = true ∧ s.chip.isPcie n.val = true ∧ s.chip.role n.val ≠ 1 ∧
      s.chip.cfgBit (Fn.port n.val) 128 4 = false ∧ s.chip.fld F.PRT_LINK_STATUS.DL_ACTIVE n.val = 1) ∧
    (∃ (n : Fin 96) (s : State), s.chip.coreUp = true ∧ s.chip.isPcie n.val = true ∧ s.chip.role n.val ≠ 1 ∧
      s.chip.cfgBit (Fn.port n.val) 128 4 = true) ∧
    (∃ (s : State), s.chip.coreUp = true) ∧
    (∃ (t : Fin 12) (s : State), s.chip.coreUp = true ∧ bit (s.chip.fld F.GLB_TILE_EN.TILE_EN) t.val = true ∧
      s.chip.fld F.SDS_REF_STATUS.REF_OK t.val = 1) :=
  ⟨
    ⟨up 1, by decide +kernel⟩,
    ⟨mk [] fun c => {c with pwr := {c.pwr with coreOn := false}}, by decide +kernel⟩,
    ⟨mk [F.PWR_STATUS.STATE.is 1], by decide +kernel⟩,
    ⟨0, dn 1 [] fun c => c.updPart 0 fun h => {h with perst := true, inReset := true}, by decide +kernel⟩,
    ⟨0, dn 1 [] fun c => c.updPart 0 fun h => {h with rrs := true, inReset := true}, by decide +kernel⟩,
    ⟨0, dn 0 [] fun c => (c.updPart 0 fun h => {h with hot := true}).updPort 95 fun h => {h with hotUp := true},
      by decide +kernel⟩,
    ⟨95, false, up 0, by decide +kernel⟩,
    ⟨95, shared, by decide +kernel⟩,
    ⟨95, up 1, by decide +kernel⟩,
    ⟨95, up 1 [F.PRT_PORT_CFG.EN.is 1 94] fun c => (c.putCfgBit (.port 95) 0x3C 22 true).updPort 94 fun h =>
      {h with hotUp := true, hotSent := true}, by decide +kernel⟩,
    ⟨95, dn 0 [] fun c => (c.putCfgBit (.port 95) 0x3C 22 true).updPort 95 fun h => {h with hotOwn := true},
      by decide +kernel⟩,
    ⟨95, dn 0 [] fun c => c.updPort 95 fun h => {h with hotSent := true, hotByOwn := true}, by decide +kernel⟩,
    ⟨95, up 0, by decide +kernel⟩,
    ⟨95, dn 0 [] fun c => c.putCfgBit (.port 95) 0x80 4 true, by decide +kernel⟩,
    ⟨up 1, by decide +kernel⟩,
    ⟨11, up 0 [F.SDS_REF_STATUS.REF_OK.is 1 11], by decide +kernel⟩⟩

theorem witness_SlotControl :
    (∃ (n : Fin 96) (v : Fin 4) (s : State), s.chip.coreUp = true ∧ (s.chip.port n.val).ccOwed = false ∧ (s.chip.port
      n.val).slotPending = [] ∧ s.chip.slotChan? n.val ≠ none ∧ v.val ≠ bits (s.chip.cfgAt (Fn.port n.val) 136) 7 6 ∧
      v ≠ 0) ∧
    (∃ (n : Fin 96) (v : Fin 4) (s : State), s.chip.coreUp = true ∧ (s.chip.port n.val).ccOwed = false ∧ (s.chip.port
      n.val).slotPending = [] ∧ s.chip.slotChan? n.val ≠ none ∧ v.val ≠ bits (s.chip.cfgAt (Fn.port n.val) 136) 9 8 ∧
      v ≠ 0) ∧
    (∃ (n : Fin 96) (s : State), s.chip.coreUp = true ∧ (s.chip.port n.val).ccOwed = false ∧ (s.chip.port
      n.val).slotPending = [] ∧ s.chip.slotChan? n.val ≠ none ∧ bits (s.chip.cfgAt (Fn.port n.val) 136) 7 6 ≠ 0 ∧ bits
      (s.chip.cfgAt (Fn.port n.val) 136) 9 8 ≠ 0) ∧
    (∃ (n : Fin 96) (s : State), s.chip.coreUp = true ∧ (s.chip.port n.val).ccOwed = true) ∧
    (∃ (n : Fin 96) (s : State) (ch : Nat), s.chip.coreUp = true ∧ (s.chip.port n.val).ccOwed = false ∧ (s.chip.port
      n.val).slotPending = [] ∧ s.chip.slotChan? n.val = some ch) ∧
    (∃ (n : Fin 96) (s : State) (ch : Nat), s.chip.coreUp = true ∧ (s.chip.port n.val).ccOwed = false ∧ (s.chip.port
      n.val).slotPending = [] ∧ s.chip.cfgBit (Fn.port n.val) 136 10 = true ∧ s.chip.slotChan? n.val = some ch ∧
      s.chip.fuState ch ≠ fuCooldown ∧ s.chip.fuState ch ≠ fuLatched) ∧
    (∃ (n : Fin 96) (s : State), s.chip.coreUp = true ∧ (s.chip.port n.val).ccOwed = true ∧ (s.chip.port
      n.val).slotPending = []) ∧
    (∃ (n : Fin 96) (s : State), s.chip.coreUp = true ∧ s.chip.slotChan? n.val ≠ none) ∧
    (∃ (n : Fin 96) (s : State) (ch : Nat), s.chip.coreUp = true ∧ s.chip.slotChan? n.val = some ch ∧ s.chip.fuState
      ch ≠ fuLatched) ∧
    (∃ (n : Fin 96) (s : State) (ch : Nat), s.chip.coreUp = true ∧ s.chip.slotChan? n.val = some ch ∧ s.chip.fuState
      ch = fuLatched ∧ s.chip.opMode ≠ 12) ∧
    (∃ (f : Fin 24) (s : State), s.chip.slotUp = true ∧ s.chip.fld F.FUS_CHAN_STATUS.PG f.val = 1) :=
  ⟨
    ⟨95, 2, slot, by decide +kernel⟩,
    ⟨95, 1, slot, by decide +kernel⟩,
    ⟨95, slot, by decide +kernel⟩,
    ⟨95, slot [] fun c => c.updPort 95 fun h => {h with ccOwed := true}, by decide +kernel⟩,
    ⟨95, slot [F.FUS_CHAN_STATUS.STATE.is fuOn 23] (fun c => c.putCfgBit (.port 95) 0x88 10 false), 23,
      by decide +kernel⟩,
    ⟨95, slot [F.FUS_CHAN_STATUS.STATE.is fuWaitReq 23, F.FUS_CHAN_STATUS.PRESENT.is 1 23], 23, by decide +kernel⟩,
    ⟨95, slot [] fun c => c.updPort 95 fun h => {h with ccOwed := true}, by decide +kernel⟩,
    ⟨95, slot, by decide +kernel⟩,
    ⟨95, slot, 23, by decide +kernel⟩,
    ⟨95, slot [F.FUS_CHAN_STATUS.STATE.is fuLatched 23], 23, by decide +kernel⟩,
    ⟨23, slot [F.FUS_CHAN_STATUS.PG.is 1 23, F.FUS_CHAN_STATUS.STATE.is fuOn 23], by decide +kernel⟩⟩

theorem witness_DpcAndBusMaster :
    (∃ (n : Fin 96) (s : State), s.chip.dpcEnable n.val = 1) ∧
    (∃ (n : Fin 96) (reason : Fin 3) (s : State), s.chip.coreUp = true ∧ s.chip.isPcie n.val = true ∧ s.chip.role
      n.val ≠ 1 ∧ s.chip.inDpc n.val = false ∧ (s.chip.dpcEnable n.val = 2 ∨ s.chip.dpcEnable n.val = 1 ∧ reason ≠ 1)
      ∧ (reason = 0 → s.chip.dpcError n.val = true)) ∧
    (∃ (n : Fin 96) (s : State), s.chip.coreUp = true ∧ s.chip.isPcie n.val = true ∧ s.chip.role n.val ≠ 1 ∧
      s.chip.inDpc n.val = false ∧ s.chip.dpcEnable n.val ≠ 0) ∧
    (∃ (n : Fin 96) (s : State), s.chip.dpcEnable n.val = 0) ∧
    (∃ (n : Fin 96) (s : State), s.chip.coreUp = true ∧ s.chip.inDpc n.val = true ∧ s.chip.owes n.val = false) ∧
    (∃ (n : Fin 96) (s : State), s.chip.coreUp = true ∧ s.chip.inDpc n.val = true ∧ s.chip.owes n.val = true) ∧
    (∃ (n : Fin 96) (s : State), s.chip.coreUp = true ∧ (s.chip.port n.val).dpcReleaseHeld = true ∧ s.chip.owes n.val
      = false) ∧
    (∃ (s : State), s.chip.coreUp = true) ∧
    (∃ (s : State), s.chip.coreUp = true ∧ s.chip.acd.emits = [] ∧ ((List.all s.chip.acd.engs fun e =>
      e.2.out.isEmpty) = true)) ∧
    (∃ (p : Fin 32) (s : State), s.chip.coreUp = true ∧ s.chip.bme (Fn.mgmt p.val) = true ∧ s.chip.partRefuses p.val =
      false) ∧
    (∃ (p : Fin 32) (s : State), s.chip.coreUp = true ∧ (s.chip.part p.val).stalled = [] ∧ ((List.all s.chip.acd.engs
      fun e => e.2.out.isEmpty) = true)) :=
  ⟨
    ⟨95, mk [] fun c => c.setCfg (.port 95) 0x3C4 (2^16), by decide +kernel⟩,
    ⟨95, 2, up 0 [] fun c => c.setCfg (.port 95) 0x3C4 (2^16), by decide +kernel⟩,
    ⟨95, up 0 [] fun c => c.setCfg (.port 95) 0x3C4 (2^16), by decide +kernel⟩,
    ⟨95, up 0 [] fun c => c.setCfg (.port 95) 0x3C4 0, by decide +kernel⟩,
    ⟨95, dn 0 [] fun c => c.putCfgBit (.port 95) 0x3C8 0 true, by decide +kernel⟩,
    ⟨95, dn 0 [] fun c =>
      {c.putCfgBit (.port 95) 0x3C8 0 true with cel := {c.cel with copies := [{id := 0, pid := 0, pkt := {}, src := .device, part := none, dest := .mgmt, stamp := 0, cells := 1, charge := .mgmt, synthFor := some 95}]}},
      by decide +kernel⟩,
    ⟨95, dn 0 [] fun c => (c.putCfgBit (.port 95) 0x3C8 0 true).updPort 95 fun h => {h with dpcReleaseHeld := true},
      by decide +kernel⟩,
    ⟨up 0, by decide +kernel⟩,
    ⟨up 0, by decide +kernel⟩,
    ⟨0, up 0 [] fun c => c.putCfgBit (.mgmt 0) 0x04 2 true, by decide +kernel⟩,
    ⟨0, up 0, by decide +kernel⟩⟩

end Group4

namespace Group5

def gs : Table Word := [(1, 0xFFFFFFFF), (2, 0x80000001), (3, 5)]

def dsc (a pos : Nat) : List FieldVal := [Reg.ACD_PS_DESC_A.is (word a) 1535 63, F.ACD_PS_DESC_B.POS.is pos 1535 63]

def sd := dsc (11 * 2^15 + 2^14 + 2^11) 5

def withMem (s : State) (f : Mem → Mem) : State := { s with mem := f s.mem }

def bs20 : List Byte := (List.range 40).map fun i => BitVec.ofNat 8 (i * 37 + 11)

def xf (src tgt cnt fl : Nat) : Nat := 0x2B * 2^18 + src * 2^12 + tgt * 2^6 + cnt * 4 + fl

theorem witness_InsnComputation :
    (∃ (e : Fin 1536) (s : State), s.executes e.val 8 = true) ∧
    (∃ (e : Fin 1536) (s : State), s.executes e.val 9 = true) ∧
    (∃ (e : Fin 1536) (s : State), s.executes e.val 19 = true) ∧
    (∃ (e : Fin 1536) (s : State), s.executes e.val 24 = true) ∧
    (∃ (e : Fin 1536) (s : State), s.executes e.val 31 = true) ∧
    (∃ (e : Fin 1536) (s : State), s.executes e.val 10 = true) ∧
    (∃ (e : Fin 1536) (s : State), s.executes e.val 11 = true) ∧
    (∃ (e : Fin 1536) (s : State), s.executes e.val 12 = true) ∧
    (∃ (e : Fin 1536) (s : State), s.executes e.val 13 = true) ∧
    (∃ (e : Fin 1536) (s : State), s.executes e.val 14 = true) ∧
    (∃ (e : Fin 1536) (s : State), s.executes e.val 15 = true) ∧
    (∃ (e : Fin 1536) (s : State), s.executes e.val 25 = true) ∧
    (∃ (e : Fin 1536) (s : State), s.executes e.val 26 = true) ∧
    (∃ (e : Fin 1536) (s : State), s.executes e.val 27 = true) ∧
    (∃ (e : Fin 1536) (s : State), s.executes e.val 28 = true) ∧
    (∃ (e : Fin 1536) (s : State), s.executes e.val 29 = true) ∧
    (∃ (e : Fin 1536) (s : State), s.executes e.val 30 = true) ∧
    (∃ (e : Fin 1536) (s : State), s.executes e.val 16 = true) ∧
    (∃ (e : Fin 1536) (s : State), s.executes e.val 17 = true) ∧
    (∃ (e : Fin 1536) (s : State), s.executes e.val 18 = true) ∧
    (∃ (e : Fin 1536) (s : State), s.executes e.val 32 = true) ∧
    (∃ (e : Fin 1536) (s : State), s.executes e.val 33 = true) ∧
    (∃ (e : Fin 1536) (s : State), s.executes e.val 34 = true) ∧
    (∃ (e : Fin 1536) (s : State), s.executes e.val 4 = true) ∧
    (∃ (e : Fin 1536) (s : State), s.executes e.val 35 = true) ∧
    (∃ (e : Fin 1536) (s : State), s.executes e.val 36 = true) ∧
    (∃ (e : Fin 1536) (s : State), s.executes e.val 37 = true) ∧
    (∃ (e : Fin 1536) (s : State), s.executes e.val 38 = true) ∧
    (∃ (e : Fin 1536) (s : State), s.executes e.val 0 = true) ∧
    (∃ (e : Fin 1536) (s : State), s.executes e.val 50 = true ∧ (s.chip.eng e.val).fetches = [] ∧ (s.chip.eng
      e.val).fetchBad = false) :=
  ⟨
    ⟨1535, en (ins 0x08 4 1 2 0) {g := gs, ip := 3, op := 131071, c := true}, by decide +kernel⟩,
    ⟨1535, en (ins 0x09 4 1 2 0) {g := gs, ip := 3, op := 131071, c := true}, by decide +kernel⟩,
    ⟨1535, en (ins 0x13 4 1 2 0) {g := gs, ip := 3, op := 131071, c := true}, by decide +kernel⟩,
    ⟨1535, en (ins 0x18 4 1 0 1021) {g := gs, ip := 3, op := 131071, c := true}, by decide +kernel⟩,
    ⟨1535, en (ins 0x1F 4 1 0 1021) {g := gs, ip := 3, op := 131071, c := true}, by decide +kernel⟩,
    ⟨1535, en (ins 0x0A 4 1 2 0) {g := gs, ip := 3, op := 131071, c := true}, by decide +kernel⟩,
    ⟨1535, en (ins 0x0B 4 1 2 0) {g := gs, ip := 3, op := 131071, c := true}, by decide +kernel⟩,
    ⟨1535, en (ins 0x0C 4 1 2 0) {g := gs, ip := 3, op := 131071, c := true}, by decide +kernel⟩,
    ⟨1535, en (ins 0x0D 4 1 2 0) {g := gs, ip := 3, op := 131071, c := true}, by decide +kernel⟩,
    ⟨1535, en (ins 0x0E 4 1 2 0) {g := gs, ip := 3, op := 131071, c := true}, by decide +kernel⟩,
    ⟨1535, en (ins 0x0F 4 1 2 0) {g := gs, ip := 3, op := 131071, c := true}, by decide +kernel⟩,
    ⟨1535, en (ins 0x19 4 1 0 1021) {g := gs, ip := 3, op := 131071, c := true}, by decide +kernel⟩,
    ⟨1535, en (ins 0x1A 4 1 0 1021) {g := gs, ip := 3, op := 131071, c := true}, by decide +kernel⟩,
    ⟨1535, en (ins 0x1B 4 1 0 1021) {g := gs, ip := 3, op := 131071, c := true}, by decide +kernel⟩,
    ⟨1535, en (ins 0x1C 4 1 0 1021) {g := gs, ip := 3, op := 131071, c := true}, by decide +kernel⟩,
    ⟨1535, en (ins 0x1D 4 1 0 1021) {g := gs, ip := 3, op := 131071, c := true}, by decide +kernel⟩,
    ⟨1535, en (ins 0x1E 4 1 0 1021) {g := gs, ip := 3, op := 131071, c := true}, by decide +kernel⟩,
    ⟨1535, en (ins 0x10 4 1 2 0) {g := gs, ip := 3, op := 131071, c := true}, by decide +kernel⟩,
    ⟨1535, en (ins 0x11 4 1 2 0) {g := gs, ip := 3, op := 131071, c := true}, by decide +kernel⟩,
    ⟨1535, en (ins 0x12 4 1 2 0) {g := gs, ip := 3, op := 131071, c := true}, by decide +kernel⟩,
    ⟨1535, en (ins 0x20 4 1 0 1021) {g := gs, ip := 3, op := 131071, c := true}, by decide +kernel⟩,
    ⟨1535, en (ins 0x21 4 1 0 1021) {g := gs, ip := 3, op := 131071, c := true}, by decide +kernel⟩,
    ⟨1535, en (ins 0x22 4 1 0 1021) {g := gs, ip := 3, op := 131071, c := true}, by decide +kernel⟩,
    ⟨1535, en (ins 0x04 4 1 0 1021) {g := gs, ip := 3, op := 131071, c := true}, by decide +kernel⟩,
    ⟨1535, en (ins 0x23 4 1 0 1021) {g := gs, ip := 3, op := 131071, c := true}, by decide +kernel⟩,
    ⟨1535, en (ins 0x24 4 1 0 1021) {g := gs, ip := 3, op := 131071, c := true}, by decide +kernel⟩,
    ⟨1535, en (ins 0x25 4 1 0 1021) {g := gs, ip := 3, op := 131071, c := true}, by decide +kernel⟩,
    ⟨1535, en (ins 0x26 4 1 0 1021) {g := gs, ip := 3, op := 131071, c := true}, by decide +kernel⟩,
    ⟨1535, en (ins 0x00 4 1 0 1021) {g := gs, ip := 3, op := 131071, c := true}, by decide +kernel⟩,
    ⟨1535, en (ins 0x32 4 1 0 1021) {g := gs, ip := 3, op := 131071, c := true}, by decide +kernel⟩⟩

theorem witness_InsnControl :
    (∃ (e : Fin 1536) (s : State) (b : Bool), s.executes e.val 3 = true ∧ (s.chip.eng e.val).cond? (insnD (s.chip.insn
      e.val)) = some b) ∧
    (∃ (e : Fin 1536) (s : State), s.executes e.val 3 = true ∧ 8 ≤ insnD (s.chip.insn e.val)) ∧
    (∃ (e : Fin 1536) (s : State), s.executes e.val 5 = true) ∧
    (∃ (e : Fin 1536) (s : State), s.executes e.val 1 = true ∧ (s.chip.eng e.val).fetchBad = false ∧ (s.chip.eng
      e.val).fetches = [] ∧ ((s.chip.eng e.val).hand).isSome = true) ∧
    (∃ (e : Fin 1536) (s : State), (s.chip.eng e.val).fetchBad = false ∧ (s.chip.eng e.val).fetches ≠ [] ∧ s.executes
      e.val 1 = true) ∧
    (∃ (e : Fin 1536) (s : State), (s.chip.eng e.val).fetchBad = false ∧ (s.chip.eng e.val).fetches ≠ [] ∧ s.executes
      e.val 50 = true) ∧
    (∃ (e : Fin 1536) (s : State), (s.chip.eng e.val).fetchBad = true ∧ s.executes e.val 1 = true) ∧
    (∃ (e : Fin 1536) (s : State), (s.chip.eng e.val).fetchBad = true ∧ s.executes e.val 50 = true) ∧
    (∃ (e : Fin 1536) (s : State), s.executes e.val 2 = true) ∧
    (∃ (e : Fin 1536) (s : State), s.chip.coreUp = true ∧ s.chip.engState e.val = enRun ∧ (s.chip.eng e.val).hand ≠
      none ∧ insnOp (s.chip.insn e.val) ∉ opcodes) ∧
    (∃ (e : Fin 1536) (s : State), s.chip.coreUp = true ∧ s.chip.engState e.val = enRun ∧ (s.chip.eng e.val).hand ≠
      none ∧ s.pc e.val = 511 ∧ insnOp (s.chip.insn e.val) = 0) ∧
    (∃ (e : Fin 1536) (s : State), s.chip.engState e.val ≠ enRun) :=
  ⟨
    ⟨1535, en (ins 3 1 0 0 9) {z := true}, true, by decide +kernel⟩,
    ⟨1535, en (ins 3 8 0 0 9) {z := true}, by decide +kernel⟩,
    ⟨1535, en (ins 5 0 0 0 9) {lc := 0}, by decide +kernel⟩,
    ⟨1535, en (ins 1 0 0 0 0), by decide +kernel⟩,
    ⟨1535, en (ins 1 0 0 0 0) {fetches := [{tag := 1, part := none, off := 0, len := 4, group := 0}]},
      by decide +kernel⟩,
    ⟨1535, en (ins 0x32 0 0 0 0) {fetches := [{tag := 1, part := none, off := 0, len := 4, group := 0}]},
      by decide +kernel⟩,
    ⟨1535, en (ins 1 0 0 0 0) {fetchBad := true}, by decide +kernel⟩,
    ⟨1535, en (ins 0x32 0 0 0 0) {fetchBad := true}, by decide +kernel⟩,
    ⟨1535, en (ins 2 0 0 0 255), by decide +kernel⟩,
    ⟨1535, en (ins 0x06 0 0 0 255), by decide +kernel⟩,
    ⟨1535, en (ins 0 0 0 0 0) {} [F.ACD_ENG_STATUS.PC.is 511 1535], by decide +kernel⟩,
    ⟨1535, en (ins 0 0 0 0 0) {} [F.ACD_ENG_STATUS.STATE.is 0 1535], by decide +kernel⟩⟩

theorem witness_InsnData :
    (∃ (e : Fin 1536) (s : State), s.executes e.val 40 = true ∧ (s.chip.eng e.val).ip + (s.chip.descr e.val (bits
      (s.chip.insn e.val) 9 4)).pos + (s.chip.descr e.val (bits (s.chip.insn e.val) 9 4)).width ≤ 8 * (s.chip.inArea
      e.val).2) ∧
    (∃ (e : Fin 1536) (s : State), s.executes e.val 40 = true ∧ 8 * (s.chip.inArea e.val).2 < (s.chip.eng e.val).ip +
      (s.chip.descr e.val (bits (s.chip.insn e.val) 9 4)).pos + (s.chip.descr e.val (bits (s.chip.insn e.val) 9
      4)).width) ∧
    (∃ (e : Fin 1536) (s : State), s.executes e.val 41 = true) ∧
    (∃ (e : Fin 1536) (s : State), s.executes e.val 42 = true ∧ (s.chip.eng e.val).op + (s.chip.descr e.val (bits
      (s.chip.insn e.val) 9 4)).pos + (s.chip.descr e.val (bits (s.chip.insn e.val) 9 4)).width ≤ 8 * (s.chip.outArea
      e.val).2) ∧
    (∃ (e : Fin 1536) (s : State), s.executes e.val 42 = true ∧ 8 * (s.chip.outArea e.val).2 < (s.chip.eng e.val).op +
      (s.chip.descr e.val (bits (s.chip.insn e.val) 9 4)).pos + (s.chip.descr e.val (bits (s.chip.insn e.val) 9
      4)).width) ∧
    (∃ (e : Fin 1536) (s : State), s.executes e.val 43 = true ∧ BitVec.toNat (s.chip.g e.val (bits (s.chip.insn e.val)
      5 2)) % 65536 = 0) ∧
    (∃ (e : Fin 1536) (s : State), s.executes e.val 43 = true ∧ BitVec.toNat (s.chip.g e.val (bits (s.chip.insn e.val)
      5 2)) % 65536 = 1 ∧ (s.chip.eng e.val).ip + (s.chip.descr e.val (bits (s.chip.insn e.val) 17 12)).pos +
      (s.chip.descr e.val (bits (s.chip.insn e.val) 17 12)).width ≤ 8 * (s.chip.inArea e.val).2 ∧ (s.chip.eng
      e.val).op + (s.chip.descr e.val (bits (s.chip.insn e.val) 11 6)).pos + (s.chip.descr e.val (bits (s.chip.insn
      e.val) 11 6)).targetWidth ≤ 8 * (s.chip.outArea e.val).2) ∧
    (∃ (e : Fin 1536) (s : State), s.executes e.val 43 = true ∧ (∀ i < BitVec.toNat (s.chip.g e.val (bits (s.chip.insn
      e.val) 5 2)) % 65536, (fun i => bitsInside ((s.chip.eng e.val).ip + (s.chip.descr e.val (bits (s.chip.insn
      e.val) 17 12)).pos + i * (s.chip.descr e.val (bits (s.chip.insn e.val) 17 12)).step (s.chip.descr e.val (bits
      (s.chip.insn e.val) 17 12)).width) (s.chip.descr e.val (bits (s.chip.insn e.val) 17 12)).width (s.chip.inArea
      e.val).2 && bitsInside ((s.chip.eng e.val).op + (s.chip.descr e.val (bits (s.chip.insn e.val) 11 6)).pos + i *
      (s.chip.descr e.val (bits (s.chip.insn e.val) 11 6)).step (s.chip.descr e.val (bits (s.chip.insn e.val) 11
      6)).targetWidth) (s.chip.descr e.val (bits (s.chip.insn e.val) 11 6)).targetWidth (s.chip.outArea e.val).2) i =
      true)) ∧
    (∃ (e : Fin 1536) (s : State), s.executes e.val 43 = true ∧ (∃ i < BitVec.toNat (s.chip.g e.val (bits (s.chip.insn
      e.val) 5 2)) % 65536, (fun i => bitsInside ((s.chip.eng e.val).ip + (s.chip.descr e.val (bits (s.chip.insn
      e.val) 17 12)).pos + i * (s.chip.descr e.val (bits (s.chip.insn e.val) 17 12)).step (s.chip.descr e.val (bits
      (s.chip.insn e.val) 17 12)).width) (s.chip.descr e.val (bits (s.chip.insn e.val) 17 12)).width (s.chip.inArea
      e.val).2 && bitsInside ((s.chip.eng e.val).op + (s.chip.descr e.val (bits (s.chip.insn e.val) 11 6)).pos + i *
      (s.chip.descr e.val (bits (s.chip.insn e.val) 11 6)).step (s.chip.descr e.val (bits (s.chip.insn e.val) 11
      6)).targetWidth) (s.chip.descr e.val (bits (s.chip.insn e.val) 11 6)).targetWidth (s.chip.outArea e.val).2) i =
      false) ∧ ((s.chip.eng e.val).hand).isSome = true) ∧
    (∃ (e : Fin 1536) (s : State), s.executes e.val 44 = true ∧ (s.chip.eng e.val).ip % 8 = 0 ∧ (s.chip.eng e.val).op
      % 8 = 0 ∧ (s.chip.eng e.val).ip / 8 + BitVec.toNat (s.chip.g e.val (insnA (s.chip.insn e.val))) ≤ (s.chip.inArea
      e.val).2 ∧ (s.chip.eng e.val).op / 8 + BitVec.toNat (s.chip.g e.val (insnA (s.chip.insn e.val))) ≤
      (s.chip.outArea e.val).2) ∧
    (∃ (e : Fin 1536) (s : State), s.executes e.val 44 = true ∧ ((s.chip.eng e.val).ip % 8 ≠ 0 ∨ (s.chip.eng e.val).op
      % 8 ≠ 0 ∨ (s.chip.inArea e.val).2 < (s.chip.eng e.val).ip / 8 + BitVec.toNat (s.chip.g e.val (insnA (s.chip.insn
      e.val))) ∨ (s.chip.outArea e.val).2 < (s.chip.eng e.val).op / 8 + BitVec.toNat (s.chip.g e.val (insnA
      (s.chip.insn e.val))))) ∧
    (∃ (e : Fin 1536) (s : State), s.executes e.val 45 = true ∧ (s.chip.eng e.val).op % 8 = 0 ∧ (s.chip.eng e.val).op
      / 8 + 4 * bits (s.chip.insn e.val) 9 0 + 4 ≤ (s.chip.outArea e.val).2) ∧
    (∃ (e : Fin 1536) (s : State), s.executes e.val 45 = true ∧ ((s.chip.eng e.val).op % 8 ≠ 0 ∨ (s.chip.outArea
      e.val).2 < (s.chip.eng e.val).op / 8 + 4 * bits (s.chip.insn e.val) 9 0 + 4)) ∧
    (∃ (e : Fin 1536) (s : State), s.executes e.val 46 = true ∧ ((s.chip.eng e.val).hand).isSome = true ∧ (s.chip.eng
      e.val).op % 8 = 0 ∧ 0 ≤ (↑(s.chip.eng e.val).op : Int) / 8 + 4 * signed 10 (bits (s.chip.insn e.val) 9 0) ∧
      (↑(s.chip.eng e.val).op : Int) / 8 + 4 * signed 10 (bits (s.chip.insn e.val) 9 0) + 8 ≤ (↑(s.chip.outArea
      e.val).2 : Int)) :=
  ⟨
    ⟨1535, withMem (en (ins 0x28 4 0 0 0 + 63 * 16) {ip := 3} sd) (·.pantryWrite 11 0x1000 bs20), by decide +kernel⟩,
    ⟨1535, en (ins 0x28 4 0 0 0 + 63 * 16) {ip := 131071} sd, by decide +kernel⟩,
    ⟨1535, en (ins 0x29 4 1 0 0 + 63 * 16) {g := gs} sd, by decide +kernel⟩,
    ⟨1535, withMem (en (ins 0x2A 0 1 0 0 + 63 * 16) {op := 6, g := gs} sd) (·.pantryWrite 11 (256*64) bs20),
      by decide +kernel⟩,
    ⟨1535, en (ins 0x2A 0 1 0 0 + 63 * 16) {op := 131071, g := gs} sd, by decide +kernel⟩,
    ⟨1535, en (xf 63 63 0 3) {ip := 5, op := 7, g := gs} sd, by decide +kernel⟩,
    ⟨1535, withMem (en (xf 63 62 1 3) {ip := 5, op := 7, g := [(1,1)]} (sd ++ [Reg.ACD_PS_DESC_A.is (word (7 * 2^15 +
      2^11)) 1535 62])) (·.pantryWrite 11 0x1000 bs20), by decide +kernel⟩,
    ⟨1535, withMem (en (xf 63 62 1 3) {ip := 5, op := 7, g := [(1,3)]} (sd ++ [Reg.ACD_PS_DESC_A.is (word (7 * 2^15 +
      2^11)) 1535 62])) (·.pantryWrite 11 0x1000 bs20), by decide +kernel⟩,
    ⟨1535, withMem (en (xf 63 62 1 3) {ip := 5, op := 7, g := [(1,300)]} (sd ++ [Reg.ACD_PS_DESC_A.is (word (7 * 2^15
      + 2^11)) 1535 62])) (·.pantryWrite 11 0x1000 bs20), by decide +kernel⟩,
    ⟨1535, withMem (en (ins 0x2C 0 3 0 0) {ip := 16, op := 8, g := gs}) (·.pantryWrite 11 0x1000 bs20),
      by decide +kernel⟩,
    ⟨1535, en (ins 0x2C 0 1 0 0) {g := gs}, by decide +kernel⟩,
    ⟨1535, en (ins 0x2D 0 2 0 1) {op := 8, g := gs}, by decide +kernel⟩,
    ⟨1535, en (ins 0x2D 0 2 0 1) {op := 4, g := gs}, by decide +kernel⟩,
    ⟨1535, en (ins 0x2E 0 0 0 1) {op := 8}, by decide +kernel⟩⟩

end Group5

namespace Group6

def gs : Table Word := [(1, 64), (2, 0x80000001), (3, 5)]

def win : List FieldVal := [F.ACD_JOB_CFG.PART.is 32 11 31, F.ACD_JOB_DST.DST_3_to_DST_0.is 0xBF 11 31,
    F.ACD_DST_A.VALID.is 1 11 63]

def emo (w : Nat) (h : EngH := {}) (more : List FieldVal := []) (f : Chip → Chip := id) : State := en w h (win ++
    more) f

def bs20 : List Byte := (List.range 40).map fun i => BitVec.ofNat 8 (i * 37 + 11)

def em0 (w : Nat := 0x30 * 2^18) (st := 1) : Emission :=
    {eng := 1535, job := 383, half := some 1, len := 64, dests := [(63, 0)], status := 0, flags := 0, first := 5}

def cpk (st : CplStatus) : InCpl :=
    { to_ := .engine 1535, part := none, pkt := {kind := .cpl, tag := 3, data := bs20, status := st, byteCount := 40} }

def ftc (st : CplStatus) : State := emo (ins 0x31 0 1 0 0)
    {g := gs, fetches := [{tag := 3, part := none, off := 8, len := 32, group := 0}]} [F.ACD_ENG_STATUS.STATE.is 4
    1535] (fun c => {c with flt := {c.flt with inbox := [cpk st]}})

def cop (n : Nat) (k : Packet) (d : Dest) : Copy :=
    {id := 1, pid := 1, pkt := k, src := .port n, part := none, dest := d, stamp := 0, cells := 1, charge := .none}

def capW (lanes : List Bool) : State := emo 0 {} [F.ACD_JOB_LEN.REC_LEN.is 64 11 31, F.ACD_JOB_RING.SIZE.is 4 11 31,
    F.ACD_JOB_RING.BASE.is 77 11 31, F.ACD_CAP_A.JOB.is 31 11 63] (fun c =>
    {c with cel := {c.cel with capWaiting := [(some 767, cop 95 {data := bs20.take 20, lanes := lanes} (.pantry 11))]}})

theorem witness_InsnTransfers :
    (∃ (e : Fin 1536) (s : State), s.executes e.val 48 = true ∧ s.chip.emitLen e.val (s.chip.insn e.val) % 4 = 0 ∧ 4 ≤
      s.chip.emitLen e.val (s.chip.insn e.val) ∧ s.chip.emitLen e.val (s.chip.insn e.val) ≤ s.chip.jfld
      F.ACD_JOB_LEN.OUT_LEN (s.chip.handJob e.val) ∧ ({ mem := s.mem, chip := s.chip } : Dev).emitWait? e.val
      (s.chip.insn e.val) = none ∧ (∀ q ∈ s.chip.emitSlots e.val (s.chip.insn e.val), s.chip.fld F.ACD_DST_A.FULL
      (s.chip.handJob e.val / 32) q.2 ≠ 2) ∧ s.chip.emitSlots e.val (s.chip.insn e.val) ≠ [] ∧ ((s.chip.eng
      e.val).hand).isSome = true) ∧
    (∃ (e : Fin 1536) (s : State), s.executes e.val 48 = true ∧ (s.chip.emitLen e.val (s.chip.insn e.val) % 4 ≠ 0 ∨
      s.chip.emitLen e.val (s.chip.insn e.val) < 4 ∨ s.chip.jfld F.ACD_JOB_LEN.OUT_LEN (s.chip.handJob e.val) <
      s.chip.emitLen e.val (s.chip.insn e.val))) ∧
    (∃ (e : Fin 1536) (s : State), s.executes e.val 48 = true ∧ s.chip.emitLen e.val (s.chip.insn e.val) % 4 = 0 ∧ 4 ≤
      s.chip.emitLen e.val (s.chip.insn e.val) ∧ s.chip.emitLen e.val (s.chip.insn e.val) ≤ s.chip.jfld
      F.ACD_JOB_LEN.OUT_LEN (s.chip.handJob e.val) ∧ (∃ x ∈ ({ mem := s.mem, chip := s.chip } : Dev).emitWait? e.val
      (s.chip.insn e.val), x ≠ enMaster)) ∧
    (∃ (e : Fin 1536) (s : State), s.executes e.val 49 = true ∧ (∃ x ∈ s.chip.slotWindow? (s.chip.handJob e.val)
      (insnD (s.chip.insn e.val) % 4), s.chip.flag F.ACD_DST_A.KIND (s.chip.handJob e.val / 32) x = false ∧ 4 ≤
      BitVec.toNat (s.chip.g e.val (insnA (s.chip.insn e.val))) ∧ BitVec.toNat (s.chip.g e.val (insnA (s.chip.insn
      e.val))) ≤ 4096 ∧ BitVec.toNat (s.chip.g e.val (insnA (s.chip.insn e.val))) % 4 = 0 ∧ (s.chip.eng e.val).ip / 8
      + BitVec.toNat (s.chip.g e.val (insnA (s.chip.insn e.val))) ≤ (s.chip.inArea e.val).2 ∧ (s.chip.eng
      e.val).fetches = [] ∧ s.chip.windowOff (s.chip.handJob e.val) x = false ∧ s.chip.flt.dev = [])) ∧
    (∃ (e : Fin 1536) (s : State), s.executes e.val 49 = true ∧ s.chip.slotWindow? (s.chip.handJob e.val) (insnD
      (s.chip.insn e.val) % 4) = none) ∧
    (∃ (e : Fin 1536) (s : State), s.executes e.val 49 = true ∧ (∃ x ∈ s.chip.slotWindow? (s.chip.handJob e.val)
      (insnD (s.chip.insn e.val) % 4), s.chip.flag F.ACD_DST_A.KIND (s.chip.handJob e.val / 32) x = true)) ∧
    (∃ (e : Fin 1536) (s : State), s.executes e.val 49 = true ∧ (∃ x ∈ s.chip.slotWindow? (s.chip.handJob e.val)
      (insnD (s.chip.insn e.val) % 4), s.chip.flag F.ACD_DST_A.KIND (s.chip.handJob e.val / 32) x = false ∧
      (BitVec.toNat (s.chip.g e.val (insnA (s.chip.insn e.val))) < 4 ∨ 4096 < BitVec.toNat (s.chip.g e.val (insnA
      (s.chip.insn e.val))) ∨ BitVec.toNat (s.chip.g e.val (insnA (s.chip.insn e.val))) % 4 ≠ 0 ∨ (s.chip.inArea
      e.val).2 < (s.chip.eng e.val).ip / 8 + BitVec.toNat (s.chip.g e.val (insnA (s.chip.insn e.val)))))) ∧
    (∃ (e : Fin 1536) (s : State), s.chip.coreUp = true ∧ s.chip.engState e.val = enFetch ∧ ((s.chip.eng
      e.val).fetches = [] ∨ (s.chip.eng e.val).fetchBad = true)) ∧
    (∃ (e : Fin 1536) (s : State), s.chip.coreUp = true ∧ (s.chip.engState e.val = enToken ∨ s.chip.engState e.val =
      enBuf ∨ s.chip.engState e.val = enDest) ∧ insnOp (s.chip.insn e.val) = 48 ∧ ({ mem := s.mem, chip := s.chip } :
      Dev).emitWait? e.val (s.chip.insn e.val) = none) ∧
    (∃ (e : Fin 1536) (s : State), s.chip.coreUp = true ∧ (s.chip.engState e.val = enMeter ∨ s.chip.engState e.val =
      enMaster)) ∧
    (∃ (e : Fin 1536) (s : State), s.chip.coreUp = true ∧ (∃ q ∈ List.find? (fun q => q.to_ == Src.engine e.val)
      s.chip.flt.inbox, (∃ f ∈ List.find? (fun f => f.tag == q.pkt.tag && f.part == q.part) (s.chip.eng
      e.val).fetches, f.void = false ∧ q.pkt.status = CplStatus.sc ∧ f.len ≤ q.pkt.data.length))) ∧
    (∃ (e : Fin 1536) (s : State), s.chip.coreUp = true ∧ (∃ q ∈ List.find? (fun q => q.to_ == Src.engine e.val)
      s.chip.flt.inbox, (∃ f ∈ List.find? (fun f => f.tag == q.pkt.tag && f.part == q.part) (s.chip.eng
      e.val).fetches, (q.pkt.status ≠ CplStatus.sc ∨ f.void = true ∧ f.len ≤ q.pkt.data.length)))) ∧
    (∃ (e : Fin 1536) (s : State), s.chip.coreUp = true ∧ (List.find? (fun y => y.eng == e.val)
      s.chip.acd.emits).isSome = true) ∧
    (∃ (e : Fin 1536) (s : State), s.chip.coreUp = true ∧ (∃ x ∈ List.find? (fun y => y.eng == e.val)
      s.chip.acd.emits, s.chip.emitReady x = [] ∧ x.dests ≠ [])) ∧
    (∃ (n : Fin 96) (s : State), s.chip.coreUp = true ∧ (∃ q ∈ s.chip.cel.capWaiting.head?, q.2.src = Src.port n.val ∧
      s.chip.cel.capWaiting.length = 1 ∧ (∃ r ∈ q.1, s.chip.recLen (s.chip.capJob r) ≤ s.chip.ringBytes (s.chip.capJob
      r) ∧ (s.chip.job (s.chip.capJob r)).filled % s.chip.recLen (s.chip.capJob r) + q.2.pkt.data.length ≤
      s.chip.recLen (s.chip.capJob r) ∧ s.chip.capBlocked (s.chip.capJob r) = false))) ∧
    (∃ (n : Fin 96) (s : State), (∀ q ∈ s.chip.cel.capWaiting, q.2.src ≠ Src.port n.val)) :=
  ⟨
    ⟨1535, emo (ins 0x30 0 1 0 1) {g := gs}, by decide +kernel⟩,
    ⟨1535, emo (ins 0x30 0 2 0 15) {op := 8, g := gs}, by decide +kernel⟩,
    ⟨1535, emo (ins 0x30 0 1 0 1) {g := gs} [] (fun c => c.updJob 383 fun h => {h with order := [6,7]}),
      by decide +kernel⟩,
    ⟨1535, emo (ins 0x31 0 1 0 0) {g := gs}, by decide +kernel⟩,
    ⟨1535, emo (ins 0x31 1 1 0 0) {g := gs}, by decide +kernel⟩,
    ⟨1535, emo (ins 0x31 0 1 0 0) {g := gs} [F.ACD_DST_A.KIND.is 1 11 63], by decide +kernel⟩,
    ⟨1535, emo (ins 0x31 0 3 0 0) {g := gs}, by decide +kernel⟩,
    ⟨1535, emo (ins 0x31 0 1 0 0) {g := gs, fetchBad := true} [F.ACD_ENG_STATUS.STATE.is 4 1535], by decide +kernel⟩,
    ⟨1535, emo (ins 0x30 0 1 0 1) {g := gs} [F.ACD_ENG_STATUS.STATE.is 5 1535], by decide +kernel⟩,
    ⟨1535, emo (ins 0x30 0 1 0 1) {g := gs, before := 1} [F.ACD_ENG_STATUS.STATE.is 6 1535], by decide +kernel⟩,
    ⟨1535, ftc .sc, by decide +kernel⟩,
    ⟨1535, ftc .ur, by decide +kernel⟩,
    ⟨1535, emo (ins 0x30 0 1 0 1) {g := gs} [] (fun c => {c with acd := {c.acd with emits := [em0]}}),
      by decide +kernel⟩,
    ⟨1535, emo (ins 0x30 0 1 0 1) {g := gs} [F.ACD_JOB_CFG.PART.is 3 11 31] (fun c =>
      {c with acd := {c.acd with emits := [em0]}}), by decide +kernel⟩,
    ⟨95, capW [], by decide +kernel⟩,
    ⟨95, {}, by decide +kernel⟩⟩

end Group6

namespace Group7

def gs : Table Word := [(1, 64), (2, 0x80000001), (3, 5)]

def jb (more : List FieldVal) (h : JobH := {}) (f : Chip → Chip := id) : State := mk ([F.ACD_JOB_CFG.EN.is 1 11 31,
    F.ACD_JOB_SET.FIRST.is 100 11 31, F.ACD_JOB_SET.COUNT.is 28 11 31, F.GLB_MODE.MODE.is 4, F.ACD_JOB_LEN.REC_LEN.is
    64 11 31, F.ACD_JOB_LEN.OUT_LEN.is 64 11 31] ++ more) fun c => f (c.updJob 383 fun _ => h)

def okc : State := jb [] {starts := [{kind := 3, time := 5}]}

def oka : State := jb [F.ACD_ENG_STATUS.STATE.is 1 1535, F.ACD_ENG_STATUS.STATE.is 8 1534]
    {starts := [{kind := 3, time := 5}], order := [7]} fun c => c.updEng 1535 fun _ => {hand := some rec0, g := gs}

def okk : State := jb [F.ACD_JOB_CFG.SRC.is 1 11 31] {starts := [{kind := 3, time := 5}]}

def bs : List Byte := (List.range 2800).map fun i => BitVec.ofNat 8 (i * 37 + 11)

def lds : State :=
    { mk [F.ACD_LOAD_CTL.BUSY.is 1 11, F.ACD_LOAD_CTL.FIRST.is 126 11, F.ACD_LOAD_CTL.COUNT.is 2 11, F.ACD_LOAD_SRC.SRC.is 5 11, F.ACD_ENG_STATUS.STATE.is 8 1535] (fun c => c.updEng 1535 fun _ => {g := gs}) with mem := ({} : Mem).pantryWrite 11 320 bs }

theorem witness_AccordJobs :
    (∃ (a : Access) (t : Fin 12) (j : Fin 32) (v : Word) (s : State) (c : Chip), s.passes a
      { reg := Reg.ACD_JOB_CFG, i := t.val, j := j.val } v c ∧ c.jobEn (32 * t.val + j.val) = false ∧ wbit v 31 = true
      ∧ c.isExpert a.who = true) ∧
    (∃ (a : Access) (t : Fin 12) (j : Fin 32) (v : Word) (s : State) (c : Chip), s.passes a
      { reg := Reg.ACD_JOB_CTL, i := t.val, j := j.val } v c ∧ wbit v 29 = false ∧ wbit v 30 = true ∧ wbit v 31 =
      false ∧ c.jobEn (32 * t.val + j.val) = true) ∧
    (∃ (a : Access) (t : Fin 12) (j : Fin 32) (v : Word) (s : State) (c : Chip), s.passes a
      { reg := Reg.ACD_JOB_CTL, i := t.val, j := j.val } v c ∧ wbit v 29 = true ∧ wbit v 30 = false ∧ wbit v 31 =
      false ∧ c.jobEn (32 * t.val + j.val) = true) ∧
    (∃ (a : Access) (t : Fin 12) (j : Fin 32) (v : Word) (s : State) (c : Chip), s.passes a
      { reg := Reg.ACD_JOB_CTL, i := t.val, j := j.val } v c ∧ wbit v 29 = false ∧ wbit v 30 = false ∧ wbit v 31 =
      true ∧ c.jobEn (32 * t.val + j.val) = true ∧ c.startsOk = true ∧ c.tileEn t.val = true ∧ c.jfld
      F.ACD_JOB_STATUS.STOPPING (32 * t.val + j.val) = 0 ∧ c.jfld F.ACD_JOB_CFG.SRC (32 * t.val + j.val) = 1 ∧ (c.job
      (32 * t.val + j.val)).starts.length < 64) ∧
    (∃ (a : Access) (t : Fin 12) (j : Fin 32) (v : Word) (s : State) (c : Chip), s.passes a
      { reg := Reg.ACD_JOB_CTL, i := t.val, j := j.val } v c ∧ wbit v 29 = false ∧ wbit v 30 = false ∧ wbit v 31 =
      true ∧ c.jobEn (32 * t.val + j.val) = true ∧ c.startsOk = true ∧ c.tileEn t.val = true ∧ c.jfld
      F.ACD_JOB_STATUS.STOPPING (32 * t.val + j.val) = 0 ∧ (c.jfld F.ACD_JOB_CFG.SRC (32 * t.val + j.val) = 0 ∨ (c.job
      (32 * t.val + j.val)).starts.length = 64)) ∧
    (∃ (t : Fin 12) (j : Fin 32) (s : State), s.chip.coreUp = true ∧ s.chip.fld F.ACD_JOB_STATUS.STOPPING t.val j.val
      = 1 ∧ s.chip.jobRunning (32 * t.val + j.val) = 0) :=
  ⟨
    ⟨fw, 11, 31, 0xFFFFFFFF, mk [], pc (mk []) fw ⟨.ACD_JOB_CFG, 11, 31⟩ 0xFFFFFFFF, by decide +kernel⟩,
    ⟨fw, 11, 31, 0x40000000, okc, pc okc fw ⟨.ACD_JOB_CTL, 11, 31⟩ 0x40000000, by decide +kernel⟩,
    ⟨fw, 11, 31, 0x20000000, oka, pc oka fw ⟨.ACD_JOB_CTL, 11, 31⟩ 0x20000000, by decide +kernel⟩,
    ⟨fw, 11, 31, 0x80000000, okk, pc okk fw ⟨.ACD_JOB_CTL, 11, 31⟩ 0x80000000, by decide +kernel⟩,
    ⟨fw, 11, 31, 0x80000000, okc, pc okc fw ⟨.ACD_JOB_CTL, 11, 31⟩ 0x80000000, by decide +kernel⟩,
    ⟨11, 31, jb [F.ACD_JOB_STATUS.STOPPING.is 1 11 31], by decide +kernel⟩⟩

theorem witness_AccordRecordsAndLoads :
    (∃ (t : Fin 12) (j : Fin 32) (s : State), s.chip.coreUp = true ∧ s.chip.jobEn (32 * t.val + j.val) = true ∧
      s.chip.jfld F.ACD_JOB_STATUS.STOPPING (32 * t.val + j.val) = 0 ∧ s.chip.startsOk = true ∧ s.chip.jobDraining (32
      * t.val + j.val) = false ∧ s.chip.jfld F.ACD_JOB_CFG.SRC (32 * t.val + j.val) = 1 ∧ s.chip.tileEn t.val = true ∧
      (List.find? (fun e => s.chip.engState e == enIdle) (s.chip.jobEngines (32 * t.val + j.val))).isSome = true ∧
      ((s.chip.job (32 * t.val + j.val)).starts.head?).isSome = true) ∧
    (∃ (t : Fin 12) (j : Fin 32) (s : State), s.chip.coreUp = true ∧ s.chip.jobEn (32 * t.val + j.val) = true ∧
      s.chip.jfld F.ACD_JOB_STATUS.STOPPING (32 * t.val + j.val) = 0 ∧ s.chip.startsOk = true ∧ s.chip.jobDraining (32
      * t.val + j.val) = false ∧ s.chip.jfld F.ACD_JOB_CFG.SRC (32 * t.val + j.val) = 0 ∧ s.chip.tileEn t.val = true ∧
      (List.find? (fun e => s.chip.engState e == enIdle) (s.chip.jobEngines (32 * t.val + j.val))).isSome = true ∧ (∃
      x ∈ List.find? (fun r => !r.busy) (s.chip.job (32 * t.val + j.val)).recs, x.ready = true)) ∧
    (∃ (t : Fin 12) (page : Fin 512) (v : Word) (s : State) (j : Fin 32), s.chip.coreUp = true ∧ s.chip.jobEn (32 *
      t.val + j.val) = true ∧ s.chip.jfld F.ACD_JOB_DB.VALID (32 * t.val + j.val) = 1 ∧ s.chip.jfld F.ACD_JOB_DB.PAGE
      (32 * t.val + j.val) = page.val ∧ (∀ k < 32, k ≠ j.val → s.chip.jobEn (32 * t.val + k) = false ∨ s.chip.jfld
      F.ACD_JOB_DB.VALID (32 * t.val + k) = 0 ∨ s.chip.jfld F.ACD_JOB_DB.PAGE (32 * t.val + k) ≠ page.val) ∧
      s.chip.startsOk = true ∧ s.chip.tileEn t.val = true ∧ s.chip.jfld F.ACD_JOB_STATUS.STOPPING (32 * t.val + j.val)
      = 0 ∧ s.chip.jfld F.ACD_JOB_CFG.SRC (32 * t.val + j.val) = 1 ∧ (s.chip.job (32 * t.val + j.val)).starts.length +
      BitVec.toNat v % 65536 ≤ 64) ∧
    (∃ (t : Fin 12) (page : Fin 512) (v : Word) (s : State), s.chip.coreUp = true ∧ (BitVec.toNat v % 65536 = 0 ∨ ∀ k
      < 32, s.chip.jobEn (32 * t.val + k) = false ∨ s.chip.jfld F.ACD_JOB_DB.VALID (32 * t.val + k) = 0 ∨ s.chip.jfld
      F.ACD_JOB_DB.PAGE (32 * t.val + k) ≠ page.val)) ∧
    (∃ (e : Fin 1536) (s : State), s.chip.coreUp = true ∧ (s.chip.engState e.val = enRun ∨ s.chip.engState e.val =
      enFetch) ∧ s.chip.jfld F.ACD_JOB_CFG.WDOG (s.chip.handJob e.val) ≠ 0) ∧
    (∃ (e : Fin 1536) (s : State), (s.chip.jfld F.ACD_JOB_CFG.WDOG (s.chip.handJob e.val) = 0 ∨ s.chip.engState e.val
      ≠ enRun ∧ s.chip.engState e.val ≠ enFetch)) ∧
    (∃ (a : Access) (t : Fin 12) (v : Word) (s : State) (c : Chip), s.passes a { reg := Reg.ACD_LOAD_CTL, i := t.val }
      v c ∧ wbit v 31 = true ∧ c.fld F.ACD_LOAD_CTL.BUSY t.val = 0) ∧
    (∃ (t : Fin 12) (s : State), s.chip.coreUp = true ∧ s.chip.fld F.ACD_LOAD_CTL.BUSY t.val = 1 ∧ s.chip.loadInUse
      t.val = false ∧ s.chip.tileEn t.val = true ∧ s.chip.fld F.ACD_LOAD_SRC.SRC t.val * 64 + 2688 ≤ pantrySize ∧
      s.chip.fld F.ACD_LOAD_CTL.FIRST t.val + s.chip.fld F.ACD_LOAD_CTL.COUNT t.val ≤ 128) ∧
    (∃ (t : Fin 12) (s : State), (s.chip.tileEn t.val = false ∨ s.chip.flag F.ACD_LOAD_CTL.BUSY t.val = false)) ∧
    (∃ (t : Fin 12) (s : State), s.chip.coreUp = true ∧ s.chip.fld F.ACD_LOAD_CTL.BUSY t.val = 1 ∧ s.chip.tileEn t.val
      = true ∧ (s.chip.loadInUse t.val = true ∨ pantrySize < s.chip.fld F.ACD_LOAD_SRC.SRC t.val * 64 + 2688 ∨ 128 <
      s.chip.fld F.ACD_LOAD_CTL.FIRST t.val + s.chip.fld F.ACD_LOAD_CTL.COUNT t.val)) ∧
    (∃ (t : Fin 12) (s : State), s.chip.coreUp = true ∧ (∀ x < 128, (s.chip.eng (128 * t.val + x)).hand = none)) ∧
    (∃ (at_ : EccAt) (x : Fin 2097152) (s : State), s.chip.coreUp = true ∧ at_.addr = some x) :=
  ⟨
    ⟨11, 31, okk, by decide +kernel⟩,
    ⟨11, 31, jb [F.ACD_JOB_RECNO.COUNT.is 0xFFFFFFFF 11 31, F.ACD_ENG_STATUS.STATE.is 1 1508, F.ACD_JOB_RING.SIZE.is 4
      11 31]
      {recs := [{num := 4, ready := true, busy := true},{num := 5, ready := true, gap := true, first := 9, last := 11},{num := 6}], filled := 400},
      by decide +kernel⟩,
    ⟨11, 511, 0x12340005, jb [F.ACD_JOB_CFG.SRC.is 1 11 31, F.ACD_JOB_DB.VALID.is 1 11 31, F.ACD_JOB_DB.PAGE.is 511 11
      31], 31, by decide +kernel⟩,
    ⟨11, 511, 0x12340000, jb [F.ACD_JOB_CFG.SRC.is 1 11 31, F.ACD_JOB_DB.VALID.is 1 11 31, F.ACD_JOB_DB.PAGE.is 511 11
      31], by decide +kernel⟩,
    ⟨1535, en 0 {sat := true} [F.ACD_JOB_CFG.WDOG.is 5 11 31], by decide +kernel⟩,
    ⟨1535, en 0 {sat := true}, by decide +kernel⟩,
    ⟨fw, 11, 0x80640005, mk [], pc (mk []) fw ⟨.ACD_LOAD_CTL, 11, 0⟩ 0x80640005, by decide +kernel⟩,
    ⟨11, lds, by decide +kernel⟩,
    ⟨11, {}, by decide +kernel⟩,
    ⟨11, mk [F.ACD_LOAD_CTL.BUSY.is 1 11, F.ACD_LOAD_CTL.FIRST.is 126 11, F.ACD_LOAD_CTL.COUNT.is 3 11],
      by decide +kernel⟩,
    ⟨11, mk [], by decide +kernel⟩,
    ⟨{addr := some 2097151, corr := [70000]}, 2097151, en 0 {sat := true, g := gs}, by decide +kernel⟩⟩

end Group7

namespace Group8

def ad (k : RegKey) : Fin 0x10000000 := Fin.ofNat _ (k.addr k.tile)

def own0 (more : List FieldVal := []) (f : Chip → Chip := id) : State := mk ([F.LBX_OWNER.VALID.is 1,
    F.LBX_OWNER.OWNER.is 0] ++ more) f

def own1 (more : List FieldVal := []) (f : Chip → Chip := id) : State := mk ([F.LBX_OWNER.VALID.is 1,
    F.LBX_OWNER.OWNER.is 1] ++ more) f

def liveDef (g : Nat) (vs : List FieldVal) (s : State) : State :=
    { s with chip := { s.chip with gat := { s.chip.gat with live := (vs.foldl (fun (c : Chip) e => c.setFld e.f (e.v.getD 0) g) { s.chip with regs := s.chip.gat.live }).regs } } }

theorem witness_BusWrites :
    (∃ (a : Access) (off : Fin 268435456) (v : Word) (s : State), s.chip.coreUp = true ∧ pantryAt off.val = none ∧ (∃
      k ∈ s.chip.keyAt off.val, k.reg ∈ [Reg.GLB_FLC_DRAIN_LIMIT, Reg.LBX_ELECT_CFG, Reg.CEL_AGE_LIMIT,
      Reg.FLT_CPL_TO, Reg.LPB_TMO, Reg.PWR_CFG, Reg.TIM_TRIG_CFG, Reg.SDS_LN_PWR, Reg.FUS_CHAN_TIME, Reg.ACD_JOB_SET,
      Reg.ACD_JOB_DB] ∧ s.chip.passAt a k off.val v = (Pass.ok, (s.chip.passAt a k off.val v).2))) ∧
    (∃ (a : Access) (off : Fin 268435456) (s : State), s.chip.coreUp = true ∧ pantryAt off.val = none ∧ (s.chip.keyAt
      off.val).isSome = true ∧ (a.full = false ∨ s.chip.isOwner a.who = false)) ∧
    (∃ (a : Access) (off : Fin 268435456) (s : State), s.chip.coreUp = true ∧ pantryAt off.val = none ∧ (∃ k ∈
      s.chip.keyAt off.val, a.full = true ∧ s.chip.isOwner a.who = true ∧ s.chip.isExpert a.who = false ∧ k.reg.block
      ≠ Blk.gat ∧ k.reg.rwxOnly = true)) ∧
    (∃ (a : Access) (off : Fin 268435456) (s : State), s.chip.coreUp = true ∧ pantryAt off.val = none ∧ (∃ k ∈
      s.chip.keyAt off.val, a.full = true ∧ s.chip.isOwner a.who = true ∧ s.chip.isExpert a.who = true ∧ (s.chip.judge
      109 (s.chip.gateView a off.val true)).isSome = true ∧ k.reg.block ≠ Blk.gat ∧ k.reg.block ≠ Blk.flt ∧
      k.reg.block ≠ Blk.tct)) ∧
    (∃ (a : Access) (off : Fin 268435456) (s : State), s.chip.coreUp = true ∧ pantryAt off.val = none ∧ s.chip.keyAt
      off.val = none ∧ (a.full = false ∨ s.chip.isOwner a.who = false)) ∧
    (∃ (a : Access) (off : Fin 268435456) (s : State), s.chip.coreUp = true ∧ pantryAt off.val = none ∧ s.chip.keyAt
      off.val = none ∧ a.full = true ∧ s.chip.isOwner a.who = true ∧ s.chip.judge 109 (s.chip.gateView a off.val true)
      = none) :=
  ⟨
    ⟨fw, ad ⟨.GLB_FLC_DRAIN_LIMIT,0,0⟩, 0xFFFFFFFF, {}, by decide +kernel⟩,
    ⟨host, ad ⟨.PWR_CFG,0,0⟩, own1, by decide +kernel⟩,
    ⟨host, ad ⟨.FLT_SRC,3,0⟩, own0, by decide +kernel⟩,
    ⟨fw, ad ⟨.PWR_CFG,0,0⟩, liveDef 109 [F.GAT_GATE_CFG.MODE.is 0, F.GAT_GATE_DEF.W.is 0] {}, by decide +kernel⟩,
    ⟨{ who := .fw, be := 7 }, 0xFFFFFC, {}, by decide +kernel⟩,
    ⟨fw, 0xFFFFFC, {}, by decide +kernel⟩⟩

theorem witness_ForeignWritesDropped :
    (∃ (i : Instr) (a : Access) (p : Fin 32) (s : State), i.access? = some a ∧ a.who = Who.part p ∧ s.chip.owner? ≠
      some p.val ∧ s.chip.coreUp = true ∧ s.chip.slotUp = true ∧ s.chip.writesBar0 i = true) :=
    ⟨.registerWrite host (ad ⟨.TIM_SET_HI,0,0⟩) 0xFFFFFFFF, host, 0, own1, by decide +kernel⟩

end Group8

namespace Group9

def ad (k : RegKey) : Fin 0x10000000 := Fin.ofNat _ (k.addr k.tile)

def own0 (more : List FieldVal := []) (f : Chip → Chip := id) : State := mk ([F.LBX_OWNER.VALID.is 1,
    F.LBX_OWNER.OWNER.is 0] ++ more) f

def liveDef (g : Nat) (vs : List FieldVal) (s : State) : State :=
    { s with chip := { s.chip with gat := { s.chip.gat with live := (vs.foldl (fun (c : Chip) e => c.setFld e.f (e.v.getD 0) g) { s.chip with regs := s.chip.gat.live }).regs } } }

def bs20 : List Byte := (List.range 40).map fun i => BitVec.ofNat 8 (i * 37 + 11)

def lastP : Fin 0x10000000 := 0xC9FFFFC

def mp : State := { own0 with mem := ({} : Mem).pantryWrite 11 0x1FFFE0 (bs20.take 32) }

theorem witness_BusWritesAlso :
    (∃ (a : Access) (off : Fin 268435456) (s : State), s.chip.coreUp = true ∧ (∃ q ∈ pantryAt off.val, s.chip.isOwner
      a.who = true ∧ s.chip.judge (96 + q.1) (s.chip.gateView a q.2 true) = none ∧ off.val % 4 = 0 ∧ s.chip.acd.jobs =
      [] ∧ s.chip.enabledJobs = [])) ∧
    (∃ (a : Access) (off : Fin 268435456) (s : State), s.chip.coreUp = true ∧ (pantryAt off.val).isSome = true ∧
      s.chip.isOwner a.who = false) :=
  ⟨
    ⟨{ who := .fw, be := 10 }, lastP, mp, by decide +kernel⟩,
    ⟨{who := .part 1}, lastP, mp, by decide +kernel⟩⟩

theorem witness_BusReads :
    (∃ (a : Access) (off : Fin 268435456) (s : State), s.chip.coreUp = true ∧ pantryAt off.val = none ∧ (∃ k ∈
      s.chip.keyAt off.val, s.chip.judge 109 (s.chip.gateView a off.val false) = none ∧ k.reg ≠ Reg.LPB_CFG_DATA ∧
      k.reg ≠ Reg.TIM_TS_LO ∧ k.reg.partners = [] ∧ k.reg.block ≠ Blk.tct)) ∧
    (∃ (a : Access) (off : Fin 268435456) (s : State), s.chip.coreUp = true ∧ pantryAt off.val = none ∧ s.chip.keyAt
      off.val = none ∧ s.chip.judge 109 (s.chip.gateView a off.val false) = none) ∧
    (∃ (a : Access) (off : Fin 268435456) (s : State), s.chip.coreUp = true ∧ (∃ q ∈ pantryAt off.val, s.chip.judge
      (96 + q.1) (s.chip.gateView a q.2 false) = none)) ∧
    (∃ (a : Access) (off : Fin 268435456) (s : State), s.chip.coreUp = true ∧ (s.chip.judge
      (match pantryAt off.val with   | some q => 96 + q.1   | none => 109)   (s.chip.gateView a     (match pantryAt off.val with     | some q => q.2     | none => off.val)     false)).isSome = true) ∧
    (∃ (a : Access) (off : Fin 268435456) (s : State), s.chip.coreUp = true ∧ pantryAt off.val = none ∧ (∃ k ∈
      s.chip.keyAt off.val, s.chip.judge 109 (s.chip.gateView a off.val false) = none ∧ a.full = true ∧ k.reg ≠
      Reg.TIM_TS_LO ∧ k.reg.block ≠ Blk.tct ∧ (k.reg.hiOf).isSome = true)) ∧
    (∃ (a : Access) (off : Fin 268435456) (s : State), s.chip.coreUp = true ∧ pantryAt off.val = none ∧ (∃ k ∈
      s.chip.keyAt off.val, s.chip.judge 109 (s.chip.gateView a off.val false) = none ∧ a.full = false ∧ k.reg ≠
      Reg.TIM_TS_LO ∧ k.reg.block ≠ Blk.tct ∧ k.reg.hiOf ≠ none)) :=
  ⟨
    ⟨fw, ad ⟨.PWR_CFG,0,0⟩, {}, by decide +kernel⟩,
    ⟨host, 0xFFFFFC, mk [], by decide +kernel⟩,
    ⟨host, lastP, mp, by decide +kernel⟩,
    ⟨fw, ad ⟨.PWR_CFG,0,0⟩, liveDef 109 [F.GAT_GATE_CFG.MODE.is 0, F.GAT_GATE_DEF.R.is 0] {}, by decide +kernel⟩,
    ⟨fw, ad ⟨.TIM_NOW_LO,0,0⟩, mk [] (fun c => {c with tim := {c.tim with count := 0x123456789ABCDEF012345678}}),
      by decide +kernel⟩,
    ⟨{who := .bmc, be := 6}, ad ⟨.GLB_FLC_BASE_LO,4095,0⟩, mk [], by decide +kernel⟩⟩

theorem witness_PairsAndConfigRequests :
    (∃ (a : Access) (off : Fin 268435456) (v : Word) (s : State), s.chip.coreUp = true ∧ pantryAt off.val = none ∧ (∃
      k ∈ s.chip.keyAt off.val, k.reg.hiOf ≠ none ∧ k.reg.writable = true ∧ s.chip.passAt a k off.val v = (Pass.ok,
      (s.chip.passAt a k off.val v).2) ∧ (s.chip.passAt a k off.val v).2.accepts k = true)) ∧
    (∃ (a : Access) (off : Fin 268435456) (v : Word) (s : State), s.chip.coreUp = true ∧ pantryAt off.val = none ∧ (∃
      k ∈ s.chip.keyAt off.val, (k.reg.loOf).isSome = true ∧ k.reg.writable = true ∧ s.chip.passAt a k off.val v =
      (Pass.ok, (s.chip.passAt a k off.val v).2) ∧ (s.chip.passAt a k off.val v).2.accepts k = true)) ∧
    (∃ (a : Access) (off : Fin 268435456) (v : Word) (s : State), s.chip.coreUp = true ∧ pantryAt off.val = none ∧ (∃
      k ∈ s.chip.keyAt off.val, (k.reg.hiOf ≠ none ∨ k.reg.loOf ≠ none) ∧ k.reg.writable = true ∧ s.chip.passAt a k
      off.val v = (Pass.ok, (s.chip.passAt a k off.val v).2) ∧ (s.chip.passAt a k off.val v).2.accepts k = false)) :=
  ⟨
    ⟨fw, ad ⟨.GLB_FLC_BASE_LO,4095,0⟩, 0xFFFFFFFF, mk [] (fun c => c.holdLo ⟨.GLB_FLC_BASE_LO,4095,0⟩ 7),
      by decide +kernel⟩,
    ⟨fw, ad ⟨.GLB_FLC_BASE_HI,4095,0⟩, 0xFFFFFFFF, mk [F.GLB_FLC_A.SIZE.is 20 4095] (fun c => (c.holdLo
      ⟨.GLB_FLC_BASE_LO,4095,0⟩ 7).holdLo ⟨.TIM_SET_LO,0,0⟩ 5), by decide +kernel⟩,
    ⟨fw, ad ⟨.GLB_FLC_BASE_HI,4095,0⟩, 0xFFFFFFFF, mk [F.GLB_FLC_A.STATE.is 1 4095] (fun c => (c.holdLo
      ⟨.GLB_FLC_BASE_LO,4095,0⟩ 7).holdLo ⟨.TIM_SET_LO,0,0⟩ 5), by decide +kernel⟩⟩

end Group9

namespace Group10

def bs20 : List Byte := (List.range 40).map fun i => BitVec.ofNat 8 (i * 37 + 11)

def ups : State := up 1 [F.PRT_PORT_CFG.PART.is 3 95, F.GLB_MODE.MODE.is 1] fun c => (((c.setCfg (.port 95) 0x18
    0x060504).setCfg (.mgmt 3) 0x04 6).setCfg (.mgmt 3) 0x3C 0x177).setCfg (.port 95) 0x04 6

def sil (st : Nat) (more : List FieldVal) (h : SilH := {}) : State := mk ([F.FLT_SIL_STATUS.STATE.is st,
    F.FLT_SIL_CFG.ARM.is 1, F.FLT_SIL_CFG.PROBE_EN.is 0x8001, F.FLT_SIL_CFG.POST.is 100, F.FLT_SIL_STATUS.NEXT.is
    4095, F.FLT_SIL_PROBE.MASK.is 0xFF00 15, F.FLT_SIL_PROBE.UNIT.is 6 15] ++ more) fun c => {c with sil := h}

def s3 : State := sil 3 [F.FLT_SIL_CFG.ARM.is 0, F.FLT_SIL_STATUS.TRIG_REC.is 5] {left := 4}

theorem witness_PairsAndConfigRequestsAlso :
    (∃ (p : Fin 32) (k : Packet) (s : State) (u : Nat) (f : Fn), s.chip.coreUp = true ∧ s.chip.upPort? p.val = some u
      ∧ s.chip.linkLive u = true ∧ k.kind = PktKind.cfgRd ∧ k.malformed = false ∧ k.ide = false ∧ k.poisoned = false ∧
      k.tag < 1024 ∧ k.data = [] ∧ s.chip.cel.capWaiting = [] ∧ s.chip.cel.copies = [] ∧ s.chip.partRefuses p.val =
      false ∧ s.chip.admitting = true ∧ s.chip.resolve (some p.val) (some u) k = Hit.own ∧ (s.chip.part p.val).flr =
      false ∧ s.chip.ownHit p.val k = OwnHit.cfg f) ∧
    (∃ (p : Fin 32) (k : Packet) (s : State), s.chip.coreUp = true ∧ (∃ u ∈ s.chip.upPort? p.val, s.chip.linkLive u =
      true ∧ k.kind = PktKind.cfgWr ∧ k.malformed = false ∧ k.ide = false ∧ k.poisoned = false ∧ k.tag < 1024 ∧
      k.data.length = 4 ∧ s.chip.cel.capWaiting = [] ∧ s.chip.cel.copies = [] ∧ s.chip.partRefuses p.val = false ∧
      s.chip.admitting = true ∧ k.lanes = [] ∧ s.chip.resolve (some p.val) (some u) k = Hit.own ∧ (s.chip.part
      p.val).flr = false ∧ s.chip.ownHit p.val k = OwnHit.cfg (Fn.mgmt p.val) ∧ k.addr % 4096 / 4 * 4 = 60)) ∧
    (∃ (p : Fin 32) (s : State), s.chip.upPort? p.val = none) :=
  ⟨
    ⟨3, {kind := .cfgRd, idRoute := 0x500, addr := 0x3C, rid := 0x12, tag := 9, len := 4}, ups, 95, .mgmt 3,
      by decide +kernel⟩,
    ⟨3, {kind := .cfgWr, idRoute := 0x500, addr := 0x3C, rid := 0x12, tag := 9, len := 4, data := bs20.take 4}, ups,
      by decide +kernel⟩,
    ⟨3, {}, by decide +kernel⟩⟩

theorem witness_CounterCommands :
    (∃ (a : Access) (v : Word) (s : State) (c : Chip), s.passes a { reg := Reg.CTR_SNAP } v c ∧ wbit v 31 = true ∧
      wbit v 29 = false ∧ c.fld F.CTR_SNAP_STATUS.BUSY = 0) ∧
    (∃ (a : Access) (v : Word) (s : State) (c : Chip), s.passes a { reg := Reg.CTR_SNAP } v c ∧ wbit v 31 = true ∧
      wbit v 29 = false ∧ c.fld F.CTR_SNAP_STATUS.BUSY = 1) ∧
    (∃ (a : Access) (v : Word) (s : State) (c : Chip), s.passes a { reg := Reg.CTR_SNAP } v c ∧ wbit v 31 = false ∧
      wbit v 29 = false) ∧
    (∃ (a : Access) (v : Word) (s : State) (c : Chip), s.passes a { reg := Reg.CTR_SNAP } v c ∧ wbit v 31 = false ∧
      wbit v 29 = true ∧ c.fld F.CTR_SNAP_STATUS.BUSY = 0) ∧
    (∃ (a : Access) (v : Word) (s : State) (c : Chip), s.passes a { reg := Reg.CTR_SNAP } v c ∧ wbit v 31 = false ∧
      wbit v 29 = true ∧ c.fld F.CTR_SNAP_STATUS.BUSY = 1) ∧
    (∃ (s : State), s.chip.coreUp = true ∧ s.chip.fld F.CTR_SNAP_STATUS.BUSY = 1 ∧ s.chip.ctr.clearHeld = false) ∧
    (∃ (s : State), s.chip.coreUp = true ∧ s.chip.fld F.CTR_SNAP_STATUS.BUSY = 1 ∧ s.chip.ctr.clearHeld = true) ∧
    (∃ (u : Fin 4096) (i : Fin 8) (s : State), s.chip.coreUp = true ∧ s.chip.fld F.CTR_SNAP_STATUS.FROZEN = 0 ∧ i.val
      < unitSize u.val ∧ s.chip.fld F.TCT_EVT_CFG.EN u.val i.val = 1 ∧ s.chip.pair Reg.TCT_CNT_LO Reg.TCT_CNT_HI u.val
      i.val = 2 ^ 48 - 1) ∧
    (∃ (u : Fin 4096) (s : State), s.chip.coreUp = true ∧ unitSize u.val ≠ 0 ∧ 2 ^ 48 ≤ s.chip.cycles (unitCycles
      u.val).1 / (unitCycles u.val).2) :=
  ⟨
    ⟨fw, 0xC0000000, mk [F.CTR_SNAP_STATUS.COUNT.is 65535, F.CTR_SNAP_STATUS.BY_SILLAGE.is 1, F.TCT_CNT_LO.COUNT.is 7
      6 2], pc (mk [F.CTR_SNAP_STATUS.COUNT.is 65535, F.CTR_SNAP_STATUS.BY_SILLAGE.is 1, F.TCT_CNT_LO.COUNT.is 7 6 2])
      fw ⟨.CTR_SNAP,0,0⟩ 0xC0000000, by decide +kernel⟩,
    ⟨fw, 0xC0000000, mk [F.CTR_SNAP_STATUS.BUSY.is 1], pc (mk [F.CTR_SNAP_STATUS.BUSY.is 1]) fw ⟨.CTR_SNAP,0,0⟩
      0xC0000000, by decide +kernel⟩,
    ⟨fw, 0x40000000, mk [], pc (mk []) fw ⟨.CTR_SNAP,0,0⟩ 0x40000000, by decide +kernel⟩,
    ⟨fw, 0x20000000, mk [F.CTR_SNAP_STATUS.VALID.is 1, F.TCT_CNT_LO.COUNT.is 7 6 2] (fun c => {c with hwy := 1000}),
      pc (mk [F.CTR_SNAP_STATUS.VALID.is 1, F.TCT_CNT_LO.COUNT.is 7 6 2] (fun c => {c with hwy := 1000})) fw
      ⟨.CTR_SNAP,0,0⟩ 0x20000000, by decide +kernel⟩,
    ⟨fw, 0x20000000, mk [F.CTR_SNAP_STATUS.BUSY.is 1, F.TCT_CNT_LO.COUNT.is 7 6 2], pc (mk [F.CTR_SNAP_STATUS.BUSY.is
      1, F.TCT_CNT_LO.COUNT.is 7 6 2]) fw ⟨.CTR_SNAP,0,0⟩ 0x20000000, by decide +kernel⟩,
    ⟨mk [F.CTR_SNAP_STATUS.BUSY.is 1, F.CTR_SNAP_STATUS.COUNT.is 65535], by decide +kernel⟩,
    ⟨mk [F.CTR_SNAP_STATUS.BUSY.is 1, F.TCT_CNT_LO.COUNT.is 7 6 2] (fun c =>
      {c with ctr := {c.ctr with clearHeld := true}}), by decide +kernel⟩,
    ⟨0, 0, mk [F.TCT_EVT_CFG.EN.is 1 0 0, F.TCT_CNT_LO.COUNT.is 0xFFFFFFFF 0 0, F.TCT_CNT_HI.COUNT.is 0xFFFF 0 0],
      by decide +kernel⟩,
    ⟨0, mk [] (fun c => {c with ctr := {c.ctr with cycles := (List.range 16).map fun g => (g, 2^50)}}),
      by decide +kernel⟩⟩

theorem witness_SillageCommands :
    (∃ (a : Access) (v : Word) (s : State) (c : Chip), s.passes a { reg := Reg.FLT_SIL_CFG } v c ∧ wbit v 31 = true ∧
      c.fld F.FLT_SIL_CFG.ARM = 0 ∧ (c.silState = 0 ∨ c.silState = 3)) ∧
    (∃ (a : Access) (v : Word) (s : State) (c : Chip), s.passes a { reg := Reg.FLT_SIL_CFG } v c ∧ wbit v 31 = false ∧
      c.fld F.FLT_SIL_CFG.ARM = 1 ∧ (c.silState = 1 ∨ c.silState = 2)) ∧
    (∃ (p : Fin 16) (vector : Fin 65536) (s : State), s.chip.coreUp = true ∧ (s.chip.silState = 1 ∨ s.chip.silState =
      2 ∧ s.chip.sil.left ≠ 0) ∧ bit (s.chip.fld F.FLT_SIL_CFG.PROBE_EN) p.val = true ∧ vector.val.land (s.chip.fld
      F.FLT_SIL_PROBE.MASK p.val) ≠ Table.get 0 s.chip.sil.last p.val) ∧
    (∃ (p : Fin 16) (vector : Fin 65536) (s : State), vector.val.land (s.chip.fld F.FLT_SIL_PROBE.MASK p.val) =
      Table.get 0 s.chip.sil.last p.val ∧ ((s.chip.sil.seen.all fun q => q.1 != p.val) = true)) ∧
    (∃ (a : Access) (v : Word) (s : State) (c : Chip), s.passes a { reg := Reg.FLT_SIL_CTL } v c ∧ wbit v 31 = true ∧
      c.silState = 1 ∧ c.fld F.FLT_SIL_CFG.SNAP_ON_TRIG = 0) ∧
    (∃ (a : Access) (v : Word) (s : State) (c : Chip), s.passes a { reg := Reg.FLT_SIL_CTL } v c ∧ (wbit v 31 = false
      ∨ c.silState ≠ 1)) ∧
    (∃ (s : State), s.chip.coreUp = true ∧ s.chip.silState = 2 ∧ s.chip.sil.left = 0) :=
  ⟨
    ⟨fw, 0xFFFFFFFF, s3, pc s3 fw ⟨.FLT_SIL_CFG,0,0⟩ 0xFFFFFFFF, by decide +kernel⟩,
    ⟨fw, 0x7FFFFFFF, sil 1 [], pc (sil 1 []) fw ⟨.FLT_SIL_CFG,0,0⟩ 0x7FFFFFFF, by decide +kernel⟩,
    ⟨15, 0xABCD, sil 1 [] {drops := [15,3]}, by decide +kernel⟩,
    ⟨15, 0x00CD, sil 2 [] {left := 3}, by decide +kernel⟩,
    ⟨fw, 0x80000000, sil 1 [], pc (sil 1 []) fw ⟨.FLT_SIL_CTL,0,0⟩ 0x80000000, by decide +kernel⟩,
    ⟨fw, 0x80000000, sil 0 [], pc (sil 0 []) fw ⟨.FLT_SIL_CTL,0,0⟩ 0x80000000, by decide +kernel⟩,
    ⟨sil 2 [], by decide +kernel⟩⟩

end Group10

namespace Group11

def liveDef (g : Nat) (vs : List FieldVal) (s : State) : State :=
    { s with chip := { s.chip with gat := { s.chip.gat with live := (vs.foldl (fun (c : Chip) e => c.setFld e.f (e.v.getD 0) g) { s.chip with regs := s.chip.gat.live }).regs } } }

def bs20 : List Byte := (List.range 40).map fun i => BitVec.ofNat 8 (i * 37 + 11)

def db (h : DbgH) (more : List FieldVal := []) : State := mk more fun c => {c with dbg := h}

def lcF (n : Nat) : List FieldVal := [F.GAT_LIFECYCLE.STATE.is n]

theorem witness_DebugAndBoundaryScan :
    (∃ (s : State), s.chip.tapUp = true ∧ s.chip.coreUp = true ∧ s.chip.dbg.busy = none ∧ s.chip.fld
      F.CTR_DBG_STATUS.ATTACHED = 1 ∧ s.chip.fld F.PWR_STATUS.STATE ≠ 2) ∧
    (∃ (s : State), s.chip.tapUp = true ∧ s.chip.coreUp = true ∧ s.chip.dbg.busy = none ∧ s.chip.fld
      F.CTR_DBG_STATUS.ATTACHED = 0) ∧
    (∃ (write read : Bool) (s : State), s.chip.tapUp = true ∧ (s.chip.dbg.busy ≠ none ∨ write = true ∧ read = true ∨
      write ≠ read ∧ s.chip.coreUp = false)) ∧
    (∃ (v : Word) (s : State), s.chip.coreUp = true ∧ s.chip.dbg.busy = some (false, v) ∧ s.chip.dbgSpace = 3 ∧
      s.chip.dbgTile < 12 ∧ s.chip.dbgOff < pantrySize ∧ s.chip.judge (96 + s.chip.dbgTile) (dbgView s.chip.dbgOff
      false) = none) ∧
    (∃ (w : Bool) (v : Word) (s : State), s.chip.coreUp = true ∧ s.chip.dbg.busy = some (w, v) ∧ 5 ≤ s.chip.dbgSpace) ∧
    (∃ (w : Bool) (v : Word) (s : State) (r : Nat), s.chip.coreUp = true ∧ s.chip.dbg.busy = some (w, v) ∧
      s.chip.dbgSpace = 1 ∧ s.chip.dbgOff < 4194304 ∧ s.chip.judge 108 (dbgView s.chip.dbgOff w) = some r) ∧
    (∃ (s : State), s.chip.tapUp = true) ∧
    (∃ (s : State), s.chip.tapUp = true ∧ s.chip.dbg.busy = none) ∧
    (∃ (s : State), s.chip.tapUp = true ∧ s.chip.dbg.busy = none ∧ (s.chip.dbg.lcPending ≠ none ∨ s.chip.lifecycle ≠
      1)) ∧
    (∃ (nonce : Word) (s : State), s.chip.tapUp = true ∧ s.chip.dbg.busy = none ∧ s.chip.dbg.lcPending = none ∧
      s.chip.lifecycle = 1 ∧ s.chip.nonceOk (BitVec.toNat nonce) = true) ∧
    (∃ (nonce : Word) (s : State), s.chip.tapUp = true ∧ s.chip.dbg.busy = none ∧ s.chip.dbg.lcPending = none ∧
      s.chip.lifecycle = 1 ∧ s.chip.nonceOk (BitVec.toNat nonce) = false) ∧
    (∃ (s : State), s.chip.tapUp = true ∧ s.chip.lifecycle = 0) ∧
    (∃ (s : State), s.chip.tapUp = true ∧ s.chip.lifecycle ≠ 0) ∧
    (∃ (s : State), s.chip.tapUp = false) :=
  ⟨
    ⟨db {} [F.CTR_DBG_STATUS.ATTACHED.is 1, F.CTR_DBG_STATUS.ACCESSES.is 65535], by decide +kernel⟩,
    ⟨db {addr := 77}, by decide +kernel⟩,
    ⟨false, true, db {addr := 77, busy := some (true, 5)}, by decide +kernel⟩,
    ⟨9,
      { db {addr := 0x3 * 2^36 + 0xB * 2^32 + 0x1FFFE0, busy := some (false, 9)} with mem := ({}:Mem).pantryWrite 11 0x1FFFE0 bs20 },
      by decide +kernel⟩,
    ⟨true, 9, db {addr := 0xF * 2^36 + 5, busy := some (true, 9)}, by decide +kernel⟩,
    ⟨true, 9, liveDef 108 [F.GAT_GATE_CFG.MODE.is 0, F.GAT_GATE_DEF.MASTERS.is 0, F.GAT_GATE_DEF.W.is 0] (db
      {addr := 0x1 * 2^36 + 8, busy := some (true, 9)} (lcF 1)), 1, by decide +kernel⟩,
    ⟨mk [], by decide +kernel⟩,
    ⟨mk [], by decide +kernel⟩,
    ⟨mk [], by decide +kernel⟩,
    ⟨5, db {nonce := some (5, 0)} (lcF 1), by decide +kernel⟩,
    ⟨6, db {nonce := some (5, 0)} (lcF 1), by decide +kernel⟩,
    ⟨db {ir := 66}, by decide +kernel⟩,
    ⟨db {ir := 66} (lcF 2), by decide +kernel⟩,
    ⟨mk [F.PWR_STATUS.STATE.is 3] fun c => c.updPwr fun h => {h with coreOn := false}, by decide +kernel⟩⟩

end Group11

namespace Group12

def liveDef (g : Nat) (vs : List FieldVal) (s : State) : State :=
    { s with chip := { s.chip with gat := { s.chip.gat with live := (vs.foldl (fun (c : Chip) e => c.setFld e.f (e.v.getD 0) g) { s.chip with regs := s.chip.gat.live }).regs } } }

def fu (ns : List Nat) : List FieldVal := ns.flatMap fun n => [F.PRT_PORT_CFG.EN.is 1 n, F.PRT_PORT_CFG.PROTO.is 1 n,
    F.PRT_FL_STATUS.LSTATE.is 4 n]

def liveFab (vs : List FieldVal) (s : State) : State :=
    { s with chip := { s.chip with fab := { s.chip.fab with live := (vs.foldl (fun (c : Chip) e => c.setFld e.f (e.v.getD 0) e.i e.j) { s.chip with regs := s.chip.fab.live }).regs } } }

def crt : List FieldVal := [F.FAB_CRT.VALID.is 1 1 63, F.FAB_CRT.GROUP.is 31 1 63, Reg.FAB_GRP_A.is (word (0x80 + 95 +
    2^8 * (0x80 + 90))) 31]

def rc : State := mk (fu [95, 90, 91] ++ crt ++ [F.FAB_ROUTE_COMMIT.EPOCH.is 65535]) fun c =>
    {c with fab := {c.fab with pairs := [{entry := 127, bucket := 63, port := 91}, {entry := 127, bucket := 62, port := 88}, {entry := 127, bucket := 61, port := 90}, {entry := 3, bucket := 61, port := 90}]}}

def rm : State := liveFab crt (mk (fu [95, 90, 91] ++ [F.FAB_ROUTE_COMMIT.MOVING.is 1]) fun c =>
    {c with fab := {c.fab with moves := [⟨127, 63⟩], pairs := [{entry := 127, bucket := 63, port := 91}, {entry := 127, bucket := 62, port := 88}]}})

def cop (id n : Nat) (k : Packet) (d : Dest) : Copy :=
    {id, pid := 1, pkt := k, src := .port n, part := none, dest := d, stamp := 0, cells := 1, charge := .none}

def gt (st : Nat) (old : List Nat := []) : State := mk [F.GAT_COMMIT_STATUS.STATE.is st, F.GAT_COMMIT_STATUS.EPOCH.is
    65535, F.GAT_RGN_A.SIZE.is 5 111 31] fun c =>
    {c with cel := {c.cel with copies := [cop 4 95 {} (.pantry 11), cop 5 95 {} (.port 3)]}, gat := {c.gat with old}}

def hd (op idx cnt addr : Nat) (hops := 5) : FabHdr :=
    {typ := 2, hops, lenWords := 20, dstChip := 3, srcChip := 9, dstDomain := 2, srcDomain := 1, disc := {op, tag := 0x1234, hopIdx := idx, hopCnt := cnt, addr, hops := [90, 95, 90, 90, 90, 90, 90, 90]}}

def ds (more : List FieldVal := []) : State := mk (fu [95, 90] ++ [F.GLB_MODE.MODE.is 6, F.FAB_CFG.DISC_EN.is 1,
    F.FAB_CFG.HOPS_INIT.is 14, F.FAB_ID.VALID.is 1, F.FAB_ID.DOMAIN.is 2, F.FAB_ID.CHIP.is 3] ++ more) fun c =>
    {c with cel := {c.cel with sharedSize := 9}, fab := {c.fab with discOut := [0x1234]}}

theorem witness_CommitsOfRoutesAndGates :
    (∃ (a : Access) (v : Word) (s : State) (c : Chip), s.passes a { reg := Reg.FAB_ROUTE_COMMIT } v c ∧ wbit v 31 =
      true) ∧
    (∃ (a : Access) (v : Word) (s : State) (c : Chip), s.passes a { reg := Reg.FAB_ROUTE_COMMIT } v c ∧ wbit v 31 =
      false) ∧
    (∃ (e : Fin 128) (b : Fin 64) (s : State), s.chip.coreUp = true ∧ { entry := e.val, bucket := b.val } ∈
      s.chip.fab.moves ∧ (s.chip.pairNew e.val b.val).isSome = true) ∧
    (∃ (e : Fin 128) (b : Fin 64) (s : State), { entry := e.val, bucket := b.val } ∉ s.chip.fab.moves) ∧
    (∃ (a : Access) (v : Word) (s : State) (c : Chip), s.passes a { reg := Reg.GAT_COMMIT } v c ∧ wbit v 31 = true ∧
      c.fld F.GAT_COMMIT_STATUS.STATE ≠ 1 ∧ (∀ k ∈ c.cel.copies, k.unadmitted = false ∨ k.started = true ∨ k.cat =
      Cat.completion)) ∧
    (∃ (a : Access) (v : Word) (s : State) (c : Chip), s.passes a { reg := Reg.GAT_COMMIT } v c ∧ wbit v 31 = true ∧
      c.fld F.GAT_COMMIT_STATUS.STATE = 1) ∧
    (∃ (a : Access) (v : Word) (s : State) (c : Chip), s.passes a { reg := Reg.GAT_COMMIT } v c ∧ wbit v 31 = false) ∧
    (∃ (s : State), s.chip.coreUp = true ∧ s.chip.fld F.GAT_COMMIT_STATUS.STATE = 1 ∧ (∀ k ∈ s.chip.cel.copies, k.id ∉
      s.chip.gat.old)) ∧
    (∃ (s : State), (s.chip.fld F.GAT_COMMIT_STATUS.STATE ≠ 1 ∨ ∃ k ∈ s.chip.cel.copies, k.id ∈ s.chip.gat.old)) :=
  ⟨
    ⟨fw, 0x80000000, rc, pc rc fw ⟨.FAB_ROUTE_COMMIT,0,0⟩ 0x80000000, by decide +kernel⟩,
    ⟨fw, 0x00000000, rc, pc rc fw ⟨.FAB_ROUTE_COMMIT,0,0⟩ 0x00000000, by decide +kernel⟩,
    ⟨127, 63, rm, by decide +kernel⟩,
    ⟨127, 62, rm, by decide +kernel⟩,
    ⟨fw, 0x80000000, gt 2, pc (gt 2) fw ⟨.GAT_COMMIT,0,0⟩ 0x80000000, by decide +kernel⟩,
    ⟨fw, 0x80000000, gt 1, pc (gt 1) fw ⟨.GAT_COMMIT,0,0⟩ 0x80000000, by decide +kernel⟩,
    ⟨fw, 0x00000000, gt 0, pc (gt 0) fw ⟨.GAT_COMMIT,0,0⟩ 0x00000000, by decide +kernel⟩,
    ⟨gt 1 [7], by decide +kernel⟩,
    ⟨gt 1 [4], by decide +kernel⟩⟩

theorem witness_DiscPackets :
    (∃ (n : Fin 96) (h : FabHdr) (s : State), s.chip.coreUp = true ∧ s.chip.isFleren n.val = true ∧ s.chip.flUp n.val
      = true ∧ s.chip.capBehind n.val = false ∧ h.typ = 2 ∧ 0 < h.lenWords ∧ h.lenWords ≤ 521 ∧ s.chip.discMode = true
      ∧ s.chip.ownIdentity h.asDisc h = false ∧ (h.disc.hopIdx ≠ 0 ∨ s.chip.routeTo h.dstDomain h.dstChip =
      RouteDec.here) ∧ h.disc.hopCnt ≤ h.disc.hopIdx ∧ s.chip.flag F.FAB_CFG.DISC_EN = true ∧ (h.disc.op = 1 ∨
      h.disc.op = 2) ∧ 6524 < h.disc.addr / 4 * 4) ∧
    (∃ (n : Fin 96) (h : FabHdr) (s : State), s.chip.coreUp = true ∧ s.chip.isFleren n.val = true ∧ s.chip.flUp n.val
      = true ∧ s.chip.capBehind n.val = false ∧ h.typ = 2 ∧ 0 < h.lenWords ∧ h.lenWords ≤ 521 ∧ s.chip.discMode = true
      ∧ s.chip.ownIdentity h.asDisc h = false ∧ (h.disc.hopIdx ≠ 0 ∨ s.chip.routeTo h.dstDomain h.dstChip =
      RouteDec.here) ∧ h.disc.hopCnt ≤ h.disc.hopIdx ∧ s.chip.flag F.FAB_CFG.DISC_EN = true ∧ (h.disc.op = 1 ∨
      h.disc.op = 2) ∧ h.disc.addr / 4 * 4 ≤ 6524 ∧ h.disc.op = 1 ∧ (s.chip.keyAt (234881024 + h.disc.addr / 4 *
      4)).isSome = true ∧ s.chip.judge 109
      { st := { master := Master.fabric }, addr := 234881024 + h.disc.addr / 4 * 4, reads := true, writes := false } =
      none) ∧
    (∃ (n : Fin 96) (h : FabHdr) (s : State), s.chip.coreUp = true ∧ s.chip.isFleren n.val = true ∧ s.chip.flUp n.val
      = true ∧ s.chip.capBehind n.val = false ∧ h.typ = 2 ∧ 0 < h.lenWords ∧ h.lenWords ≤ 521 ∧ s.chip.discMode = true
      ∧ s.chip.ownIdentity h.asDisc h = false ∧ (h.disc.hopIdx ≠ 0 ∨ s.chip.routeTo h.dstDomain h.dstChip =
      RouteDec.here) ∧ h.disc.hopCnt ≤ h.disc.hopIdx ∧ s.chip.flag F.FAB_CFG.DISC_EN = true ∧ (h.disc.op = 1 ∨
      h.disc.op = 2) ∧ h.disc.addr / 4 * 4 ≤ 6524 ∧ h.disc.op = 1 ∧ (s.chip.judge 109
      { st := { master := Master.fabric }, addr := 234881024 + h.disc.addr / 4 * 4, reads := true, writes := false }).isSome
      = true) ∧
    (∃ (n : Fin 96) (h : FabHdr) (s : State), s.chip.coreUp = true ∧ s.chip.isFleren n.val = true ∧ s.chip.flUp n.val
      = true ∧ s.chip.capBehind n.val = false ∧ h.typ = 2 ∧ 0 < h.lenWords ∧ h.lenWords ≤ 521 ∧ s.chip.discMode = true
      ∧ s.chip.ownIdentity h.asDisc h = false ∧ (h.disc.hopIdx ≠ 0 ∨ s.chip.routeTo h.dstDomain h.dstChip =
      RouteDec.here) ∧ h.disc.hopCnt ≤ h.disc.hopIdx ∧ s.chip.flag F.FAB_CFG.DISC_EN = true ∧ (h.disc.op = 1 ∨
      h.disc.op = 2) ∧ h.disc.addr / 4 * 4 ≤ 6524 ∧ h.disc.op = 2 ∧ s.chip.flag F.FAB_CFG.REMOTE_WR = false) ∧
    (∃ (n : Fin 96) (h : FabHdr) (s : State), s.chip.coreUp = true ∧ s.chip.isFleren n.val = true ∧ s.chip.flUp n.val
      = true ∧ s.chip.capBehind n.val = false ∧ h.typ = 2 ∧ 0 < h.lenWords ∧ h.lenWords ≤ 521 ∧ s.chip.discMode = true
      ∧ s.chip.ownIdentity h.asDisc h = false ∧ (h.disc.hopIdx ≠ 0 ∨ s.chip.routeTo h.dstDomain h.dstChip =
      RouteDec.here ∧ s.chip.flag F.FAB_CFG.DISC_EN = true) ∧ h.disc.hopIdx < h.disc.hopCnt ∧ h.disc.hops.length = 8 ∧
      h.disc.hopIdx < 8 ∧ h.disc.op ≠ 129 ∧ h.disc.op ≠ 130 ∧ s.chip.memberLive (h.disc.hops.getD h.disc.hopIdx 0) =
      true ∧ 1 < h.hops) ∧
    (∃ (n : Fin 96) (h : FabHdr) (s : State), s.chip.coreUp = true ∧ s.chip.isFleren n.val = true ∧ s.chip.flUp n.val
      = true ∧ s.chip.capBehind n.val = false ∧ h.typ = 2 ∧ 0 < h.lenWords ∧ h.lenWords ≤ 521 ∧ s.chip.discMode = true
      ∧ s.chip.ownIdentity h.asDisc h = false ∧ (h.disc.hopIdx ≠ 0 ∨ s.chip.routeTo h.dstDomain h.dstChip =
      RouteDec.here ∧ s.chip.flag F.FAB_CFG.DISC_EN = true) ∧ h.disc.hopIdx < h.disc.hopCnt ∧ h.disc.hops.length = 8 ∧
      h.disc.hopIdx < 8 ∧ h.disc.op ≠ 129 ∧ h.disc.op ≠ 130 ∧ s.chip.memberLive (h.disc.hops.getD h.disc.hopIdx 0) =
      true ∧ h.hops ≤ 1) ∧
    (∃ (n : Fin 96) (h : FabHdr) (s : State), s.chip.coreUp = true ∧ s.chip.isFleren n.val = true ∧ s.chip.flUp n.val
      = true ∧ s.chip.capBehind n.val = false ∧ h.typ = 2 ∧ 0 < h.lenWords ∧ h.lenWords ≤ 521 ∧ s.chip.discMode = true
      ∧ s.chip.ownIdentity h.asDisc h = false ∧ (h.disc.op = 129 ∨ h.disc.op = 130) ∧ 2 ≤ h.disc.hopIdx ∧ s.chip.flUp
      (h.disc.hops.getD (h.disc.hopIdx - 1) 0) = true ∧ 1 < h.hops) ∧
    (∃ (n : Fin 96) (h : FabHdr) (s : State), s.chip.coreUp = true ∧ s.chip.isFleren n.val = true ∧ s.chip.flUp n.val
      = true ∧ s.chip.capBehind n.val = false ∧ h.typ = 2 ∧ 0 < h.lenWords ∧ h.lenWords ≤ 521 ∧ s.chip.discMode = true
      ∧ s.chip.ownIdentity h.asDisc h = false ∧ (h.disc.op = 129 ∨ h.disc.op = 130) ∧ h.disc.hopIdx ≤ 1 ∧
      s.chip.routeTo h.dstDomain h.dstChip = RouteDec.here) ∧
    (∃ (tag : Fin 65536) (s : State), s.chip.coreUp = true ∧ tag.val ∈ s.chip.fab.discOut) ∧
    (∃ (tag : Fin 65536) (s : State), tag.val ∉ s.chip.fab.discOut) :=
  ⟨
    ⟨95, hd 1 0 0 0x1980, ds, by decide +kernel⟩,
    ⟨95, hd 1 0 0 0x10, ds, by decide +kernel⟩,
    ⟨95, hd 1 0 0 0x10, liveDef 109 [F.GAT_GATE_CFG.MODE.is 0, F.GAT_GATE_DEF.R.is 0] ds, by decide +kernel⟩,
    ⟨95, hd 2 0 0 0x10, ds, by decide +kernel⟩,
    ⟨95, hd 1 0 3 0x10, ds, by decide +kernel⟩,
    ⟨95, hd 1 7 8 0x10 1, {ds with chip := ds.chip.setFld F.FAB_CFG.DISC_EN 0}, by decide +kernel⟩,
    ⟨95, hd 0x81 3 3 0x10, ds, by decide +kernel⟩,
    ⟨95, hd 0x81 1 3 0x10, ds, by decide +kernel⟩,
    ⟨0x1234, ds, by decide +kernel⟩,
    ⟨0x1235, ds, by decide +kernel⟩⟩

end Group12

namespace Group13

def ft (ms : List FaultMsg) (more : List FieldVal := []) (f : Chip → Chip := id) : State := mk ([F.LBX_OWNER.VALID.is
    1] ++ more) fun c => f {c with flt := {c.flt with intake := ms}}

def m0 (src sev : Nat) : FaultMsg :=
    {source := src, kind := 0x18, sev, part := some 31, handle := 0x123456789ABCDEF, time := 0x123456789}

def fs (sf : Nat) : State := mk [F.FLT_STATUS.FAULT_N_ACT.is 1, F.FLT_STATUS.SAFE_SEEN.is 1, F.FLT_STATUS.SAFE.is sf,
    F.FLT_CONTAIN_PTN.PTN.is 0xFF, F.FLT_CONTAIN_SEG.SEG.is 1, Reg.FLT_CONTAIN_PORT.is 0xFFFFFFFF 2,
    F.PRT_PORT_CFG.EN.is 1 95,  F.PRT_PORT_CFG.EN.is 1 94, F.PRT_PORT_CFG.ROLE.is 1 94] fun c =>
    {c with pwr := {c.pwr with faultN := true}}

def dq (q : Bool) (who : Src) : State := mk [] fun c =>
    {c with flt := {c.flt with dev := [{part := some 31, tag := 16383, who, addr := 0x1000, len := 64, quarantined := q}, {part := none, tag := 16383, who := .firmware, addr := 0x1000, len := 64}]}}

def cop (id n : Nat) (k : Packet) (d : Dest) : Copy :=
    {id, pid := 1, pkt := k, src := .port n, part := none, dest := d, stamp := 0, cells := 1, charge := .none, hier := 127}

def orp : State := mk [] fun c =>
    {c with flt := {c.flt with track := [{port := 3, copy := cop 4 3 {rid := 0xFFFF, tag := 16383} (.port 3), rem := 4, addr := 0, orphan := true}]}}

theorem witness_FaultMessages :
    (∃ (c : Chip) (m : FaultMsg), c.nextFault? = some m) ∧
    (∃ (s : State), s.chip.coreUp = true ∧ s.chip.fld F.PWR_STATUS.STATE = 0 ∧ s.chip.safe = false ∧ (∃ m ∈
      s.chip.nextFault?, m.source < 512 ∧ m.kind ≠ 1 ∧ m.kind ≠ 40 ∧ ((if s.chip.fld F.FLT_SRC.SEV_OVR_EN m.source = 1
      then s.chip.fld F.FLT_SRC.SEV_OVR m.source else m.sev) < 4) ∧ s.chip.fld F.FLT_SRC.MASK m.source = 1)) ∧
    (∃ (s : State), s.chip.coreUp = true ∧ s.chip.fld F.PWR_STATUS.STATE = 0 ∧ s.chip.safe = false ∧ (∃ m ∈
      s.chip.nextFault?, m.source < 512 ∧ m.kind ≠ 1 ∧ m.kind ≠ 40 ∧ ((if s.chip.fld F.FLT_SRC.SEV_OVR_EN m.source = 1
      then s.chip.fld F.FLT_SRC.SEV_OVR m.source else m.sev) < 4) ∧ s.chip.fld F.FLT_SRC.MASK m.source = 0 ∧ m.forced
      = false ∧ m.unlogged = false ∧ (s.chip.fld F.FLT_ACT.ACT (if s.chip.fld F.FLT_SRC.SEV_OVR_EN m.source = 1 then
      s.chip.fld F.FLT_SRC.SEV_OVR m.source else m.sev) = 1 ∨ s.chip.fld F.FLT_ACT.ACT (if s.chip.fld
      F.FLT_SRC.SEV_OVR_EN m.source = 1 then s.chip.fld F.FLT_SRC.SEV_OVR m.source else m.sev) = 5) ∧ s.chip.owner? ≠
      none ∧ (s.chip.fld F.FLT_LOG_PROD.PROD + 2048 - s.chip.fld F.FLT_LOG_CONS.CONS) % 2048 ≠ 1024)) ∧
    (∃ (s : State), s.chip.coreUp = true ∧ s.chip.fld F.PWR_STATUS.STATE = 0 ∧ s.chip.safe = false ∧ (∃ m ∈
      s.chip.nextFault?, m.source < 512 ∧ m.kind ≠ 1 ∧ m.kind ≠ 40 ∧ ((if s.chip.fld F.FLT_SRC.SEV_OVR_EN m.source = 1
      then s.chip.fld F.FLT_SRC.SEV_OVR m.source else m.sev) < 4) ∧ s.chip.fld F.FLT_SRC.MASK m.source = 0 ∧ m.forced
      = false ∧ (s.chip.fld F.FLT_ACT.ACT (if s.chip.fld F.FLT_SRC.SEV_OVR_EN m.source = 1 then s.chip.fld
      F.FLT_SRC.SEV_OVR m.source else m.sev) = 1) ∧ m.unlogged = false ∧ (s.chip.fld F.FLT_LOG_PROD.PROD + 2048 -
      s.chip.fld F.FLT_LOG_CONS.CONS) % 2048 = 1024)) ∧
    (∃ (s : State), s.chip.coreUp = true ∧ s.chip.fld F.PWR_STATUS.STATE = 0 ∧ s.chip.safe = false ∧ (∃ m ∈
      s.chip.nextFault?, m.source < 512 ∧ m.kind ≠ 1 ∧ m.kind ≠ 40 ∧ ((if s.chip.fld F.FLT_SRC.SEV_OVR_EN m.source = 1
      then s.chip.fld F.FLT_SRC.SEV_OVR m.source else m.sev) < 4) ∧ s.chip.fld F.FLT_SRC.MASK m.source = 0 ∧ m.forced
      = false ∧ (bit (s.chip.fld F.FLT_ACT.ACT (if s.chip.fld F.FLT_SRC.SEV_OVR_EN m.source = 1 then s.chip.fld
      F.FLT_SRC.SEV_OVR m.source else m.sev)) 4 = true) ∧ (bit (s.chip.fld F.FLT_ACT.ACT (if s.chip.fld
      F.FLT_SRC.SEV_OVR_EN m.source = 1 then s.chip.fld F.FLT_SRC.SEV_OVR m.source else m.sev)) 5 = false) ∧ m.source
      ∈ [384, 408, 448] ∧ (∃ p ∈ m.part, p < 32))) ∧
    (∃ (s : State), s.chip.coreUp = true ∧ s.chip.fld F.PWR_STATUS.STATE = 0 ∧ s.chip.safe = false ∧ (∃ m ∈
      s.chip.nextFault?, m.source < 512 ∧ m.kind ≠ 1 ∧ m.kind ≠ 40 ∧ ((if s.chip.fld F.FLT_SRC.SEV_OVR_EN m.source = 1
      then s.chip.fld F.FLT_SRC.SEV_OVR m.source else m.sev) < 4) ∧ s.chip.fld F.FLT_SRC.MASK m.source = 0 ∧ m.forced
      = false ∧ (bit (s.chip.fld F.FLT_ACT.ACT (if s.chip.fld F.FLT_SRC.SEV_OVR_EN m.source = 1 then s.chip.fld
      F.FLT_SRC.SEV_OVR m.source else m.sev)) 5 = true) ∧ (bit (s.chip.fld F.FLT_ACT.ACT (if s.chip.fld
      F.FLT_SRC.SEV_OVR_EN m.source = 1 then s.chip.fld F.FLT_SRC.SEV_OVR m.source else m.sev)) 4 = false))) ∧
    (∃ (s : State), s.chip.flt.intake = []) ∧
    (∃ (s : State), s.chip.coreUp = true) ∧
    (∃ (x : Fin 480), eccSource x.val false = true) ∧
    (∃ (c : Chip) (x : Fin 480), eccSource x.val true = true ∧ c.limitOk (393216 + x.val) msCycles = true) ∧
    (∃ (x : Fin 480) (b : Bool), eccSource x.val b = false) :=
  ⟨
    ⟨(ft [m0 480 1, m0 3 2, m0 511 0, m0 3 1]).chip, m0 3 2, by decide +kernel⟩,
    ⟨ft [m0 470 1, m0 511 0] [F.FLT_SRC.MASK.is 1 470], by decide +kernel⟩,
    ⟨ft [m0 470 1, m0 511 0] [F.FLT_ACT.ACT.is 1 1, F.FLT_LOG_PROD.PROD.is 1023, F.FLT_LOG_CONS.CONS.is 0],
      by decide +kernel⟩,
    ⟨ft [m0 470 1, m0 511 0] [F.FLT_ACT.ACT.is 1 1, F.FLT_LOG_PROD.PROD.is 1024, F.FLT_LOG_CONS.CONS.is 0],
      by decide +kernel⟩,
    ⟨ft [m0 0x198 2, m0 511 0], by decide +kernel⟩,
    ⟨ft [m0 470 3, m0 511 0], by decide +kernel⟩,
    ⟨{}, by decide +kernel⟩,
    ⟨ft [m0 470 1], by decide +kernel⟩,
    ⟨0x15, by decide +kernel⟩,
    ⟨(ft [m0 470 1]).chip, 0x15, by decide +kernel⟩,
    ⟨0x1D8, true, by decide +kernel⟩⟩

theorem witness_FaultControls :
    (∃ (s : State), s.chip.coreUp = true ∧ s.chip.safe = false) ∧
    (∃ (a : Access) (n : Fin 15) (v : Word) (s : State) (c : Chip), s.passes a { reg := Reg.FLT_FORCE, i := n.val } v
      c ∧ c.isExpert a.who = true ∧ c.flt.intake = [] ∧ (∀ b < 32, bit (BitVec.toNat v) b = true → isSource (32 *
      n.val + b) = true)) ∧
    (∃ (a : Access) (n : Fin 15) (v : Word) (s : State) (c : Chip), s.passes a { reg := Reg.FLT_FORCE, i := n.val } v
      c ∧ c.isExpert a.who = true ∧ (∀ b < 32, bit (BitVec.toNat v) b = true → isSource (32 * n.val + b) = false) ∧ v
      ≠ 0) ∧
    (∃ (a : Access) (v : Word) (s : State) (c : Chip), s.passes a { reg := Reg.FLT_STATUS } v c) ∧
    (∃ (a : Access) (v : Word) (s : State) (c : Chip), s.passes a { reg := Reg.FLT_CONTAIN_PTN } v c) ∧
    (∃ (a : Access) (v : Word) (s : State) (c : Chip), s.passes a { reg := Reg.FLT_CONTAIN_SEG } v c) ∧
    (∃ (a : Access) (i : Fin 3) (v : Word) (s : State) (c : Chip), s.passes a
      { reg := Reg.FLT_CONTAIN_PORT, i := i.val } v c ∧ c.safe = false) ∧
    (∃ (a : Access) (i : Fin 3) (v : Word) (s : State) (c : Chip), s.passes a
      { reg := Reg.FLT_CONTAIN_PORT, i := i.val } v c ∧ c.safe = true) ∧
    (∃ (part : Option (Fin 32)) (tag : Fin 16384) (s : State) (e : DevReq), s.chip.coreUp = true ∧ e ∈ s.chip.flt.dev
      ∧ e.quarantined = false ∧ e.part = Option.map Fin.val part ∧ e.tag = tag.val ∧ (∀ x ∈ s.chip.flt.dev, x.part =
      e.part → x.tag = e.tag → x = e) ∧ (e.who = Src.segment ∨ e.who = Src.firmware)) ∧
    (∃ (part : Option (Fin 32)) (tag : Fin 16384) (s : State), (∀ e ∈ s.chip.flt.dev, e.quarantined = false → e.part =
      Option.map Fin.val part → e.tag ≠ tag.val)) ∧
    (∃ (part : Option (Fin 32)) (tag : Fin 16384) (s : State) (e : DevReq), s.chip.coreUp = true ∧ e ∈ s.chip.flt.dev
      ∧ e.quarantined = true ∧ e.part = Option.map Fin.val part ∧ e.tag = tag.val ∧ (∀ x ∈ s.chip.flt.dev, x.part =
      e.part → x.tag = e.tag → x = e)) ∧
    (∃ (hier : Fin 128) (rid : Fin 65536) (tag : Fin 16384) (s : State) (e : Track), s.chip.coreUp = true ∧ e ∈
      s.chip.flt.track ∧ e.orphan = true ∧ e.copy.hier = hier.val ∧ e.copy.pkt.rid = rid.val ∧ e.copy.pkt.tag =
      tag.val ∧ (∀ x ∈ s.chip.flt.track, x.orphan = true → x.copy.hier = hier.val → x.copy.pkt.rid = rid.val →
      x.copy.pkt.tag = tag.val → x = e)) ∧
    (∃ (hier : Fin 128) (rid : Fin 65536) (tag : Fin 16384) (s : State), (∀ e ∈ s.chip.flt.track, e.orphan = true →
      e.copy.hier = hier.val → e.copy.pkt.rid = rid.val → e.copy.pkt.tag ≠ tag.val)) :=
  ⟨
    ⟨{}, by decide +kernel⟩,
    ⟨fw, 0, 7, {}, pc {} fw ⟨.FLT_FORCE,0,0⟩ 7, by decide +kernel⟩,
    ⟨fw, 0, 0xFF000000, {}, pc {} fw ⟨.FLT_FORCE,0,0⟩ 0xFF000000, by decide +kernel⟩,
    ⟨fw, 0x60000000, fs 0, pc (fs 0) fw ⟨.FLT_STATUS,0,0⟩ 0x60000000, by decide +kernel⟩,
    ⟨fw, 0x2000000F, fs 1, pc (fs 1) fw ⟨.FLT_CONTAIN_PTN,0,0⟩ 0x2000000F, by decide +kernel⟩,
    ⟨fw, 0x2000000F, fs 1, pc (fs 1) fw ⟨.FLT_CONTAIN_SEG,0,0⟩ 0x2000000F, by decide +kernel⟩,
    ⟨fw, 2, 0xF000000F, fs 0, pc (fs 0) fw ⟨.FLT_CONTAIN_PORT,2,0⟩ 0xF000000F, by decide +kernel⟩,
    ⟨fw, 2, 0xF000000F, fs 1, pc (fs 1) fw ⟨.FLT_CONTAIN_PORT,2,0⟩ 0xF000000F, by decide +kernel⟩,
    ⟨some 31, 16383, dq false .segment,
      {part := some 31, tag := 16383, who := .segment, addr := 0x1000, len := 64, quarantined := false},
      by decide +kernel⟩,
    ⟨some 31, 16382, dq true .segment, by decide +kernel⟩,
    ⟨some 31, 16383, dq true .firmware,
      {part := some 31, tag := 16383, who := .firmware, addr := 0x1000, len := 64, quarantined := true},
      by decide +kernel⟩,
    ⟨127, 0xFFFF, 16383, orp,
      {port := 3, copy := cop 4 3 {rid := 0xFFFF, tag := 16383} (.port 3), rem := 4, addr := 0, orphan := true},
      by decide +kernel⟩,
    ⟨127, 0xFFFF, 16382, orp, by decide +kernel⟩⟩

end Group13

namespace Group14

def fc (st : Nat) (more : List FieldVal := []) (h : FlcH := {}) (reqs : List FlcReq := []) (f : Chip → Chip := id) :
    State :=
  mk ([F.GLB_MODE.MODE.is 3, F.GLB_FLC_A.STATE.is st 4095, F.GLB_FLC_A.OWNER.is 3 4095, F.GLB_FLC_A.SIZE.is 20 4095]
    ++ more) fun c => f {c with flcs := if h = {} then [] else [(4095, h)], flcReqs := reqs}

def fp (s : State) (v : Word) : Chip := pc s fw ⟨.GLB_FLC_CMD,0,0⟩ v

def vA : Word := 0x40000FFF

def vR : Word := 0x80000FFF

def vM : Word := 0xC0000FFF

def vRS : Word := 0xA0000FFF

def rq (res : Bool) : FlcReq :=
    {flc := 4095, newRid := 0x1234, newTag := 16383, origRid := 0x55, origTag := 7, tagPart := 31, backPart := 3, src := .port 95, reserved := res, cls := 2}

def okA : State := fc 0 [F.PRT_PORT_CFG.EN.is 1 95, F.PRT_PORT_CFG.ROLE.is 1 95, F.PRT_PORT_CFG.PART.is 3 95,
    F.GLB_PTN_CFG.APER_SIZE.is 10 3, F.GLB_FLC_A.TARGET.is 94 4095, F.PRT_PORT_CFG.EN.is 1 94, F.PRT_PORT_CFG.PART.is
    5 94, F.GLB_PTN_LEND.LEND.is 1 5] {remove := true}

def live : State := fc 2 [F.PRT_PORT_CFG.EN.is 1 95, F.PRT_LINK_STATUS.DL_ACTIVE.is 1 95] {} [rq false] fun c =>
    {c with cel := {c.cel with sharedSize := 9}}

theorem witness_FlaconCommandsAndEnds :
    (∃ (a : Access) (v : Word) (s : State) (c : Chip), s.passes a { reg := Reg.GLB_FLC_CMD } v c ∧ c.fld
      F.GLB_FLC_STATUS.BUSY = 1) ∧
    (∃ (a : Access) (v : Word) (s : State) (c : Chip), s.passes a { reg := Reg.GLB_FLC_CMD } v c ∧ c.fld
      F.GLB_FLC_STATUS.BUSY = 0 ∧ wget v 31 30 = 0) ∧
    (∃ (a : Access) (v : Word) (s : State) (c : Chip), s.passes a { reg := Reg.GLB_FLC_CMD } v c ∧ c.fld
      F.GLB_FLC_STATUS.BUSY = 0 ∧ wget v 31 30 = 1 ∧ c.assignResult (wget v 11 0) ≠ 0) ∧
    (∃ (a : Access) (v : Word) (s : State) (c : Chip), s.passes a { reg := Reg.GLB_FLC_CMD } v c ∧ c.fld
      F.GLB_FLC_STATUS.BUSY = 0 ∧ wget v 31 30 = 1 ∧ c.assignResult (wget v 11 0) = 0) ∧
    (∃ (a : Access) (v : Word) (s : State) (c : Chip), s.passes a { reg := Reg.GLB_FLC_CMD } v c ∧ c.fld
      F.GLB_FLC_STATUS.BUSY = 0 ∧ 2 ≤ wget v 31 30 ∧ c.fld F.GLB_FLC_A.STATE (wget v 11 0) = 0) ∧
    (∃ (a : Access) (v : Word) (s : State) (c : Chip), s.passes a { reg := Reg.GLB_FLC_CMD } v c ∧ c.fld
      F.GLB_FLC_STATUS.BUSY = 0 ∧ 2 ≤ wget v 31 30 ∧ c.fld F.GLB_FLC_A.STATE (wget v 11 0) = 1 ∧ wbit v 29 = false) ∧
    (∃ (a : Access) (v : Word) (s : State) (c : Chip), s.passes a { reg := Reg.GLB_FLC_CMD } v c ∧ c.fld
      F.GLB_FLC_STATUS.BUSY = 0 ∧ 2 ≤ wget v 31 30 ∧ c.fld F.GLB_FLC_A.STATE (wget v 11 0) = 4) ∧
    (∃ (a : Access) (v : Word) (s : State) (c : Chip), s.passes a { reg := Reg.GLB_FLC_CMD } v c ∧ c.fld
      F.GLB_FLC_STATUS.BUSY = 0 ∧ 2 ≤ wget v 31 30 ∧ (c.fld F.GLB_FLC_A.STATE (wget v 11 0) = 1 ∨ c.fld
      F.GLB_FLC_A.STATE (wget v 11 0) = 2) ∧ wbit v 29 = true) ∧
    (∃ (a : Access) (v : Word) (s : State) (c : Chip), s.passes a { reg := Reg.GLB_FLC_CMD } v c ∧ c.fld
      F.GLB_FLC_STATUS.BUSY = 0 ∧ wget v 31 29 = 2 ∧ c.assignResult (wget v 11 0) = 0) ∧
    (∃ (a : Access) (v : Word) (s : State) (c : Chip), s.passes a { reg := Reg.GLB_FLC_CMD } v c ∧ c.fld
      F.GLB_FLC_STATUS.BUSY = 0 ∧ wget v 31 29 = 4 ∧ c.fld F.GLB_FLC_A.STATE (wget v 11 0) = 1) ∧
    (∃ (a : Access) (v : Word) (s : State) (c : Chip), s.passes a { reg := Reg.GLB_FLC_CMD } v c ∧ c.fld
      F.GLB_FLC_STATUS.BUSY = 0 ∧ wget v 31 29 = 6 ∧ c.fld F.GLB_FLC_A.STATE (wget v 11 0) = 1) ∧
    (∃ (c : Chip), c.opMode ∉ [3, 5, 6, 7, 8, 9, 10]) ∧
    (∃ (c : Chip) (f : Nat), (c.opMode = 9 ∨ c.opMode = 3) ∧ c.fld F.GLB_FLC_A.STATE f ≠ 0) ∧
    (∃ (c : Chip) (f : Nat), (c.opMode = 9 ∨ c.opMode = 3) ∧ c.fld F.GLB_FLC_A.STATE f = 0 ∧ (∀ n < 96, c.isPcie n =
      true → c.role n = 1 → c.portPart n ≠ c.fld F.GLB_FLC_A.OWNER f)) ∧
    (∃ (f : Fin 4096) (s : State), s.chip.coreUp = true ∧ s.chip.fld F.GLB_FLC_A.STATE f.val = 2 ∧ (∀ e ∈
      s.chip.flcReqs, e.flc ≠ f.val) ∧ s.chip.jobsOfFlacon f.val = []) ∧
    (∃ (f : Fin 4096) (s : State), (s.chip.fld F.GLB_FLC_A.STATE f.val ≠ 2 ∨ ∃ e ∈ s.chip.flcReqs, e.flc = f.val)) ∧
    (∃ (f : Fin 4096) (s : State) (e : FlcReq) (m : Fin 96), s.chip.coreUp = true ∧ s.chip.fld F.GLB_FLC_A.STATE f.val
      = 2 ∧ s.chip.jobsOfFlacon f.val = [] ∧ s.chip.cel.copies = [] ∧ 0 < s.chip.cel.sharedSize ∧ e ∈ s.chip.flcReqs ∧
      s.chip.flcEntries f.val = [e] ∧ e.reserved = false ∧ e.src = Src.port m.val ∧ s.chip.isPcie m.val = true ∧
      s.chip.linkLive m.val = true) ∧
    (∃ (f : Fin 4096) (s : State), s.chip.coreUp = true ∧ s.chip.fld F.GLB_FLC_A.STATE f.val = 2) ∧
    (∃ (f : Fin 4096) (s : State), s.chip.coreUp = true ∧ s.chip.fld F.GLB_FLC_A.STATE f.val = 4 ∧ (∀ e ∈
      s.chip.flcReqs, e.flc ≠ f.val)) ∧
    (∃ (f : Fin 4096) (s : State), (s.chip.fld F.GLB_FLC_A.STATE f.val ≠ 4 ∨ ∃ e ∈ s.chip.flcReqs, e.flc = f.val)) ∧
    (∃ (p : Fin 32) (tag : Fin 16384) (s : State) (e : FlcReq), s.chip.coreUp = true ∧ e ∈ s.chip.flcReqs ∧ e.tagPart
      = p.val ∧ e.newTag = tag.val ∧ (∀ x ∈ s.chip.flcReqs, x.tagPart = p.val → x.newTag = tag.val → x = e) ∧
      e.reserved = true) ∧
    (∃ (p : Fin 32) (tag : Fin 16384) (s : State) (e : FlcReq), s.chip.coreUp = true ∧ e ∈ s.chip.flcReqs ∧ e.tagPart
      = p.val ∧ e.newTag = tag.val ∧ (∀ x ∈ s.chip.flcReqs, x.tagPart = p.val → x.newTag = tag.val → x = e) ∧
      e.reserved = false ∧ s.chip.fld F.GLB_FLC_A.STATE e.flc = 1) ∧
    (∃ (p : Fin 32) (tag : Fin 16384) (s : State) (e : FlcReq), s.chip.coreUp = true ∧ e ∈ s.chip.flcReqs ∧ e.tagPart
      = p.val ∧ e.newTag = tag.val ∧ (∀ x ∈ s.chip.flcReqs, x.tagPart = p.val → x.newTag = tag.val → x = e) ∧
      e.reserved = false ∧ s.chip.fld F.GLB_FLC_A.STATE e.flc ≠ 1) :=
  ⟨
    ⟨fw, vA, fc 0 [F.GLB_FLC_STATUS.BUSY.is 1], fp (fc 0 [F.GLB_FLC_STATUS.BUSY.is 1]) vA, by decide +kernel⟩,
    ⟨fw, 0xFFF, fc 0, fp (fc 0) 0xFFF, by decide +kernel⟩,
    ⟨fw, vA, fc 0, fp (fc 0) vA, by decide +kernel⟩,
    ⟨fw, vA, okA, fp okA vA, by decide +kernel⟩,
    ⟨fw, vR, fc 0, fp (fc 0) vR, by decide +kernel⟩,
    ⟨fw, vR, fc 1, fp (fc 1) vR, by decide +kernel⟩,
    ⟨fw, vM, fc 4, fp (fc 4) vM, by decide +kernel⟩,
    ⟨fw, vRS, fc 2 [] {remove := true} [rq false], fp (fc 2 [] {remove := true} [rq false]) vRS, by decide +kernel⟩,
    ⟨fw, 0x40000FFF, okA, fp (okA) 0x40000FFF, by decide +kernel⟩,
    ⟨fw, 0x80000FFF, fc 1, fp (fc 1) 0x80000FFF, by decide +kernel⟩,
    ⟨fw, 0xC0000FFF, fc 1, fp (fc 1) 0xC0000FFF, by decide +kernel⟩,
    ⟨(fc 0 [F.GLB_MODE.MODE.is 4]).chip, by decide +kernel⟩,
    ⟨(fc 1).chip, 4095, by decide +kernel⟩,
    ⟨(fc 0).chip, 4095, by decide +kernel⟩,
    ⟨4095, fc 2, by decide +kernel⟩,
    ⟨4095, fc 2 [] {} [rq false], by decide +kernel⟩,
    ⟨4095, live, rq false, 95, by decide +kernel⟩,
    ⟨4095, live, by decide +kernel⟩,
    ⟨4095, fc 4 [] {remove := true}, by decide +kernel⟩,
    ⟨4095, fc 2, by decide +kernel⟩,
    ⟨31, 16383, fc 4 [] {} [rq true], rq true, by decide +kernel⟩,
    ⟨31, 16383, fc 1 [] {} [rq false], rq false, by decide +kernel⟩,
    ⟨31, 16383, fc 2 [] {} [rq false], rq false, by decide +kernel⟩⟩

end Group14

namespace Group15

def md (m : Nat) (more : List FieldVal := []) (f : Chip → Chip := id) : State := mk ([F.GLB_MODE.MODE.is m] ++ more) f

def mp (s : State) (v : Word) : Chip := pc s fw ⟨.GLB_MODE,0,0⟩ v

def m1 (m : Nat) : State := md m [F.PRT_PORT_CFG.EN.is 1 95, F.PRT_PORT_CFG.ROLE.is 1 95, F.PRT_PORT_CFG.EN.is 1 94,
    F.PRT_PORT_CFG.LANE_BASE.is 15 95, F.PRT_PORT_CFG.WIDTH.is 0 95, F.PRT_PORT_CFG.WIDTH.is 0 94,
    F.GLB_TILE_EN.TILE_EN.is 0x800, F.GLB_MODE.PREV_MODE.is 1]

def qs (m t : Nat) (more : List FieldVal := []) (f : Chip → Chip := id) : State := md m ([F.GLB_MODE.BUSY.is 1] ++
    more) fun c => f {c with mode := {c.mode with target := some t, stopped := true}}

def cop (id n : Nat) (k : Packet) (d : Dest) : Copy :=
    {id, pid := 1, pkt := k, src := .port n, part := none, dest := d, stamp := 0, cells := 1, charge := .none, hier := 127}

def qcp : State := qs 4 10 [] fun c => {c with cel := {c.cel with copies := [cop 4 3 {} (.port 9)]}}

def rec1 : RecInHand := rec0

def tp (s : State) (v : Word) : Chip := pc s fw ⟨.GLB_TILE_EN,0,0⟩ v

def te : State := md 9 [F.PRT_PORT_CFG.EN.is 1 95, F.PRT_LINK_STATUS.DL_ACTIVE.is 1 95, F.GLB_TILE_EN.TILE_EN.is
    0xFFF, F.SDS_LN_STATUS.STATE.is 1 191]

def m4w : State := md 11 [F.GLB_MODE.PREV_MODE.is 4, F.PRT_PORT_CFG.EN.is 1 95, F.GLB_TILE_EN.TILE_EN.is 0x7FF] fun c
    => {c with mode := {c.mode with wakeHeld := true}}

theorem witness_ModesAndQuiesce :
    (∃ (a : Access) (v : Word) (s : State) (c : Chip), s.passes a { reg := Reg.GLB_MODE } v c ∧ c.isExpert a.who =
      true ∧ c.fld F.GLB_MODE.BUSY = 1) ∧
    (∃ (a : Access) (v : Word) (s : State) (c : Chip), s.passes a { reg := Reg.GLB_MODE } v c ∧ c.isExpert a.who =
      true ∧ c.fld F.GLB_MODE.BUSY = 0 ∧ (max 1 (min 12 (wget v 7 4)) = 12 ∨ c.fld F.GLB_MODE.MODE = 12 ∨ 1 ≤ c.fld
      F.GLB_MODE.MODE ∧ c.fld F.GLB_MODE.MODE ≤ 8 ∧ max 1 (min 12 (wget v 7 4)) ≤ 9 ∨ c.fld F.GLB_MODE.MODE = 9 ∧ (max
      1 (min 12 (wget v 7 4)) = 9 ∨ max 1 (min 12 (wget v 7 4)) = 10) ∨ c.fld F.GLB_MODE.MODE = 10 ∧ max 1 (min 12
      (wget v 7 4)) = 10 ∨ c.fld F.GLB_MODE.MODE = 11 ∧ (max 1 (min 12 (wget v 7 4)) ≠ c.fld F.GLB_MODE.PREV_MODE ∨
      c.fld F.PWR_STATUS.STATE ≠ 0))) ∧
    (∃ (a : Access) (v : Word) (s : State) (c : Chip), s.passes a { reg := Reg.GLB_MODE } v c ∧ c.isExpert a.who =
      true ∧ c.fld F.GLB_MODE.BUSY = 0 ∧ (c.fld F.GLB_MODE.MODE = 9 ∨ c.fld F.GLB_MODE.MODE = 10) ∧ (1 ≤ max 1 (min 12
      (wget v 7 4)) ∧ max 1 (min 12 (wget v 7 4)) ≤ 8) ∧ c.prereqMet (max 1 (min 12 (wget v 7 4))) = false) ∧
    (∃ (a : Access) (v : Word) (s : State) (c : Chip), s.passes a { reg := Reg.GLB_MODE } v c ∧ c.isExpert a.who =
      true ∧ c.fld F.GLB_MODE.BUSY = 0 ∧ (1 ≤ c.fld F.GLB_MODE.MODE ∧ c.fld F.GLB_MODE.MODE ≤ 8) ∧ (max 1 (min 12
      (wget v 7 4)) = 10 ∨ max 1 (min 12 (wget v 7 4)) = 11)) ∧
    (∃ (a : Access) (v : Word) (s : State) (c : Chip), s.passes a { reg := Reg.GLB_MODE } v c ∧ c.isExpert a.who =
      true ∧ c.fld F.GLB_MODE.BUSY = 0 ∧ c.fld F.GLB_MODE.MODE = 11 ∧ max 1 (min 12 (wget v 7 4)) = c.fld
      F.GLB_MODE.PREV_MODE ∧ c.fld F.PWR_STATUS.STATE = 0 ∧ (1 ≤ max 1 (min 12 (wget v 7 4)) ∧ max 1 (min 12 (wget v 7
      4)) ≤ 8) ∧ c.settingsMet (max 1 (min 12 (wget v 7 4))) = false) ∧
    (∃ (a : Access) (v : Word) (s : State) (c : Chip), s.passes a { reg := Reg.GLB_MODE } v c ∧ c.isExpert a.who =
      true ∧ c.fld F.GLB_MODE.BUSY = 0 ∧ ((c.fld F.GLB_MODE.MODE = 9 ∨ c.fld F.GLB_MODE.MODE = 10) ∧ 1 ≤ max 1 (min 12
      (wget v 7 4)) ∧ max 1 (min 12 (wget v 7 4)) ≤ 8 ∧ c.prereqMet (max 1 (min 12 (wget v 7 4))) = true ∨ c.fld
      F.GLB_MODE.MODE = 10 ∧ max 1 (min 12 (wget v 7 4)) = 9 ∨ (c.fld F.GLB_MODE.MODE = 9 ∨ c.fld F.GLB_MODE.MODE =
      10) ∧ max 1 (min 12 (wget v 7 4)) = 11 ∨ c.fld F.GLB_MODE.MODE = 11 ∧ max 1 (min 12 (wget v 7 4)) = c.fld
      F.GLB_MODE.PREV_MODE ∧ max 1 (min 12 (wget v 7 4)) ≠ 12 ∧ c.fld F.PWR_STATUS.STATE = 0 ∧ (1 ≤ max 1 (min 12
      (wget v 7 4)) ∧ max 1 (min 12 (wget v 7 4)) ≤ 8 → c.settingsMet (max 1 (min 12 (wget v 7 4))) = true))) ∧
    (∃ (c : Chip), c.prereqMet 1 = true) ∧
    (∃ (c : Chip) (m n : Nat), c.prereqMet m = true ∧ n < 96 ∧ c.portEn n = true) ∧
    (∃ (s : State), s.chip.coreUp = true ∧ s.chip.mode.stopped = true ∧ (∃ m ∈ s.chip.mode.target, (m = 10 ∨ m = 11) ∧
      s.chip.cel.copies = [] ∧ s.chip.cel.waiting = [] ∧ s.chip.cel.flcWaiting = [] ∧ s.chip.cel.meterHeld = [] ∧ (∀ e
      ∈ s.chip.flt.track, e.orphan = true) ∧ (∀ e ∈ s.chip.flcReqs, e.reserved = true) ∧ s.chip.lpb.queue = [] ∧ (∀ e
      ∈ s.chip.flt.dev, e.quarantined = true) ∧ (∀ e ∈ s.chip.acd.engs, (e.2.hand = none ∨ s.chip.fld
      F.ACD_ENG_STATUS.STATE e.1 = enMaster) ∧ ∀ o ∈ e.2.out, s.chip.busOff (s.chip.windowPart o.job o.win) = true) ∧
      (∀ x ∈ s.chip.acd.emits, ∀ q ∈ x.dests, s.chip.windowOff x.job q.1 = true))) ∧
    (∃ (s : State), (s.chip.cel.copies ≠ [] ∨ s.chip.cel.waiting ≠ [] ∨ (∃ e ∈ s.chip.flt.track, e.orphan = false) ∨
      s.chip.mode.target = none)) ∧
    (∃ (s : State), s.chip.coreUp = true ∧ s.chip.mode.stopped = true ∧ (∃ m ∈ s.chip.mode.target, (m = 10 ∨ m = 11))) ∧
    (∃ (s : State), s.chip.coreUp = true ∧ s.chip.fld F.GLB_MODE.MODE = 11 ∧ s.chip.mode.wakeHeld = true ∧ s.chip.fld
      F.GLB_MODE.BUSY = 0 ∧ s.chip.fld F.PWR_STATUS.STATE = 0 ∧ (isForwarding (s.chip.fld F.GLB_MODE.PREV_MODE) = true
      → s.chip.settingsMet (s.chip.fld F.GLB_MODE.PREV_MODE) = true)) ∧
    (∃ (s : State), s.chip.coreUp = true ∧ s.chip.fld F.GLB_MODE.MODE = 11 ∧ s.chip.mode.wakeHeld = true ∧ s.chip.fld
      F.GLB_MODE.BUSY = 0 ∧ s.chip.fld F.PWR_STATUS.STATE = 0 ∧ isForwarding (s.chip.fld F.GLB_MODE.PREV_MODE) = true
      ∧ s.chip.settingsMet (s.chip.fld F.GLB_MODE.PREV_MODE) = false) ∧
    (∃ (s : State), (s.chip.fld F.GLB_MODE.MODE ≠ 11 ∨ s.chip.mode.wakeHeld = false ∨ s.chip.fld F.PWR_STATUS.STATE ≠
      0)) ∧
    (∃ (a : Access) (v : Word) (s : State) (c : Chip), s.passes a { reg := Reg.GLB_TILE_EN } v c ∧ c.fld
      F.GLB_MODE.MODE ≠ 9 ∧ c.fld F.GLB_MODE.MODE ≠ 10) ∧
    (∃ (a : Access) (v : Word) (s : State) (c : Chip), s.passes a { reg := Reg.GLB_TILE_EN } v c ∧ c.isExpert a.who =
      true ∧ (c.fld F.GLB_MODE.MODE = 9 ∨ c.fld F.GLB_MODE.MODE = 10)) ∧
    (∃ (a : Access) (v : Word) (s : State) (c : Chip), s.passes a { reg := Reg.GLB_TILE_EN } v c ∧ c.isExpert a.who =
      true ∧ (c.fld F.GLB_MODE.MODE = 9 ∨ c.fld F.GLB_MODE.MODE = 10) ∧ (c.fld F.GLB_TILE_EN.TILE_EN).land (wget v 11
      0) = c.fld F.GLB_TILE_EN.TILE_EN ∧ (∀ n < 96, c.fld F.PRT_FL_STATUS.LSTATE n = 0) ∧ c.flerenPorts = []) :=
  ⟨
    ⟨fw, 0x40, md 9 [F.GLB_MODE.BUSY.is 1], mp (md 9 [F.GLB_MODE.BUSY.is 1]) 0x40, by decide +kernel⟩,
    ⟨fw, 0xF0, md 4, mp (md 4) 0xF0, by decide +kernel⟩,
    ⟨fw, 0x00, md 9, mp (md 9) 0x00, by decide +kernel⟩,
    ⟨fw, 0xA0, md 8, mp (md 8) 0xA0, by decide +kernel⟩,
    ⟨fw, 0x40, m4w, mp m4w 0x40, by decide +kernel⟩,
    ⟨fw, 0x90, md 10, mp (md 10) 0x90, by decide +kernel⟩,
    ⟨(m1 9).chip, by decide +kernel⟩,
    ⟨(m1 9).chip, 1, 95, by decide +kernel⟩,
    ⟨qs 4 10, by decide +kernel⟩,
    ⟨qcp, by decide +kernel⟩,
    ⟨qs 4 10 [F.ACD_JOB_CFG.EN.is 1 11 31, F.ACD_JOB_SET.FIRST.is 127 11 31, F.ACD_JOB_SET.COUNT.is 1 11 31] fun c =>
      {c with cel := {c.cel with copies := [cop 4 3 {} (.port 9)], flcWaiting := [cop 5 3 {} (.port 9)]}, acd := {c.acd with engs := [(1535, {hand := some rec1})], emits := [{eng := 1535, job := 383, half := some 1, len := 64, dests := [(63, 0)], status := 0, flags := 0, first := 5}]}},
      by decide +kernel⟩,
    ⟨md 11 [F.GLB_MODE.PREV_MODE.is 9] fun c => {c with mode := {c.mode with wakeHeld := true}}, by decide +kernel⟩,
    ⟨m4w, by decide +kernel⟩,
    ⟨{}, by decide +kernel⟩,
    ⟨fw, 0xFF, md 4, tp (md 4) 0xFF, by decide +kernel⟩,
    ⟨fw, 0x7FF, te, tp te 0x7FF, by decide +kernel⟩,
    ⟨fw, 0xFFFFFFFF, {}, tp {} 0xFFFFFFFF, by decide +kernel⟩⟩

end Group15

namespace Group16

def fz (st : Nat) (more : List FieldVal := []) (h : FusChan := {}) (f : Chip → Chip := id) : State :=
  mk ([F.FUS_CHAN_STATUS.STATE.is st 23, F.FUS_CHAN_CFG.EN.is 1 23] ++ more) fun c => f
    {c with fus := {c.fus with chans := if h = {} then [] else [(23, h)]}}

def sl : List FieldVal := [F.PRT_PORT_CFG.EN.is 1 95, F.PRT_HP_CFG.HP_EN.is 1 95, F.PRT_HP_CFG.FUS_CHAN.is 23 95]

def low : List FieldVal := [F.FUS_CHAN_STATUS.LONG.is 1 23, F.FUS_CHAN_STATUS.SHORT.is 1 23]

def pr : List FieldVal := F.FUS_CHAN_STATUS.PRESENT.is 1 23 :: low

def ords (ks : List Nat) : Chip → Chip := fun c =>
    {c with fus := {c.fus with order := ks.map fun k => (k, 3), samples := 3}}

def cp (s : State) (v : Word) : Chip := pc s fw ⟨.FUS_CHAN_CTL,23,0⟩ v

def hm : State := mk [F.FUS_HOLDUP_V.V_MIN.is 5]

def gp (s : State) (v : Word) : Chip := pc s fw ⟨.FUS_CHAN_CFG,23,0⟩ v

def onS : State := fz fuOn (pr ++ sl ++ [F.FUS_CHAN_STATUS.PG.is 1 23, F.FUS_STATUS.PG.is 0x800000,
    F.FUS_CHAN_STATUS.FT_RUN.is 1 23]) {gate := true, perstHigh := true, delayDone := true}

theorem witness_FusePresence :
    (∃ (f : Fin 24) (s : State), s.chip.slotUp = true ∧ ((s.chip.fuState f.val = fuEmpty ∨ s.chip.fuState f.val =
      fuDebounce) ∨ s.chip.fuState f.val ≠ fuDisabled ∧ s.chip.flag F.FUS_CHAN_STATUS.PRESENT f.val = false)) ∧
    (∃ (f : Fin 24) (s : State), (s.chip.slotUp = false ∨ s.chip.fuState f.val = fuDisabled ∨ s.chip.fuState f.val ≠
      fuEmpty ∧ s.chip.fuState f.val ≠ fuDebounce ∧ s.chip.flag F.FUS_CHAN_STATUS.PRESENT f.val = true)) ∧
    (∃ (f : Fin 24) (s : State), s.chip.slotUp = true ∧ s.chip.pinsLow f.val = true ∧ s.chip.fuState f.val ≠
      fuDisabled ∧ s.chip.flag F.FUS_CHAN_STATUS.PRESENT f.val = false) ∧
    (∃ (f : Fin 24) (s : State), s.chip.pinsLow f.val = false) ∧
    (∃ (f : Fin 24) (long short : Bool) (s : State), s.chip.slotUp = true ∧ (long && short) = false ∧ s.chip.flag
      F.FUS_CHAN_STATUS.PRESENT f.val = true) ∧
    (∃ (long short : Bool) (s : State), (s.chip.slotUp = false ∨ (long && short) = true)) ∧
    (∃ (f : Fin 24) (s : State), s.chip.slotUp = true ∧ s.chip.flag F.FUS_CHAN_STATUS.PRESENT f.val = false ∧
      s.chip.fuLive f.val = false ∧ (s.chip.fuState f.val = fuEmpty ∨ s.chip.fuState f.val = fuDebounce)) :=
  ⟨
    ⟨23, fz fuEmpty, by decide +kernel⟩,
    ⟨23, fz fuOn pr, by decide +kernel⟩,
    ⟨23, fz fuDebounce low, by decide +kernel⟩,
    ⟨23, fz fuDebounce, by decide +kernel⟩,
    ⟨23, true, false, fz fuOn (pr ++ sl ++ [F.FUS_CHAN_STATUS.PG.is 1 23, F.FUS_STATUS.PG.is 0x800000,
      F.FUS_CHAN_STATUS.RETRIES.is 3 23]) {gate := true, perstHigh := true}, by decide +kernel⟩,
    ⟨true, true, fz fuWaitReq pr, by decide +kernel⟩,
    ⟨23, fz fuEmpty, by decide +kernel⟩⟩

theorem witness_FuseChannelWrites :
    (∃ (a : Access) (f : Fin 24) (v : Word) (s : State) (c : Chip), s.passes a { reg := Reg.FUS_CHAN_CTL, i := f.val }
      v c ∧ wget v 31 28 = 0) ∧
    (∃ (a : Access) (f : Fin 24) (v : Word) (s : State) (c : Chip), s.passes a { reg := Reg.FUS_CHAN_CTL, i := f.val }
      v c ∧ wget v 31 28 = 1) ∧
    (∃ (a : Access) (f : Fin 24) (v : Word) (s : State) (c : Chip), s.passes a { reg := Reg.FUS_CHAN_CTL, i := f.val }
      v c ∧ wget v 31 28 = 8 ∧ (c.fuState f.val = fuCooldown ∨ c.fuState f.val = fuLatched)) ∧
    (∃ (a : Access) (f : Fin 24) (v : Word) (s : State) (c : Chip), s.passes a { reg := Reg.FUS_CHAN_CTL, i := f.val }
      v c ∧ wget v 31 28 = 8 ∧ c.fuState f.val = fuWaitReq ∧ c.flag F.FUS_CHAN_STATUS.PRESENT f.val = true ∧ c.fld
      F.FUS_CHAN_CFG.POLICY f.val ≠ 1 ∧ (c.fld F.PWR_STATUS.STATE = 0 ∧ c.opMode ≠ 12)) ∧
    (∃ (a : Access) (f : Fin 24) (v : Word) (s : State) (c : Chip), s.passes a { reg := Reg.FUS_CHAN_CTL, i := f.val }
      v c ∧ wget v 31 28 = 8 ∧ c.fuState f.val ≠ fuWaitReq ∧ c.fuState f.val ≠ fuCooldown ∧ c.fuState f.val ≠
      fuLatched) ∧
    (∃ (a : Access) (f : Fin 24) (v : Word) (s : State) (c : Chip), s.passes a { reg := Reg.FUS_CHAN_CTL, i := f.val }
      v c ∧ wget v 31 28 = 4) ∧
    (∃ (a : Access) (f : Fin 24) (v : Word) (s : State) (c : Chip), s.passes a { reg := Reg.FUS_CHAN_CTL, i := f.val }
      v c ∧ wget v 31 28 = 2 ∧ (c.fuState f.val ≠ fuLatched ∨ c.opMode = 12)) ∧
    (∃ (a : Access) (f : Fin 24) (v : Word) (s : State) (c : Chip), s.passes a { reg := Reg.FUS_CHAN_CTL, i := f.val }
      v c ∧ wget v 31 28 = 2 ∧ c.fuState f.val = fuLatched ∧ c.opMode ≠ 12 ∧ c.flag F.FUS_CHAN_STATUS.PRESENT f.val =
      false) ∧
    (∃ (a : Access) (f : Fin 24) (v : Word) (s : State) (c : Chip), s.passes a { reg := Reg.FUS_CHAN_CTL, i := f.val }
      v c ∧ wget v 31 28 = 2 ∧ c.fuState f.val = fuLatched ∧ c.opMode ≠ 12 ∧ c.flag F.FUS_CHAN_STATUS.PRESENT f.val =
      true ∧ c.fld F.FUS_CHAN_CFG.POLICY f.val ≠ 1 ∧ c.fld F.FUS_CHAN_STATUS.REQ_PEND f.val = 0) ∧
    (∃ (a : Access) (f : Fin 24) (v : Word) (s : State) (c : Chip), s.passes a { reg := Reg.FUS_CHAN_CTL, i := f.val }
      v c ∧ wget v 31 28 = 8 ∧ c.fuState f.val = fuWaitReq ∧ c.flag F.FUS_CHAN_STATUS.PRESENT f.val = true ∧ c.fld
      F.FUS_CHAN_CFG.POLICY f.val ≠ 1 ∧ c.fld F.PWR_STATUS.STATE = 0 ∧ c.opMode ≠ 12) ∧
    (∃ (a : Access) (f : Fin 24) (v : Word) (s : State) (c : Chip), s.passes a { reg := Reg.FUS_CHAN_CTL, i := f.val }
      v c ∧ wget v 31 28 = 4 ∧ fuPrecharge ≤ c.fuState f.val ∧ c.fuState f.val ≤ fuOn) ∧
    (∃ (a : Access) (v : Word) (s : State) (c : Chip), s.passes a { reg := Reg.FUS_CTL } v c) ∧
    (∃ (a : Access) (f : Fin 24) (v : Word) (s : State) (c : Chip), s.passes a { reg := Reg.FUS_CHAN_CFG, i := f.val }
      v c ∧ c.isExpert a.who = true ∧ c.fuState f.val ≤ fuWaitReq) ∧
    (∃ (a : Access) (f : Fin 24) (v : Word) (s : State) (c : Chip), s.passes a { reg := Reg.FUS_CHAN_CFG, i := f.val }
      v c ∧ c.isExpert a.who = true ∧ fuWaitReq < c.fuState f.val ∧ c.fld F.FUS_CHAN_CFG.POLICY f.val ≤ 1) ∧
    (∃ (a : Access) (f : Fin 24) (v : Word) (s : State) (c : Chip), s.passes a { reg := Reg.FUS_CHAN_CFG, i := f.val }
      v c ∧ c.isExpert a.who = true ∧ c.fuState f.val = fuWaitReq ∧ wbit v 31 = true ∧ (c.fus1 f.val).disabling =
      false ∧ wget v 29 28 = 1 ∧ c.flag F.FUS_CHAN_STATUS.PRESENT f.val = true ∧ (c.fus1 f.val).offSince = false ∧
      c.fld F.PWR_STATUS.STATE = 0 ∧ c.opMode ≠ 12) ∧
    (∃ (a : Access) (f : Fin 24) (v : Word) (s : State) (c : Chip), s.passes a { reg := Reg.FUS_CHAN_CFG, i := f.val }
      v c ∧ c.isExpert a.who = true ∧ c.fuState f.val = fuDisabled ∧ (c.fus1 f.val).disabling = false ∧ wbit v 31 =
      true) ∧
    (∃ (a : Access) (f : Fin 24) (v : Word) (s : State) (c : Chip), s.passes a { reg := Reg.FUS_CHAN_CFG, i := f.val }
      v c ∧ c.isExpert a.who = true ∧ c.fld F.FUS_CHAN_CFG.EN f.val = 1 ∧ wbit v 31 = false ∧ c.fuLive f.val = true) ∧
    (∃ (a : Access) (f : Fin 24) (v : Word) (s : State) (c : Chip), s.passes a { reg := Reg.FUS_CHAN_CFG, i := f.val }
      v c ∧ c.isExpert a.who = true ∧ c.fld F.FUS_CHAN_CFG.EN f.val = 1 ∧ wbit v 31 = false ∧ c.fuLive f.val = false) :=
  ⟨
    ⟨fw, 23, 0, fz fuOn, cp (fz fuOn) 0, by decide +kernel⟩,
    ⟨fw, 23, 0x10000000, fz fuOn, cp (fz fuOn) 0x10000000, by decide +kernel⟩,
    ⟨fw, 23, 0x80000000, fz fuLatched, cp (fz fuLatched) 0x80000000, by decide +kernel⟩,
    ⟨fw, 23, 0x80000000, fz fuWaitReq (pr ++ sl), cp (fz fuWaitReq (pr ++ sl)) 0x80000000, by decide +kernel⟩,
    ⟨fw, 23, 0x80000000, fz fuOn (pr ++ sl), cp (fz fuOn (pr ++ sl)) 0x80000000, by decide +kernel⟩,
    ⟨fw, 23, 0x40000000, fz fuOn (pr ++ sl) {perstHigh := true, gate := true}, cp (fz fuOn (pr ++ sl)
      {perstHigh := true, gate := true}) 0x40000000, by decide +kernel⟩,
    ⟨fw, 23, 0x20000000, fz fuOn, cp (fz fuOn) 0x20000000, by decide +kernel⟩,
    ⟨fw, 23, 0x20000000, fz fuLatched (low ++ [F.FUS_CHAN_STATUS.RETRIES.is 3 23]), cp (fz fuLatched (low ++
      [F.FUS_CHAN_STATUS.RETRIES.is 3 23])) 0x20000000, by decide +kernel⟩,
    ⟨fw, 23, 0x20000000, fz fuLatched (pr ++ [F.FUS_CHAN_STATUS.RETRIES.is 3 23]), cp (fz fuLatched (pr ++
      [F.FUS_CHAN_STATUS.RETRIES.is 3 23])) 0x20000000, by decide +kernel⟩,
    ⟨fw, 23, 0x80000000, fz fuWaitReq (pr ++ sl), cp (fz fuWaitReq (pr ++ sl)) 0x80000000, by decide +kernel⟩,
    ⟨fw, 23, 0x40000000, fz fuOn (pr ++ sl), cp (fz fuOn (pr ++ sl)) 0x40000000, by decide +kernel⟩,
    ⟨fw, 0x80000000, hm, pc hm fw ⟨.FUS_CTL,0,0⟩ 0x80000000, by decide +kernel⟩,
    ⟨fw, 23, 0x7FFFFFFF, fz fuWaitReq, gp (fz fuWaitReq) 0x7FFFFFFF, by decide +kernel⟩,
    ⟨fw, 23, 0x7FFFFFFF, fz fuOn [] {perstHigh := true}, gp (fz fuOn [] {perstHigh := true}) 0x7FFFFFFF,
      by decide +kernel⟩,
    ⟨fw, 23, 0x90002EE0, fz fuWaitReq pr, gp (fz fuWaitReq pr) 0x90002EE0, by decide +kernel⟩,
    ⟨fw, 23, 0x80000000, mk [], gp (mk []) 0x80000000, by decide +kernel⟩,
    ⟨fw, 23, 0x7FFFFFFF, fz fuOn [] {gate := true}, gp (fz fuOn [] {gate := true}) 0x7FFFFFFF, by decide +kernel⟩,
    ⟨fw, 23, 0x7FFFFFFF, fz fuWaitReq, gp (fz fuWaitReq) 0x7FFFFFFF, by decide +kernel⟩⟩

theorem witness_FuseSequence :
    (∃ (f : Fin 24) (s : State) (q : Nat × Nat), s.chip.slotUp = true ∧ s.chip.fld F.PWR_STATUS.STATE = 0 ∧
      s.chip.opMode ≠ 12 ∧ s.chip.ramping < s.chip.fld F.FUS_CFG.MAX_RAMPING ∧ s.chip.fus.order.head? = some q ∧ q.1 =
      f.val ∧ s.chip.fuP f.val = true) ∧
    (∃ (f : Fin 24) (s : State) (q : Nat × Nat), s.chip.slotUp = true ∧ s.chip.fld F.PWR_STATUS.STATE = 0 ∧
      s.chip.opMode ≠ 12 ∧ s.chip.ramping < s.chip.fld F.FUS_CFG.MAX_RAMPING ∧ s.chip.fus.order.head? = some q ∧ q.1 =
      f.val ∧ s.chip.fuP f.val = false) ∧
    (∃ (f : Fin 24) (s : State), (Option.map (fun x => x.1) s.chip.fus.order.head? ≠ some f.val ∨ s.chip.fld
      F.FUS_CFG.MAX_RAMPING ≤ s.chip.ramping)) ∧
    (∃ (f : Fin 24) (s : State), s.chip.slotUp = true ∧ s.chip.fuState f.val = fuRamp) ∧
    (∃ (f : Fin 24) (s : State), s.chip.slotUp = true ∧ s.chip.fuState f.val = fuPrecharge ∧ (s.chip.fus1 f.val).gate
      = true) ∧
    (∃ (f : Fin 24) (s : State), s.chip.slotUp = true ∧ s.chip.fuState f.val = fuQualify ∧ s.chip.flag
      F.FUS_CHAN_STATUS.FT_RUN f.val = false) ∧
    (∃ (f : Fin 24) (s : State), s.chip.slotUp = true ∧ (s.chip.fuState f.val = fuQualify ∨ s.chip.fuState f.val =
      fuOn) ∧ s.chip.flag F.FUS_CHAN_STATUS.FT_RUN f.val = false) ∧
    (∃ (f : Fin 24) (s : State), s.chip.slotUp = true ∧ (s.chip.fuState f.val = fuQualify ∨ s.chip.fuState f.val =
      fuOn) ∧ s.chip.flag F.FUS_CHAN_STATUS.FT_RUN f.val = true) ∧
    (∃ (f : Fin 24) (s : State), s.chip.slotUp = true ∧ s.chip.flag F.FUS_CHAN_STATUS.PG f.val = true) ∧
    (∃ (f : Fin 24) (s : State), s.chip.slotUp = true ∧ s.chip.fuState f.val = fuPreoff) ∧
    (∃ (f : Fin 24) (s : State), s.chip.slotUp = true ∧ s.chip.fuState f.val ≠ fuRamp) ∧
    (∃ (f : Fin 24) (s : State), s.chip.slotUp = true ∧ s.chip.fuState f.val ≠ fuPrecharge) ∧
    (∃ (f : Fin 24) (s : State), s.chip.slotUp = true ∧ (s.chip.fuState f.val ≠ fuQualify ∨ s.chip.flag
      F.FUS_CHAN_STATUS.FT_RUN f.val = true)) ∧
    (∃ (f : Fin 24) (s : State), s.chip.slotUp = true ∧ s.chip.fuState f.val ≠ fuPreoff) ∧
    (∃ (f : Fin 24) (s : State), s.chip.slotUp = true ∧ s.chip.fuState f.val ≠ fuDischarge) ∧
    (∃ (f : Fin 24) (s : State), s.chip.slotUp = true ∧ s.chip.fuState f.val ≠ fuCooldown) ∧
    (∃ (f : Fin 24) (s : State), s.chip.slotUp = true ∧ s.chip.fuState f.val = fuDischarge ∧ (s.chip.fus1
      f.val).disabling = false ∧ s.chip.flag F.FUS_CHAN_STATUS.PRESENT f.val = false) ∧
    (∃ (f : Fin 24) (s : State), s.chip.slotUp = true ∧ s.chip.fuState f.val = fuDischarge ∧ (s.chip.fus1
      f.val).disabling = false ∧ s.chip.flag F.FUS_CHAN_STATUS.PRESENT f.val = true ∧ s.chip.fld F.FUS_CHAN_CFG.POLICY
      f.val ≠ 1 ∧ s.chip.fld F.FUS_CHAN_STATUS.REQ_PEND f.val = 0) ∧
    (∃ (f : Fin 24) (s : State), s.chip.slotUp = true ∧ s.chip.fuState f.val = fuDischarge ∧ (s.chip.fus1
      f.val).disabling = true ∧ s.chip.flag F.FUS_CHAN_CFG.EN f.val = false) ∧
    (∃ (f : Fin 24) (s : State), s.chip.slotUp = true ∧ s.chip.fuState f.val = fuDischarge ∧ (s.chip.fus1
      f.val).disabling = true ∧ s.chip.flag F.FUS_CHAN_CFG.EN f.val = true) ∧
    (∃ (f : Fin 24) (s : State), s.chip.slotUp = true ∧ s.chip.fuState f.val = fuCooldown ∧ (s.chip.fus1
      f.val).disabling = false ∧ s.chip.opMode ≠ 12 ∧ s.chip.flag F.FUS_CHAN_STATUS.PRESENT f.val = false) ∧
    (∃ (f : Fin 24) (s : State), s.chip.slotUp = true ∧ s.chip.fuState f.val = fuCooldown ∧ (s.chip.fus1
      f.val).disabling = false ∧ s.chip.opMode ≠ 12 ∧ s.chip.flag F.FUS_CHAN_STATUS.PRESENT f.val = true ∧
      (s.chip.fus1 f.val).coolOff = true ∧ (s.chip.fus1 f.val).offSince = true ∧ s.chip.fld F.FUS_CHAN_STATUS.REQ_PEND
      f.val = 0) ∧
    (∃ (f : Fin 24) (s : State), s.chip.slotUp = true ∧ s.chip.fuState f.val = fuCooldown ∧ (s.chip.fus1
      f.val).disabling = false ∧ s.chip.opMode ≠ 12 ∧ s.chip.flag F.FUS_CHAN_STATUS.PRESENT f.val = true ∧
      (s.chip.fus1 f.val).coolOff = false ∧ s.chip.fld F.FUS_CHAN_STATUS.RETRIES f.val < s.chip.fld
      F.FUS_CHAN_CFG.RETRY_MAX f.val) ∧
    (∃ (f : Fin 24) (s : State), s.chip.slotUp = true ∧ s.chip.fuState f.val = fuCooldown ∧ (s.chip.fus1
      f.val).disabling = false ∧ s.chip.opMode ≠ 12 ∧ s.chip.flag F.FUS_CHAN_STATUS.PRESENT f.val = true ∧
      (s.chip.fus1 f.val).coolOff = false ∧ s.chip.fld F.FUS_CHAN_CFG.RETRY_MAX f.val ≤ s.chip.fld
      F.FUS_CHAN_STATUS.RETRIES f.val) :=
  ⟨
    ⟨23, fz fuWaitSlot (pr ++ [F.FUS_CHAN_CFG.CLASS.is 1 23]) {} (ords [23, 5]), (23,3), by decide +kernel⟩,
    ⟨23, fz fuWaitSlot pr {} (ords [23, 5]), (23,3), by decide +kernel⟩,
    ⟨23, fz fuWaitSlot pr {} (ords [5, 23]), by decide +kernel⟩,
    ⟨23, fz fuRamp pr {gate := true}, by decide +kernel⟩,
    ⟨23, fz fuPrecharge pr {gate := true, pchg := true}, by decide +kernel⟩,
    ⟨23, fz fuQualify pr {gate := true}, by decide +kernel⟩,
    ⟨23, fz fuQualify pr {gate := true}, by decide +kernel⟩,
    ⟨23, fz fuQualify (pr ++ [F.FUS_CHAN_STATUS.FT_RUN.is 1 23])  {gate := true}, by decide +kernel⟩,
    ⟨23, fz fuOn (pr ++ [F.FUS_CHAN_STATUS.PG.is 1 23, F.FUS_STATUS.PG.is 0x800000, F.FUS_CHAN_STATUS.RETRIES.is 3
      23]) {gate := true, perstHigh := true, delayDone := true}, by decide +kernel⟩,
    ⟨23, fz fuPreoff (pr ++ [F.FUS_CHAN_STATUS.PG.is 1 23, F.FUS_STATUS.PG.is 0x800000, F.FUS_CHAN_STATUS.RETRIES.is 3
      23]) {gate := true, perstHigh := false, delayDone := true}, by decide +kernel⟩,
    ⟨23, fz fuPrecharge pr {gate := true, pchg := true}, by decide +kernel⟩,
    ⟨23, fz fuRamp pr {gate := true}, by decide +kernel⟩,
    ⟨23, fz fuRamp pr {gate := true}, by decide +kernel⟩,
    ⟨23, fz fuRamp pr {gate := true}, by decide +kernel⟩,
    ⟨23, fz fuRamp pr {gate := true}, by decide +kernel⟩,
    ⟨23, fz fuRamp pr {gate := true}, by decide +kernel⟩,
    ⟨23, fz fuDischarge, by decide +kernel⟩,
    ⟨23, fz fuDischarge pr, by decide +kernel⟩,
    ⟨23, fz fuDischarge [F.FUS_CHAN_CFG.EN.is 0 23] {disabling := true}, by decide +kernel⟩,
    ⟨23, fz fuDischarge [] {disabling := true}, by decide +kernel⟩,
    ⟨23, fz fuCooldown [F.FUS_CHAN_STATUS.RETRIES.is 3 23], by decide +kernel⟩,
    ⟨23, fz fuCooldown (pr ++ [F.FUS_CHAN_STATUS.RETRIES.is 3 23]) {coolOff := true, offSince := true},
      by decide +kernel⟩,
    ⟨23, fz fuCooldown (pr ++ [F.FUS_CHAN_STATUS.RETRIES.is 3 23, F.FUS_CHAN_CFG.RETRY_MAX.is 4 23]),
      by decide +kernel⟩,
    ⟨23, fz fuCooldown (pr ++ sl ++ [F.FUS_CHAN_STATUS.RETRIES.is 3 23, F.FUS_CHAN_CFG.RETRY_MAX.is 3 23]),
      by decide +kernel⟩⟩

theorem witness_FuseTripsAndSamples :
    (∃ (f : Fin 24) (s : State), s.chip.slotUp = true ∧ s.chip.fuLive f.val = true) ∧
    (∃ (f : Fin 24) (s : State), s.chip.slotUp = true ∧ (s.chip.fuState f.val = fuQualify ∨ s.chip.fuState f.val =
      fuOn) ∧ s.chip.flag F.FUS_CHAN_STATUS.FT_RUN f.val = true ∧ s.chip.faultT f.val ≤ (s.chip.fus1 f.val).timer + 8) ∧
    (∃ (f : Fin 24) (s : State), s.chip.slotUp = true ∧ (s.chip.flag F.FUS_CHAN_STATUS.FT_RUN f.val = false ∨
      (s.chip.fus1 f.val).timer + 8 < s.chip.faultT f.val)) ∧
    (∃ (f : Fin 24) (s : State), s.chip.slotUp = true ∧ (s.chip.fuState f.val = fuRamp ∨ s.chip.fuState f.val =
      fuPrecharge)) ∧
    (∃ (f : Fin 24) (s : State), s.chip.slotUp = true ∧ (s.chip.fuState f.val = fuRamp ∨ s.chip.fuState f.val =
      fuPrecharge ∧ (s.chip.fus1 f.val).gate = false)) ∧
    (∃ (f : Fin 24) (s : State), s.chip.slotUp = true ∧ s.chip.fuState f.val = fuPrecharge ∧ (s.chip.fus1 f.val).gate
      = false) ∧
    (∃ (f : Fin 24) (s : State), s.chip.slotUp = true ∧ s.chip.fuLive f.val = false) ∧
    (∃ (f : Fin 24) (s : State), s.chip.slotUp = true ∧ s.chip.fuState f.val ≠ fuQualify ∧ s.chip.fuState f.val ≠
      fuOn) ∧
    (∃ (f : Fin 24) (s : State), s.chip.slotUp = true ∧ s.chip.fuState f.val ≠ fuRamp ∧ s.chip.fuState f.val ≠
      fuPrecharge) ∧
    (∃ (f : Fin 24) (i : Fin 65536) (s : State), s.chip.slotUp = true ∧ s.chip.fuState f.val ≠ fuDisabled ∧ (∀ k < 24,
      k ≠ f.val → (s.chip.fus1 k).eClr = false) ∧ (s.chip.fuState f.val = fuQualify ∨ s.chip.fuState f.val = fuOn) ∧
      (s.chip.faultT f.val ≤ if s.chip.fuState f.val = fuQualify ∨ s.chip.fuState f.val = fuOn then s.chip.timerAfter
      f.val (min (i.val * 64 * 1000000 / (65536 * s.chip.fld F.FUS_CHAN_SENSE.RSNS f.val)) 65535) else (s.chip.fus1
      f.val).timer)) ∧
    (∃ (f : Fin 24) (i : Fin 65536) (s : State), s.chip.slotUp = true ∧ s.chip.fuState f.val ≠ fuDisabled ∧ (∀ k < 24,
      k ≠ f.val → (s.chip.fus1 k).eClr = false) ∧ (¬((s.chip.fuState f.val = fuQualify ∨ s.chip.fuState f.val = fuOn)
      ∧ s.chip.faultT f.val ≤ if s.chip.fuState f.val = fuQualify ∨ s.chip.fuState f.val = fuOn then s.chip.timerAfter
      f.val (min (i.val * 64 * 1000000 / (65536 * s.chip.fld F.FUS_CHAN_SENSE.RSNS f.val)) 65535) else (s.chip.fus1
      f.val).timer))) ∧
    (∃ (f : Fin 24) (rs : List FuseReading) (s : State), s.chip.slotUp = true ∧ (s.chip.fus1 f.val).eClr = true ∧ (∀ r
      ∈ rs, r.chan = f → s.chip.fuState f.val = fuDisabled)) ∧
    (∃ (s : State), s.chip.slotUp = true ∧ (∀ k < 24, (s.chip.fus1 k).eClr = false)) ∧
    (∃ (s : State), s.chip.slotUp = true) :=
  ⟨
    ⟨23, onS, by decide +kernel⟩,
    ⟨23, fz fuOn (pr ++ sl ++ [F.FUS_CHAN_STATUS.PG.is 1 23, F.FUS_STATUS.PG.is 0x800000, F.FUS_CHAN_STATUS.FT_RUN.is
      1 23]) {gate := true, perstHigh := true, delayDone := true, timer := 100000}, by decide +kernel⟩,
    ⟨23, onS, by decide +kernel⟩,
    ⟨23, fz fuRamp (pr ++ sl) {gate := true}, by decide +kernel⟩,
    ⟨23, fz fuRamp (pr ++ sl) {gate := true}, by decide +kernel⟩,
    ⟨23, fz fuPrecharge (pr ++ sl) {pchg := true}, by decide +kernel⟩,
    ⟨23, fz fuCooldown [F.FUS_CHAN_STATUS.LAST_TRIP.is 2 23] {tripAt := some 0} fun c =>
      {c with flt := {c.flt with intake := [{source := 0x1BF, kind := 0x18, sev := 1, handle := 2}]}},
      by decide +kernel⟩,
    ⟨23, fz fuCooldown [F.FUS_CHAN_STATUS.LAST_TRIP.is 2 23] {tripAt := some 0} fun c =>
      {c with flt := {c.flt with intake := [{source := 0x1BF, kind := 0x18, sev := 1, handle := 2}]}},
      by decide +kernel⟩,
    ⟨23, onS, by decide +kernel⟩,
    ⟨23, 65535, fz fuOn (pr ++ sl ++ [F.FUS_CHAN_STATUS.FT_RUN.is 1 23]) {gate := true, timer := 100000},
      by decide +kernel⟩,
    ⟨23, 65535, onS, by decide +kernel⟩,
    ⟨23, [], fz fuOn [Reg.FUS_CHAN_E_LO.is 5 23] {eClr := true, energy := 5000}, by decide +kernel⟩,
    ⟨onS, by decide +kernel⟩,
    ⟨onS, by decide +kernel⟩⟩

end Group16

namespace Group17

def bs20 : List Byte := (List.range 40).map fun i => BitVec.ofNat 8 (i * 37 + 11)

def tm (src st : Nat) (more : List FieldVal := []) (h : TimH := {}) (f : Chip → Chip := id) : State :=
  mk ([F.TIM_CFG.SRC.is src, F.TIM_STATUS.STATE.is st] ++ more) fun c => f {c with tim := h}

def at_ (ns : Nat) : Nat := ns * 2 ^ 48

def fr (e : Nat) (step : Bool := false) : TodFrame := {edge := e, step, since := 0}

def so (h : TimH) : State := tm 1 4 [F.TIM_CFG.SYNC_OUT_EN.is 1, F.TIM_CFG.SRC_QUAL.is 2] h

def ap (s : State) (r : Reg) (v : Word) : Chip := pc s fw ⟨r,0,0⟩ v

def aj (src : Nat) : State := tm src 4 [F.TIM_OFS_ADJ.OFS.is 0xFFFFFFFE, F.TIM_ADJ_CTL.BUSY.is 1, F.TIM_SET_LO.NS.is
    99, F.TIM_SET_HI.NS.is 0xFFFFFFFF] {count := at_ 1, slew := 8}

def ga (more : List FieldVal := []) (h : SchPort := {}) (f : Chip → Chip := id) : State := mk
    ([F.SCH_GCL_STATUS.ACTIVE_BANK.is 1 95, F.SCH_GCL_LEN.LEN.is 256 95 0, F.SCH_GCL_LEN.LEN.is 2 95 1,
    F.SCH_GCL_CTL.EN.is 1 95, Reg.SCH_GCL_BASE_LO.is 800 95 0] ++ more) fun c => f
    {c with sched := {c.sched with ports := [(95, h)]}}

def gp (s : State) (v : Word) : Chip := pc s fw ⟨.SCH_GCL_CTL,95,0⟩ v

def gp2 (s : State) (v : Word) : Chip := pc s host ⟨.SCH_GCL_CTL,95,0⟩ v

def gbig : State := ga [F.SCH_GCL_LEN.LEN.is 8 95 0] {} fun c => (List.range 8).foldl (fun c i => c.setReg
    .SCH_GCL_ENT 0xFFFFFFFF 95 i) c

def gon2 : State := ga [F.LBX_OWNER.VALID.is 1, F.LBX_OWNER.OWNER.is 0, F.SCH_GCL_STATUS.PENDING.is 1 95]

theorem witness_TimeFollowing :
    (∃ (s : State), s.chip.fld F.TIM_CFG.SRC = 1) ∧
    (∃ (b0 : Byte) (s : State), s.chip.coreUp = true ∧ s.chip.fld F.TIM_CFG.SRC = 0 ∧ s.chip.tim.frame = none ∧
      BitVec.toNat b0 / 16 ≠ 9) ∧
    (∃ (b0 : Byte) (s : State), s.chip.coreUp = true ∧ s.chip.fld F.TIM_CFG.SRC = 0 ∧ s.chip.tim.frame = none ∧
      BitVec.toNat b0 / 16 = 9 ∧ bit (BitVec.toNat b0) 3 = false) ∧
    (∃ (b0 : Byte) (e : Fin (2 ^ 56)) (s : State), s.chip.coreUp = true ∧ s.chip.fld F.TIM_CFG.SRC = 0 ∧
      s.chip.tim.frame = none ∧ BitVec.toNat b0 / 16 = 9 ∧ bit (BitVec.toNat b0) 3 = true ∧ (s.chip.fld
      F.TIM_STATUS.STATE ≠ 2 ∨ bit (BitVec.toNat b0) 2 = true ∨ (Option.map (fun p => (fun p => (s.chip.fld
      F.TIM_SYNC_CFG.LOCK_NS).blt ((if e.val ≤ p then p - e.val else e.val - p) * 1000)) (p + s.chip.period))
      s.chip.tim.edge).getD false = false)) ∧
    (∃ (b0 : Byte) (e : Fin (2 ^ 56)) (s : State), s.chip.coreUp = true ∧ s.chip.fld F.TIM_CFG.SRC = 0 ∧
      s.chip.tim.frame = none ∧ BitVec.toNat b0 / 16 = 9 ∧ bit (BitVec.toNat b0) 3 = true ∧ s.chip.fld
      F.TIM_STATUS.STATE = 2 ∧ bit (BitVec.toNat b0) 2 = false ∧ s.chip.tim.odd = [] ∧ (∃ p ∈ s.chip.tim.edge, ((fun p
      => (s.chip.fld F.TIM_SYNC_CFG.LOCK_NS).blt ((if e.val ≤ p then p - e.val else e.val - p) * 1000)) (p +
      s.chip.period) = true))) ∧
    (∃ (bs : List Byte) (s : State), s.chip.coreUp = true ∧ s.chip.fld F.TIM_CFG.SRC = 0 ∧ (bs.length ≠ 9 ∨ crc8
      (List.take 8 bs) ≠ BitVec.toNat (bs.getD 8 0))) ∧
    (∃ (s : State), s.chip.coreUp = true ∧ s.chip.fld F.TIM_CFG.SRC = 0 ∧ (∃ f ∈ s.chip.tim.frame, s.chip.hwy ≤
      f.since + s.chip.period * usCycles ∧ (s.chip.fld F.TIM_STATUS.STATE = 2 → f.step = false → ∀ (p : Nat),
      s.chip.tim.edge = some p → ((↑(s.chip.halfNs * 8) : Int) - (↑(s.chip.fld F.TIM_DELAY_COMP.SYNC_COMP) : Int) -
      (↑((p + s.chip.period) * 16000) : Int)).natAbs ≤ s.chip.period * 2000) ∧ (s.chip.fld F.TIM_STATUS.STATE = 1 ∨
      s.chip.fld F.TIM_STATUS.STATE = 2) ∧ (s.chip.fld F.TIM_CFG.STEP_NS * 16).blt ((↑(s.chip.halfNs * 8) : Int) -
      (↑(s.chip.fld F.TIM_DELAY_COMP.SYNC_COMP) : Int) - (↑(f.edge * 16000) : Int)).natAbs = false ∧ f.step = false)) ∧
    (∃ (s : State), s.chip.coreUp = true ∧ s.chip.fld F.TIM_CFG.SRC = 0 ∧ (∃ f ∈ s.chip.tim.frame, s.chip.hwy ≤
      f.since + s.chip.period * usCycles ∧ (s.chip.fld F.TIM_STATUS.STATE = 2 → f.step = false → ∀ (p : Nat),
      s.chip.tim.edge = some p → ((↑(s.chip.halfNs * 8) : Int) - (↑(s.chip.fld F.TIM_DELAY_COMP.SYNC_COMP) : Int) -
      (↑((p + s.chip.period) * 16000) : Int)).natAbs ≤ s.chip.period * 2000) ∧ ((s.chip.fld F.TIM_STATUS.STATE = 1 ∨
      s.chip.fld F.TIM_STATUS.STATE = 2) ∧ ((s.chip.fld F.TIM_CFG.STEP_NS * 16).blt ((↑(s.chip.halfNs * 8) : Int) -
      (↑(s.chip.fld F.TIM_DELAY_COMP.SYNC_COMP) : Int) - (↑(f.edge * 16000) : Int)).natAbs = true ∨ f.step = true) ∨
      s.chip.fld F.TIM_STATUS.CLK100_OK = 1 ∧ (s.chip.fld F.TIM_STATUS.STATE = 0 ∨ s.chip.fld F.TIM_STATUS.STATE = 3 ∧
      ((s.chip.fld F.TIM_CFG.STEP_NS * 16).blt ((↑(s.chip.halfNs * 8) : Int) - (↑(s.chip.fld
      F.TIM_DELAY_COMP.SYNC_COMP) : Int) - (↑(f.edge * 16000) : Int)).natAbs = true ∨ f.step = true))))) ∧
    (∃ (s : State), s.chip.coreUp = true ∧ s.chip.fld F.TIM_CFG.SRC = 0 ∧ s.chip.tim.frame = none ∧ (s.chip.fld
      F.TIM_STATUS.STATE = 1 ∨ s.chip.fld F.TIM_STATUS.STATE = 2) ∧ (∃ e ∈ s.chip.tim.edge, 2 ≤ s.chip.tim.blind ∧
      ((↑(s.chip.halfNs * 8) : Int) - (↑(s.chip.fld F.TIM_DELAY_COMP.SYNC_COMP) : Int) - (↑((e + s.chip.period) *
      16000) : Int)).natAbs ≤ s.chip.period * 2000)) ∧
    (∃ (s : State), s.chip.coreUp = true ∧ s.chip.fld F.TIM_CFG.SRC = 0 ∧ s.chip.tim.frame = none) ∧
    (∃ (s : State), s.chip.coreUp = true ∧ s.chip.fld F.TIM_CFG.SRC = 0 ∧ s.chip.tim.frame ≠ none) ∧
    (∃ (s : State), s.chip.coreUp = true ∧ s.chip.fld F.TIM_STATUS.REF_FALLBACK = 0) ∧
    (∃ (s : State), s.chip.fld F.TIM_STATUS.REF_FALLBACK = 1) ∧
    (∃ (s : State), s.chip.coreUp = true) :=
  ⟨
    ⟨tm 1 4, by decide +kernel⟩,
    ⟨0x18, tm 0 1, by decide +kernel⟩,
    ⟨0x90, tm 0 1, by decide +kernel⟩,
    ⟨0x98, 77, tm 0 1, by decide +kernel⟩,
    ⟨0x9B, 77, tm 0 2 [] {edge := some 76000}, by decide +kernel⟩,
    ⟨bs20, tm 0 1, by decide +kernel⟩,
    ⟨tm 0 1 [] {count := at_ 77000, frame := some (fr 77), good := 3}, by decide +kernel⟩,
    ⟨tm 0 1 [] {count := at_ 99000, frame := some (fr 77), good := 3}, by decide +kernel⟩,
    ⟨tm 0 2 [] {count := at_ (1077*1000), edge := some 77, blind := 2}, by decide +kernel⟩,
    ⟨tm 0 2, by decide +kernel⟩,
    ⟨tm 0 0 [] {frame := some (fr 9)}, by decide +kernel⟩,
    ⟨tm 0 2, by decide +kernel⟩,
    ⟨tm 0 2 [F.TIM_STATUS.REF_FALLBACK.is 1], by decide +kernel⟩,
    ⟨tm 0 2 [F.TIM_STATUS.REF_FALLBACK.is 1], by decide +kernel⟩⟩

theorem witness_TimeSourceAndAdjustment :
    (∃ (s : State), s.chip.coreUp = true ∧ s.chip.fld F.TIM_CFG.SRC = 1 ∧ s.chip.fld F.TIM_CFG.SYNC_OUT_EN = 1 ∧
      s.chip.fld F.PWR_STATUS.STATE = 0 ∧ (s.chip.tim.sent).isSome = true) ∧
    (∃ (s : State), s.chip.coreUp = true ∧ s.chip.fld F.TIM_CFG.SRC = 1 ∧ s.chip.fld F.TIM_CFG.SYNC_OUT_EN = 1 ∧
      s.chip.fld F.PWR_STATUS.STATE = 0 ∧ s.chip.tim.sent = none ∧ s.chip.tim.stepDue = false) ∧
    (∃ (s : State), s.chip.coreUp = true ∧ s.chip.fld F.TIM_CFG.SRC = 1 ∧ s.chip.fld F.TIM_CFG.SYNC_OUT_EN = 1 ∧
      s.chip.fld F.PWR_STATUS.STATE = 0 ∧ s.chip.tim.sent = none ∧ s.chip.tim.stepDue = true) ∧
    (∃ (s : State), (s.chip.fld F.TIM_CFG.SRC = 0 ∨ s.chip.fld F.TIM_CFG.SYNC_OUT_EN = 0 ∨ s.chip.fld
      F.PWR_STATUS.STATE ≠ 0)) ∧
    (∃ (a : Access) (v : Word) (s : State) (c : Chip), s.passes a { reg := Reg.TIM_CFG } v c ∧ c.isExpert a.who = true
      ∧ 16 ≤ wget v 11 0 ∧ 1 ≤ wget v 19 12 ∧ wget v 31 31 = c.fld F.TIM_CFG.SRC) ∧
    (∃ (a : Access) (v : Word) (s : State) (c : Chip), s.passes a { reg := Reg.TIM_CFG } v c ∧ c.isExpert a.who = true
      ∧ 16 ≤ wget v 11 0 ∧ 1 ≤ wget v 19 12 ∧ wget v 31 31 ≠ c.fld F.TIM_CFG.SRC) ∧
    (∃ (a : Access) (v : Word) (s : State) (c : Chip), s.passes a { reg := Reg.TIM_RATE_ADJ } v c ∧ c.isExpert a.who =
      true ∧ c.fld F.TIM_CFG.SRC = 0) ∧
    (∃ (a : Access) (v : Word) (s : State) (c : Chip), s.passes a { reg := Reg.TIM_RATE_ADJ } v c ∧ c.isExpert a.who =
      true ∧ c.fld F.TIM_CFG.SRC = 1 ∧ -32768000 ≤ BitVec.toInt v ∧ BitVec.toInt v ≤ 32768000) ∧
    (∃ (a : Access) (v : Word) (s : State) (c : Chip), s.passes a { reg := Reg.TIM_RATE_ADJ } v c ∧ c.isExpert a.who =
      true ∧ c.fld F.TIM_CFG.SRC = 1 ∧ 32768000 < BitVec.toInt v) ∧
    (∃ (a : Access) (v : Word) (s : State) (c : Chip), s.passes a { reg := Reg.TIM_ADJ_CTL } v c ∧ c.isExpert a.who =
      true ∧ c.fld F.TIM_CFG.SRC = 0) ∧
    (∃ (a : Access) (v : Word) (s : State) (c : Chip), s.passes a { reg := Reg.TIM_ADJ_CTL } v c ∧ c.isExpert a.who =
      true ∧ c.fld F.TIM_CFG.SRC = 1 ∧ wbit v 31 = false ∧ wbit v 29 = false) ∧
    (∃ (a : Access) (v : Word) (s : State) (c : Chip), s.passes a { reg := Reg.TIM_ADJ_CTL } v c ∧ c.isExpert a.who =
      true ∧ c.fld F.TIM_CFG.SRC = 1 ∧ wget v 31 29 = 4) ∧
    (∃ (a : Access) (v : Word) (s : State) (c : Chip), s.passes a { reg := Reg.TIM_ADJ_CTL } v c ∧ c.isExpert a.who =
      true ∧ c.fld F.TIM_CFG.SRC = 1 ∧ wget v 31 29 = 6) ∧
    (∃ (a : Access) (v : Word) (s : State) (c : Chip), s.passes a { reg := Reg.TIM_ADJ_CTL } v c ∧ c.isExpert a.who =
      true ∧ c.fld F.TIM_CFG.SRC = 1 ∧ wbit v 29 = true) ∧
    (∃ (a : Access) (v : Word) (s : State) (c : Chip), s.passes a { reg := Reg.TIM_ADJ_CTL } v c ∧ c.isExpert a.who =
      true ∧ c.fld F.TIM_CFG.SRC = 1 ∧ wget v 31 29 = 6 ∧ c.sfld F.TIM_OFS_ADJ.OFS ≤ 0) ∧
    (∃ (a : Access) (v : Word) (s : State) (c : Chip), s.passes a { reg := Reg.TIM_ADJ_CTL } v c ∧ c.isExpert a.who =
      true ∧ c.fld F.TIM_CFG.SRC = 1 ∧ wget v 31 29 = 1) ∧
    (∃ (s : State), s.chip.coreUp = true ∧ s.chip.fld F.TIM_ADJ_CTL.BUSY = 1) ∧
    (∃ (s : State), s.chip.fld F.TIM_ADJ_CTL.BUSY = 0) :=
  ⟨
    ⟨so {count := at_ 12345678, sent := some 55}, by decide +kernel⟩,
    ⟨so {count := at_ 12345678}, by decide +kernel⟩,
    ⟨so {count := at_ 12345678, stepDue := true}, by decide +kernel⟩,
    ⟨tm 0 2, by decide +kernel⟩,
    ⟨fw, 0xFFFFFFFF, tm 1 4, ap (tm 1 4) .TIM_CFG 0xFFFFFFFF, by decide +kernel⟩,
    ⟨fw, 0xFFFFFFFF, tm 0 1 [] {slew := 4, frame := some (fr 4), edge := some 5}, ap (tm 0 1 []
      {slew := 4, frame := some (fr 4), edge := some 5}) .TIM_CFG 0xFFFFFFFF, by decide +kernel⟩,
    ⟨fw, 0xFFFFFFFF, tm 0 2, ap (tm 0 2) .TIM_RATE_ADJ 0xFFFFFFFF, by decide +kernel⟩,
    ⟨fw, 0xFFFFFFFF, tm 1 4, ap (tm 1 4) .TIM_RATE_ADJ 0xFFFFFFFF, by decide +kernel⟩,
    ⟨fw, 0x7FFFFFFF, tm 1 4, ap (tm 1 4) .TIM_RATE_ADJ 0x7FFFFFFF, by decide +kernel⟩,
    ⟨fw, 0x80000000, aj 0, ap (aj 0) .TIM_ADJ_CTL 0x80000000, by decide +kernel⟩,
    ⟨fw, 0x40000000, aj 1, ap (aj 1) .TIM_ADJ_CTL 0x40000000, by decide +kernel⟩,
    ⟨fw, 0x80000000, aj 1, ap (aj 1) .TIM_ADJ_CTL 0x80000000, by decide +kernel⟩,
    ⟨fw, 0xC0000000, aj 1, ap (aj 1) .TIM_ADJ_CTL 0xC0000000, by decide +kernel⟩,
    ⟨fw, 0xE0000000, aj 1, ap (aj 1) .TIM_ADJ_CTL 0xE0000000, by decide +kernel⟩,
    ⟨fw, 0xC0000000, aj 1, ap (aj 1) .TIM_ADJ_CTL 0xC0000000, by decide +kernel⟩,
    ⟨fw, 0x20000000, aj 1, ap (aj 1) .TIM_ADJ_CTL 0x20000000, by decide +kernel⟩,
    ⟨aj 1, by decide +kernel⟩,
    ⟨tm 0 2, by decide +kernel⟩⟩

theorem witness_GateLists :
    (∃ (a : Access) (n : Fin 96) (v : Word) (s : State) (c : Chip), s.passes a { reg := Reg.SCH_GCL_CTL, i := n.val }
      v c ∧ c.isExpert a.who = true ∧ wget v 30 29 = 0) ∧
    (∃ (a : Access) (n : Fin 96) (v : Word) (s : State) (c : Chip), s.passes a { reg := Reg.SCH_GCL_CTL, i := n.val }
      v c ∧ c.isExpert a.who = true ∧ wget v 30 29 = 1) ∧
    (∃ (a : Access) (n : Fin 96) (v : Word) (s : State) (c : Chip), s.passes a { reg := Reg.SCH_GCL_CTL, i := n.val }
      v c ∧ c.isExpert a.who = true ∧ wget v 30 29 = 2 ∧ c.fld F.SCH_GCL_STATUS.PENDING n.val = 1) ∧
    (∃ (a : Access) (n : Fin 96) (v : Word) (s : State) (c : Chip), s.passes a { reg := Reg.SCH_GCL_CTL, i := n.val }
      v c ∧ c.isExpert a.who = true ∧ wbit v 30 = true ∧ (c.fld F.SCH_GCL_STATUS.PENDING n.val = 0 ∨ wbit v 29 = true)
      ∧ (c.fld F.SCH_GCL_LEN.LEN n.val (1 - c.fld F.SCH_GCL_STATUS.ACTIVE_BANK n.val) < 1 ∨ 256 < c.fld
      F.SCH_GCL_LEN.LEN n.val (1 - c.fld F.SCH_GCL_STATUS.ACTIVE_BANK n.val))) ∧
    (∃ (a : Access) (n : Fin 96) (v : Word) (s : State) (c : Chip), s.passes a { reg := Reg.SCH_GCL_CTL, i := n.val }
      v c ∧ c.isExpert a.who = true ∧ wbit v 30 = true ∧ (c.fld F.SCH_GCL_STATUS.PENDING n.val = 0 ∨ wbit v 29 = true)
      ∧ 1 ≤ c.fld F.SCH_GCL_LEN.LEN n.val (1 - c.fld F.SCH_GCL_STATUS.ACTIVE_BANK n.val) ∧ c.fld F.SCH_GCL_LEN.LEN
      n.val (1 - c.fld F.SCH_GCL_STATUS.ACTIVE_BANK n.val) ≤ 256 ∧ c.gclCycle n.val (1 - c.fld
      F.SCH_GCL_STATUS.ACTIVE_BANK n.val) < 64) ∧
    (∃ (a : Access) (n : Fin 96) (v : Word) (s : State) (c : Chip), s.passes a { reg := Reg.SCH_GCL_CTL, i := n.val }
      v c ∧ c.isExpert a.who = true ∧ wbit v 30 = true ∧ (c.fld F.SCH_GCL_STATUS.PENDING n.val = 0 ∨ wbit v 29 = true)
      ∧ 1 ≤ c.fld F.SCH_GCL_LEN.LEN n.val (1 - c.fld F.SCH_GCL_STATUS.ACTIVE_BANK n.val) ∧ c.fld F.SCH_GCL_LEN.LEN
      n.val (1 - c.fld F.SCH_GCL_STATUS.ACTIVE_BANK n.val) ≤ 256 ∧ 1000000000 < c.gclCycle n.val (1 - c.fld
      F.SCH_GCL_STATUS.ACTIVE_BANK n.val)) ∧
    (∃ (a : Access) (n : Fin 96) (v : Word) (s : State) (c : Chip), s.passes a { reg := Reg.SCH_GCL_CTL, i := n.val }
      v c ∧ c.isExpert a.who = true ∧ wbit v 30 = true ∧ (c.fld F.SCH_GCL_STATUS.PENDING n.val = 0 ∨ wbit v 29 = true)
      ∧ 1 ≤ c.fld F.SCH_GCL_LEN.LEN n.val (1 - c.fld F.SCH_GCL_STATUS.ACTIVE_BANK n.val) ∧ c.fld F.SCH_GCL_LEN.LEN
      n.val (1 - c.fld F.SCH_GCL_STATUS.ACTIVE_BANK n.val) ≤ 256 ∧ 64 ≤ c.gclCycle n.val (1 - c.fld
      F.SCH_GCL_STATUS.ACTIVE_BANK n.val) ∧ c.gclCycle n.val (1 - c.fld F.SCH_GCL_STATUS.ACTIVE_BANK n.val) ≤
      1000000000 ∧ c.pair Reg.SCH_GCL_BASE_LO Reg.SCH_GCL_BASE_HI n.val (1 - c.fld F.SCH_GCL_STATUS.ACTIVE_BANK n.val)
      < 2 ^ 62 ∧ c.ns < 2 ^ 62) ∧
    (∃ (a : Access) (n : Fin 96) (v : Word) (s : State) (c : Chip), s.passes a { reg := Reg.SCH_GCL_CTL, i := n.val }
      v c ∧ c.isExpert a.who = true ∧ wget v 31 29 = 4 ∧ c.fld F.SCH_GCL_CTL.EN n.val = 0 ∧ c.gclBase n.val (c.fld
      F.SCH_GCL_STATUS.ACTIVE_BANK n.val) ≤ c.ns) ∧
    (∃ (a : Access) (n : Fin 96) (v : Word) (s : State) (c : Chip), s.passes a { reg := Reg.SCH_GCL_CTL, i := n.val }
      v c ∧ c.isExpert a.who = true ∧ wget v 31 29 = 6 ∧ c.fld F.SCH_GCL_STATUS.PENDING n.val = 0 ∧ 1 ≤ c.fld
      F.SCH_GCL_LEN.LEN n.val (1 - c.fld F.SCH_GCL_STATUS.ACTIVE_BANK n.val) ∧ c.fld F.SCH_GCL_LEN.LEN n.val (1 -
      c.fld F.SCH_GCL_STATUS.ACTIVE_BANK n.val) ≤ 256 ∧ 64 ≤ c.gclCycle n.val (1 - c.fld F.SCH_GCL_STATUS.ACTIVE_BANK
      n.val) ∧ c.gclCycle n.val (1 - c.fld F.SCH_GCL_STATUS.ACTIVE_BANK n.val) ≤ 1000000000 ∧ c.pair
      Reg.SCH_GCL_BASE_LO Reg.SCH_GCL_BASE_HI n.val (1 - c.fld F.SCH_GCL_STATUS.ACTIVE_BANK n.val) < 2 ^ 62 ∧ c.ns < 2
      ^ 62) ∧
    (∃ (a : Access) (n : Fin 96) (v : Word) (s : State) (c : Chip), s.passes a { reg := Reg.SCH_GCL_CTL, i := n.val }
      v c ∧ c.isExpert a.who = true ∧ wget v 31 29 = 5) ∧
    (∃ (a : Access) (n : Fin 96) (v : Word) (s : State) (c : Chip), s.passes a { reg := Reg.SCH_GCL_CTL, i := n.val }
      v c ∧ c.isExpert a.who = false ∧ wget v 31 29 = 4) ∧
    (∃ (n : Fin 96) (s : State), s.chip.coreUp = true ∧ s.chip.fld F.SCH_GCL_STATUS.PENDING n.val = 1 ∧
      s.chip.cel.copies = []) ∧
    (∃ (n : Fin 96) (s : State), s.chip.fld F.SCH_GCL_STATUS.PENDING n.val = 0) ∧
    (∃ (n : Fin 96) (s : State), s.chip.coreUp = true ∧ s.chip.fld F.SCH_GCL_CTL.EN n.val = 1 ∧ s.chip.cel.copies = []
      ∧ (s.chip.sch n.val).run = true ∧ (s.chip.sch n.val).entry + 1 < s.chip.fld F.SCH_GCL_LEN.LEN n.val (s.chip.fld
      F.SCH_GCL_STATUS.ACTIVE_BANK n.val)) ∧
    (∃ (n : Fin 96) (s : State), s.chip.coreUp = true ∧ s.chip.fld F.SCH_GCL_CTL.EN n.val = 1 ∧ s.chip.cel.copies = []
      ∧ (s.chip.sch n.val).run = true ∧ s.chip.fld F.SCH_GCL_LEN.LEN n.val (s.chip.fld F.SCH_GCL_STATUS.ACTIVE_BANK
      n.val) ≤ (s.chip.sch n.val).entry + 1 ∧ 0 < s.chip.gclTicks n.val (s.chip.fld F.SCH_GCL_STATUS.ACTIVE_BANK
      n.val) 0 ∧ s.chip.gclBase n.val (s.chip.fld F.SCH_GCL_STATUS.ACTIVE_BANK n.val) ≤ (s.chip.sch n.val).ends ∧
      ((s.chip.sch n.val).ends - s.chip.gclBase n.val (s.chip.fld F.SCH_GCL_STATUS.ACTIVE_BANK n.val)) %
      s.chip.gclCycle n.val (s.chip.fld F.SCH_GCL_STATUS.ACTIVE_BANK n.val) = 0) ∧
    (∃ (n : Fin 96) (s : State), s.chip.coreUp = true ∧ s.chip.fld F.SCH_GCL_CTL.EN n.val = 1 ∧ s.chip.cel.copies = []
      ∧ (s.chip.sch n.val).run = false ∧ s.chip.ns ≤ s.chip.gclBase n.val (s.chip.fld F.SCH_GCL_STATUS.ACTIVE_BANK
      n.val) ∧ 0 < s.chip.gclTicks n.val (s.chip.fld F.SCH_GCL_STATUS.ACTIVE_BANK n.val) 0) ∧
    (∃ (n : Fin 96) (s : State), s.chip.fld F.SCH_GCL_CTL.EN n.val = 0) :=
  ⟨
    ⟨fw, 95, 0, ga [F.SCH_GCL_STATUS.PENDING.is 1 95], gp (ga [F.SCH_GCL_STATUS.PENDING.is 1 95]) 0,
      by decide +kernel⟩,
    ⟨fw, 95, 0xA0000000, ga [F.SCH_GCL_STATUS.PENDING.is 1 95], gp (ga [F.SCH_GCL_STATUS.PENDING.is 1 95]) 0xA0000000,
      by decide +kernel⟩,
    ⟨fw, 95, 0xC0000000, ga [F.SCH_GCL_STATUS.PENDING.is 1 95], gp (ga [F.SCH_GCL_STATUS.PENDING.is 1 95]) 0xC0000000,
      by decide +kernel⟩,
    ⟨fw, 95, 0xC0000000, ga [F.SCH_GCL_LEN.LEN.is 0 95 0], gp (ga [F.SCH_GCL_LEN.LEN.is 0 95 0]) 0xC0000000,
      by decide +kernel⟩,
    ⟨fw, 95, 0xC0000000, ga [F.SCH_GCL_LEN.LEN.is 1 95 0], gp (ga [F.SCH_GCL_LEN.LEN.is 1 95 0]) 0xC0000000,
      by decide +kernel⟩,
    ⟨fw, 95, 0xC0000000, gbig, gp gbig 0xC0000000, by decide +kernel⟩,
    ⟨fw, 95, 0xE0000000, ga [F.SCH_GCL_STATUS.PENDING.is 1 95], gp (ga [F.SCH_GCL_STATUS.PENDING.is 1 95]) 0xE0000000,
      by decide +kernel⟩,
    ⟨fw, 95, 0x80000000, ga [F.SCH_GCL_CTL.EN.is 0 95], gp (ga [F.SCH_GCL_CTL.EN.is 0 95]) 0x80000000,
      by decide +kernel⟩,
    ⟨fw, 95, 0xC0000000, ga, gp (ga) 0xC0000000, by decide +kernel⟩,
    ⟨fw, 95, 0xA0000000, ga [F.SCH_GCL_STATUS.PENDING.is 1 95], gp (ga [F.SCH_GCL_STATUS.PENDING.is 1 95]) 0xA0000000,
      by decide +kernel⟩,
    ⟨host, 95, 0x80000000, gon2, gp2 gon2 0x80000000, by decide +kernel⟩,
    ⟨95, ga [F.SCH_GCL_STATUS.PENDING.is 1 95, Reg.SCH_GCL_SWITCH_AT_LO.is 5555 95], by decide +kernel⟩,
    ⟨95, ga, by decide +kernel⟩,
    ⟨95, ga [] {run := true, ends := 808}, by decide +kernel⟩,
    ⟨95, ga [] {run := true, entry := 1, ends := 800}, by decide +kernel⟩,
    ⟨95, ga [], by decide +kernel⟩,
    ⟨95, {}, by decide +kernel⟩⟩

end Group17

namespace Group18

def ta (a : Nat) (more : List FieldVal := []) (x : Option TimAct := none) (f : Chip → Chip := id) : State :=
  mk ([F.TIM_ACT_A.ARM.is a 255, F.GLB_MODE.MODE.is 9] ++ more) fun c => f
    {c with tim := {c.tim with acts := match x with | some x => [(255, some x)] | none => []}}

def tp (s : State) (v : Word) : Chip := pc s fw ⟨.TIM_ACT_A,255,0⟩ v

def tb : State := ta 0 [Reg.TIM_ACT_TIME_LO.is 800 255]

def tc : State := ta 1 [F.TIM_ACT_A.KIND.is 3 255] (some {next := 5})

def ru (x : MtxAct) (more : List FieldVal := []) : State := mk ([F.GLB_MODE.MODE.is 9] ++ more) fun c =>
    {c with tim := {c.tim with rules := [{rule := 3, at_ := 5, spec := x.spec}, x]}}

def rx (kind target op : Nat) : MtxAct :=
    {rule := 63, at_ := 5, spec := {kind, target, op, width := 4, arg := 0, mask := 0, tref := 0}}

theorem witness_TimedActions :
    (∃ (a : Access) (k : Fin 256) (v : Word) (s : State) (c : Chip), s.passes a { reg := Reg.TIM_ACT_A, i := k.val } v
      c ∧ c.isExpert a.who = true ∧ c.fld F.TIM_ACT_A.ARM k.val = 0 ∧ wbit v 31 = false) ∧
    (∃ (a : Access) (k : Fin 256) (v : Word) (s : State) (c : Chip), s.passes a { reg := Reg.TIM_ACT_A, i := k.val } v
      c ∧ c.isExpert a.who = true ∧ c.fld F.TIM_ACT_A.ARM k.val = 0 ∧ wbit v 31 = true ∧ c.halfNs ≤ 2 * c.pair
      Reg.TIM_ACT_TIME_LO Reg.TIM_ACT_TIME_HI k.val + wget v 28 28) ∧
    (∃ (a : Access) (k : Fin 256) (v : Word) (s : State) (c : Chip), s.passes a { reg := Reg.TIM_ACT_A, i := k.val } v
      c ∧ c.isExpert a.who = true ∧ c.fld F.TIM_ACT_A.ARM k.val = 1 ∧ wbit v 31 = false) ∧
    (∃ (k : Fin 256) (s : State) (x : TimAct), s.chip.coreUp = true ∧ s.chip.opMode ≠ 12 ∧ Table.get none
      s.chip.tim.acts k.val = some x ∧ x.late = false ∧ s.chip.fld F.TIM_ACT_A.KIND k.val = 0 ∧ 2 * BitVec.toNat
      (s.chip.reg Reg.TIM_ACT_PERIOD k.val) = 0) ∧
    (∃ (k : Fin 256) (s : State), s.chip.coreUp = true ∧ s.chip.opMode ≠ 12 ∧ (∃ x ∈ Table.get none s.chip.tim.acts
      k.val, x.late = false ∧ s.chip.fld F.TIM_ACT_A.KIND k.val = 0 ∧ 0 < 2 * BitVec.toNat (s.chip.reg
      Reg.TIM_ACT_PERIOD k.val) ∧ x.unlimited = true ∧ s.chip.halfNs < x.next + 2 * BitVec.toNat (s.chip.reg
      Reg.TIM_ACT_PERIOD k.val))) ∧
    (∃ (k : Fin 256) (s : State), s.chip.coreUp = true ∧ s.chip.opMode ≠ 12 ∧ (∃ x ∈ Table.get none s.chip.tim.acts
      k.val, x.late = false ∧ s.chip.fld F.TIM_ACT_A.KIND k.val = 0 ∧ 0 < 2 * BitVec.toNat (s.chip.reg
      Reg.TIM_ACT_PERIOD k.val) ∧ x.unlimited = false ∧ s.chip.fld F.TIM_ACT_COUNT.COUNT k.val - 1 = 0)) ∧
    (∃ (k : Fin 256) (s : State), s.chip.coreUp = true ∧ s.chip.opMode ≠ 12 ∧ (∃ x ∈ Table.get none s.chip.tim.acts
      k.val, x.late = false ∧ s.chip.fld F.TIM_ACT_A.KIND k.val = 0 ∧ 0 < 2 * BitVec.toNat (s.chip.reg
      Reg.TIM_ACT_PERIOD k.val) ∧ x.unlimited = false ∧ 0 < s.chip.fld F.TIM_ACT_COUNT.COUNT k.val - 1 ∧ s.chip.halfNs
      < x.next + 2 * BitVec.toNat (s.chip.reg Reg.TIM_ACT_PERIOD k.val))) ∧
    (∃ (k : Fin 256) (s : State), s.chip.coreUp = true ∧ 1 ≤ s.chip.opMode ∧ s.chip.opMode ≤ 10 ∧ (Table.get none
      s.chip.tim.acts k.val).isSome = true ∧ s.chip.fld F.TIM_ACT_A.KIND k.val = 1 ∧ s.chip.fld F.TIM_ACT_A.OP k.val =
      0) ∧
    (∃ (k : Fin 256) (s : State), s.chip.coreUp = true ∧ 1 ≤ s.chip.opMode ∧ s.chip.opMode ≤ 10 ∧ (Table.get none
      s.chip.tim.acts k.val).isSome = true ∧ s.chip.fld F.TIM_ACT_A.KIND k.val = 1 ∧ s.chip.fld F.TIM_ACT_A.OP k.val =
      2 ∧ 0 < s.chip.hwy + s.chip.fld F.TIM_ACT_B.WIDTH k.val) ∧
    (∃ (k : Fin 256) (s : State), (s.chip.opMode = 12 ∨ Table.get none s.chip.tim.acts k.val = none)) ∧
    (∃ (s : State), s.chip.coreUp = true) ∧
    (∃ (r : Fin 64) (s : State) (x : MtxAct), s.chip.coreUp = true ∧ x ∈ s.chip.tim.rules ∧ (List.find? (fun y =>
      y.rule == r.val) s.chip.tim.rules = some x) ∧ (s.chip.opMode = 12 ∨ x.spec.kind = 0)) ∧
    (∃ (r : Fin 64) (s : State) (x : MtxAct), s.chip.coreUp = true ∧ x ∈ s.chip.tim.rules ∧ (List.find? (fun y =>
      y.rule == r.val) s.chip.tim.rules = some x) ∧ 1 ≤ s.chip.opMode ∧ s.chip.opMode ≤ 10 ∧ x.spec.kind = 2 ∧
      x.spec.op = 0 ∧ x.spec.target < 24) ∧
    (∃ (r : Fin 64) (s : State) (x : MtxAct), s.chip.coreUp = true ∧ x ∈ s.chip.tim.rules ∧ (List.find? (fun y =>
      y.rule == r.val) s.chip.tim.rules = some x) ∧ s.chip.opMode ≠ 12 ∧ x.spec.kind = 4 ∧ x.spec.target < 24 ∧
      s.chip.fuState x.spec.target ≠ fuCooldown ∧ s.chip.fuState x.spec.target ≠ fuLatched ∧ s.chip.fuState
      x.spec.target ≠ fuWaitReq) ∧
    (∃ (r : Fin 64) (s : State), (∀ x ∈ s.chip.tim.rules, x.rule ≠ r.val)) :=
  ⟨
    ⟨fw, 255, 0x16FFFFFF, ta 0, tp (ta 0) 0x16FFFFFF, by decide +kernel⟩,
    ⟨fw, 255, 0x90000000, tb, tp tb 0x90000000, by decide +kernel⟩,
    ⟨fw, 255, 0x10000000, tc, tp tc 0x10000000, by decide +kernel⟩,
    ⟨255, ta 1 [] (some {next := 5}), {next := 5}, by decide +kernel⟩,
    ⟨255, ta 1 [Reg.TIM_ACT_PERIOD.is 100 255] (some {next := 5, unlimited := true}), by decide +kernel⟩,
    ⟨255, ta 1 [Reg.TIM_ACT_PERIOD.is 100 255, F.TIM_ACT_COUNT.COUNT.is 1 255] (some {next := 5}), by decide +kernel⟩,
    ⟨255, ta 1 [Reg.TIM_ACT_PERIOD.is 100 255, F.TIM_ACT_COUNT.COUNT.is 7 255] (some {next := 5}), by decide +kernel⟩,
    ⟨255, ta 1 [F.TIM_ACT_A.KIND.is 1 255, F.TIM_ACT_A.TARGET.is 31 255] (some {next := 5}), by decide +kernel⟩,
    ⟨255, ta 1 [F.TIM_ACT_A.KIND.is 1 255, F.TIM_ACT_A.TARGET.is 31 255, F.TIM_ACT_A.OP.is 2 255, F.TIM_ACT_B.WIDTH.is
      9 255] (some {next := 5}), by decide +kernel⟩,
    ⟨255, ta 1, by decide +kernel⟩,
    ⟨mk [F.TIM_STAR_STATE.DRIVE.is 0xFFFFFF] fun c => {c with tim := {c.tim with pulses := [(39, 7)]}},
      by decide +kernel⟩,
    ⟨63, ru (rx 0 0 0), rx 0 0 0, by decide +kernel⟩,
    ⟨63, ru (rx 2 23 0), rx 2 23 0, by decide +kernel⟩,
    ⟨63, ru (rx 4 23 0), rx 4 23 0, by decide +kernel⟩,
    ⟨63, {}, by decide +kernel⟩⟩

end Group18

namespace Group19

def bs20 : List Byte := (List.range 40).map fun i => BitVec.ofNat 8 (i * 37 + 11)

def tr (en : Nat) (more : List FieldVal := []) (h : TimH := {}) : State := mk ([F.TIM_TRIG_CFG.IN_EN.is en,
    F.GLB_MODE.MODE.is 9] ++ more) fun c => {c with tim := {h with count := 1000 * 2^48}}

def e1 : TsEntry := {time := 1235, self := true, release := true, line := 15}

def ev (more : List FieldVal) : List FieldVal := [F.GLB_MODE.MODE.is 6, F.TIM_MTX_A.VALID.is 1 63,
    F.TIM_MTX_A.SRC_KIND.is 1 63, F.TIM_MTX_A.SRC.is 200 63, Reg.TIM_MTX_SRC_MASK.is 0x80000000 63,
    F.TIM_MTX_A.FAB_OK.is 1 63, F.TIM_MTX_A.DST_KIND.is 3 63] ++ more

def wn (io : Nat) : List FieldVal := [F.LPB_WIN_A.VALID.is 1 7, F.LPB_WIN_A.SPACE.is io 7, F.LPB_WIN_A.SIZE.is 12 7,
    Reg.LPB_WIN_HBASE_LO.is 0x7000 7, Reg.LPB_WIN_SBASE.is 0x123F000 7, F.LPB_STATUS.RST_ACTIVE.is 0, F.LPB_CFG.EN.is
    1]

def lg (k : PktKind) (n : Nat := 16) (addr : Nat := 0x7FF0) : Copy :=
    {id := 9, pid := 9, pkt := {kind := k, addr, len := n, data := if k = .memWr ∨ k = .ioWr then bs20.take n else [], tag := 3, rid := 0x77}, src := .firmware, part := none, dest := .legacy, stamp := 0, cells := 1, charge := .none, oTag := 3, whole := true}

def sg (es : List SegEntry) (more : List FieldVal := wn 0) (h : LpbH → LpbH := id) (f : Chip → Chip := id) : State :=
    mk more fun c => f {c with lpb := h {queue := es}, cel := {c.cel with copies := es.map (·.copy)}}

def n0 : List FieldVal := [F.LPB_STATUS.RST_ACTIVE.is 0]

def lg8 : Copy := {lg .memWr with id := 8}

def ac (e : SegEntry) (more : List FieldVal := wn 0) : State := sg [e] more fun h => {h with active := some 9}

theorem witness_TriggersAndEvents :
    (∃ (l : Fin 16) (age : Fin 1024) (s : State), s.chip.coreUp = true ∧ age.val ≤ s.chip.halfNs ∧ (bit (s.chip.fld
      F.TIM_TRIG_CFG.IN_EN) l.val && !bit (s.chip.fld F.TIM_TRIG_STUCK.STUCK) l.val) = false) ∧
    (∃ (l : Fin 16) (age : Fin 1024) (s : State), s.chip.coreUp = true ∧ age.val ≤ s.chip.halfNs ∧ (bit (s.chip.fld
      F.TIM_TRIG_CFG.IN_EN) l.val && !bit (s.chip.fld F.TIM_TRIG_STUCK.STUCK) l.val) = true ∧ s.chip.tim.fifo.length <
      64) ∧
    (∃ (l : Fin 16) (age : Fin 1024) (s : State), s.chip.coreUp = true ∧ age.val ≤ s.chip.halfNs ∧ (bit (s.chip.fld
      F.TIM_TRIG_CFG.IN_EN) l.val && !bit (s.chip.fld F.TIM_TRIG_STUCK.STUCK) l.val) = true ∧ 64 ≤
      s.chip.tim.fifo.length) ∧
    (∃ (l : Fin 16) (release : Bool) (age : Fin 1024) (s : State) (r : Nat), s.chip.coreUp = true ∧ age.val ≤
      s.chip.halfNs ∧ (bit (s.chip.fld F.TIM_TRIG_CFG.IN_EN) l.val && !bit (s.chip.fld F.TIM_TRIG_STUCK.STUCK) l.val)
      = true ∧ s.chip.opMode ≠ 12 ∧ Table.get [] s.chip.tim.driven l.val = [] ∧ s.chip.outOn l.val = false ∧ bit
      (s.chip.fld F.TIM_TRIG_STATE.DRIVE) l.val = false ∧ r < 64 ∧ s.chip.fld F.TIM_MTX_A.VALID r = 1 ∧ s.chip.fld
      F.TIM_MTX_A.SRC_KIND r = 0 ∧ s.chip.fld F.TIM_MTX_A.SRC r = l.val ∧ bit (s.chip.fld F.TIM_MTX_A.EDGE r) (b2n
      release) = true) ∧
    (∃ (a : Access) (s : State), s.chip.coreUp = true ∧ s.chip.judge 109 (s.chip.gateView a (⟨Reg.TIM_TS_LO, 0, 0⟩ :
      RegKey).addr false) = none ∧ (s.chip.tim.fifo.head?).isSome = true) ∧
    (∃ (a : Access) (s : State), s.chip.coreUp = true ∧ s.chip.judge 109 (s.chip.gateView a (⟨Reg.TIM_TS_LO, 0, 0⟩ :
      RegKey).addr false) = none ∧ s.chip.tim.fifo = []) ∧
    (∃ (l : Fin 16) (s : State), s.chip.coreUp = true ∧ (bit (s.chip.fld F.TIM_TRIG_CFG.IN_EN) l.val && !bit
      (s.chip.fld F.TIM_TRIG_STUCK.STUCK) l.val && bit s.chip.tim.card l.val && !s.chip.outOn l.val) = true) ∧
    (∃ (l : Fin 16) (s : State), s.chip.coreUp = true ∧ (bit (s.chip.fld F.TIM_TRIG_CFG.IN_EN) l.val && !bit
      (s.chip.fld F.TIM_TRIG_STUCK.STUCK) l.val && bit s.chip.tim.card l.val && !s.chip.outOn l.val) = false) ∧
    (∃ (n : Fin 96) (code flags : Byte) (time : BitVec 64) (s : State) (r : Nat), s.chip.coreUp = true ∧
      s.chip.linkLive n.val = true ∧ s.chip.admitting = true ∧ bit (BitVec.toNat flags) 0 = true ∧ s.chip.opMode ≠ 12
      ∧ time.toNat ≤ s.chip.ns + 1000000000 ∧ s.chip.ns ≤ time.toNat + 1000000000 ∧ r < 64 ∧ s.chip.fld
      F.TIM_MTX_A.VALID r = 1 ∧ s.chip.fld F.TIM_MTX_A.SRC_KIND r = 1 ∧ s.chip.fld F.TIM_MTX_A.SRC r = BitVec.toNat
      code ∧ s.chip.isPcie n.val = true ∧ s.chip.role n.val ≠ 2 ∧ s.chip.partRefuses (s.chip.portPart n.val) = false ∧
      s.chip.portPart n.val < 32 ∧ bit (BitVec.toNat (s.chip.reg Reg.TIM_MTX_SRC_MASK r)) (s.chip.portPart n.val) =
      true) ∧
    (∃ (n : Fin 96) (code flags : Byte) (time : BitVec 64) (s : State) (r : Nat), s.chip.coreUp = true ∧
      s.chip.linkLive n.val = true ∧ s.chip.admitting = true ∧ bit (BitVec.toNat flags) 0 = true ∧ s.chip.opMode ≠ 12
      ∧ time.toNat ≤ s.chip.ns + 1000000000 ∧ s.chip.ns ≤ time.toNat + 1000000000 ∧ r < 64 ∧ s.chip.fld
      F.TIM_MTX_A.VALID r = 1 ∧ s.chip.fld F.TIM_MTX_A.SRC_KIND r = 1 ∧ s.chip.fld F.TIM_MTX_A.SRC r = BitVec.toNat
      code ∧ s.chip.isFleren n.val = true ∧ s.chip.fld F.TIM_MTX_A.FAB_OK r = 1) ∧
    (∃ (n : Fin 96) (s : State), s.chip.coreUp = true ∧ s.chip.linkLive n.val = true ∧ s.chip.admitting = true ∧
      s.chip.isPcie n.val = true ∧ s.chip.role n.val ≠ 2 ∧ s.chip.portPart n.val < 32 ∧ s.chip.partRefuses
      (s.chip.portPart n.val) = true) ∧
    (∃ (n : Fin 96) (v : Word) (data : List Byte) (s : State), s.chip.coreUp = true ∧ s.chip.linkLive n.val = true ∧
      s.chip.admitting = true ∧ s.chip.isPcie n.val = true ∧ s.chip.role n.val ≠ 2 ∧ s.chip.partRefuses
      (s.chip.portPart n.val) = false ∧ (wget v 31 24 ≠ 1 ∨ data.length ≠ 16)) ∧
    (∃ (n : Fin 96) (s : State), (s.chip.isFleren n.val = false ∨ s.chip.linkLive n.val = false)) :=
  ⟨
    ⟨15, 7, tr 0, by decide +kernel⟩,
    ⟨15, 7, tr 0x8000 [] {fifo := [e1], card := 0x8000}, by decide +kernel⟩,
    ⟨15, 7, tr 0x8000 [] {fifo := List.replicate 64 e1, card := 0x8000}, by decide +kernel⟩,
    ⟨15, false, 7, tr 0xFFFF [F.TIM_MTX_A.VALID.is 1 63, F.TIM_MTX_A.SRC.is 15 63, F.TIM_MTX_A.EDGE.is 1 63,
      F.TIM_MTX_A.DST_KIND.is 2 63, F.TIM_MTX_DELAY.DELAY.is 9 63], 63, by decide +kernel⟩,
    ⟨fw, tr 0 [] {fifo := [e1, e1]}, by decide +kernel⟩,
    ⟨fw, tr 0, by decide +kernel⟩,
    ⟨15, tr 0x8000 [] {card := 0x8000}, by decide +kernel⟩,
    ⟨15, tr 0x8000, by decide +kernel⟩,
    ⟨95, 200, 0xF1, 999, up 0 (ev [F.PRT_PORT_CFG.PART.is 31 95]), 63, by decide +kernel⟩,
    ⟨95, 200, 0x01, 999, fl 4 {} (ev []), 63, by decide +kernel⟩,
    ⟨95, up 0 (ev [F.PRT_PORT_CFG.PART.is 31 95]) fun c => c.updPart 31 fun h => {h with inReset := true},
      by decide +kernel⟩,
    ⟨95, 0x02800000, bs20.take 16, up 0 (ev [F.PRT_PORT_CFG.PART.is 31 95]), by decide +kernel⟩,
    ⟨95, {}, by decide +kernel⟩⟩

theorem witness_SegmentTransactions :
    (∃ (pass : Bool) (s : State), s.chip.coreUp = true ∧ s.chip.fld F.LPB_STATUS.RST_ACTIVE = 0 ∧ s.chip.lpb.active =
      none ∧ s.chip.lpb.grant = none ∧ s.chip.lpb.lock = none ∧ (∀ k ∈ s.chip.cel.copies, k.dest = Dest.legacy → ∃ x ∈
      s.chip.lpb.queue, x.copy.id = k.id) ∧ (∃ e ∈ s.chip.lpb.queue.head?, (pass = false ∨ e.stalled = false) ∧
      s.chip.segWindow? e.copy.pkt.isIo e.copy.pkt.addr = none ∧ e.copy.cat = Cat.posted)) ∧
    (∃ (pass : Bool) (s : State), s.chip.coreUp = true ∧ s.chip.fld F.LPB_STATUS.RST_ACTIVE = 0 ∧ s.chip.lpb.active =
      none ∧ s.chip.lpb.grant = none ∧ s.chip.lpb.lock = none ∧ (∀ k ∈ s.chip.cel.copies, k.dest = Dest.legacy → ∃ x ∈
      s.chip.lpb.queue, x.copy.id = k.id) ∧ (∃ e ∈ s.chip.lpb.queue.head?, (pass = false ∨ e.stalled = false) ∧
      (s.chip.segWindow? e.copy.pkt.isIo e.copy.pkt.addr).isSome = true ∧ e.copy.pkt.kind = PktKind.memWr)) ∧
    (∃ (pass : Bool) (s : State), s.chip.coreUp = true ∧ s.chip.fld F.LPB_STATUS.RST_ACTIVE = 0 ∧ s.chip.lpb.active =
      none ∧ s.chip.lpb.grant = none ∧ s.chip.lpb.lock = none ∧ (∀ k ∈ s.chip.cel.copies, k.dest = Dest.legacy → ∃ x ∈
      s.chip.lpb.queue, x.copy.id = k.id) ∧ (∃ e ∈ s.chip.lpb.queue.head?, (pass = false ∨ e.stalled = false) ∧
      (s.chip.segWindow? e.copy.pkt.isIo e.copy.pkt.addr).isSome = true ∧ e.copy.pkt.kind = PktKind.ioWr)) ∧
    (∃ (pass : Bool) (s : State), s.chip.coreUp = true ∧ s.chip.fld F.LPB_STATUS.RST_ACTIVE = 0 ∧ s.chip.lpb.active =
      none ∧ s.chip.lpb.grant = none ∧ s.chip.lpb.lock = none ∧ (∀ k ∈ s.chip.cel.copies, k.dest = Dest.legacy → ∃ x ∈
      s.chip.lpb.queue, x.copy.id = k.id) ∧ (∃ e ∈ s.chip.lpb.queue.head?, (pass = false ∨ e.stalled = false) ∧ (∃ w ∈
      s.chip.segWindow? e.copy.pkt.isIo e.copy.pkt.addr, e.copy.pkt.kind = PktKind.memRd ∧ s.chip.segHeld? w e =
      none))) ∧
    (∃ (pass : Bool) (s : State), s.chip.coreUp = true ∧ s.chip.fld F.LPB_STATUS.RST_ACTIVE = 0 ∧ s.chip.lpb.active =
      none ∧ s.chip.lpb.grant = none ∧ s.chip.lpb.lock = none ∧ (∀ k ∈ s.chip.cel.copies, k.dest = Dest.legacy → ∃ x ∈
      s.chip.lpb.queue, x.copy.id = k.id) ∧ (∃ e ∈ s.chip.lpb.queue.head?, (pass = false ∨ e.stalled = false) ∧
      (s.chip.segWindow? e.copy.pkt.isIo e.copy.pkt.addr).isSome = true ∧ e.copy.pkt.kind = PktKind.memRdLk)) ∧
    (∃ (pass : Bool) (s : State), s.chip.coreUp = true ∧ s.chip.fld F.LPB_STATUS.RST_ACTIVE = 0 ∧ s.chip.lpb.active =
      none ∧ s.chip.lpb.grant = none ∧ s.chip.lpb.lock = none ∧ (∀ k ∈ s.chip.cel.copies, k.dest = Dest.legacy → ∃ x ∈
      s.chip.lpb.queue, x.copy.id = k.id) ∧ (∃ e ∈ s.chip.lpb.queue.head?, (pass = false ∨ e.stalled = false) ∧
      (s.chip.segWindow? e.copy.pkt.isIo e.copy.pkt.addr).isSome = true ∧ e.copy.pkt.kind = PktKind.ioRd)) ∧
    (∃ (pass : Bool) (s : State), s.chip.coreUp = true ∧ s.chip.fld F.LPB_STATUS.RST_ACTIVE = 0 ∧ s.chip.lpb.active =
      none ∧ s.chip.lpb.grant = none ∧ s.chip.lpb.lock = none ∧ (∀ k ∈ s.chip.cel.copies, k.dest = Dest.legacy → ∃ x ∈
      s.chip.lpb.queue, x.copy.id = k.id) ∧ (∃ e ∈ s.chip.lpb.queue.head?, (pass = false ∨ e.stalled = false) ∧ (∃ w ∈
      s.chip.segWindow? e.copy.pkt.isIo e.copy.pkt.addr, (∃ b ∈ Table.get none s.chip.lpb.prefetch w, e.copy.pkt.kind
      = PktKind.memRd ∧ e.done = 0 ∧ 0 < e.copy.pkt.len ∧ b.addr ≤ e.copy.pkt.addr ∧ e.copy.pkt.addr + e.copy.pkt.len
      ≤ b.addr + b.data.length ∧ e.copy.src = Src.firmware ∧ e.copy.flc = none ∧ s.chip.takesBack e.copy.pkt.len)))) ∧
    (∃ (s : State), s.chip.coreUp = true ∧ s.chip.fld F.LPB_STATUS.RST_ACTIVE = 0 ∧ s.chip.lpb.active = none ∧
      s.chip.lpb.grant = none ∧ s.chip.lpb.lock = none ∧ s.chip.lpb.queue = [] ∧ (∃ k ∈ s.chip.cel.copies.head?,
      s.chip.cel.copies.length = 1 ∧ k.dest = Dest.legacy ∧ k.whole = true ∧ k.pkt.cls < 8 ∧ k.pkt.kind =
      PktKind.memWr ∧ (s.chip.segWindow? false k.pkt.addr).isSome = true)) ∧
    (∃ (s : State), (s.chip.fld F.LPB_STATUS.RST_ACTIVE = 1 ∨ s.chip.lpb.active ≠ none ∨ s.chip.lpb.grant ≠ none)) ∧
    (∃ (s : State) (r x : SegEntry) (rest : List SegEntry), s.chip.coreUp = true ∧ s.chip.fld F.LPB_STATUS.RST_ACTIVE
      = 0 ∧ s.chip.lpb.active = none ∧ s.chip.lpb.grant = none ∧ s.chip.lpb.lock = none ∧ (∀ k ∈ s.chip.cel.copies,
      k.dest = Dest.legacy → ∃ x ∈ s.chip.lpb.queue, x.copy.id = k.id) ∧ s.chip.lpb.queue = r :: x :: rest ∧ r.stalled
      = true ∧ r.copy.pkt.isRead = true ∧ x.copy.pkt.kind = PktKind.memWr ∧ x.copy.id ≠ r.copy.id ∧ (s.chip.segWindow?
      false x.copy.pkt.addr).isSome = true) ∧
    (∃ (s : State), (∀ k ∈ s.chip.cel.copies, k.dest = Dest.legacy → ∃ x ∈ s.chip.lpb.queue, x.copy.id = k.id) ∧ (∃ r
      ∈ s.chip.lpb.lock, (∀ x ∈ List.find? (fun x => x.copy.pkt.rid == r) s.chip.lpb.queue, x.copy.pkt.kind =
      PktKind.memRdLk))) ∧
    (∃ (s : State), s.chip.coreUp = true ∧ (∃ e ∈ s.chip.segActive?, (∀ x ∈ s.chip.lpb.queue, x.copy.id = e.copy.id →
      x = e) ∧ e.retries + 1 < s.chip.fld F.LPB_TMO.RETRY_MAX ∧ e.copy.pkt.kind ≠ PktKind.memRdLk)) ∧
    (∃ (s : State), s.chip.coreUp = true ∧ (∃ e ∈ s.chip.segActive?, (∀ x ∈ s.chip.lpb.queue, x.copy.id = e.copy.id →
      x = e) ∧ e.retries + 1 < s.chip.fld F.LPB_TMO.RETRY_MAX ∧ e.copy.pkt.kind = PktKind.memRdLk)) ∧
    (∃ (s : State), s.chip.coreUp = true ∧ (∃ e ∈ s.chip.segActive?, (∀ x ∈ s.chip.lpb.queue, x.copy.id = e.copy.id →
      x = e) ∧ s.chip.fld F.LPB_TMO.RETRY_MAX ≤ e.retries + 1 ∧ e.copy.cat = Cat.posted)) ∧
    (∃ (n : Nat) (s : State), s.chip.coreUp = true ∧ (∃ e ∈ s.chip.segActive?, (∀ x ∈ s.chip.lpb.queue, x.copy.id =
      e.copy.id → x = e) ∧ (∃ w ∈ s.chip.segWindow? e.copy.pkt.isIo e.copy.pkt.addr, e.copy.cat = Cat.posted ∧
      e.copy.pkt.isRead = false ∧ e.copy.pkt.len ≤ e.done + min n (s.chip.segSpan w e)))) ∧
    (∃ (n : Nat) (s : State), s.chip.coreUp = true ∧ (∃ e ∈ s.chip.segActive?, (∀ x ∈ s.chip.lpb.queue, x.copy.id =
      e.copy.id → x = e) ∧ (∃ w ∈ s.chip.segWindow? e.copy.pkt.isIo e.copy.pkt.addr, e.copy.pkt.isRead = false ∧
      e.done + min n (s.chip.segSpan w e) < e.copy.pkt.len))) ∧
    (∃ (bs : List Byte) (s : State), s.chip.coreUp = true ∧ (∃ e ∈ s.chip.segActive?, (∀ x ∈ s.chip.lpb.queue,
      x.copy.id = e.copy.id → x = e) ∧ (∃ w ∈ s.chip.segWindow? e.copy.pkt.isIo e.copy.pkt.addr, e.copy.pkt.kind =
      PktKind.memRd ∧ e.copy.src = Src.firmware ∧ e.copy.flc = none ∧ s.chip.safe = false ∧ s.chip.takesBack bs.length
      ∧ 0 < bs.length ∧ e.done + bs.length < e.copy.pkt.len ∧ bs.length ≤ s.chip.segSpan w e))) ∧
    (∃ (bs : List Byte) (s : State), s.chip.coreUp = true ∧ (∃ e ∈ s.chip.segActive?, (∀ x ∈ s.chip.lpb.queue,
      x.copy.id = e.copy.id → x = e) ∧ (∃ w ∈ s.chip.segWindow? e.copy.pkt.isIo e.copy.pkt.addr, e.copy.pkt.kind =
      PktKind.memRd ∧ e.copy.src = Src.firmware ∧ e.copy.flc = none ∧ s.chip.takesBack bs.length ∧ s.chip.segPref w =
      true ∧ Table.get none s.chip.lpb.prefetch w = none ∧ (∀ x ∈ s.chip.lpb.queue, x.copy.pkt.isRead = true) ∧ e.done
      < e.copy.pkt.len ∧ bs.length ≤ s.chip.segSpan w e ∧ e.copy.pkt.len < e.done + bs.length))) ∧
    (∃ (bs : List Byte) (s : State), s.chip.coreUp = true ∧ (∃ e ∈ s.chip.segActive?, (∀ x ∈ s.chip.lpb.queue,
      x.copy.id = e.copy.id → x = e) ∧ (∃ w ∈ s.chip.segWindow? e.copy.pkt.isIo e.copy.pkt.addr, e.copy.pkt.kind =
      PktKind.memRd ∧ e.copy.src = Src.firmware ∧ e.copy.flc = none ∧ s.chip.takesBack bs.length ∧ s.chip.segExtra w
      e.copy.pkt = 0 ∧ bs.length = e.copy.pkt.len - e.done ∧ 0 < bs.length ∧ bs.length ≤ s.chip.segSpan w e))) ∧
    (∃ (bs : List Byte) (s : State), s.chip.coreUp = true ∧ (∃ e ∈ s.chip.segActive?, (∀ x ∈ s.chip.lpb.queue,
      x.copy.id = e.copy.id → x = e) ∧ (∃ w ∈ s.chip.segWindow? e.copy.pkt.isIo e.copy.pkt.addr, e.copy.pkt.kind =
      PktKind.memRdLk ∧ e.copy.src = Src.firmware ∧ e.copy.flc = none ∧ s.chip.takesBack bs.length ∧ bs.length =
      e.copy.pkt.len - e.done ∧ 0 < bs.length ∧ bs.length ≤ s.chip.segSpan w e))) ∧
    (∃ (s : State), s.chip.coreUp = true ∧ (∃ e ∈ s.chip.segActive?, (∀ x ∈ s.chip.lpb.queue, x.copy.id = e.copy.id →
      x = e) ∧ e.copy.cat = Cat.nonPosted ∧ e.copy.src = Src.firmware ∧ e.copy.flc = none ∧ s.chip.takesBack 0 ∧
      e.done < e.copy.pkt.len ∧ s.chip.safe = false)) ∧
    (∃ (s : State), s.chip.segActive? = none) ∧
    (∃ (s : State), s.chip.coreUp = true) :=
  ⟨
    ⟨false, sg [{copy := lg .memWr}] n0, by decide +kernel⟩,
    ⟨false, sg [{copy := lg .memWr, done := 4}], by decide +kernel⟩,
    ⟨true, sg [{copy := lg .ioWr 4}] (wn 1), by decide +kernel⟩,
    ⟨true, sg [{copy := lg .memRd}], by decide +kernel⟩,
    ⟨false, sg [{copy := lg .memRdLk 4}], by decide +kernel⟩,
    ⟨true, sg [{copy := lg .ioRd 4}] (wn 1), by decide +kernel⟩,
    ⟨true, sg [{copy := lg .memRd}] (wn 0) fun h => {h with prefetch := [(7, some {addr := 0x7FE8, data := bs20})]},
      by decide +kernel⟩,
    ⟨sg [] (wn 0) id fun c => {c with cel := {c.cel with copies := [lg .memWr]}}, by decide +kernel⟩,
    ⟨{}, by decide +kernel⟩,
    ⟨sg [{copy := lg .memRd, stalled := true}, {copy := lg8}] (wn 0), {copy := lg .memRd, stalled := true},
      {copy := lg8}, [], by decide +kernel⟩,
    ⟨sg [{copy := lg .memRdLk}] (wn 0) fun h => {h with lock := some 0x77}, by decide +kernel⟩,
    ⟨ac {copy := lg .memWr}, by decide +kernel⟩,
    ⟨ac {copy := lg .memRdLk 4}, by decide +kernel⟩,
    ⟨ac {copy := lg .memWr, retries := 300000, done := 4}, by decide +kernel⟩,
    ⟨16, ac {copy := lg .memWr}, by decide +kernel⟩,
    ⟨4, ac {copy := lg .memWr, retries := 3, done := 4}, by decide +kernel⟩,
    ⟨bs20.take 8, ac {copy := lg .memRd}, by decide +kernel⟩,
    ⟨bs20.take 40, ac {copy := lg .memRd 16 0x7100} (wn 0 ++ [F.LPB_WIN_A.PREF.is 1 7]), by decide +kernel⟩,
    ⟨bs20.take 16, ac {copy := lg .memRd}, by decide +kernel⟩,
    ⟨bs20.take 4, ac {copy := lg .memRdLk 4}, by decide +kernel⟩,
    ⟨ac {copy := lg .memRd}, by decide +kernel⟩,
    ⟨{}, by decide +kernel⟩,
    ⟨sg [{copy := lg .memRd}] (wn 0) fun h =>
      {h with prefetch := [(7, some {addr := 0x7FE8, data := bs20}),(3, some {addr := 0x7FE8, data := bs20})]},
      by decide +kernel⟩⟩

end Group19

namespace Group20

def bs20 : List Byte := (List.range 40).map fun i => BitVec.ofNat 8 (i * 37 + 11)

def lg (k : PktKind) (n : Nat := 16) (addr : Nat := 0x7FF0) : Copy :=
    {id := 9, pid := 9, pkt := {kind := k, addr, len := n, data := if k = .memWr ∨ k = .ioWr then bs20.take n else [], tag := 3, rid := 0x77}, src := .firmware, part := none, dest := .legacy, stamp := 0, cells := 1, charge := .none, oTag := 3, whole := true}

def on (more : List FieldVal := []) (h : LpbH → LpbH := id) (f : Chip → Chip := id) : State := mk
    ([F.LPB_STATUS.RST_ACTIVE.is 0, F.LPB_CFG.EN.is 1, F.GLB_MODE.MODE.is 6, F.LPB_CFG.OWNER.is 32] ++ more) fun c =>
    f (({c with lpb := h c.lpb}).setCfg (.mgmt 31) 0x04 6)

def ow (p : Nat) : List FieldVal := [F.LPB_CFG.OWNER.is p]

def upw : List FieldVal := [F.LPB_UP_A.VALID.is 1, F.LPB_UP_A.SIZE.is 20, Reg.LPB_UP_SBASE.is 0x12300000,
    Reg.LPB_UP_HBASE_LO.is 0x80000000, Reg.LPB_UP_HBASE_HI.is 0x7]

def w0 : DelData := .waiting []

def dr (d : DelData) (b : List Nat := []) (tag : Nat := 5) : DelRead :=
    {addr := 0x12300010, cmd := 2, data := d, before := b, tag}

def cp (st : CplStatus) : InCpl :=
    { to_ := .segment, part := none, pkt := {kind := .cpl, tag := 5, status := st, data := bs20, len := 40} }

theorem witness_SegmentLines :
    (∃ (p : Option (Fin 32)) (s : State), s.chip.coreUp = true ∧ s.chip.segOwner = Option.map Fin.val p ∧
      s.chip.lpb.lock ≠ none) ∧
    (∃ (p : Option (Fin 32)) (s : State), (s.chip.segOwner ≠ Option.map Fin.val p ∨ s.chip.lpb.lock = none)) ∧
    (∃ (s : State), s.chip.coreUp = true ∧ s.chip.lpb.lock ≠ none) ∧
    (∃ (s : State), s.chip.lpb.lock = none) ∧
    (∃ (x : Fin 4) (on : Bool) (s : State), s.chip.coreUp = true ∧ bit s.chip.lpb.intSent x.val = on) ∧
    (∃ (x : Fin 4) (on : Bool) (s : State), s.chip.coreUp = true ∧ bit s.chip.lpb.intSent x.val ≠ on) ∧
    (∃ (s : State), s.chip.coreUp = true ∧ (s.chip.fld F.LPB_STATUS.RST_ACTIVE = 0 ∧ s.chip.lpb.active = none ∧
      s.chip.lpb.grant = none ∧ s.chip.segPriority = false)) ∧
    (∃ (reqs : Fin 64) (s : State), s.chip.coreUp = true ∧ (¬(s.chip.fld F.LPB_STATUS.RST_ACTIVE = 0 ∧
      s.chip.lpb.active = none ∧ s.chip.lpb.grant = none ∧ s.chip.segPriority = false) ∨ ∀ slot < 6, (fun slot => bit
      reqs.val slot && !bit (s.chip.fld F.LPB_ARB.REQ_MASK) slot && !bit (s.chip.fld F.LPB_ARB.BROKEN) slot) slot =
      false)) ∧
    (∃ (started : Bool) (s : State) (slot : Nat), s.chip.coreUp = true ∧ s.chip.lpb.grant = some slot ∧ started =
      true) ∧
    (∃ (started : Bool) (s : State) (slot : Nat), s.chip.coreUp = true ∧ s.chip.lpb.grant = some slot ∧ started =
      false ∧ Table.get 0 s.chip.lpb.grantFails slot ≠ 7) ∧
    (∃ (started : Bool) (s : State) (slot : Nat), s.chip.coreUp = true ∧ s.chip.lpb.grant = some slot ∧ started =
      false ∧ Table.get 0 s.chip.lpb.grantFails slot = 7 ∧ slot < 6) ∧
    (∃ (s : State), s.chip.lpb.grant = none) ∧
    (∃ (s : State), s.chip.coreUp = true ∧ s.chip.fld F.LPB_STATUS.RST_ACTIVE = 1 ∧ s.chip.fld F.LPB_CFG.EN = 1 ∧
      s.chip.opMode ≠ 11 ∧ s.chip.opMode ≠ 12 ∧ s.chip.fld F.PWR_STATUS.STATE = 0 ∧ s.chip.fld F.FLT_CONTAIN_SEG.SEG =
      0 ∧ (∀ p ∈ s.chip.segOwner, (s.chip.part p).inReset = false ∧ (s.chip.part p).hot = false)) ∧
    (∃ (s : State), (s.chip.fld F.LPB_STATUS.RST_ACTIVE = 0 ∨ s.chip.fld F.LPB_CFG.EN = 0)) ∧
    (∃ (s : State), s.chip.lpb.queue = [] ∧ (∀ k ∈ s.chip.cel.copies, k.dest ≠ Dest.legacy)) ∧
    (∃ (s : State), s.chip.coreUp = true) :=
  ⟨
    ⟨some 31, on (ow 31 ++ [F.LPB_STATUS.LOCKED.is 1]) fun h => {h with lock := some 5}, by decide +kernel⟩,
    ⟨none, on, by decide +kernel⟩,
    ⟨on [F.LPB_STATUS.LOCKED.is 1] fun h => {h with lock := some 5}, by decide +kernel⟩,
    ⟨on, by decide +kernel⟩,
    ⟨3, true, on [F.LPB_STATUS.INT.is 3] fun h => {h with intSent := 8}, by decide +kernel⟩,
    ⟨3, true, on, by decide +kernel⟩,
    ⟨on, by decide +kernel⟩,
    ⟨5, {}, by decide +kernel⟩,
    ⟨true, on [] fun h => {h with grant := some 5, grantFails := [(5, 7)]}, 5, by decide +kernel⟩,
    ⟨false, on [] fun h => {h with grant := some 5, grantFails := [(5, 6)]}, 5, by decide +kernel⟩,
    ⟨false, on [] fun h => {h with grant := some 5, grantFails := [(5, 7)]}, 5, by decide +kernel⟩,
    ⟨on, by decide +kernel⟩,
    ⟨on ([F.LPB_STATUS.RST_ACTIVE.is 1, F.LPB_CFG.SPEED66.is 1, F.LPB_CFG.WIDTH64.is 1] ++ ow 31) fun h =>
      {h with intSent := 9}, by decide +kernel⟩,
    ⟨on, by decide +kernel⟩,
    ⟨on, by decide +kernel⟩,
    ⟨on, by decide +kernel⟩⟩

theorem witness_SegmentUpstreamAndConfig :
    (∃ (addr : SegAddr) (s : State), s.chip.coreUp = true ∧ addr.parityOk = false ∧ s.chip.fld F.LPB_STATUS.RST_ACTIVE
      = 0) ∧
    (∃ (a : Word) (s : State), s.chip.coreUp = true ∧ s.chip.upClaims (BitVec.toNat a) = false) ∧
    (∃ (a : Word) (s : State), s.chip.coreUp = true ∧ s.chip.upClaims (BitVec.toNat a) = true ∧ s.chip.lpb.lock ≠
      none) ∧
    (∃ (a : Word) (s : State), s.chip.coreUp = true ∧ s.chip.upClaims (BitVec.toNat a / 4 * 4) = false) ∧
    (∃ (a : Word) (s : State), s.chip.coreUp = true ∧ s.chip.upClaims (BitVec.toNat a / 4 * 4) = true ∧
      s.chip.lpb.lock ≠ none) ∧
    (∃ (addr : Word) (ok : Bool) (data : List Byte) (lanes : List Bool) (s : State), s.chip.coreUp = true ∧
      s.chip.upClaims (BitVec.toNat addr) = true ∧ s.chip.lpb.lock = none ∧ 0 < data.length ∧ BitVec.toNat addr % 512
      + data.length ≤ 512 ∧ BitVec.toNat addr + data.length ≤ s.chip.upWindow.2 ∧ (((if ok = true then s.chip else
      (s.chip.inc F.LPB_PARITY.COUNT).emit Out.perr).lookReq
      { pkt := { addr := (s.chip.pair Reg.LPB_UP_HBASE_LO Reg.LPB_UP_HBASE_HI + (BitVec.toNat addr - s.chip.upWindow.1)) % 2 ^ 64, len := data.length, data := data, rid := (s.chip.ownId s.chip.segOwner).1, lanes := List.take data.length lanes, poisoned := !ok }, src := Src.segment, stamp := s.chip.ns, part := s.chip.segOwner, hier := hierNum s.chip.segOwner, st := { master := Master.card, colour := (s.chip.ownId s.chip.segOwner).2 }, oRid := (s.chip.ownId s.chip.segOwner).1, oTag := 0 }
      none).cel.waiting = [])) ∧
    (∃ (addr : Word) (cmd : Fin 3) (s : State) (r : DelRead), s.chip.coreUp = true ∧ s.chip.lpb.lock = none ∧
      s.chip.upClaims (BitVec.toNat addr / 4 * 4) = true ∧ (List.find? (fun r => r.addr == BitVec.toNat addr / 4 * 4
      && r.cmd == cmd.val) s.chip.lpb.delayed = some r) ∧ (r.before ≠ [] ∨ r.data.pending = true)) ∧
    (∃ (addr : Word) (cmd : Fin 3) (s : State) (r : DelRead), s.chip.coreUp = true ∧ s.chip.lpb.lock = none ∧
      s.chip.upClaims (BitVec.toNat addr / 4 * 4) = true ∧ (List.find? (fun r => r.addr == BitVec.toNat addr / 4 * 4
      && r.cmd == cmd.val) s.chip.lpb.delayed = some r) ∧ r.before = [] ∧ r.data = DelData.error) ∧
    (∃ (addr : Word) (cmd : Fin 3) (s : State) (r : DelRead), s.chip.coreUp = true ∧ s.chip.lpb.lock = none ∧
      s.chip.upClaims (BitVec.toNat addr / 4 * 4) = true ∧ (List.find? (fun r => r.addr == BitVec.toNat addr / 4 * 4
      && r.cmd == cmd.val) s.chip.lpb.delayed = some r) ∧ (r.data.held?).isSome = true ∧ r.before = []) ∧
    (∃ (addr : Word) (s : State), s.chip.coreUp = true ∧ s.chip.lpb.lock = none ∧ s.chip.upClaims (BitVec.toNat addr /
      4 * 4) = true ∧ s.chip.lpb.delayed = [] ∧ s.chip.flt.dev = []) ∧
    (∃ (s : State), s.chip.coreUp = true ∧ (∃ q ∈ s.chip.flt.inbox.head?, q.to_ = Src.segment ∧ (∃ r ∈
      s.chip.lpb.delayed.head?, r.tag = q.pkt.tag ∧ (r.data.got?).isSome = true))) ∧
    (∃ (s : State), (∀ q ∈ s.chip.flt.inbox, q.to_ ≠ Src.segment)) ∧
    (∃ (i : Fin 4) (s : State), s.chip.coreUp = true ∧ (∃ r ∈ s.chip.lpb.delayed[i.val]?, r.data.pending = false)) ∧
    (∃ (i : Fin 4) (s : State), s.chip.coreUp = true ∧ (∃ r ∈ s.chip.lpb.delayed[i.val]?, r.data.pending = true)) ∧
    (∃ (a : Access) (s : State), s.chip.coreUp = true ∧ s.chip.judge 109 (s.chip.gateView a (⟨Reg.LPB_CFG_DATA, 0, 0⟩
      : RegKey).addr false) = none ∧ a.full = true ∧ s.chip.isOwner a.who = true) ∧
    (∃ (a : Access) (s : State), s.chip.coreUp = true ∧ s.chip.judge 109 (s.chip.gateView a (⟨Reg.LPB_CFG_DATA, 0, 0⟩
      : RegKey).addr false) = none ∧ (a.full = false ∨ s.chip.isOwner a.who = false)) ∧
    (∃ (a : Access) (v : Word) (s : State) (c : Chip), s.passes a { reg := Reg.LPB_CFG_DATA } v c) :=
  ⟨
    ⟨{at_ := 0x12300010, slot := 5, parityOk := false}, on, by decide +kernel⟩,
    ⟨0x12300010, on, by decide +kernel⟩,
    ⟨0x12300010, on upw fun h => {h with lock := some 5}, by decide +kernel⟩,
    ⟨0x12300010, on, by decide +kernel⟩,
    ⟨0x12300010, on upw fun h => {h with lock := some 5}, by decide +kernel⟩,
    ⟨0x123001F0, true, bs20.take 16, [true, false, true], on (upw ++ ow 31), by decide +kernel⟩,
    ⟨0x12300012, 2, on upw fun h => {h with delayed := [dr w0]}, dr w0, by decide +kernel⟩,
    ⟨0x12300012, 2, on upw fun h => {h with delayed := [dr .error]}, dr .error, by decide +kernel⟩,
    ⟨0x12300012, 2, on upw fun h => {h with delayed := [dr (.data (bs20.map (·, true)))]}, dr (.data (bs20.map (·,
      true))), by decide +kernel⟩,
    ⟨0x12300012, on upw, by decide +kernel⟩,
    ⟨on upw (fun h => {h with delayed := [dr w0], queue := [{copy := lg .memWr}]}) fun c =>
      {c with flt := {c.flt with inbox := [cp .sc, cp .ur]}}, by decide +kernel⟩,
    ⟨on, by decide +kernel⟩,
    ⟨3, on [] fun h => {h with delayed := [dr w0, dr .error, dr .error, dr (.data (bs20.map (·, true)))]},
      by decide +kernel⟩,
    ⟨1, on [] fun h => {h with delayed := [dr .error, dr w0, dr .error, dr .error]}, by decide +kernel⟩,
    ⟨fw, on [F.LPB_CFG_ADDR.DEV.is 31, F.LPB_CFG_ADDR.FUNC.is 7, F.LPB_CFG_ADDR.REG.is 63], by decide +kernel⟩,
    ⟨{who := .fw, be := 3}, on [Reg.LPB_CFG_DATA.is 0x12345678], by decide +kernel⟩,
    ⟨fw, 0x55AA55AA, on [F.LPB_CFG_ADDR.DEV.is 31], pc (on [F.LPB_CFG_ADDR.DEV.is 31]) fw ⟨.LPB_CFG_DATA,0,0⟩
      0x55AA55AA, by decide +kernel⟩⟩

end Group20

namespace Group21

def ps (st : Nat) (more : List FieldVal := []) (h : PwrH → PwrH := id) (f : Chip → Chip := id) : State := mk
    ([F.PWR_STATUS.STATE.is st] ++ more) fun c => f {c with pwr := h c.pwr}

def ent (st : Nat) (more : List FieldVal := []) (f : Chip → Chip := id) : State := ps 0 ([F.GLB_MODE.MODE.is 11,
    F.GLB_MODE.PREV_MODE.is 6, F.PWR_STATUS.ENTERING.is 1, Reg.PWR_RTC_LO.is 0x1234567, Reg.PWR_RTC_HI.is 0x89] ++
    more) (fun h => {h with entering := some st}) f

def pk : RegKey := ⟨.PWR_CTL,0,0⟩

def gt (st : Nat) (more : List FieldVal := []) : State := ps 0 ([F.GLB_MODE.MODE.is 11, F.PWR_STATUS.ENTRY_FAIL.is 3]
    ++ more)

def heavy : List FieldVal := [F.PWR_WAKE_EN.LANE.is 1] ++ (List.range 192).map (fun l => F.SDS_LN_PWR.WAKE_ARM.is 1 l)
    ++ (List.range 96).map (fun n => F.PRT_PORT_CFG.EN.is 1 n)

def withMem (s : State) : State :=
    { s with mem := { pantry := [(5, 1)], attic := [(3, 7), (0xFF00, 9), (0xFF05, 1)], fw := [(9,9)] } }

def lv (st : Nat) (more : List FieldVal := []) (h : PwrH → PwrH := id) (f : Chip → Chip := id) : State := ps st
    ([F.PWR_STATUS.EXITING.is 1, F.GLB_MODE.MODE.is 11, F.GLB_MODE.PREV_MODE.is 6] ++ more) (fun x => h
    {x with leaving := some st}) f

def busyS : State := withMem (ps 2 ([F.PWR_STATUS.HREF_NOW.is 5, F.GLB_MODE.MODE.is 6, Reg.ACD_JOB_CFG.is 0x80000000
    11 31, Reg.FLT_ACT.is 0 3, Reg.TIM_SET_LO.is 7, F.PWR_CFG.T_THROT.is 1] ++ lane 191 lnActive 3))

def xp (more : List FieldVal := []) : State := withMem (mk ([F.LBX_OWNER.VALID.is 1, F.LBX_OWNER.OWNER.is 3,
    F.LBX_OWNER.EXPERT.is 1, F.GAT_LIFECYCLE.STATE.is 1, Reg.TIM_SET_LO.is 7] ++ more))

def bt (h : PwrH → PwrH) : State := withMem (ps 0 [] fun x => h {x with bootDue := true})

theorem witness_PowerGo :
    (∃ (a : Access) (v : Word) (s : State) (c : Chip), s.passes a { reg := Reg.PWR_CTL } v c ∧ wbit v 30 = false ∧
      wbit v 31 = true ∧ (c.fld F.GLB_MODE.MODE = 11 ∧ c.fld F.GLB_MODE.BUSY = 0 ∧ c.mode.wakeHeld = false ∧ c.fld
      F.PWR_STATUS.STATE = 0 ∧ c.pwr.entering = none ∧ c.pwr.leaving = none)) ∧
    (∃ (a : Access) (v : Word) (s : State) (c : Chip), s.passes a { reg := Reg.PWR_CTL } v c ∧ wbit v 30 = false ∧
      wbit v 31 = true ∧ (¬(c.fld F.GLB_MODE.MODE = 11 ∧ c.fld F.GLB_MODE.BUSY = 0 ∧ c.mode.wakeHeld = false ∧ c.fld
      F.PWR_STATUS.STATE = 0 ∧ c.pwr.entering = none ∧ c.pwr.leaving = none))) :=
  ⟨
    ⟨fw, 0x80000003, gt 0, pc (gt 0) fw pk 0x80000003, by decide +kernel⟩,
    ⟨fw, 0x80000007, gt 0 [F.GLB_MODE.BUSY.is 1, F.PWR_CLAMP_SEEN.COUNT.is 65534], pc (gt 0 [F.GLB_MODE.BUSY.is 1,
      F.PWR_CLAMP_SEEN.COUNT.is 65534]) fw pk 0x80000007, by decide +kernel⟩⟩

theorem witness_PowerEntries :
    (∃ (a : Access) (v : Word) (s : State) (c : Chip), s.passes a { reg := Reg.PWR_CTL } v c ∧ wbit v 30 = false ∧
      wbit v 31 = true ∧ (c.fld F.GLB_MODE.MODE = 11 ∧ c.fld F.GLB_MODE.BUSY = 0 ∧ c.mode.wakeHeld = false ∧ c.fld
      F.PWR_STATUS.STATE = 0 ∧ c.pwr.entering = none ∧ c.pwr.leaving = none)) ∧
    (∃ (a : Access) (v : Word) (s : State) (c : Chip), s.passes a { reg := Reg.PWR_CTL } v c ∧ wbit v 30 = false ∧
      wbit v 31 = true ∧ (¬(c.fld F.GLB_MODE.MODE = 11 ∧ c.fld F.GLB_MODE.BUSY = 0 ∧ c.mode.wakeHeld = false ∧ c.fld
      F.PWR_STATUS.STATE = 0 ∧ c.pwr.entering = none ∧ c.pwr.leaving = none))) ∧
    (∃ (a : Access) (v : Word) (s : State) (c : Chip), s.passes a { reg := Reg.PWR_CTL } v c ∧ wbit v 30 = false ∧
      wbit v 31 = false) ∧
    (∃ (s : State) (st : Nat), s.chip.coreUp = true ∧ s.chip.fld F.GLB_MODE.MODE = 11 ∧ s.chip.mode.wakeHeld = false ∧
      s.chip.fld F.PWR_SUPPLY.WARN = 0 ∧ s.chip.pwr.entering = some st ∧ 1 ≤ st ∧ st ≤ 4 ∧ st ≤ 2 ∧ s.chip.linksIdle
      st = true) ∧
    (∃ (s : State) (st : Nat), s.chip.coreUp = true ∧ s.chip.fld F.GLB_MODE.MODE = 11 ∧ s.chip.mode.wakeHeld = false ∧
      s.chip.fld F.PWR_SUPPLY.WARN = 0 ∧ s.chip.pwr.entering = some st ∧ 1 ≤ st ∧ st ≤ 4 ∧ st ≤ 2 ∧ s.chip.linksIdle
      st = false) ∧
    (∃ (s : State) (st : Nat), s.chip.coreUp = true ∧ s.chip.fld F.GLB_MODE.MODE = 11 ∧ s.chip.mode.wakeHeld = false ∧
      s.chip.fld F.PWR_SUPPLY.WARN = 0 ∧ s.chip.pwr.entering = some st ∧ 1 ≤ st ∧ st ≤ 4 ∧ st = 3 ∧ 4400 <
      s.chip.lpLoad) ∧
    (∃ (s : State) (st : Nat), s.chip.coreUp = true ∧ s.chip.fld F.GLB_MODE.MODE = 11 ∧ s.chip.mode.wakeHeld = false ∧
      s.chip.fld F.PWR_SUPPLY.WARN = 0 ∧ s.chip.pwr.entering = some st ∧ 1 ≤ st ∧ st ≤ 4 ∧ 3 ≤ st ∧ (st = 3 →
      s.chip.lpLoad ≤ 4400) ∧ s.chip.dbg.busy = none) ∧
    (∃ (s : State), (s.chip.pwr.entering = none ∨ s.chip.fld F.PWR_SUPPLY.WARN = 1 ∨ s.chip.mode.wakeHeld = true)) ∧
    (∃ (s : State), s.chip.coreUp = true ∧ s.chip.pwr.entering ≠ none) ∧
    (∃ (s : State), s.chip.pwr.entering = none) :=
  ⟨
    ⟨fw, 0x80000003, gt 0, pc (gt 0) fw pk 0x80000003, by decide +kernel⟩,
    ⟨fw, 0x80000007, gt 0 [F.GLB_MODE.BUSY.is 1, F.PWR_CLAMP_SEEN.COUNT.is 65534], pc (gt 0 [F.GLB_MODE.BUSY.is 1,
      F.PWR_CLAMP_SEEN.COUNT.is 65534]) fw pk 0x80000007, by decide +kernel⟩,
    ⟨fw, 7, gt 0, pc (gt 0) fw pk 7, by decide +kernel⟩,
    ⟨withMem (ent 1), 1, by decide +kernel⟩,
    ⟨ent 1 [F.PRT_PORT_CFG.EN.is 1 95, F.PRT_PORT_CFG.ROLE.is 0 95, F.PRT_LINK_STATUS.DL_ACTIVE.is 1 95,
      F.PRT_LINK_STATUS.LTSSM.is 4 95], 1, by decide +kernel⟩,
    ⟨ent 3 heavy, 3, by decide +kernel⟩,
    ⟨withMem (ent 3), 3, by decide +kernel⟩,
    ⟨{}, by decide +kernel⟩,
    ⟨ent 3 [F.PWR_SUPPLY.WARN.is 1], by decide +kernel⟩,
    ⟨{}, by decide +kernel⟩⟩

theorem witness_AtticAndMonitors :
    (∃ (s : State), (s.chip.pwr.leaving = some 3 ∧ s.chip.pwr.railsBad = true ∨ s.chip.pwr.leaving = none ∧
      (s.chip.fld F.PWR_STATUS.STATE = 3 ∨ s.chip.fld F.PWR_STATUS.STATE = 4))) ∧
    (∃ (s : State), s.chip.coreUp = true ∧ s.chip.fld F.GLB_MODE.MODE = 11 ∧ s.chip.mode.wakeHeld = false ∧ s.chip.fld
      F.PWR_SUPPLY.WARN = 0 ∧ s.chip.pwr.entering = some 4 ∧ s.chip.dbg.busy = none) ∧
    (∃ (s : State), (s.chip.fld F.PWR_STATUS.STATE ≠ 4 ∨ s.chip.pwr.leaving ≠ none)) ∧
    (∃ (s : State), s.chip.coreUp = true) ∧
    (∃ (vaon : Bool) (s : State), vaon = false ∧ s.chip.pwr.coreOn = false) ∧
    (∃ (vaon : Bool) (s : State), s.chip.coreUp = false ∧ (vaon = true ∨ s.chip.pwr.coreOn = true)) ∧
    (∃ (s : State), s.chip.fld F.PWR_STATUS.STATE = 0) ∧
    (∃ (s : State), s.chip.fld F.PWR_STATUS.STATE ≠ 4) ∧
    (∃ (s : State), s.chip.fld F.PWR_STATUS.STATE = 4) ∧
    (∃ (t : Fin 12) (s : State), s.chip.coreUp = true ∧ s.chip.fld F.PWR_STATUS.STATE = 0 ∧ s.chip.tileEn t.val =
      true) ∧
    (∃ (t : Fin 12) (s : State), s.chip.coreUp = true ∧ s.chip.fld F.PWR_STATUS.STATE = 0 ∧ s.chip.tileEn t.val =
      false) ∧
    (∃ (s : State), s.chip.coreUp = true ∧ s.chip.fld F.PWR_STATUS.STATE ≤ 1 ∧ s.chip.goodRef? = none) ∧
    (∃ (s : State), s.chip.goodRef? ≠ none) :=
  ⟨
    ⟨withMem (ps 3 [] fun h => {h with leaving := some 3, coreOn := true, railsBad := true}), by decide +kernel⟩,
    ⟨withMem (ent 4), by decide +kernel⟩,
    ⟨withMem (ps 0), by decide +kernel⟩,
    ⟨{}, by decide +kernel⟩,
    ⟨false, ps 3 [] fun h => {h with coreOn := false}, by decide +kernel⟩,
    ⟨true, ps 3 [] fun h => {h with coreOn := false, warnOwed := [0]}, by decide +kernel⟩,
    ⟨ps 0 [] fun h => {h with coreOn := false, slotOn := false}, by decide +kernel⟩,
    ⟨{}, by decide +kernel⟩,
    ⟨ps 4, by decide +kernel⟩,
    ⟨11, ps 0 [F.GLB_TILE_EN.TILE_EN.is 0x800], by decide +kernel⟩,
    ⟨11, ps 0 [F.GLB_TILE_EN.TILE_EN.is 0x7FF], by decide +kernel⟩,
    ⟨{}, by decide +kernel⟩,
    ⟨ps 1 [F.GLB_TILE_EN.TILE_EN.is 0x800, F.SDS_REF_STATUS.REF_OK.is 1 11], by decide +kernel⟩⟩

theorem witness_PowerExit :
    (∃ (src : Fin 7) (idx : Fin 1024) (s : State), s.chip.pwr.leaving = none ∧ (s.chip.held = false ∨ s.chip.fld
      F.PWR_STATUS.STATE = 4) ∧ s.chip.wakeArmed src.val idx.val (s.chip.fld F.PWR_STATUS.STATE) = true ∧ (s.chip.fld
      F.PWR_STATUS.STATE = 0 → s.chip.fld F.GLB_MODE.MODE = 11) ∧ s.chip.fld F.PWR_STATUS.STATE ≤ 4 ∧ s.chip.fld
      F.PWR_STATUS.STATE = 0) ∧
    (∃ (src : Fin 7) (idx : Fin 1024) (s : State), s.chip.pwr.leaving = none ∧ (s.chip.held = false ∨ s.chip.fld
      F.PWR_STATUS.STATE = 4) ∧ s.chip.wakeArmed src.val idx.val (s.chip.fld F.PWR_STATUS.STATE) = true ∧ (s.chip.fld
      F.PWR_STATUS.STATE = 0 → s.chip.fld F.GLB_MODE.MODE = 11) ∧ s.chip.fld F.PWR_STATUS.STATE ≤ 4 ∧ s.chip.fld
      F.PWR_STATUS.STATE = 1) ∧
    (∃ (src : Fin 7) (idx : Fin 1024) (s : State), s.chip.pwr.leaving = none ∧ (s.chip.held = false ∨ s.chip.fld
      F.PWR_STATUS.STATE = 4) ∧ s.chip.wakeArmed src.val idx.val (s.chip.fld F.PWR_STATUS.STATE) = true ∧ (s.chip.fld
      F.PWR_STATUS.STATE = 0 → s.chip.fld F.GLB_MODE.MODE = 11) ∧ s.chip.fld F.PWR_STATUS.STATE ≤ 4 ∧ s.chip.fld
      F.PWR_STATUS.STATE = 2 ∧ (∀ l < 192, s.chip.laneState l = lnDeep → s.chip.flag F.SDS_REF_STATUS.REF_OK (laneTile
      l) = true)) ∧
    (∃ (src : Fin 7) (idx : Fin 1024) (s : State), s.chip.pwr.leaving = none ∧ (s.chip.held = false ∨ s.chip.fld
      F.PWR_STATUS.STATE = 4) ∧ s.chip.wakeArmed src.val idx.val (s.chip.fld F.PWR_STATUS.STATE) = true ∧ (s.chip.fld
      F.PWR_STATUS.STATE = 0 → s.chip.fld F.GLB_MODE.MODE = 11) ∧ s.chip.fld F.PWR_STATUS.STATE ≤ 4 ∧ 3 ≤ s.chip.fld
      F.PWR_STATUS.STATE) ∧
    (∃ (src : Fin 7) (idx : Fin 1024) (s : State) (o : Fin 7 × Fin 1024), s.chip.pwr.leaving = none ∧ (s.chip.held =
      false ∨ s.chip.fld F.PWR_STATUS.STATE = 4) ∧ s.chip.wakeArmed src.val idx.val (s.chip.fld F.PWR_STATUS.STATE) =
      true ∧ (s.chip.fld F.PWR_STATUS.STATE = 0 → s.chip.fld F.GLB_MODE.MODE = 11) ∧ s.chip.fld F.PWR_STATUS.STATE ≤ 4
      ∧ s.chip.wakeArmed (↑o.1 : Nat) (↑o.2 : Nat) (s.chip.fld F.PWR_STATUS.STATE) = true) ∧
    (∃ (src : Fin 7) (idx : Fin 1024) (s : State) (o : Fin 7 × Fin 1024), s.chip.pwr.leaving = none ∧ (s.chip.held =
      false ∨ s.chip.fld F.PWR_STATUS.STATE = 4) ∧ s.chip.wakeArmed src.val idx.val (s.chip.fld F.PWR_STATUS.STATE) =
      true ∧ (s.chip.fld F.PWR_STATUS.STATE = 0 → s.chip.fld F.GLB_MODE.MODE = 11) ∧ s.chip.fld F.PWR_STATUS.STATE ≤ 4
      ∧ s.chip.wakeArmed (↑o.1 : Nat) (↑o.2 : Nat) (s.chip.fld F.PWR_STATUS.STATE) = false) ∧
    (∃ (src : Fin 7) (idx : Fin 1024) (s : State), s.chip.pwr.leaving ≠ none ∧ s.chip.held = false ∧ 1 ≤ s.chip.fld
      F.PWR_STATUS.STATE ∧ s.chip.wakeArmed src.val idx.val (s.chip.fld F.PWR_STATUS.STATE) = true) ∧
    (∃ (src : Fin 7) (idx : Fin 1024) (s : State), (s.chip.held = true ∧ s.chip.fld F.PWR_STATUS.STATE ≠ 4 ∨
      s.chip.wakeArmed src.val idx.val (s.chip.fld F.PWR_STATUS.STATE) = false ∨ s.chip.fld F.PWR_STATUS.STATE = 0 ∧
      s.chip.fld F.GLB_MODE.MODE ≠ 11)) ∧
    (∃ (s : State), s.chip.pwr.railsBad = true ∧ s.chip.pwr.coreOn = true ∧ s.chip.pwr.leaving = some 3) ∧
    (∃ (s : State), s.chip.pwr.railsBad = true ∧ s.chip.pwr.coreOn = true ∧ s.chip.pwr.leaving = some 4) ∧
    (∃ (s : State), s.chip.pwr.railsBad = true ∧ s.chip.pwr.coreOn = true ∧ s.chip.pwr.leaving = none ∧ s.chip.held =
      true) ∧
    (∃ (s : State), s.chip.pwr.railsBad = false) ∧
    (∃ (s : State) (st : Nat), s.chip.pwr.leaving = some st ∧ (3 ≤ st → s.chip.pwr.railsBad = false)) ∧
    (∃ (s : State), s.chip.pwr.leaving = none) ∧
    (∃ (s : State), s.chip.pwr.leaving = none ∧ (s.chip.fld F.PWR_STATUS.STATE = 3 ∨ s.chip.fld F.PWR_STATUS.STATE =
      4)) ∧
    (∃ (s : State), (s.chip.pwr.leaving = none ∧ s.chip.fld F.PWR_STATUS.STATE < 3 ∨ s.chip.pwr.leaving = some 3 ∧
      s.chip.pwr.railsBad = false)) ∧
    (∃ (s : State), s.chip.coreUp = true ∧ s.chip.fld F.PWR_STATUS.STATE = 2 ∧ s.chip.pwr.leaving = none) ∧
    (∃ (s : State), s.chip.fld F.PWR_STATUS.STATE ≠ 2) ∧
    (∃ (s : State), s.chip.fld F.PWR_ALARM_CTL.EN = 1 ∧ s.chip.fld F.PWR_STATUS.XTAL_OK = 1 ∧ s.chip.fld
      F.PWR_STATUS.STATE = 0) ∧
    (∃ (s : State), s.chip.fld F.PWR_ALARM_CTL.EN = 1 ∧ s.chip.fld F.PWR_STATUS.XTAL_OK = 1 ∧ 1 ≤ s.chip.fld
      F.PWR_STATUS.STATE ∧ s.chip.fld F.PWR_STATUS.STATE ≤ 3 ∧ s.chip.fld F.PWR_WAKE_EN.ALARM = 1 ∧ s.chip.pwr.leaving
      = none ∧ s.chip.held = false) ∧
    (∃ (s : State), (s.chip.fld F.PWR_ALARM_CTL.EN = 0 ∨ s.chip.fld F.PWR_STATUS.STATE = 4)) :=
  ⟨
    ⟨4, 1, ps 0 [F.GLB_MODE.MODE.is 11, F.PWR_WAKE_EN.FUSE.is 1, F.FUS_CHAN_CFG.WAKE.is 1 1], by decide +kernel⟩,
    ⟨3, 0, ps 1, by decide +kernel⟩,
    ⟨6, 1023, ps 2 [Reg.PWR_RTC_LO.is 0x1234567, Reg.PWR_RTC_HI.is 0x89, F.SDS_LN_STATUS.STATE.is lnStandby 191],
      by decide +kernel⟩,
    ⟨3, 5, ps 3 [] fun h => {h with coreOn := false}, by decide +kernel⟩,
    ⟨3, 5, ps 1 [F.PWR_WAKE_EN.ALARM.is 1], (5, 0), by decide +kernel⟩,
    ⟨3, 5, ps 1, (0, 7), by decide +kernel⟩,
    ⟨6, 5, lv 2 [Reg.PWR_WAKE_PEND.is 1], by decide +kernel⟩,
    ⟨6, 5, {}, by decide +kernel⟩,
    ⟨withMem (lv 3 [] fun h => {h with railsBad := true}), by decide +kernel⟩,
    ⟨withMem (lv 4 [] fun h => {h with railsBad := true}), by decide +kernel⟩,
    ⟨withMem (ps 0 [] fun h => {h with railsBad := true, vaonCell := true, resetN := true}), by decide +kernel⟩,
    ⟨{}, by decide +kernel⟩,
    ⟨lv 1, 1, by decide +kernel⟩,
    ⟨{}, by decide +kernel⟩,
    ⟨withMem (ps 3 [F.FUS_CHAN_STATUS.STATE.is 7 23] fun h => {h with coreOn := false, armedLanes := [4]}),
      by decide +kernel⟩,
    ⟨ps 2, by decide +kernel⟩,
    ⟨ps 2 [] fun h => {h with mgmtAwake := true}, by decide +kernel⟩,
    ⟨ps 3, by decide +kernel⟩,
    ⟨ps 0 [F.PWR_ALARM_CTL.EN.is 1, F.PWR_STATUS.XTAL_OK.is 1], by decide +kernel⟩,
    ⟨ps 1 [F.PWR_ALARM_CTL.EN.is 1, F.PWR_STATUS.XTAL_OK.is 1, F.PWR_WAKE_EN.ALARM.is 1], by decide +kernel⟩,
    ⟨{}, by decide +kernel⟩⟩

theorem witness_ChipResetsAndBoot :
    (∃ (s : State), s.chip.pwr.coreOn = true) ∧
    (∃ (s : State), s.chip.pwr.coreOn = false) ∧
    (∃ (s : State), (s.chip.fld F.PWR_STATUS.STATE ≠ 4 ∨ s.chip.pwr.leaving ≠ none)) ∧
    (∃ (s : State), s.chip.fld F.PWR_STATUS.STATE = 4 ∧ s.chip.pwr.leaving = none) ∧
    (∃ (a : Access) (v : Word) (s : State) (c : Chip), s.passes a { reg := Reg.PWR_CTL } v c ∧ wbit v 30 = true ∧ wbit
      v 31 = false ∧ c.isExpert a.who = true ∧ wget v 2 0 = max 1 (min 4 (wget v 2 0))) ∧
    (∃ (a : Access) (v : Word) (s : State) (c : Chip), s.passes a { reg := Reg.PWR_CTL } v c ∧ wbit v 30 = true ∧ wbit
      v 31 = false ∧ c.isExpert a.who = false ∧ wget v 2 0 = max 1 (min 4 (wget v 2 0))) ∧
    (∃ (s : State), s.chip.coreUp = true ∧ s.chip.lbx.resetDue = true) ∧
    (∃ (s : State), s.chip.lbx.resetDue = false) ∧
    (∃ (s : State), s.chip.pwr.coreOn = true ∧ s.chip.pwr.railsBad = false ∧ s.chip.pwr.leaving = none ∧
      s.chip.pwr.bootDue = true ∧ (Instr.resetNDeassert = Instr.resetNDeassert ∨ s.chip.pwr.resetN = false) ∧
      (Instr.resetNDeassert = Instr.chipResetEnd ∨ s.chip.pwr.chipRst = false) ∧ (Instr.resetNDeassert =
      Instr.vddResetRelease ∨ s.chip.pwr.vddLow = false) ∧ s.chip.imageOk (s.chip.slotImage 0) = false ∧
      s.chip.imageOk (s.chip.slotImage 1) = false ∧ s.chip.lbx.ready = false) ∧
    (∃ (s : State), s.chip.pwr.chipRst = true ∧ s.chip.pwr.resetN = true) :=
  ⟨
    ⟨busyS, by decide +kernel⟩,
    ⟨ps 3 [] fun h => {h with coreOn := false}, by decide +kernel⟩,
    ⟨busyS, by decide +kernel⟩,
    ⟨ps 4 [] fun h => {h with coreOn := false}, by decide +kernel⟩,
    ⟨{who := .part 3}, 0x40000004, xp, pc xp {who := .part 3} pk 0x40000004, by decide +kernel⟩,
    ⟨{who := .part 3}, 0x40000004, xp [F.LBX_OWNER.EXPERT.is 0], pc (xp [F.LBX_OWNER.EXPERT.is 0]) {who := .part 3} pk
      0x40000004, by decide +kernel⟩,
    ⟨withMem {chip := {lbx := {resetDue := true}}}, by decide +kernel⟩,
    ⟨{}, by decide +kernel⟩,
    ⟨bt fun h => {h with resetN := true}, by decide +kernel⟩,
    ⟨bt fun h => {h with vddLow := true, chipRst := true, resetN := true}, by decide +kernel⟩⟩

end Group21

namespace Group22

def bs20 : List Byte := (List.range 40).map fun i => BitVec.ofNat 8 (i * 37 + 11)

def two (more : List FieldVal := []) (f : Chip → Chip := id) : State := up 1 ([F.PRT_PORT_CFG.PART.is 3 95,
    F.GLB_MODE.MODE.is 6, F.PRT_PORT_CFG.EN.is 1 90, F.PRT_PORT_CFG.ROLE.is 0 90, F.PRT_PORT_CFG.PART.is 3 90,
    F.PRT_LINK_STATUS.DL_ACTIVE.is 1 90, F.PRT_LINK_STATUS.NEG_WIDTH.is 0 90, F.PRT_LINK_STATUS.NEG_RATE.is 1 90,
    F.PRT_LINK_STATUS.PM_STATE.is 0 90, F.PRT_LINK_STATUS.LTSSM.is 4 90] ++ more) fun c => f
    ((({c with cel := {c.cel with sharedSize := 300000}}.setCfg (.port 90) 0x04 6).setCfg (.mgmt 3) 0x04 6).setCfg
    (.port 95) 0x04 6)

def wr (addr : Nat := 0x123456789000) : Packet := {kind := .memWr, addr, len := 40, data := bs20, rid := 0x100}

def cop (id : Nat) (k : Packet) (d : Dest) (ch : Charge) : Copy :=
    {id, pid := id, pkt := k, src := .device, part := none, dest := d, stamp := 0, cells := 1, charge := ch}

def eng (more : List FieldVal := []) : State := two ([F.ACD_JOB_CFG.EN.is 1 11 31, F.ACD_JOB_CFG.PART.is 3 11 31,
    F.ACD_JOB_SET.FIRST.is 127 11 31, F.ACD_JOB_SET.COUNT.is 1 11 31, F.ACD_DST_A.KIND.is 1 11 63, F.ACD_DST_A.TILE.is
    11 11 63, F.ACD_DST_B.PART.is 3 11 63] ++ more)

def cel (cs ws : List Copy) (f : CelH → CelH := id) (more : List FieldVal := []) : State := two more fun c =>
    {c with cel := f {c.cel with copies := cs, waiting := ws}}

def cp : Packet := {kind := .cpl, tag := 5, data := bs20, len := 40}

def df (id : Nat) : Copy := {cop id wr (.port 95) .shared with deferred := true, whole := false, first := false}

def rdq : Packet := {kind := .memRd, addr := 0x4000, len := 40, rid := 0x100, tag := 9}

def shp : List FieldVal := [F.SCH_Q_CFG.SHAPER.is 8191 90 7, F.SCH_Q_CFG.SHAPER_VALID.is 1 90 7,
    F.SCH_NOTE_MAP.NOTE.is (2^14) 90, F.SCH_CTX_A.KIND.is 2 8191, F.SCH_CTX_CIR.CIR.is 12345 8191,
    F.SCH_CTX_CBS.CBS.is 4224 8191]

def ec (k : Copy) (more : List FieldVal := []) (f : Chip → Chip := id) : State := two ([F.CEL_AGE_LIMIT.LIMIT.is 5 0]
    ++ more) fun c => f {c with cel := {c.cel with copies := [k]}}

def st (k : Copy) : Copy := {k with started := true}

def inc4 : Copy := {st (cop 4 wr (.port 90) .shared) with whole := false, src := .port 95}

def inp4 : Copy := {inc4 with rx := some 5}

def rs : Copy := {inc4 with resend := true}

def old (k : Copy) : State :=
    {ec k with chip := {(ec k).chip with hwy := 10^12, tim := {(ec k).chip.tim with count := 10^12 * 2^48}}}

theorem witness_PacketsEnter :
    (∃ (n : Fin 96) (s : State), s.chip.coreUp = true ∧ s.chip.isPcie n.val = true ∧ s.chip.linkLive n.val = true) ∧
    (∃ (n : Fin 96) (s : State), (s.chip.linkLive n.val = false ∨ s.chip.portEn n.val = false)) ∧
    (∃ (n : Fin 96) (p : Packet) (whole : Bool) (s : State) (q m : Nat) (d : Dest), s.chip.coreUp = true ∧
      s.chip.isPcie n.val = true ∧ s.chip.linkLive n.val = true ∧ s.chip.cel.capWaiting = [] ∧ p.kind = PktKind.memWr
      ∧ s.chip.rxViol? n.val p = none ∧ s.chip.capRule? n.val p = none ∧ s.chip.cardFlc? n.val p = none ∧
      s.chip.mcGroup? n.val p.addr = none ∧ s.chip.fld F.SCH_FLOW_MAP.VALID n.val p.cls = 0 ∧ s.chip.admitting = true
      ∧ ((s.chip.cel.copies.all fun k => k.dest != Dest.mgmt) = true) ∧ s.chip.hierPart? n.val = some q ∧
      s.chip.partRefuses q = false ∧ s.chip.segHit (some q) p = none ∧ m < 96 ∧ s.chip.resolve (some q) (some n.val) p
      = Hit.dests [Dest.port m] ∧ (s.chip.passes (s.chip.portLook n.val p
      { stamp := s.chip.ns, whole := whole, rx := some s.chip.cel.nextId }) (Dest.port m)).1 = some d) ∧
    (∃ (e : Fin 1536) (w : Fin 64) (p : Packet) (s : State) (j : Nat), s.chip.coreUp = true ∧ p.kind = PktKind.memWr ∧
      s.chip.jobOf? e.val = some j ∧ s.chip.windowOff j w.val = false ∧ s.chip.fld F.ACD_DST_A.KIND (j / 32) w.val = 1
      ∧ s.chip.fld F.ACD_DST_A.METER_VALID (j / 32) w.val = 0 ∧ s.chip.admitting = true ∧ s.chip.engWaits e.val =
      false ∧ (s.chip.eng e.val).out = [] ∧ ((s.chip.cel.copies.all fun k => k.dest != Dest.mgmt) = true) ∧ (∀ q ∈
      (s.chip.engineLook e.val j w.val p).part, s.chip.partRefuses q = false) ∧ (s.chip.passes
      { pkt := { kind := (s.chip.engineLook e.val j w.val p).pkt.kind, cls := (s.chip.engineLook e.val j w.val p).pkt.cls, addr := p.addr % 2097152, len := (s.chip.engineLook e.val j w.val p).pkt.len, hdrBytes := (s.chip.engineLook e.val j w.val p).pkt.hdrBytes, data := (s.chip.engineLook e.val j w.val p).pkt.data, rid := (s.chip.engineLook e.val j w.val p).pkt.rid, tag := (s.chip.engineLook e.val j w.val p).pkt.tag, pasid := (s.chip.engineLook e.val j w.val p).pkt.pasid, exec := (s.chip.engineLook e.val j w.val p).pkt.exec, priv := (s.chip.engineLook e.val j w.val p).pkt.priv, lanes := (s.chip.engineLook e.val j w.val p).pkt.lanes, poisoned := (s.chip.engineLook e.val j w.val p).pkt.poisoned, malformed := (s.chip.engineLook e.val j w.val p).pkt.malformed, addrType := (s.chip.engineLook e.val j w.val p).pkt.addrType, ide := (s.chip.engineLook e.val j w.val p).pkt.ide, relaxed := (s.chip.engineLook e.val j w.val p).pkt.relaxed, idOrder := (s.chip.engineLook e.val j w.val p).pkt.idOrder, msgCode := (s.chip.engineLook e.val j w.val p).pkt.msgCode, msgRoute := (s.chip.engineLook e.val j w.val p).pkt.msgRoute, vendor := (s.chip.engineLook e.val j w.val p).pkt.vendor, vdh := (s.chip.engineLook e.val j w.val p).pkt.vdh, idRoute := (s.chip.engineLook e.val j w.val p).pkt.idRoute, rootPort := (s.chip.engineLook e.val j w.val p).pkt.rootPort, status := (s.chip.engineLook e.val j w.val p).pkt.status, cid := (s.chip.engineLook e.val j w.val p).pkt.cid, byteCount := (s.chip.engineLook e.val j w.val p).pkt.byteCount, lastCpl := (s.chip.engineLook e.val j w.val p).pkt.lastCpl, locked := (s.chip.engineLook e.val j w.val p).pkt.locked, fab := (s.chip.engineLook e.val j w.val p).pkt.fab }, src := (s.chip.engineLook e.val j w.val p).src, stamp := (s.chip.engineLook e.val j w.val p).stamp, part := (s.chip.engineLook e.val j w.val p).part, hier := (s.chip.engineLook e.val j w.val p).hier, st := (s.chip.engineLook e.val j w.val p).st, oRid := (s.chip.engineLook e.val j w.val p).oRid, oTag := (s.chip.engineLook e.val j w.val p).oTag, fab := (s.chip.engineLook e.val j w.val p).fab, flc := (s.chip.engineLook e.val j w.val p).flc, touch := (s.chip.engineLook e.val j w.val p).touch, whole := (s.chip.engineLook e.val j w.val p).whole, rx := (s.chip.engineLook e.val j w.val p).rx, off := (s.chip.engineLook e.val j w.val p).off, meter := (s.chip.engineLook e.val j w.val p).meter, bPath := (s.chip.engineLook e.val j w.val p).bPath }
      (Dest.pantry (s.chip.fld F.ACD_DST_A.TILE (j / 32) w.val))).1 = some (Dest.pantry (s.chip.fld F.ACD_DST_A.TILE
      (j / 32) w.val))) ∧
    (∃ (e : Fin 1536) (w : Fin 64) (p : Packet) (s : State) (j : Nat), s.chip.coreUp = true ∧ p.kind = PktKind.memWr ∧
      ((s.chip.cel.copies.all fun k => k.dest != Dest.mgmt) = true) ∧ s.chip.jobOf? e.val = some j ∧ s.chip.windowOff
      j w.val = false ∧ (s.chip.engWaits e.val = true ∨ (s.chip.eng e.val).out ≠ [])) ∧
    (∃ (q : Fin 32) (p : Packet) (s : State), s.chip.coreUp = true ∧ p.kind ≠ PktKind.cpl ∧ (s.chip.bme (Fn.mgmt
      q.val) = false ∧ s.chip.partRefuses q.val = false ∨ (s.chip.part q.val).stalled ≠ [])) :=
  ⟨
    ⟨90, two, by decide +kernel⟩,
    ⟨91, two, by decide +kernel⟩,
    ⟨90, wr, true, two, 3, 95, .port 95, by decide +kernel⟩,
    ⟨1535, 63, wr 0x123456700040, eng, 383, by decide +kernel⟩,
    ⟨1535, 63, wr 0x123456700040,
      {eng with chip := {eng.chip with cel := {eng.chip.cel with waiting := [{cop 4 wr (.port 95) .none with src := .engine 1535}]}}},
      383, by decide +kernel⟩,
    ⟨31, wr, two, by decide +kernel⟩⟩

theorem witness_CellarRetriesAndTicks :
    (∃ (s : State) (k : Copy), s.chip.coreUp = true ∧ s.chip.cel.waiting = [] ∧ (∀ p < 33, (s.chip.part p).stalled =
      []) ∧ s.chip.allSent ∧ ((s.chip.cel.copies.all fun k => k.dest != Dest.mgmt) = true) ∧ k ∈ s.chip.cel.copies ∧
      (List.filter (fun k => k.charge == Charge.guarantee || k.charge == Charge.slots) s.chip.cel.copies = [k]) ∧ (∀ x
      ∈ s.chip.cel.copies, x.id = k.id → x = k) ∧ k.segPosted = false ∧
      (({ s.chip with cel := { s.chip.cel with copies := List.filter (fun x => x.id != k.id) s.chip.cel.copies } } :
      Chip).admits k = true)) ∧
    (∃ (s : State) (k : Copy), s.chip.coreUp = true ∧ ((s.chip.cel.copies.all fun k => k.charge != Charge.guarantee &&
      k.charge != Charge.slots && k.dest != Dest.mgmt) = true) ∧ (∀ p < 33, (s.chip.part p).stalled = []) ∧
      s.chip.allSent ∧ s.chip.cel.flcWaiting = [] ∧ s.chip.cel.waiting.head? = some k ∧ s.chip.cel.waiting.length = 1
      ∧ k.cat = Cat.completion ∧ k.deferred = false ∧ k.dest ≠ Dest.mgmt ∧ s.chip.descOk k = true ∧ s.chip.admits k =
      true ∧ k.charge = Charge.shared ∧ k.src = Src.device ∧ k.dest ≠ Dest.requester Src.firmware ∧ k.isDisc = false ∧
      k.first = true ∧ 0 < k.cells ∧ k.at_ = []) ∧
    (∃ (s : State) (k : Copy), s.chip.coreUp = true ∧ ((s.chip.cel.copies.all fun k => k.charge != Charge.guarantee &&
      k.charge != Charge.slots && k.dest != Dest.mgmt) = true) ∧ (∀ p < 33, (s.chip.part p).stalled = []) ∧
      s.chip.allSent ∧ s.chip.cel.flcWaiting = [] ∧ s.chip.cel.waiting.head? = some k ∧ s.chip.cel.waiting.length = 1
      ∧ k.cat = Cat.completion ∧ k.deferred = false ∧ k.dest ≠ Dest.mgmt ∧ s.chip.descOk k = false ∧ s.chip.cel.owed =
      []) ∧
    (∃ (s : State), s.chip.cel.waiting = [] ∧ s.chip.cel.owed = [] ∧ (∀ p < 33, (s.chip.part p).stalled = []) ∧
      s.chip.allSent ∧ ((s.chip.cel.copies.all fun k => k.charge != Charge.guarantee && k.charge != Charge.slots &&
      k.dest != Dest.mgmt) = true)) ∧
    (∃ (s : State) (k : Copy), s.chip.coreUp = true ∧ (List.find? (fun k => k.deferred && (k.whole ||
      !s.chip.inParcels k) && s.chip.descOk k && s.chip.admits k && !s.chip.passing k) s.chip.cel.waiting = some k) ∧
      (k.cat = Cat.completion ∨ (s.chip.gateAllows k.dest k.pkt k.st k.oRid k.part).1 = true) ∧ s.chip.account k ≠
      Charge.none ∧ s.chip.account k ≠ Charge.mgmt ∧ k.first = false ∧ 0 < k.cells ∧ k.at_ = []) ∧
    (∃ (s : State), (∀ k ∈ s.chip.cel.waiting, k.deferred = false) ∧ s.chip.cel.owed = []) ∧
    (∃ (s : State) (k : Copy), s.chip.coreUp = true ∧ s.chip.admitting = true ∧ s.chip.allSent ∧
      ((s.chip.cel.copies.all fun k => k.dest != Dest.mgmt) = true) ∧ s.chip.cel.flcWaiting.head? = some k ∧ 0 <
      s.chip.flcFree ∧ (∀ q < 32, (s.chip.newTag? (some q)).isSome = true) ∧ (s.chip.newTag? none).isSome = true ∧
      k.pkt.kind = PktKind.memRd) ∧
    (∃ (s : State) (k : Copy), s.chip.coreUp = true ∧ s.chip.admitting = true ∧ s.chip.allSent ∧
      ((s.chip.cel.copies.all fun k => k.dest != Dest.mgmt) = true) ∧ s.chip.cel.flcWaiting.head? = some k ∧
      s.chip.flcFree = 0 ∧ s.chip.cel.owed = []) ∧
    (∃ (s : State), s.chip.cel.flcWaiting = [] ∧ s.chip.cel.owed = [] ∧ s.chip.allSent ∧ ((s.chip.cel.copies.all fun k
      => k.dest != Dest.mgmt) = true)) ∧
    (∃ (s : State), s.chip.coreUp = true) ∧
    (∃ (s : State), s.chip.coreUp = true ∧ s.chip.cel.meterHeld = [] ∧ s.chip.allSent) :=
  ⟨
    ⟨cel [cop 1 wr (.port 95) .guarantee, cop 2 wr (.port 90) .shared] [], cop 1 wr (.port 95) .guarantee,
      by decide +kernel⟩,
    ⟨cel [cop 2 wr (.port 90) .shared] [cop 1 cp (.port 95) .shared], cop 1 cp (.port 95) .shared, by decide +kernel⟩,
    ⟨cel (List.replicate 32768 (cop 2 wr (.port 90) .shared)) [cop 1 cp (.port 95) .shared], cop 1 cp (.port 95)
      .shared, by decide +kernel⟩,
    ⟨two, by decide +kernel⟩,
    ⟨cel [cop 2 wr (.port 90) .shared] [{cop 7 cp (.port 94) .shared with deferred := false}, df 1, df 3], df 1,
      by decide +kernel⟩,
    ⟨cel [] [cop 7 cp (.port 95) .shared], by decide +kernel⟩,
    ⟨cel [] [] fun h =>
      {h with flcWaiting := [{cop 4 rdq (.port 95) .none with src := .port 90, flc := some 3}, cop 5 rdq (.port 95) .none]},
      {cop 4 rdq (.port 95) .none with src := .port 90, flc := some 3}, by decide +kernel⟩,
    ⟨cel [] [] (fun h => {h with flcWaiting := [{cop 4 rdq (.port 95) .none with src := .port 90, flc := some 3}]}) |>
      fun s =>
      {s with chip := {s.chip with flcReqs := List.replicate 8192 {flc := 3, newRid := 0, newTag := 0, origRid := 0, origTag := 0, tagPart := 3, backPart := 3, src := .port 90}}},
      {cop 4 rdq (.port 95) .none with src := .port 90, flc := some 3}, by decide +kernel⟩,
    ⟨cel [cop 2 wr (.port 90) .shared] [], by decide +kernel⟩,
    ⟨two shp, by decide +kernel⟩,
    ⟨two [F.SCH_CTX_A.KIND.is 1 8191, F.SCH_CTX_CIR.CIR.is 12345 8191, F.SCH_CTX_PIR.PIR.is 1234567 8191,
      F.SCH_CTX_PBS.PBS.is 4224 8191], by decide +kernel⟩⟩

theorem witness_EgressAndSending :
    (∃ (n : Fin 96) (s : State), s.chip.coreUp = true ∧ s.chip.isPcie n.val = true ∧ s.chip.linkLive n.val = true ∧
      s.chip.judgedPorts = [] ∧ (∃ k ∈ s.chip.cel.copies.head?, s.chip.cel.copies.length = 1 ∧ k.dest = Dest.port
      n.val ∧ k.cat = Cat.posted ∧ k.whole = true ∧ k.started = false ∧ k.resend = false ∧ k.pkt.cls < 8 ∧ s.chip.aged
      k = false ∧ (s.chip.sch n.val).switched = false ∧ s.chip.gateOpen n.val k.pkt.cls = true ∧ s.chip.gateFits n.val
      k.pkt.cls (s.chip.txTime n.val k.pkt.bytes) = true ∧ s.chip.note n.val k.pkt.cls = 2)) ∧
    (∃ (n : Fin 96) (s : State), s.chip.coreUp = true ∧ s.chip.isPcie n.val = true ∧ s.chip.linkLive n.val = true ∧
      s.chip.judgedPorts = [] ∧ (∃ k ∈ s.chip.cel.copies.head?, s.chip.cel.copies.length = 1 ∧ k.dest = Dest.port
      n.val ∧ k.cat = Cat.posted ∧ k.whole = true ∧ k.started = false ∧ k.resend = false ∧ k.pkt.cls < 8 ∧ s.chip.aged
      k = false ∧ (s.chip.sch n.val).switched = false ∧ s.chip.gateOpen n.val k.pkt.cls = true ∧ s.chip.gateFits n.val
      k.pkt.cls (s.chip.txTime n.val k.pkt.bytes) = true ∧ s.chip.note n.val k.pkt.cls = 1 ∧ (s.chip.shaper? n.val
      k.pkt.cls).isSome = true ∧ 0 ≤ s.chip.credit n.val k.pkt.cls)) ∧
    (∃ (n : Fin 96) (s : State), s.chip.coreUp = true ∧ s.chip.isPcie n.val = true ∧ s.chip.linkLive n.val = true ∧
      s.chip.judgedPorts = [] ∧ (∃ k ∈ s.chip.cel.copies.head?, s.chip.cel.copies.length = 1 ∧ k.dest = Dest.port
      n.val ∧ k.cat = Cat.posted ∧ k.whole = true ∧ k.started = false ∧ k.resend = false ∧ k.pkt.cls < 8 ∧ s.chip.aged
      k = false ∧ (s.chip.sch n.val).switched = false ∧ s.chip.gateOpen n.val k.pkt.cls = true ∧ s.chip.gateFits n.val
      k.pkt.cls (s.chip.txTime n.val k.pkt.bytes) = true ∧ s.chip.note n.val k.pkt.cls = 1 ∧ (s.chip.shaper? n.val
      k.pkt.cls).isSome = true ∧ s.chip.credit n.val k.pkt.cls < 0)) ∧
    (∃ (t : Fin 12) (s : State), s.chip.coreUp = true ∧ s.chip.judgedPorts = [] ∧ (∃ k ∈ s.chip.cel.copies.head?,
      s.chip.cel.copies.length = 1 ∧ k.dest = Dest.pantry t.val ∧ k.pkt.kind = PktKind.memWr ∧ k.pkt.lanes = [] ∧
      k.pkt.cls < 8 ∧ k.whole = true ∧ k.started = false ∧ s.chip.aged k = false ∧ k.pkt.addr + k.pkt.data.length ≤
      2097152 ∧ (∀ j < 32, s.chip.fld F.ACD_JOB_DB.VALID t.val j = 0))) ∧
    (∃ (id : Nat) (how : Ending) (s : State) (k : Copy) (n : Nat), s.chip.coreUp = true ∧ (List.find? (fun k => k.id
      == id) s.chip.cel.copies = some k) ∧ n < 96 ∧ k.dest = Dest.port n ∧ s.chip.isFleren n = false ∧ how =
      Ending.good ∧ k.started = true ∧ k.resend = false ∧ (k.whole = true ∨ s.chip.inParcels k = false)) ∧
    (∃ (id : Nat) (how : Ending) (s : State) (k : Copy) (n : Nat), s.chip.coreUp = true ∧ (List.find? (fun k => k.id
      == id) s.chip.cel.copies = some k) ∧ n < 96 ∧ k.dest = Dest.port n ∧ s.chip.isFleren n = false ∧ how =
      Ending.underrun ∧ k.started = true ∧ k.resend = false ∧ k.whole = false) ∧
    (∃ (id : Nat) (how : Ending) (s : State) (k : Copy) (n : Nat), s.chip.coreUp = true ∧ (List.find? (fun k => k.id
      == id) s.chip.cel.copies = some k) ∧ n < 96 ∧ k.dest = Dest.port n ∧ s.chip.isFleren n = false ∧ how =
      Ending.bad ∧ k.started = true ∧ k.resend = false ∧ k.whole = false ∧ s.chip.inParcels k = false ∧
      s.chip.flt.track = [] ∧ s.chip.cel.waiting = [] ∧ (∀ x ∈ s.chip.cel.copies, x.pid = k.pid → x = k)) ∧
    (∃ (id : Nat) (how : Ending) (s : State) (k : Copy) (n : Nat), s.chip.coreUp = true ∧ (List.find? (fun k => k.id
      == id) s.chip.cel.copies = some k) ∧ n < 96 ∧ k.dest = Dest.port n ∧ s.chip.isFleren n = false ∧ (how =
      Ending.good ∨ how = Ending.bad ∨ how = Ending.malformed) ∧ k.whole = false ∧ s.chip.inParcels k = true ∧
      s.chip.cel.owed = []) ∧
    (∃ (id : Nat) (how : Ending) (s : State) (k : Copy) (n i : Nat), s.chip.coreUp = true ∧ (List.find? (fun k => k.id
      == id) s.chip.cel.copies = some k) ∧ n < 96 ∧ k.dest = Dest.port n ∧ s.chip.isFleren n = false ∧ how =
      Ending.malformed ∧ k.whole = false ∧ s.chip.inParcels k = false ∧ s.chip.flt.track = [] ∧ i < 96 ∧ k.src =
      Src.port i ∧ s.chip.isPcie i = true) ∧
    (∃ (id : Nat) (s : State), (∀ k ∈ s.chip.cel.copies, k.id ≠ id)) ∧
    (∃ (id : Nat) (s : State) (k : Copy) (n : Nat), s.chip.coreUp = true ∧ (List.find? (fun k => k.id == id &&
      k.resend) s.chip.cel.copies = some k) ∧ n < 96 ∧ k.dest = Dest.port n ∧ (k.held = false ∧ (k.whole = true ∨
      s.chip.inParcels k = false)) ∧ s.chip.sending n = false ∧ s.chip.gateOpen n k.pkt.cls = true) ∧
    (∃ (id : Nat) (s : State) (k : Copy) (n : Nat), s.chip.coreUp = true ∧ (List.find? (fun k => k.id == id &&
      k.resend) s.chip.cel.copies = some k) ∧ n < 96 ∧ k.dest = Dest.port n ∧ (¬(k.held = false ∧ (k.whole = true ∨
      s.chip.inParcels k = false)) ∨ s.chip.sending n = true ∨ s.chip.gateOpen n k.pkt.cls = false)) ∧
    (∃ (s : State) (k : Copy) (n : Nat), s.chip.coreUp = true ∧ s.chip.cel.waiting = [] ∧ s.chip.cel.copies.head? =
      some k ∧ s.chip.cel.copies.length = 1 ∧ n < 96 ∧ k.dest = Dest.port n ∧ s.chip.aged k = true ∧ k.cat =
      Cat.posted) ∧
    (∃ (s : State) (k : Copy) (n : Nat), s.chip.coreUp = true ∧ s.chip.cel.waiting = [] ∧ s.chip.cel.copies.head? =
      some k ∧ s.chip.cel.copies.length = 1 ∧ n < 96 ∧ k.dest = Dest.port n ∧ s.chip.aged k = true ∧ k.cat =
      Cat.completion) ∧
    (∃ (s : State) (k : Copy) (n : Nat), s.chip.coreUp = true ∧ s.chip.cel.waiting = [] ∧ s.chip.cel.copies.head? =
      some k ∧ s.chip.cel.copies.length = 1 ∧ n < 96 ∧ k.dest = Dest.port n ∧ s.chip.aged k = true ∧ k.cat =
      Cat.nonPosted ∧ k.src = Src.firmware ∧ k.flc = none ∧ s.chip.takesBack 0) ∧
    (∃ (s : State), (∀ k ∈ s.chip.cel.copies, s.chip.aged k = false)) ∧
    (∃ (cell : Fin 393216) (s : State), s.chip.coreUp = true ∧ (∀ k ∈ s.chip.cel.copies ++ s.chip.cel.waiting ++
      s.chip.cel.flcWaiting ++ List.map (fun x => x.2) s.chip.cel.capWaiting, cell.val ∉ s.chip.cellsAt k)) ∧
    (∃ (cell : Fin 393216) (s : State) (k : Copy), s.chip.coreUp = true ∧ k ∈ s.chip.cel.copies ∧ cell.val ∈
      s.chip.cellsAt k ∧ (∀ x ∈ s.chip.cel.copies, x.id ≠ k.id → cell.val ∉ s.chip.cellsAt x) ∧ (∀ x ∈
      s.chip.cel.copies, x.id = k.id → x = k) ∧ k.started = false ∧ k.cat = Cat.posted ∧ s.chip.cel.waiting = [] ∧
      s.chip.cel.flcWaiting = [] ∧ s.chip.cel.capWaiting = []) :=
  ⟨
    ⟨90, ec (cop 4 {wr with cls := 7} (.port 90) .shared) [F.SCH_NOTE_MAP.NOTE.is (2^15) 90], by decide +kernel⟩,
    ⟨90, ec (cop 4 {wr with cls := 7} (.port 90) .shared) shp, by decide +kernel⟩,
    ⟨90, ec (cop 4 {wr with cls := 7} (.port 90) .shared) (shp ++ [F.SCH_Q_CREDIT.CREDIT.is (2^25-4) 90 7]),
      by decide +kernel⟩,
    ⟨11, ec (cop 4 (wr (2097152 - 40)) (.pantry 11) .shared), by decide +kernel⟩,
    ⟨4, .good, ec (st (cop 4 wr (.port 90) .shared)), st (cop 4 wr (.port 90) .shared), 90, by decide +kernel⟩,
    ⟨4, .underrun, ec {st (cop 4 wr (.port 90) .shared) with whole := false},
      {st (cop 4 wr (.port 90) .shared) with whole := false}, 90, by decide +kernel⟩,
    ⟨4, .bad, ec {st (cop 4 wr (.port 90) .shared) with whole := false},
      {st (cop 4 wr (.port 90) .shared) with whole := false}, 90, by decide +kernel⟩,
    ⟨4, .bad, ec inp4 (flv 4), inp4, 90, by decide +kernel⟩,
    ⟨4, .malformed, ec inc4, inc4, 90, 95, by decide +kernel⟩,
    ⟨5, ec inc4, by decide +kernel⟩,
    ⟨4, ec rs, rs, 90, by decide +kernel⟩,
    ⟨4, {ec rs with chip := {(ec rs).chip with cel := {copies := [rs, {inc4 with id := 6}]}}}, rs, 90,
      by decide +kernel⟩,
    ⟨old (cop 4 wr (.port 90) .shared), cop 4 wr (.port 90) .shared, 90, by decide +kernel⟩,
    ⟨old (cop 4 cp (.port 90) .shared), cop 4 cp (.port 90) .shared, 90, by decide +kernel⟩,
    ⟨old {cop 4 rdq (.port 90) .shared with src := .firmware, oTag := 9},
      {cop 4 rdq (.port 90) .shared with src := .firmware, oTag := 9}, 90, by decide +kernel⟩,
    ⟨ec inc4, by decide +kernel⟩,
    ⟨393215, ec (cop 4 wr (.port 90) .shared), by decide +kernel⟩,
    ⟨5, ec {cop 4 wr (.port 90) .shared with at_ := [5, 7]}, {cop 4 wr (.port 90) .shared with at_ := [5, 7]},
      by decide +kernel⟩⟩

end Group22

namespace Group23

def hdw (op n : Nat) (tag : Nat := 0x55AA) : Word := word (op * 2^24 + n * 2^20 + tag)

def bx (n op : Nat) (args : List Nat := []) (more : List FieldVal := []) (h : LbxH → LbxH := id) (f : Chip → Chip :=
    id) : State :=
  mk ([F.LBX_STATUS.BUSY.is 1 n, F.PRT_PORT_CFG.EN.is 1 95, F.PRT_PORT_CFG.ROLE.is 1 95, F.PRT_PORT_CFG.PART.is 31 95,
    F.GAT_LIFECYCLE.STATE.is 1] ++ more) fun c => f { c with lbx := h { c.lbx with
    ready := true, order := [n, 5], boxes := [(n, { cmd := hdw op args.length :: args.map word, todo := true }), (40,
    {cmd := [7]})] } }

def own (n : Nat) : List FieldVal := [F.LBX_OWNER.VALID.is 1, F.LBX_OWNER.OWNER.is n]

def bw (n : Nat) (b : Box) (more : List FieldVal := []) (h : LbxH → LbxH := id) (f : Chip → Chip := id) : State :=
  mk ([F.PRT_PORT_CFG.EN.is 1 95, F.PRT_PORT_CFG.ROLE.is 1 95, F.PRT_PORT_CFG.PART.is 31 95, F.GAT_LIFECYCLE.STATE.is
    1] ++ more) fun c => f { c with lbx := h { c.lbx with ready := true, boxes := [(n, b), (40, {cmd := [7]})] } }

def dbg : List FieldVal := [F.GAT_LIFECYCLE.STATE.is 0]

def ad (r : Reg) (i : Nat := 0) : Nat := (⟨r, i, 0⟩ : RegKey).addr (⟨r, i, 0⟩ : RegKey).tile

def fl90 : List FieldVal := [F.PRT_PORT_CFG.EN.is 1 90, F.PRT_PORT_CFG.PROTO.is 1 90, F.PRT_FL_STATUS.LSTATE.is 4 90]

def hh : FabHdr :=
    {typ := 2, lenWords := 20, dstChip := 3, disc := {op := 1, tag := 0x1234, hopIdx := 0, hopCnt := 1, addr := 8}}

def sc (g : Nat) : StoreCopy := {gen := g, length := 100, mode := 6, mask := 3, regs := [], locks := []}

def cm (k : Nat) (h : LbxH → LbxH := id) : State := bx 31 0x30 [] (own 31 ++ [F.LBX_STORE_STATUS.COMMITTING.is 1])
    fun x => h
    {x with order := [5], storeA := if k = 1 then some (sc 3) else none, storeB := if k = 0 then some (sc 3) else none, committing := some (31, k, sc 7)}

def ld (args : List Nat) (se : Nat) (ws : List Word) (more : List FieldVal := []) : State := bx 31 0x41 args (own 31
    ++ [F.LBX_FW_STATUS.SESSION.is se] ++ more) fun h => {h with loaded := ws, slotA := [1,2], slotB := [3]}

def lh (args : List Nat) (more : List FieldVal := [F.LBX_FW_STATUS.SESSION.is 1]) (h : LbxH → LbxH := id) (f : Chip →
    Chip := id) : State := bx 31 0x40 args (own 31 ++ more) h f

def hl (got : List Byte) (tag : Option Nat) (more : List FieldVal := [F.LBX_FW_STATUS.SESSION.is 1]) (f : Chip → Chip
    := id) : State := lh [5, 6, 4] more (fun h =>
    {h with order := [5], load := some {box := 31, base := 4, total := 8, got, tag}}) f

def hlh (got : List Byte) (tag : Option Nat) : HostLoad := {box := 31, base := 4, total := 8, got, tag}

def cpl (st : CplStatus) (l : Bool) : InCpl :=
    {to_ := .firmware, part := some 31, pkt := {kind := .cpl, tag := 9, status := st, data := [5,6], lastCpl := l}}

def fin (ws : List Word) (more : List FieldVal := []) : State := bx 31 0x42 [] (own 31 ++ [F.LBX_FW_STATUS.SESSION.is
    1, F.LBX_FW_STATUS.ACCEPTED.is 1] ++ more) fun h => {h with loaded := ws, slotA := [1,2], slotB := [3]}

theorem holdup_large (c : Chip) (x : Nat) (h : c.fld F.FUS_HOLDUP_E.E_MJ = 65535) :
    c.holdupOk (4 * (x % 261121)) = true := by
  simp only [Chip.holdupOk, h, storeEstimate, divUp]
  exact decide_eq_true (by omega)

theorem holdup_none (c : Chip) (x : Nat) (h : c.fld F.FUS_HOLDUP_E.E_MJ = 0) :
    c.holdupOk (4 * (x % 261121)) = false := by
  simp only [Chip.holdupOk, h, storeEstimate, divUp]
  exact decide_eq_false (by omega)

theorem witness_StepTakesFront :
    (∃ (s : State), s.pending = []) :=
    ⟨{}, by decide +kernel⟩

theorem witness_LetterboxWindows :
    (∃ (n : Fin 34) (be : Fin 16) (s : State), s.chip.coreUp = true ∧ s.chip.boxExists n.val = true ∧ be.val = 15 ∧
      s.chip.fld F.LBX_STATUS.BUSY n.val = 0 ∧ (s.chip.box n.val).req.length < 16) ∧
    (∃ (n : Fin 34) (be : Fin 16) (s : State), s.chip.coreUp = true ∧ s.chip.boxExists n.val = true ∧ be.val = 15 ∧
      (s.chip.fld F.LBX_STATUS.BUSY n.val = 1 ∨ 16 ≤ (s.chip.box n.val).req.length)) ∧
    (∃ (n : Fin 34) (s : State), s.chip.coreUp = true ∧ s.chip.boxExists n.val = true ∧ s.chip.fld F.LBX_STATUS.BUSY
      n.val = 1) ∧
    (∃ (n : Fin 34) (s : State), s.chip.coreUp = true ∧ s.chip.boxExists n.val = true ∧ s.chip.fld F.LBX_STATUS.BUSY
      n.val = 0 ∧ s.chip.fld F.PWR_STATUS.STATE ≠ 2 ∧ (ringCode? (s.chip.flag F.LBX_FW_STATUS.RECOVERY) (s.chip.box
      n.val).req).isSome = true) ∧
    (∃ (n : Fin 34) (s : State), s.chip.coreUp = true ∧ s.chip.boxExists n.val = true ∧ s.chip.fld F.LBX_STATUS.BUSY
      n.val = 0 ∧ s.chip.fld F.PWR_STATUS.STATE ≠ 2 ∧ ringCode? (s.chip.flag F.LBX_FW_STATUS.RECOVERY) (s.chip.box
      n.val).req = none) ∧
    (∃ (n : Fin 34) (s : State), s.chip.coreUp = true ∧ s.chip.boxExists n.val = true ∧ s.chip.fld F.LBX_STATUS.BUSY
      n.val = 0 ∧ s.chip.fld F.PWR_STATUS.STATE = 2) ∧
    (∃ (n : Fin 34) (be : Fin 16) (s : State), s.chip.coreUp = true ∧ s.chip.boxExists n.val = true ∧ ((s.chip.box
      n.val).rsp.head?).isSome = true ∧ be.val = 15) ∧
    (∃ (n : Fin 34) (be : Fin 16) (s : State), s.chip.coreUp = true ∧ s.chip.boxExists n.val = true ∧ ((s.chip.box
      n.val).rsp.head?).isSome = true ∧ be.val ≠ 15) ∧
    (∃ (n : Fin 34) (be : Fin 16) (s : State), s.chip.coreUp = true ∧ s.chip.boxExists n.val = true ∧ be.val = 15 ∧
      (s.chip.box n.val).rsp = []) ∧
    (∃ (n : Fin 34) (s : State), s.chip.boxExists n.val = false) ∧
    (∃ (h : Word) (ws : List Word), ws.length ≠ wget h 23 20) ∧
    (∃ (h : Word) (ws : List Word), ws.length = wget h 23 20 ∧ wget h 31 24 ∉ [1, 65, 66, 67]) ∧
    (∃ (n : Fin 34) (s : State), s.chip.coreUp = true ∧ n.val ∉ s.chip.lbx.modeSet ∧ s.chip.fwRuns n.val = true ∧
      ((s.chip.box n.val).result).isSome = true ∧ (s.chip.fld F.LBX_CTL.IRQ_EN n.val = 0 ∨ n.val = 33)) ∧
    (∃ (n : Fin 34) (s : State), s.chip.coreUp = true ∧ n.val ∉ s.chip.lbx.modeSet ∧ s.chip.fwRuns n.val = true ∧
      ((s.chip.box n.val).result).isSome = true ∧ s.chip.fld F.LBX_CTL.IRQ_EN n.val = 1 ∧ n.val = 32) ∧
    (∃ (n : Fin 34) (s : State), s.chip.coreUp = true ∧ n.val ∉ s.chip.lbx.modeSet ∧ s.chip.fwRuns n.val = true ∧
      ((s.chip.box n.val).result).isSome = true ∧ s.chip.fld F.LBX_CTL.IRQ_EN n.val = 1 ∧ n.val < 32 ∧ s.chip.cfgBit
      (Fn.mgmt n.val) 80 31 = true ∧ s.chip.cfgBit (Fn.mgmt n.val) 80 30 = false ∧ s.chip.cfgBit (Fn.mgmt n.val) (4096
      + 16 * s.chip.fld F.LBX_CTL.VEC n.val + 12) 0 = false ∧ (∀ u < 96, s.chip.upPort? n.val = some u → s.chip.bme
      (Fn.port u) = true)) ∧
    (∃ (n : Fin 34) (s : State) (r : Nat × List Word) (u : Nat), s.chip.coreUp = true ∧ n.val ∉ s.chip.lbx.modeSet ∧
      s.chip.fwRuns n.val = true ∧ (s.chip.box n.val).result = some r ∧ s.chip.fld F.LBX_CTL.IRQ_EN n.val = 1 ∧ n.val
      < 32 ∧ s.chip.cfgBit (Fn.mgmt n.val) 80 31 = true ∧ s.chip.cfgBit (Fn.mgmt n.val) 80 30 = false ∧ s.chip.cfgBit
      (Fn.mgmt n.val) (4096 + 16 * s.chip.fld F.LBX_CTL.VEC n.val + 12) 0 = false ∧ u < 96 ∧ s.chip.upPort? n.val =
      some u ∧ s.chip.bme (Fn.port u) = false) ∧
    (∃ (n : Fin 34) (s : State), s.chip.coreUp = true ∧ n.val ∈ s.chip.lbx.modeSet ∧ s.chip.fld F.GLB_MODE.BUSY = 0 ∧
      s.chip.fwRuns n.val = true ∧ s.chip.fld F.LBX_CTL.IRQ_EN n.val = 0) ∧
    (∃ (n : Fin 34) (s : State), (s.chip.box n.val).result = none ∧ (n.val ∉ s.chip.lbx.modeSet ∨ s.chip.fld
      F.GLB_MODE.BUSY = 1)) ∧
    (∃ (s : State), s.chip.coreUp = true) ∧
    (∃ (ws : List Word) (s : State), s.chip.coreUp = true ∧ 1 ≤ ws.length ∧ ws.length + (s.chip.box 32).req.length ≤
      16 ∧ s.chip.fld F.LBX_STATUS.BUSY 32 = 0) ∧
    (∃ (b : Byte) (s : State), s.chip.coreUp = true ∧ b = 1 ∧ s.chip.fld F.LBX_STATUS.BUSY 32 = 0 ∧ s.chip.fld
      F.PWR_STATUS.STATE ≠ 2) ∧
    (∃ (b : Byte) (s : State), s.chip.coreUp = true ∧ b ≠ 1) ∧
    (∃ (s : State), s.chip.coreUp = true ∧ s.chip.lbx.smbAlert = true) ∧
    (∃ (s : State), s.chip.coreUp = true ∧ s.chip.lbx.smbAlert = false) :=
  ⟨
    ⟨33, 15, bw 33 {req := [1,2], rsp := [9,8]}, by decide +kernel⟩,
    ⟨31, 15, bw 31 {req := List.replicate 16 5, rsp := []}, by decide +kernel⟩,
    ⟨31, bw 31 {req := [hdw 1 0], rsp := [9]} [F.LBX_STATUS.BUSY.is 1 31], by decide +kernel⟩,
    ⟨33, bw 33 {req := [1,2], rsp := [9,8]}, by decide +kernel⟩,
    ⟨31, bw 31 {req := [hdw 1 0], rsp := [9]}, by decide +kernel⟩,
    ⟨32, bw 32 {req := [hdw 2 0], rsp := [9]} [F.PWR_STATUS.STATE.is 2], by decide +kernel⟩,
    ⟨33, 15, bw 33 {req := [1,2], rsp := [9,8]}, by decide +kernel⟩,
    ⟨31, 3, bw 31 {req := [hdw 1 0], rsp := [9]}, by decide +kernel⟩,
    ⟨31, 15, bw 31 {req := List.replicate 16 5, rsp := []}, by decide +kernel⟩,
    ⟨31, mk [], by decide +kernel⟩,
    ⟨hdw 1 2, [0], by decide +kernel⟩,
    ⟨hdw 0x12 1, [0], by decide +kernel⟩,
    ⟨31, bw 31 {cmd := [hdw 0x12 1, 4], result := some (0, [77]), todo := false} [F.LBX_STATUS.BUSY.is 1 31],
      by decide +kernel⟩,
    ⟨32, bw 32 {cmd := [hdw 0x12 1, 4], result := some (0, []), todo := false} [F.LBX_STATUS.BUSY.is 1 32,
      F.LBX_CTL.IRQ_EN.is 1 32], by decide +kernel⟩,
    ⟨31, bw 31 {cmd := [hdw 0x12 1, 4], result := some (0x8009, [5]), todo := false} [F.LBX_STATUS.BUSY.is 1 31,
      F.LBX_CTL.IRQ_EN.is 1 31, F.LBX_CTL.VEC.is 5 31] id fun c => ((c.setCfg (.port 95) 4 6).setCfg (.mgmt 31) 0x50
      0x80000000).setCfg (.mgmt 31) (0x1000 + 16 * 5 + 12) 0, by decide +kernel⟩,
    ⟨31, bw 31 {cmd := [hdw 0x12 1, 4], result := some (0x8009, [5]), todo := false} [F.LBX_STATUS.BUSY.is 1 31,
      F.LBX_CTL.IRQ_EN.is 1 31, F.LBX_CTL.VEC.is 5 31] id fun c => (c.setCfg (.mgmt 31) 0x50 0x80000000).setCfg (.mgmt
      31) (0x1000 + 16 * 5 + 12) 0, (0x8009, [5]), 95, by decide +kernel⟩,
    ⟨31, bw 31 {cmd := [hdw 0x10 1, 4], todo := false} [F.LBX_STATUS.BUSY.is 1 31, F.GLB_MODE.LAST_RESULT.is 2] fun h
      => {h with modeSet := [31]}, by decide +kernel⟩,
    ⟨31, bw 31 {cmd := [hdw 0x10 1, 4]}, by decide +kernel⟩,
    ⟨bw 32 {}, by decide +kernel⟩,
    ⟨[1,2], bw 32 {req := List.replicate 14 5}, by decide +kernel⟩,
    ⟨1, bw 32 {req := [hdw 1 0], rsp := [2]}, by decide +kernel⟩,
    ⟨2, bw 32 {req := [hdw 1 0], rsp := [2]}, by decide +kernel⟩,
    ⟨bw 32 {} [] fun h => {h with smbAlert := true}, by decide +kernel⟩,
    ⟨bw 32 {}, by decide +kernel⟩⟩

theorem witness_Ownership :
    (∃ (n : Fin 34) (s : State), s.serves n.val 1 = true) ∧
    (∃ (n : Fin 34) (s : State), s.serves n.val 2 = true ∧ n.val = 33) ∧
    (∃ (n : Fin 34) (s : State), s.serves n.val 2 = true ∧ n.val ≠ 33 ∧ s.chip.owner? ≠ none) ∧
    (∃ (n : Fin 34) (s : State), s.chip.owner? ≠ some n.val ∧ s.serves n.val 3 = true) ∧
    (∃ (n : Fin 34) (s : State), s.chip.owner? ≠ some n.val ∧ s.serves n.val 4 = true) ∧
    (∃ (n : Fin 34) (s : State), s.chip.owner? ≠ some n.val ∧ s.serves n.val 5 = true) ∧
    (∃ (n : Fin 34) (s : State), s.chip.owner? ≠ some n.val ∧ s.serves n.val 7 = true) ∧
    (∃ (n : Fin 34) (s : State), s.chip.owner? ≠ some n.val ∧ s.serves n.val 8 = true) ∧
    (∃ (n : Fin 34) (s : State), s.chip.owner? ≠ some n.val ∧ s.serves n.val 9 = true) ∧
    (∃ (n : Fin 34) (s : State), s.chip.owner? = some n.val ∧ s.serves n.val 3 = true) ∧
    (∃ (n : Fin 34) (s : State), s.chip.owner? = some n.val ∧ s.serves n.val 5 = true ∧ (s.chip.lbxArg n.val 0 % 64 ≠
      n.val ∧ (s.chip.lbxArg n.val 0 % 64 = 32 ∨ s.chip.lbxArg n.val 0 % 64 < 32 ∧ s.chip.upPort? (s.chip.lbxArg n.val
      0 % 64) ≠ none))) ∧
    (∃ (n : Fin 34) (s : State), s.chip.owner? = some n.val ∧ s.serves n.val 5 = true ∧ (¬(s.chip.lbxArg n.val 0 % 64
      ≠ n.val ∧ (s.chip.lbxArg n.val 0 % 64 = 32 ∨ s.chip.lbxArg n.val 0 % 64 < 32 ∧ s.chip.upPort? (s.chip.lbxArg
      n.val 0 % 64) ≠ none)))) ∧
    (∃ (n : Fin 34) (s : State), s.chip.owner? = some n.val ∧ s.serves n.val 7 = true) ∧
    (∃ (n : Fin 34) (s : State), s.chip.owner? = some n.val ∧ s.serves n.val 8 = true ∧ (s.chip.fld
      F.GAT_LIFECYCLE.STATE = 0 ∨ bit s.chip.lbx.expertMask n.val = true) ∧ s.chip.lbx.nonce = some (word
      (s.chip.lbxArg n.val 0))) ∧
    (∃ (n : Fin 34) (s : State), s.chip.owner? = some n.val ∧ s.serves n.val 8 = true ∧ (s.chip.fld
      F.GAT_LIFECYCLE.STATE = 0 ∨ bit s.chip.lbx.expertMask n.val = true) ∧ (¬s.chip.lbx.nonce = some (word
      (s.chip.lbxArg n.val 0)))) ∧
    (∃ (n : Fin 34) (s : State), s.chip.owner? = some n.val ∧ s.serves n.val 8 = true ∧ (¬(s.chip.fld
      F.GAT_LIFECYCLE.STATE = 0 ∨ bit s.chip.lbx.expertMask n.val = true))) ∧
    (∃ (n : Fin 34) (s : State), s.chip.owner? = some n.val ∧ s.serves n.val 9 = true) ∧
    (∃ (n : Fin 34) (s : State), s.serves n.val 6 = true ∧ s.chip.fld F.LBX_OWNER.HO_PEND = 1 ∧ s.chip.fld
      F.LBX_OWNER.HO_TARGET = n.val) ∧
    (∃ (n : Fin 34) (s : State), s.serves n.val 6 = true ∧ (s.chip.fld F.LBX_OWNER.HO_PEND = 0 ∨ s.chip.fld
      F.LBX_OWNER.HO_TARGET ≠ n.val)) ∧
    (∃ (s : State) (w : Nat × Nat), s.chip.coreUp = true ∧ s.chip.fld F.LBX_OWNER.ELECTING = 1 ∧ w ∈ s.chip.lbx.cands
      ∧ w.1 < 34 ∧ (∀ x ∈ s.chip.lbx.cands, x = w ∨ w.2 < x.2 ∨ w.2 = x.2 ∧ w.1 < x.1)) ∧
    (∃ (s : State), s.chip.coreUp = true ∧ s.chip.fld F.LBX_OWNER.ELECTING = 1 ∧ s.chip.lbx.cands = []) ∧
    (∃ (s : State), s.chip.fld F.LBX_OWNER.ELECTING = 0) ∧
    (∃ (s : State), s.chip.coreUp = true ∧ s.chip.owner? ≠ none ∧ s.chip.lbx.renewed = true) ∧
    (∃ (s : State), s.chip.coreUp = true ∧ s.chip.owner? ≠ none ∧ s.chip.lbx.renewed = false ∧ s.chip.fld
      F.LBX_OWNER.MISSED < 2) ∧
    (∃ (s : State), s.chip.owner? = none) ∧
    (∃ (s : State), s.chip.coreUp = true ∧ s.chip.fld F.LBX_OWNER.HO_PEND = 1) ∧
    (∃ (s : State), s.chip.fld F.LBX_OWNER.HO_PEND = 0) ∧
    (∃ (s : State), s.chip.coreUp = true) ∧
    (∃ (n : Fin 34) (s : State), s.chip.owner? = some n.val ∧ s.serves n.val 4 = true) ∧
    (∃ (s : State), s.chip.coreUp = true ∧ s.chip.owner? ≠ none ∧ s.chip.lbx.renewed = false ∧ 2 ≤ s.chip.fld
      F.LBX_OWNER.MISSED) :=
  ⟨
    ⟨31, bx 31 1, by decide +kernel⟩,
    ⟨33, bx 33 2 [7], by decide +kernel⟩,
    ⟨31, bx 31 2 [7] (own 32), by decide +kernel⟩,
    ⟨31, bx 31 3 [] (own 32), by decide +kernel⟩,
    ⟨31, bx 31 4 [] (own 32), by decide +kernel⟩,
    ⟨31, bx 31 5 [5] (own 32), by decide +kernel⟩,
    ⟨31, bx 31 7 [] (own 32), by decide +kernel⟩,
    ⟨31, bx 31 8 [5] (own 32), by decide +kernel⟩,
    ⟨31, bx 31 9 [], by decide +kernel⟩,
    ⟨31, bx 31 3 [] (own 31), by decide +kernel⟩,
    ⟨31, bx 31 5 [32] (own 31), by decide +kernel⟩,
    ⟨31, bx 31 5 [31] (own 31), by decide +kernel⟩,
    ⟨31, bx 31 7 [] (own 31), by decide +kernel⟩,
    ⟨31, bx 31 8 [0x99] (own 31 ++ [F.GAT_LIFECYCLE.STATE.is 0]) fun h => {h with nonce := some 0x99},
      by decide +kernel⟩,
    ⟨31, bx 31 8 [0x98] (own 31) fun h => {h with nonce := some 0x99, expertMask := 2^31}, by decide +kernel⟩,
    ⟨31, bx 31 8 [0x99] (own 31) fun h => {h with nonce := some 0x99, expertMask := 2^30}, by decide +kernel⟩,
    ⟨31, bx 31 9 [] (own 31 ++ [F.LBX_OWNER.EXPERT.is 1]), by decide +kernel⟩,
    ⟨31, bx 31 6 [] (own 32 ++ [F.LBX_OWNER.HO_PEND.is 1, F.LBX_OWNER.HO_TARGET.is 31, F.LBX_OWNER.EXPERT.is 1]) fun h
      => {h with hoFrom := some 32, nonce := some 3}, by decide +kernel⟩,
    ⟨31, bx 31 6 [] (own 32 ++ [F.LBX_OWNER.HO_PEND.is 0, F.LBX_OWNER.HO_TARGET.is 31]), by decide +kernel⟩,
    ⟨bw 3 {} [F.LBX_OWNER.ELECTING.is 1] fun h => {h with cands := [(31, 4), (3, 4), (32, 7)]}, (3, 4),
      by decide +kernel⟩,
    ⟨bw 3 {} [F.LBX_OWNER.ELECTING.is 1], by decide +kernel⟩,
    ⟨bw 3 {}, by decide +kernel⟩,
    ⟨bw 3 {} (own 32 ++ [F.LBX_OWNER.MISSED.is 2]) fun h => {h with renewed := true}, by decide +kernel⟩,
    ⟨bw 3 {} (own 32 ++ [F.LBX_OWNER.MISSED.is 1]), by decide +kernel⟩,
    ⟨bw 3 {}, by decide +kernel⟩,
    ⟨bw 3 {} [F.LBX_OWNER.HO_PEND.is 1, F.LBX_OWNER.HO_TARGET.is 30] fun h => {h with hoFrom := some 32},
      by decide +kernel⟩,
    ⟨bw 3 {}, by decide +kernel⟩,
    ⟨bw 3 {} [] fun h => {h with nonce := some 5}, by decide +kernel⟩,
    ⟨31, bx 31 4 [] (own 31 ++ [F.LBX_OWNER.EXPERT.is 1, F.LBX_OWNER.MISSED.is 2, F.LBX_FW_STATUS.SESSION.is 1,
      F.FLT_LOG_PROD.PROD.is 77, F.LBX_OWNER.HO_PEND.is 1]) fun h => {h with nonce := some 5}, by decide +kernel⟩,
    ⟨bw 3 {} (own 32 ++ [F.LBX_OWNER.MISSED.is 2, F.LBX_OWNER.EXPERT.is 1]), by decide +kernel⟩⟩

theorem witness_OwnershipEnds :
    (∃ (n : Fin 34) (s : State), s.chip.owner? = some n.val ∧ s.serves n.val 4 = true) ∧
    (∃ (s : State), s.chip.coreUp = true ∧ s.chip.owner? ≠ none ∧ s.chip.lbx.renewed = false ∧ 2 ≤ s.chip.fld
      F.LBX_OWNER.MISSED) ∧
    (∃ (p : Fin 32) (s : State), s.chip.coreUp = true ∧ s.chip.owner? = some p.val ∧ s.chip.perstWaits = false) ∧
    (∃ (n : Fin 96) (s : State), s.chip.coreUp = true ∧ s.chip.isPcie n.val = true ∧ s.chip.role n.val = 1 ∧
      s.chip.owner? = some (s.chip.portPart n.val) ∧ s.chip.fld F.PRT_LINK_STATUS.DL_ACTIVE n.val = 1 ∧ s.chip.safe =
      false ∧ (s.chip.part (s.chip.portPart n.val)).inReset = false) ∧
    (∃ (n : Fin 34) (s : State), s.serves n.val 2 = true ∧ n.val ≠ 33 ∧ s.chip.owner? = none) :=
  ⟨
    ⟨31, bx 31 4 [] (own 31 ++ [F.LBX_OWNER.EXPERT.is 1, F.LBX_OWNER.MISSED.is 2, F.LBX_FW_STATUS.SESSION.is 1,
      F.FLT_LOG_PROD.PROD.is 77, F.LBX_OWNER.HO_PEND.is 1]) fun h => {h with nonce := some 5}, by decide +kernel⟩,
    ⟨bw 3 {} (own 32 ++ [F.LBX_OWNER.MISSED.is 2, F.LBX_OWNER.EXPERT.is 1]), by decide +kernel⟩,
    ⟨31, bw 31 {} (own 31 ++ [F.LBX_OWNER.EXPERT.is 1, F.LBX_OWNER.HO_PEND.is 1, F.LBX_OWNER.HO_TARGET.is 3]) fun h =>
      {h with hoFrom := some 31}, by decide +kernel⟩,
    ⟨95, bw 31 {} (own 31 ++ [F.LBX_OWNER.EXPERT.is 1, F.LBX_OWNER.HO_PEND.is 1, F.LBX_OWNER.HO_TARGET.is 3,
      F.PRT_LINK_STATUS.DL_ACTIVE.is 1 95]) fun h => {h with hoFrom := some 31}, by decide +kernel⟩,
    ⟨31, bx 31 2 [0x1FF], by decide +kernel⟩⟩

theorem witness_LetterboxCommands :
    (∃ (n : Fin 34) (s : State), s.serves n.val 17 = true) ∧
    (∃ (n : Fin 34) (s : State), s.serves n.val 18 = true ∧ (s.chip.lbxArg n.val 0 % 4 ≠ 0 ∨ 2 ^ 28 ≤ s.chip.lbxArg
      n.val 0)) ∧
    (∃ (n : Fin 34) (s : State), s.serves n.val 18 = true ∧ s.chip.lbxArg n.val 0 % 4 = 0 ∧ s.chip.lbxArg n.val 0 < 2
      ^ 28) ∧
    (∃ (n : Fin 34) (s : State), s.mayOwn n.val = false ∧ s.serves n.val 16 = true) ∧
    (∃ (n : Fin 34) (s : State), s.mayOwn n.val = false ∧ s.serves n.val 19 = true) ∧
    (∃ (n : Fin 34) (s : State), s.mayOwn n.val = false ∧ s.serves n.val 32 = true) ∧
    (∃ (n : Fin 34) (s : State), s.mayOwn n.val = false ∧ s.serves n.val 33 = true) ∧
    (∃ (n : Fin 34) (s : State), s.mayOwn n.val = false ∧ s.serves n.val 34 = true) ∧
    (∃ (n : Fin 34) (s : State), s.mayOwn n.val = false ∧ s.serves n.val 35 = true) ∧
    (∃ (n : Fin 34) (s : State), s.mayOwn n.val = false ∧ s.serves n.val 36 = true) ∧
    (∃ (n : Fin 34) (s : State), s.mayOwn n.val = false ∧ s.serves n.val 37 = true) ∧
    (∃ (n : Fin 34) (s : State), s.serves n.val 19 = true ∧ s.mayOwn n.val = true ∧ (s.chip.lbxArg n.val 0 % 4 ≠ 0 ∨ 2
      ^ 28 ≤ s.chip.lbxArg n.val 0)) ∧
    (∃ (n : Fin 34) (s : State), s.serves n.val 19 = true ∧ s.mayOwn n.val = true ∧ s.chip.lbxArg n.val 0 % 4 = 0 ∧
      s.chip.lbxArg n.val 0 < 2 ^ 28) ∧
    (∃ (n : Fin 34) (s : State), s.serves n.val 16 = true ∧ s.mayOwn n.val = true ∧ s.chip.fld F.GLB_MODE.BUSY = 1) ∧
    (∃ (n : Fin 34) (s : State), s.serves n.val 16 = true ∧ s.mayOwn n.val = true ∧ s.chip.fld F.GLB_MODE.BUSY = 0 ∧
      (s.taken.fwWrites [({ reg := Reg.GLB_MODE }, word (s.chip.lbxArg n.val 0 % 16 * 16))]).1 = none) ∧
    (∃ (n : Fin 34) (s : State), s.serves n.val 32 = true ∧ s.mayOwn n.val = true ∧ (¬(s.chip.fld F.GLB_MODE.MODE = 9
      ∨ s.chip.fld F.GLB_MODE.MODE = 10))) ∧
    (∃ (n : Fin 34) (s : State), s.serves n.val 32 = true ∧ s.mayOwn n.val = true ∧ (s.chip.fld F.GLB_MODE.MODE = 9 ∨
      s.chip.fld F.GLB_MODE.MODE = 10) ∧ 96 ≤ s.chip.lbxArg n.val 0) ∧
    (∃ (n : Fin 34) (s : State), s.serves n.val 32 = true ∧ s.mayOwn n.val = true ∧ (s.chip.fld F.GLB_MODE.MODE = 9 ∨
      s.chip.fld F.GLB_MODE.MODE = 10) ∧ s.chip.lbxArg n.val 0 < 96 ∧ ((s.taken.fwWrites
      [({ reg := Reg.PRT_PORT_CFG, i := s.chip.lbxArg n.val 0 }, (fun i => word (s.chip.lbxArg n.val i)) 1),
      ({ reg := Reg.PRT_PORT_CFG2, i := s.chip.lbxArg n.val 0 }, (fun i => word (s.chip.lbxArg n.val i)) 2),
      ({ reg := Reg.PRT_HP_CFG, i := s.chip.lbxArg n.val 0 }, (fun i => word (s.chip.lbxArg n.val i)) 3)]).1 = none)) ∧
    (∃ (n : Fin 34) (s : State), s.serves n.val 33 = true ∧ s.mayOwn n.val = true ∧ s.chip.fld F.GLB_FLC_STATUS.BUSY =
      1) ∧
    (∃ (n : Fin 34) (s : State), s.serves n.val 33 = true ∧ s.mayOwn n.val = true ∧ s.chip.fld F.GLB_FLC_STATUS.BUSY =
      0 ∧ ((s.taken.fwWrites ((if wget (word (s.chip.lbxArg n.val 0)) 31 30 = 1 then List.mapIdx (fun i r =>
      ({ reg := r, i := wget (word (s.chip.lbxArg n.val 0)) 11 0 }, word (s.chip.lbxArg n.val (i + 1))))
      [Reg.GLB_FLC_A, Reg.GLB_FLC_B, Reg.GLB_FLC_C, Reg.GLB_FLC_BASE_LO, Reg.GLB_FLC_BASE_HI] else []) ++
      [({ reg := Reg.GLB_FLC_CMD }, word (s.chip.lbxArg n.val 0))])).1 = none) ∧ ((if wget (word (s.chip.lbxArg n.val
      0)) 31 30 = 0 then 0 else (s.taken.fwWrites ((if wget (word (s.chip.lbxArg n.val 0)) 31 30 = 1 then List.mapIdx
      (fun i r => ({ reg := r, i := wget (word (s.chip.lbxArg n.val 0)) 11 0 }, word (s.chip.lbxArg n.val (i + 1))))
      [Reg.GLB_FLC_A, Reg.GLB_FLC_B, Reg.GLB_FLC_C, Reg.GLB_FLC_BASE_LO, Reg.GLB_FLC_BASE_HI] else []) ++
      [({ reg := Reg.GLB_FLC_CMD }, word (s.chip.lbxArg n.val 0))])).2.chip.fld F.GLB_FLC_STATUS.RESULT) = 0)) ∧
    (∃ (n : Fin 34) (s : State), s.serves n.val 33 = true ∧ s.mayOwn n.val = true ∧ s.chip.fld F.GLB_FLC_STATUS.BUSY =
      0 ∧ ((s.taken.fwWrites ((if wget (word (s.chip.lbxArg n.val 0)) 31 30 = 1 then List.mapIdx (fun i r =>
      ({ reg := r, i := wget (word (s.chip.lbxArg n.val 0)) 11 0 }, word (s.chip.lbxArg n.val (i + 1))))
      [Reg.GLB_FLC_A, Reg.GLB_FLC_B, Reg.GLB_FLC_C, Reg.GLB_FLC_BASE_LO, Reg.GLB_FLC_BASE_HI] else []) ++
      [({ reg := Reg.GLB_FLC_CMD }, word (s.chip.lbxArg n.val 0))])).1 = none) ∧ ((if wget (word (s.chip.lbxArg n.val
      0)) 31 30 = 0 then 0 else (s.taken.fwWrites ((if wget (word (s.chip.lbxArg n.val 0)) 31 30 = 1 then List.mapIdx
      (fun i r => ({ reg := r, i := wget (word (s.chip.lbxArg n.val 0)) 11 0 }, word (s.chip.lbxArg n.val (i + 1))))
      [Reg.GLB_FLC_A, Reg.GLB_FLC_B, Reg.GLB_FLC_C, Reg.GLB_FLC_BASE_LO, Reg.GLB_FLC_BASE_HI] else []) ++
      [({ reg := Reg.GLB_FLC_CMD }, word (s.chip.lbxArg n.val 0))])).2.chip.fld F.GLB_FLC_STATUS.RESULT) ≠ 0)) ∧
    (∃ (n : Fin 34) (s : State), s.serves n.val 34 = true ∧ s.mayOwn n.val = true ∧ (24 ≤ s.chip.lbxArg n.val 0 ∨ 3 ≤
      s.chip.lbxArg n.val 1)) ∧
    (∃ (n : Fin 34) (s : State), s.serves n.val 34 = true ∧ s.mayOwn n.val = true ∧ s.chip.lbxArg n.val 0 < 24 ∧
      s.chip.lbxArg n.val 1 < 3 ∧ (s.taken.fwWrites [({ reg := Reg.FUS_CHAN_CTL, i := s.chip.lbxArg n.val 0 }, word (2
      ^ (31 - s.chip.lbxArg n.val 1)))]).1 = none) ∧
    (∃ (n : Fin 34) (s : State), s.serves n.val 35 = true ∧ s.mayOwn n.val = true ∧ s.chip.fld F.TIM_CFG.SRC = 0) ∧
    (∃ (n : Fin 34) (s : State), s.serves n.val 35 = true ∧ s.mayOwn n.val = true ∧ s.chip.fld F.TIM_CFG.SRC = 1 ∧ 4 ≤
      s.chip.lbxArg n.val 0) ∧
    (∃ (n : Fin 34) (s : State), s.serves n.val 35 = true ∧ s.mayOwn n.val = true ∧ s.chip.fld F.TIM_CFG.SRC = 1 ∧
      s.chip.lbxArg n.val 0 < 4 ∧ ((s.taken.fwWrites (if s.chip.lbxArg n.val 0 = 0 then [({ reg := Reg.TIM_RATE_ADJ },
      word (s.chip.lbxArg n.val 1))] else if s.chip.lbxArg n.val 0 = 1 then [({ reg := Reg.TIM_OFS_ADJ }, word
      (s.chip.lbxArg n.val 1)), (fun v => ({ reg := Reg.TIM_ADJ_CTL }, word v)) 2147483648] else if s.chip.lbxArg
      n.val 0 = 2 then [({ reg := Reg.TIM_OFS_ADJ }, word (s.chip.lbxArg n.val 1)), (fun v =>
      ({ reg := Reg.TIM_ADJ_CTL }, word v)) 3221225472] else [({ reg := Reg.TIM_SET_LO }, word (s.chip.lbxArg n.val
      1)), ({ reg := Reg.TIM_SET_HI }, word (s.chip.lbxArg n.val 2)), (fun v => ({ reg := Reg.TIM_ADJ_CTL }, word v))
      (s.chip.fld F.TIM_ADJ_CTL.STEP * 2 ^ 30 + 2 ^ 29)])).1 = none)) ∧
    (∃ (n : Fin 34) (s : State), s.serves n.val 36 = true ∧ s.mayOwn n.val = true ∧ 1 < s.chip.lbxArg n.val 1) ∧
    (∃ (n : Fin 34) (s : State), s.serves n.val 36 = true ∧ s.mayOwn n.val = true ∧ s.chip.lbxArg n.val 1 ≤ 1 ∧
      s.chip.lpbStalls n.val = true) ∧
    (∃ (n : Fin 34) (s : State), s.serves n.val 36 = true ∧ s.mayOwn n.val = true ∧ s.chip.lbxArg n.val 1 = 0 ∧
      (¬s.chip.lpbStalls n.val = true) ∧ s.chip.allSent ∧ (∀ p < 32, s.chip.segOwner = some p → ((s.chip.part
      p).stalled.all fun k => k.ofBox n.val) = true)) ∧
    (∃ (n : Fin 34) (s : State) (p : Fin 32), s.serves n.val 36 = true ∧ s.mayOwn n.val = true ∧ s.chip.lbxArg n.val 1
      ≤ 1 ∧ (¬s.chip.lpbStalls n.val = true) ∧ s.chip.allSent ∧ s.chip.segOwner = some p.val ∧ (((s.chip.part
      p.val).stalled.all fun k => k.ofBox n.val) = true) ∧ s.chip.safe = false) ∧
    (∃ (n : Fin 34) (s : State), s.serves n.val 37 = true ∧ s.mayOwn n.val = true ∧ s.chip.fld F.GLB_MODE.MODE ≠ 9) ∧
    (∃ (n : Fin 34) (s : State), s.serves n.val 37 = true ∧ s.mayOwn n.val = true ∧ s.chip.fld F.GLB_MODE.MODE = 9) ∧
    (∃ (n : Fin 34) (s : State) (m : Fin 96) (h : FabHdr), s.serves n.val 37 = true ∧ s.mayOwn n.val = true ∧
      s.chip.fld F.GLB_MODE.MODE = 9 ∧ h.typ = 2 ∧ h.disc.op = 1 ∧ s.chip.memberLive m.val = true ∧ s.chip.cel.waiting
      = []) ∧
    (∃ (n : Fin 34) (s : State) (off : Nat), s.serves n.val 37 = true ∧ s.mayOwn n.val = true ∧ s.chip.fld
      F.GLB_MODE.MODE = 9 ∧ (∀ r ∈ [Reg.FAB_ID, Reg.FAB_ROUTE_COMMIT], ∀ i < 2, s.chip.keyAt off ≠ some
      { reg := r, i := i }) ∧ (∀ k ∈ s.chip.keyAt off, k.reg.block ≠ Blk.fab)) :=
  ⟨
    ⟨31, bx 31 0x11, by decide +kernel⟩,
    ⟨31, bx 31 0x12 [2], by decide +kernel⟩,
    ⟨31, bx 31 0x12 [ad .GLB_MODE], by decide +kernel⟩,
    ⟨31, bx 31 0x10 [4], by decide +kernel⟩,
    ⟨31, bx 31 0x13 [4, 5], by decide +kernel⟩,
    ⟨31, bx 31 0x20 [4,1,2,3], by decide +kernel⟩,
    ⟨31, bx 31 0x21 [4,1,2,3,4,5], by decide +kernel⟩,
    ⟨31, bx 31 0x22 [4, 5], by decide +kernel⟩,
    ⟨33, bx 33 0x23 [4,1,2], by decide +kernel⟩,
    ⟨31, bx 31 0x24 [4,1,2], by decide +kernel⟩,
    ⟨31, bx 31 0x25 [4], by decide +kernel⟩,
    ⟨31, bx 31 0x13 [6, 0x7] (own 31), by decide +kernel⟩,
    ⟨33, bx 33 0x13 [ad .TIM_SET_LO, 0x1234567] dbg, by decide +kernel⟩,
    ⟨31, bx 31 0x10 [6] (own 31 ++ [F.GLB_MODE.BUSY.is 1]), by decide +kernel⟩,
    ⟨31, bx 31 0x10 [6] (own 31), by decide +kernel⟩,
    ⟨31, bx 31 0x20 [95, 0x80000000, 0x5, 0x7] (own 31 ++ [F.GLB_MODE.MODE.is 6]), by decide +kernel⟩,
    ⟨31, bx 31 0x20 [96, 0x80000000, 0x5, 0x7] (own 31), by decide +kernel⟩,
    ⟨31, bx 31 0x20 [94, 0x80000000, 0x5, 0x7] (own 31), by decide +kernel⟩,
    ⟨31, bx 31 0x21 [0x40000007, 1, 2, 3, 4, 5] (own 31 ++ [F.GLB_FLC_STATUS.BUSY.is 1]), by decide +kernel⟩,
    ⟨31, bx 31 0x21 [0x00000007] (own 31), by decide +kernel⟩,
    ⟨31, bx 31 0x21 [0x40000007, 1, 2, 3, 4, 5] (own 31), by decide +kernel⟩,
    ⟨31, bx 31 0x22 [24, 0] (own 31), by decide +kernel⟩,
    ⟨31, bx 31 0x22 [23, 2] (own 31), by decide +kernel⟩,
    ⟨31, bx 31 0x23 [0, 5, 6] (own 31 ++ [F.TIM_CFG.SRC.is 0]), by decide +kernel⟩,
    ⟨31, bx 31 0x23 [4, 5, 6] (own 31 ++ [F.TIM_CFG.SRC.is 1]), by decide +kernel⟩,
    ⟨31, bx 31 0x23 [0, 5, 6] (own 31), by decide +kernel⟩,
    ⟨31, bx 31 0x24 [0x80FC, 2, 5] (own 31 ++ [F.LPB_CFG.OWNER.is 32]), by decide +kernel⟩,
    ⟨31, bx 31 0x24 [5, 0, 0] (own 31 ++ [F.LPB_CFG.OWNER.is 31]), by decide +kernel⟩,
    ⟨31, bx 31 0x24 [5, 0, 0] (own 31 ++ [F.LPB_CFG.OWNER.is 31]) id fun c => c.setCfg (.mgmt 31) 0x04 6,
      by decide +kernel⟩,
    ⟨31, bx 31 0x24 [5, 0, 0] (own 31 ++ [F.LPB_CFG.OWNER.is 31]) id fun c => c.setCfg (.mgmt 31) 0x04 6, 31,
      by decide +kernel⟩,
    ⟨31, bx 31 0x25 [5] (own 31 ++ [F.GLB_MODE.MODE.is 6]), by decide +kernel⟩,
    ⟨31, bx 31 0x25 [5] (own 31), by decide +kernel⟩,
    ⟨31, bx 31 0x25 [5] (own 31 ++ fl90 ++ [F.FAB_CFG.HOPS_INIT.is 14]), 90, hh, by decide +kernel⟩,
    ⟨31, bx 31 0x25 [5] (own 31), ad .GLB_MODE, by decide +kernel⟩⟩

theorem witness_StoreAndFirmware :
    (∃ (n : Fin 34) (s : State), s.serves n.val 48 = true ∧ s.mayOwn n.val = false) ∧
    (∃ (n : Fin 34) (s : State), s.serves n.val 48 = true ∧ s.mayOwn n.val = true ∧ s.chip.lbx.committing = none ∧
      s.chip.fld F.PWR_SUPPLY.WARN = 1) ∧
    (∃ (n : Fin 34) (s : State), s.serves n.val 48 = true ∧ s.mayOwn n.val = true ∧ s.chip.lbx.committing = none ∧
      s.chip.fld F.PWR_SUPPLY.WARN = 0 ∧ s.taken.chip.holdupOk (4 * (s.taken.chip.freeVal % 261121)) = true) ∧
    (∃ (n : Fin 34) (s : State), s.serves n.val 48 = true ∧ s.mayOwn n.val = true ∧ s.chip.lbx.committing = none ∧
      s.chip.fld F.PWR_SUPPLY.WARN = 0 ∧ s.taken.chip.holdupOk (4 * (s.taken.chip.freeVal % 261121)) = false) ∧
    (∃ (n : Fin 34) (s : State) (x : Nat × Nat × StoreCopy), s.serves n.val 48 = true ∧ s.mayOwn n.val = true ∧
      s.chip.lbx.committing = some x ∧ x.1 ≠ n.val) ∧
    (∃ (n : Fin 34) (ok : Bool) (s : State) (x : Nat × Nat × StoreCopy), s.chip.coreUp = true ∧ s.chip.fwAwake = true
      ∧ n.val ∉ s.chip.lbx.order ∧ s.chip.lbx.committing = some x ∧ x.1 = n.val ∧ x.2.1 ≤ 1 ∧ ok = true) ∧
    (∃ (n : Fin 34) (ok : Bool) (s : State) (x : Nat × Nat × StoreCopy), s.chip.coreUp = true ∧ s.chip.fwAwake = true
      ∧ n.val ∉ s.chip.lbx.order ∧ s.chip.lbx.committing = some x ∧ x.1 = n.val ∧ x.2.1 ≤ 1 ∧ ok = false) ∧
    (∃ (n : Fin 34) (s : State), s.serves n.val 49 = true) ∧
    (∃ (n : Fin 34) (s : State), s.serves n.val 67 = true) ∧
    (∃ (n : Fin 34) (s : State), s.serves n.val 65 = true ∧ s.mayOwn n.val = true ∧ (s.chip.lbxArg n.val 0 ≠ if
      s.chip.fld F.LBX_FW_STATUS.SESSION = 1 then 4 * s.chip.lbx.loaded.length else 0)) ∧
    (∃ (n : Fin 34) (s : State), s.serves n.val 65 = true ∧ s.mayOwn n.val = true ∧ (s.chip.lbxArg n.val 0 = if
      s.chip.fld F.LBX_FW_STATUS.SESSION = 1 then 4 * s.chip.lbx.loaded.length else 0) ∧ ((if s.chip.fld
      F.LBX_FW_STATUS.SESSION = 1 then 4 * s.chip.lbx.loaded.length else 0) + 4 * (List.drop 2 (s.chip.box
      n.val).cmd).length ≤ 4194304) ∧ s.chip.fld F.LBX_FW_STATUS.SESSION = 1) ∧
    (∃ (n : Fin 34) (s : State), s.serves n.val 65 = true ∧ s.mayOwn n.val = true ∧ (s.chip.lbxArg n.val 0 = if
      s.chip.fld F.LBX_FW_STATUS.SESSION = 1 then 4 * s.chip.lbx.loaded.length else 0) ∧ ((if s.chip.fld
      F.LBX_FW_STATUS.SESSION = 1 then 4 * s.chip.lbx.loaded.length else 0) + 4 * (List.drop 2 (s.chip.box
      n.val).cmd).length ≤ 4194304) ∧ s.chip.fld F.LBX_FW_STATUS.SESSION = 0) ∧
    (∃ (n : Fin 34) (s : State), s.serves n.val 64 = true ∧ s.chip.owner? = some n.val ∧ n.val < 32 ∧ s.chip.lbx.load
      = none ∧ (s.chip.lbxArg n.val 2 < 4 ∨ 4190208 < s.chip.lbxArg n.val 2)) ∧
    (∃ (n : Fin 34) (s : State), s.serves n.val 64 = true ∧ s.chip.owner? = some n.val ∧ n.val < 32 ∧ s.chip.lbx.load
      = none ∧ 4 ≤ s.chip.lbxArg n.val 2 ∧ s.chip.lbxArg n.val 2 ≤ 4190208 ∧ s.chip.fld F.LBX_FW_STATUS.SESSION = 1) ∧
    (∃ (n : Fin 34) (s : State) (h : HostLoad), s.serves n.val 64 = true ∧ s.chip.owner? = some n.val ∧ n.val < 32 ∧
      s.chip.lbx.load = some h ∧ h.box ≠ n.val) ∧
    (∃ (n : Fin 34) (s : State) (h : HostLoad), s.chip.coreUp = true ∧ s.chip.lbxDue n.val 64 = true ∧ n.val ∉
      s.chip.lbx.order ∧ s.chip.lbx.load = some h ∧ h.box = n.val ∧ h.tag = none ∧ h.total ≤ h.got.length ∧ s.chip.fld
      F.LBX_FW_STATUS.SESSION = 1) ∧
    (∃ (n : Fin 34) (s : State) (h : HostLoad), s.chip.coreUp = true ∧ s.chip.lbxDue n.val 64 = true ∧ n.val ∉
      s.chip.lbx.order ∧ s.chip.lbx.load = some h ∧ h.box = n.val ∧ h.tag = none ∧ h.got.length < h.total ∧
      s.chip.masterHeld (some n.val) = true ∧ n.val < 32) ∧
    (∃ (n : Fin 34) (s : State) (h : HostLoad) (t : Nat), s.chip.coreUp = true ∧ s.chip.lbxDue n.val 64 = true ∧ n.val
      ∉ s.chip.lbx.order ∧ s.chip.lbx.load = some h ∧ h.box = n.val ∧ h.tag = some t ∧ (∃ q ∈ List.find? (fun q =>
      q.to_ == Src.firmware && q.part == some n.val && q.pkt.tag == t) s.chip.flt.inbox, q.pkt.status = CplStatus.sc)) ∧
    (∃ (n : Fin 34) (s : State) (h : HostLoad) (t : Nat), s.chip.coreUp = true ∧ s.chip.lbxDue n.val 64 = true ∧ n.val
      ∉ s.chip.lbx.order ∧ s.chip.lbx.load = some h ∧ h.box = n.val ∧ h.tag = some t ∧ (∃ q ∈ List.find? (fun q =>
      q.to_ == Src.firmware && q.part == some n.val && q.pkt.tag == t) s.chip.flt.inbox, q.pkt.status ≠ CplStatus.sc)) ∧
    (∃ (n : Fin 34) (s : State), s.serves n.val 66 = true ∧ s.mayOwn n.val = true ∧ s.chip.fld F.LBX_FW_STATUS.SESSION
      = 0) ∧
    (∃ (n : Fin 34) (s : State), s.serves n.val 66 = true ∧ s.mayOwn n.val = true ∧ s.chip.fld F.LBX_FW_STATUS.SESSION
      = 1 ∧ imageHeader s.chip.lbx.loaded = false) ∧
    (∃ (n : Fin 34) (s : State), s.serves n.val 68 = true ∧ s.mayOwn n.val = false) ∧
    (∃ (n : Fin 34) (s : State), s.serves n.val 68 = true ∧ (¬(n.val = 33 ∧ s.chip.fld F.GAT_LIFECYCLE.STATE = 0)) ∧
      s.chip.owner? = some n.val ∧ s.chip.fld F.LBX_OWNER.EXPERT = 0) ∧
    (∃ (n : Fin 34) (s : State), s.serves n.val 68 = true ∧ (n.val = 33 ∧ s.chip.fld F.GAT_LIFECYCLE.STATE = 0 ∨
      s.chip.owner? = some n.val ∧ s.chip.fld F.LBX_OWNER.EXPERT = 1) ∧ s.chip.fld F.LBX_FW_STATUS.SVN ≤ s.chip.fld
      F.LBX_FW_STATUS.MIN_SVN) ∧
    (∃ (n : Fin 34) (s : State), s.serves n.val 68 = true ∧ (n.val = 33 ∧ s.chip.fld F.GAT_LIFECYCLE.STATE = 0 ∨
      s.chip.owner? = some n.val ∧ s.chip.fld F.LBX_OWNER.EXPERT = 1) ∧ s.chip.fld F.LBX_FW_STATUS.MIN_SVN <
      s.chip.fld F.LBX_FW_STATUS.SVN) :=
  ⟨
    ⟨31, bx 31 0x30, by decide +kernel⟩,
    ⟨31, bx 31 0x30 [] (own 31 ++ [F.PWR_SUPPLY.WARN.is 1]), by decide +kernel⟩,
    ⟨31, bx 31 0x30 [] (own 31 ++ [F.FUS_HOLDUP_E.E_MJ.is 65535]), by decide +kernel, by decide +kernel, by decide +kernel,
      by decide +kernel, holdup_large _ _ (by decide +kernel)⟩,
    ⟨31, bx 31 0x30 [] (own 31 ++ [F.FUS_HOLDUP_E.E_MJ.is 0]), by decide +kernel, by decide +kernel, by decide +kernel,
      by decide +kernel, holdup_none _ _ (by decide +kernel)⟩,
    ⟨31, bx 31 0x30 [] (own 31) fun h => {h with committing := some (3, 0, sc 7)}, (3, 0, sc 7), by decide +kernel⟩,
    ⟨31, true, cm 0, (31, 0, sc 7), by decide +kernel⟩,
    ⟨31, false, cm 1, (31, 1, sc 7), by decide +kernel⟩,
    ⟨33, bx 33 0x31 [] [] fun h => {h with storeA := some (sc 5)}, by decide +kernel⟩,
    ⟨33, bx 33 0x43, by decide +kernel⟩,
    ⟨31, ld [4, 5, 6] 1 [1,2,3], by decide +kernel⟩,
    ⟨31, ld [12, 5, 6] 1 [1,2,3], by decide +kernel⟩,
    ⟨31, ld [0, 5, 6] 0 [], by decide +kernel⟩,
    ⟨31, lh [5, 6, 3], by decide +kernel⟩,
    ⟨31, lh [5, 6, 4190208], by decide +kernel⟩,
    ⟨31, lh [5, 6, 4] [] fun h => {h with load := some {box := 3, base := 4, total := 77}},
      {box := 3, base := 4, total := 77}, by decide +kernel⟩,
    ⟨31, hl [1,2,3,4,5,6,7,8] none, hlh [1,2,3,4,5,6,7,8] none, by decide +kernel⟩,
    ⟨31, hl [1,2,3,4] none, hlh [1,2,3,4] none, by decide +kernel⟩,
    ⟨31, hl [1,2,3,4] (some 9) [] fun c => {c with flt := {c.flt with inbox := [cpl .sc true]}}, hlh [1,2,3,4] (some
      9), 9, by decide +kernel⟩,
    ⟨31, hl [1,2,3,4] (some 9) [] fun c => {c with flt := {c.flt with inbox := [cpl .ur true]}}, hlh [1,2,3,4] (some
      9), 9, by decide +kernel⟩,
    ⟨31, fin [] [F.LBX_FW_STATUS.SESSION.is 0], by decide +kernel⟩,
    ⟨31, fin [], by decide +kernel⟩,
    ⟨31, bx 31 0x44, by decide +kernel⟩,
    ⟨31, bx 31 0x44 [] (own 31), by decide +kernel⟩,
    ⟨31, bx 31 0x44 [] (own 31 ++ [F.LBX_OWNER.EXPERT.is 1, F.LBX_FW_STATUS.SVN.is 5, F.LBX_FW_STATUS.MIN_SVN.is 5]),
      by decide +kernel⟩,
    ⟨31, bx 31 0x44 [] (own 31 ++ [F.LBX_OWNER.EXPERT.is 1, F.LBX_FW_STATUS.SVN.is 5]), by decide +kernel⟩⟩

/-- An image with a valid header: MAGIC, a version, an SVN, a body of 8 bytes. -/
def img (svn : Nat) : List Word := [0x45435352, 0x1020304, word svn, 8] ++ List.replicate 1020 0 ++ [1, 2, 3, 4]

/-- With a key that the device accepts and, for all but the second clause, a signature that verifies: what the clauses about images
suppose of the state holds in these. -/
theorem witness_StoreAndFirmwareImages (hk : ∀ k, Config.keyOk k = true) :
    (∃ (n : Fin 34) (s : State), s.serves n.val 0x42 = true ∧ s.mayOwn n.val = true ∧ s.chip.fld F.LBX_FW_STATUS.SESSION = 1 ∧
      imageSvn s.chip.lbx.loaded < s.chip.fld F.LBX_FW_STATUS.MIN_SVN ∧ imageHeader s.chip.lbx.loaded = true) ∧
    ((∀ k m g, Config.sigOk k m g = false) → ∃ (n : Fin 34) (s : State), s.serves n.val 0x42 = true ∧ s.mayOwn n.val = true ∧
      s.chip.fld F.LBX_FW_STATUS.SESSION = 1 ∧ s.chip.imageFit s.chip.lbx.loaded = true ∧ imageSigned s.chip.lbx.loaded = false) ∧
    ((∀ k m g, Config.sigOk k m g = true) → ∃ (n : Fin 34) (s : State), s.serves n.val 0x42 = true ∧ s.mayOwn n.val = true ∧
      s.chip.fld F.LBX_FW_STATUS.SESSION = 1 ∧ s.chip.imageOk s.chip.lbx.loaded = true) := by
  refine ⟨⟨31, fin (img 5) [F.LBX_FW_STATUS.MIN_SVN.is 6], ?_, ?_, ?_, ?_, ?_⟩,
    fun hs => ⟨31, fin (img 6) [F.LBX_FW_STATUS.MIN_SVN.is 6], ?_, ?_, ?_, ?_, ?_⟩,
    fun hs => ⟨31, fin (img 6) [F.LBX_FW_STATUS.MIN_SVN.is 6], ?_, ?_, ?_, ?_⟩⟩
  all_goals first
    | decide +kernel
    | (simp only [Chip.imageOk, Chip.imageFit, imageHeader, imageSigned, hk, hs, Bool.and_true]; decide +kernel)
    | (simp only [imageHeader, hk, Bool.and_true]; decide +kernel)
    | simp only [imageSigned, hs]

/-- A device held by RESET_N alone, with an image in slot B and p entries in the fault log that nobody has consumed. -/
def held (ws : List Word) (p : Nat) : State :=
  { chip := { pwr := { resetN := true, bootDue := true }, lbx := { slotB := ws }, regs := [(⟨.FLT_LOG_PROD, 0, 0⟩, word p)] } }

theorem witness_ChipResetsAndBootImage (hk : ∀ k, Config.keyOk k = true) (hs : ∀ k m g, Config.sigOk k m g = true) :
    ∀ p ∈ [0, 1], ∃ s : State, s.chip.pwr.coreOn = true ∧ s.chip.pwr.railsBad = false ∧ s.chip.pwr.leaving = none ∧
      s.chip.pwr.bootDue = true ∧ s.chip.pwr.chipRst = false ∧ s.chip.pwr.vddLow = false ∧
      s.chip.imageOk (s.chip.slotImage s.chip.firstSlot) = true ∧ s.chip.lbx.storeA = none ∧ s.chip.lbx.storeB = none ∧
      s.chip.fld F.GAT_LIFECYCLE.STATE ≠ 2 ∧ s.chip.owner? = none ∧ s.chip.safe = false ∧
      s.chip.fld F.FLT_LOG_PROD.PROD = p ∧ s.chip.fld F.FLT_LOG_CONS.CONS = 0 := by
  intro p hp
  have hp : p = 0 ∨ p = 1 := by simpa using hp
  have hf : (held (img 3) p).chip.firstSlot = 1 := by
    rcases hp with rfl | rfl <;>
      (simp only [Chip.firstSlot, Chip.imageFit, imageHeader, hk, Bool.and_true]; decide +kernel)
  refine ⟨held (img 3) p, ?_, ?_, ?_, ?_, ?_, ?_, ?_, ?_, ?_, ?_, ?_, ?_, ?_, ?_⟩
  case refine_7 =>
    rw [hf]; simp only [Chip.imageOk, Chip.imageFit, imageHeader, imageSigned, hk, hs, Bool.and_true]
    rcases hp with rfl | rfl <;> decide +kernel
  all_goals rcases hp with rfl | rfl <;> decide +kernel

end Group23

end Sys2Proof.Tests
end

section
/-! SUPPORT. Writes of requesters that may not write (R4, R13), and the registers at reset (R14, R620). -/

namespace Sys2Proof.Machine

/-! ### Counters that saturate -/

/-- A saturating counter reads one more event. -/
theorem Chip.fld_inc_self (c : Chip) (f : Fld) (i j : Nat) (ok : f.ok = true) : (c.inc f i j).fld f i j = c.counted f i j := by
  have fits : c.counted f i j < 2 ^ (f.hi + 1 - f.lo) := by
    have pos := Nat.two_pow_pos (f.hi + 1 - f.lo)
    simp only [Chip.counted, Fld.max]
    omega
  exact Chip.fld_setFld_fits _ _ _ _ _ ok fits

/-- The frame of one more event. -/
theorem Chip.frame_inc {vals : List FieldVal} {rs : List Reg} {ps : List Part} {a c : Chip} {f : Fld} {i j : Nat}
    (h : a.frame vals rs ps c) (ok : f.ok = true)
    (m : f.reg ∈ rs ∨ ∃ e ∈ vals, e.f.reg = f.reg ∧ e.i = i ∧ e.j = j ∧ e.f.lo ≤ f.lo ∧ f.hi ≤ e.f.hi) :
    a.frame vals rs ps (c.inc f i j) := Chip.frame_setFld h ok m

/-! ### Dropped writes -/

@[simp] theorem Chip.dropHeld_regs (c : Chip) (k : RegKey) : (c.dropHeld k).regs = c.regs := by
  unfold Chip.dropHeld; split <;> rfl

/-- A held LO value that goes is all that changes. -/
theorem Chip.dropHeld_frame (c : Chip) (k : RegKey) : c.frame [] [] [.heldLo] (c.dropHeld k) := by
  unfold Chip.dropHeld
  split
  · exact Chip.frame_heldLo (Chip.frame_refl _ _ _ _) (by decide)
  · exact Chip.frame_refl _ _ _ _

/-- DROPPED has counted one write, and nothing else is different but the held LO values. -/
def Chip.drops (c c' : Chip) : Prop :=
  c'.fld F.GLB_CLAMP_SEEN.DROPPED = c.counted F.GLB_CLAMP_SEEN.DROPPED ∧
    c.frame [F.GLB_CLAMP_SEEN.DROPPED.is (c.counted F.GLB_CLAMP_SEEN.DROPPED)] [] [.heldLo] c'

theorem Chip.drops_countDropped (c : Chip) : c.drops c.countDropped :=
  ⟨Chip.fld_inc_self _ _ _ _ (by decide),
    Chip.frame_inc (Chip.frame_refl _ _ _ _) (by decide) (Or.inr (by simp [Fld.is]))⟩

theorem Chip.drops_dropHeld {c d : Chip} (h : c.drops d) (k : RegKey) : c.drops (d.dropHeld k) := by
  obtain ⟨count, frame⟩ := h
  refine ⟨?_, Chip.frame_trans frame (Chip.frame_mono (d.dropHeld_frame k) (by simp) (by simp) (by simp))⟩
  rw [← count]
  simp only [Chip.fld, Chip.reg, Chip.dropHeld_regs]

/-- A command that answers the state with a write dropped does what the statements say of it. -/
theorem sets_of_drops {i : Instr} {s t : State} (answer : exec i s = .next t) (mem : t.mem = s.mem)
    (pending : t.pending = s.pending) (drop : s.chip.drops t.chip) :
    Sets i s [F.GLB_CLAMP_SEEN.DROPPED.is (s.chip.counted F.GLB_CLAMP_SEEN.DROPPED)] [.heldLo] := by
  refine ⟨t, answer, ⟨pending, mem, fun e he v hv => ?_, drop.2⟩, trivial⟩
  rw [List.mem_singleton] at he
  subst he
  cases hv
  exact drop.1

/-! ### Requesters that may not write -/

/-- A partition that is not the Owner's writes nothing (R13). -/
theorem Chip.isOwner_foreign (c : Chip) (a : Access) (p : Fin 32) (who : a.who = .part p) (foreign : c.owner? ≠ some p.val) :
    c.isOwner a.who = false := by
  simp [who, Chip.isOwner, Who.index, foreign]

/-- A write of a requester that may not write is dropped and counted (R13). -/
theorem Chip.passAt_notOwner (c : Chip) (a : Access) (k : RegKey) (off : Nat) (v : Word) (h : c.isOwner a.who = false) :
    c.passAt a k off v = (.dropped, c.countDropped.dropHeld k) := by
  simp [Chip.passAt, h]

theorem Chip.drops_passAt (c : Chip) (k : RegKey) : c.drops (c.countDropped.dropHeld k) :=
  Chip.drops_dropHeld c.drops_countDropped k

/-! ### Commands that write a register of their own -/

/-- The command is a write of one register, with the effect of that register once it has passed. -/
def WritesOwn (i : Instr) (a : Access) : Prop :=
  (∃ k v f, ∀ s, exec i s = .next (s.onChip fun c => c.ownWrite a k v f)) ∨
    ∃ k v f, ∀ s, exec i s = .next (s.onDev fun d => d.ownWrite a k v f)

/-- A write of a register of its own by a requester that may not write is dropped. -/
theorem sets_of_writesOwn {i : Instr} {a : Access} (h : WritesOwn i a) {s : State} (up : s.chip.coreUp = true)
    (notOwner : s.chip.isOwner a.who = false) :
    Sets i s [F.GLB_CLAMP_SEEN.DROPPED.is (s.chip.counted F.GLB_CLAMP_SEEN.DROPPED)] [.heldLo] := by
  obtain ⟨k, v, f, run⟩ | ⟨k, v, f, run⟩ := h
  · refine sets_of_drops (run s) (by simp) (by simp) ?_
    simp only [State.onChip_up _ _ up, Chip.ownWrite, Chip.guardWrite, Chip.passAt_notOwner _ _ _ _ _ notOwner]
    exact s.chip.drops_passAt k
  · have drop : s.onDev (fun d => d.ownWrite a k v f) = { s with chip := s.chip.countDropped.dropHeld k } := by
      simp only [State.onDev_up _ _ up, State.always, Dev.ownWrite, Chip.passAt_notOwner _ _ _ _ _ notOwner]
    exact sets_of_drops (run s) (by rw [drop]) (by rw [drop]) (drop ▸ s.chip.drops_passAt k)

/-! ### Accesses by offset -/

/-- A write of an offset by a requester that may not write is dropped where a Pantry window, a register or a block lies, and
is nothing elsewhere (R13, R614). -/
theorem Dev.busWrite_notOwner (d : Dev) (a : Access) (off : Nat) (v : Word) (h : d.chip.isOwner a.who = false)
    (held : (pantryAt off).isSome ∨ (d.chip.keyAt off).isSome ∨ (blockAt off).isSome) :
    ∃ c, d.busWrite a off v = ({}, { d with chip := c }) ∧ d.chip.drops c := by
  unfold Dev.busWrite
  split
  · exact ⟨_, by simp [h, Dev.onChip], d.chip.drops_countDropped⟩
  · next pantry =>
    split
    · next key =>
      have block : (blockAt off).isSome = true := by simpa [pantry, key] using held
      exact ⟨_, by simp [h, block, Dev.onChip], d.chip.drops_countDropped⟩
    · next k _ =>
      exact ⟨_, by simp only [Chip.passAt_notOwner _ _ _ _ _ h], d.chip.drops_passAt k⟩

/-- The same of the commands that write an offset. -/
theorem sets_of_rowWrite {i : Instr} {a : Access} {off : Nat} {v : Word} {s : State}
    (run : exec i s = .next (s.onDev fun d => d.rowWrite a off v)) (up : s.chip.coreUp = true)
    (notOwner : s.chip.isOwner a.who = false)
    (held : (pantryAt off).isSome ∨ (s.chip.keyAt off).isSome ∨ (blockAt off).isSome) :
    Sets i s [F.GLB_CLAMP_SEEN.DROPPED.is (s.chip.counted F.GLB_CLAMP_SEEN.DROPPED)] [.heldLo] := by
  obtain ⟨c, write, drop⟩ := Dev.busWrite_notOwner { mem := s.mem, chip := s.chip } a off v notOwner held
  have result : s.onDev (fun d => d.rowWrite a off v) = { s with chip := c } := by
    rw [State.onDev_up _ _ up]
    simp [State.always, Dev.rowWrite, write]
  exact sets_of_drops run (by rw [result]) (by rw [result]) (result ▸ drop)

/-- The command is a write of offset `off`, where the device holds something. -/
def WritesOffset (i : Instr) (a : Access) (c : Chip) : Prop :=
  ∃ off v, (∀ s, exec i s = .next (s.onDev fun d => d.rowWrite a off v)) ∧
    ((pantryAt off).isSome ∨ (c.keyAt off).isSome ∨ (blockAt off).isSome)

/-- A command that writes BAR0 writes an offset, or the register that is its own. -/
theorem writesOffset_or_writesOwn (c : Chip) (i : Instr) (a : Access) (access : i.access? = some a)
    (writes : c.writesBar0 i = true) : WritesOffset i a c ∨ WritesOwn i a := by
  cases i
  case registerWrite b off v =>
    cases access
    exact .inl ⟨off, v, fun _ => rfl, by simpa [Chip.writesBar0, or_assoc] using writes⟩
  case pairLoWrite b off v | pairHiWrite b off v =>
    cases access
    have key : _ ∧ (c.keyAt off).isSome = true := (Bool.and_eq_true _ _).mp writes
    exact .inl ⟨off, v, fun _ => rfl, .inr (.inl key.2)⟩
  case readClear | pairLoRead | timTsRead | lpbCfgRead => cases writes
  case chipRst | powerGo => cases access; exact .inr (.inr ⟨_, _, _, fun _ => rfl⟩)
  all_goals cases access
  all_goals exact .inr (.inl ⟨_, _, _, fun _ => rfl⟩)

/-- Settles O24: the requester may not write, so each command that brings the write drops and counts it. -/
theorem foreignWritesDropped : Obligations.ForeignWritesDropped := by
  intro i a p s access who foreign up _ writes
  have notOwner := s.chip.isOwner_foreign a p who foreign
  obtain ⟨off, v, run, held⟩ | own := writesOffset_or_writesOwn s.chip i a access writes
  · exact sets_of_rowWrite (run s) up notOwner held
  · exact sets_of_writesOwn own up notOwner

/-! ### Reset -/

/-- At reset every register holds its reset word. -/
theorem State.reset_reg (r : Reg) (i j : Nat) : State.reset.chip.reg r i j = (RegKey.mk r i j).reset := rfl

/-- Settles O3: the register file of the reset state lists nothing, so each register reads its reset word. -/
theorem resetValues : Obligations.ResetValues := by
  refine ⟨?_, fun u hu => ?_, fun r i j hr => ?_, rfl⟩
  · simp only [FieldVal.holds, ← Option.mem_def]
    decide +kernel
  · have unit : (word u).toNat = u := Nat.mod_eq_of_lt (by omega)
    simp only [Chip.fld, State.reset_reg, RegKey.reset, F.TCT_UNIT_STATUS.UNIT, wget, bits, unit]
    omega
  · rw [State.reset_reg]
    unfold RegKey.reset
    split <;> simp_all

end Sys2Proof.Machine
end

section
/-! SUPPORT. What a read shows rests on nothing that an event counts in: the registers of `countRegs` may change and every word that
`Chip.viewReg` answers outside the block of the counter units stays (R570, R618). -/

namespace Sys2Proof.Machine

/-! ### The register file without the counters of events -/

/-- The entries of registers that no event counts in. -/
def RegFile.plain (m : RegFile) : RegFile := m.filter fun e => !decide (e.1.reg ∈ countRegs)

@[simp] theorem RegFile.plain_cons_counts (e : RegKey × Word) (m : RegFile) (h : e.1.reg ∈ countRegs) :
    RegFile.plain (e :: m) = m.plain := List.filter_cons_of_neg (by simp [h])

@[simp] theorem RegFile.plain_cons_plain (e : RegKey × Word) (m : RegFile) (h : e.1.reg ∉ countRegs) :
    RegFile.plain (e :: m) = e :: m.plain := List.filter_cons_of_pos (by simp [h])

theorem RegFile.plain_cons_congr (e : RegKey × Word) {m n : RegFile} (h : m.plain = n.plain) :
    RegFile.plain (e :: m) = RegFile.plain (e :: n) := by
  by_cases counts : e.1.reg ∈ countRegs <;> simp [counts, h]

theorem RegFile.plain_erase (m : RegFile) (k : RegKey) (h : k.reg ∈ countRegs) : RegFile.plain (m.erase k) = m.plain := by
  induction m with
  | nil => rfl
  | cons e m ih =>
    simp only [RegFile.erase]
    split
    · next same => rw [ih, RegFile.plain_cons_counts _ _ (same ▸ h)]
    · exact RegFile.plain_cons_congr _ ih

theorem RegFile.plain_insert (m : RegFile) (k : RegKey) (v : Word) (h : k.reg ∈ countRegs) :
    RegFile.plain (m.insert k v) = m.plain := by
  induction m with
  | nil => exact RegFile.plain_cons_counts _ _ h
  | cons e m ih =>
    simp only [RegFile.insert]
    split
    · next same => rw [RegFile.plain_cons_counts _ _ h, RegFile.plain_cons_counts _ _ (same ▸ h)]
    · split
      · exact RegFile.plain_cons_counts _ _ h
      · exact RegFile.plain_cons_congr _ ih

/-- A write of a counter leaves the other registers, and their order, as they are. -/
theorem RegFile.plain_set (m : RegFile) (k : RegKey) (v : Word) (h : k.reg ∈ countRegs) : RegFile.plain (m.set k v) = m.plain := by
  unfold RegFile.set
  split
  · exact m.plain_erase k h
  · exact m.plain_insert k v h

/-- A register that no event counts in is read from the rest of the file. -/
theorem RegFile.get_plain (m : RegFile) (k : RegKey) (h : k.reg ∉ countRegs) : RegFile.get m.plain k = m.get k := by
  induction m with
  | nil => rfl
  | cons e m ih =>
    by_cases counts : e.1.reg ∈ countRegs
    · have other : e.1 ≠ k := fun same => h (same ▸ counts)
      simp [RegFile.get, counts, other, ih]
    · simp [RegFile.get, counts, ih]

/-- A list made of entries that no event counts in. -/
theorem RegFile.filterMap_plain {α : Type} (m : RegFile) (g : RegKey × Word → Option α)
    (hg : ∀ e, e.1.reg ∈ countRegs → g e = none) : m.plain.filterMap g = m.filterMap g := by
  induction m with
  | nil => rfl
  | cons e m ih =>
    by_cases counts : e.1.reg ∈ countRegs
    · simp [counts, hg e counts, ih]
    · simp [List.filterMap_cons, counts, ih]

/-! ### Devices that differ in the counters of events alone -/

/-- The device with another register file. -/
def Chip.withRegs (c : Chip) (m : RegFile) : Chip := { c with regs := m }

/-- The devices differ in counters of events and in nothing else. -/
def Chip.countsTo (c c' : Chip) : Prop := ∃ m : RegFile, c' = c.withRegs m ∧ m.plain = c.regs.plain

theorem Chip.countsTo_refl (c : Chip) : c.countsTo c := ⟨c.regs, rfl, rfl⟩

theorem Chip.countsTo_trans {a b c : Chip} (h : a.countsTo b) (g : b.countsTo c) : a.countsTo c := by
  obtain ⟨m, rfl, hm⟩ := h
  obtain ⟨n, rfl, hn⟩ := g
  exact ⟨n, rfl, hn.trans hm⟩

theorem Chip.countsTo_setReg (c : Chip) (r : Reg) (v : Word) (i j : Nat) (h : r ∈ countRegs) : c.countsTo (c.setReg r v i j) :=
  ⟨_, rfl, c.regs.plain_set ⟨r, i, j⟩ v h⟩

theorem Chip.countsTo_bump (c : Chip) (u i n : Nat) : c.countsTo (c.bump u i n) := by
  have pair (v : Nat) : c.countsTo (c.setPair .TCT_CNT_LO .TCT_CNT_HI v u i) :=
    Chip.countsTo_trans (c.countsTo_setReg _ _ _ _ (by decide)) (Chip.countsTo_setReg _ _ _ _ _ (by decide))
  unfold Chip.bump
  dsimp only
  split
  · exact Chip.countsTo_trans (pair _) (Chip.countsTo_setReg _ _ _ _ _ (by decide))
  · exact pair _

theorem Chip.countsTo_foldl {α : Type} (g : Chip → α → Chip) (h : ∀ (c : Chip) (x : α), c.countsTo (g c x)) (xs : List α) (c : Chip) :
    c.countsTo (xs.foldl g c) := by
  induction xs generalizing c with
  | nil => exact c.countsTo_refl
  | cons x xs ih => exact Chip.countsTo_trans (h c x) (ih _)

/-- An event of a unit changes counters of events and nothing else. -/
theorem Chip.countsTo_pulse (c : Chip) (u code n : Nat) : c.countsTo (c.pulse u code n) := by
  unfold Chip.pulse
  split
  · exact c.countsTo_refl
  · refine Chip.countsTo_foldl _ (fun d i => ?_) _ _
    split
    · exact d.countsTo_bump _ _ _
    · exact d.countsTo_refl

/-! ### What the readings of state share -/

section
variable {c : Chip} {m : RegFile} (h : m.plain = c.regs.plain)
include h

theorem Chip.get_withRegs (k : RegKey) (hk : k.reg ∉ countRegs) : (c.withRegs m).regs.get k = c.regs.get k := by
  rw [← RegFile.get_plain _ k hk, ← c.regs.get_plain k hk]
  exact congrArg (RegFile.get · k) h

theorem Chip.reg_withRegs (r : Reg) (i j : Nat) (hr : r ∉ countRegs) : (c.withRegs m).reg r i j = c.reg r i j :=
  Chip.get_withRegs h ⟨r, i, j⟩ hr

theorem Chip.fld_withRegs (f : Fld) (i j : Nat) (hf : f.reg ∉ countRegs) : (c.withRegs m).fld f i j = c.fld f i j := by
  simp only [Chip.fld, Chip.reg_withRegs h _ _ _ hf]

theorem Chip.flag_withRegs (f : Fld) (i j : Nat) (hf : f.reg ∉ countRegs) : (c.withRegs m).flag f i j = c.flag f i j := by
  simp only [Chip.flag, Chip.fld_withRegs h _ _ _ hf]

theorem Chip.opMode_withRegs : (c.withRegs m).opMode = c.opMode := Chip.fld_withRegs h _ _ _ (by decide)

theorem Chip.portEn_withRegs (n : Nat) : (c.withRegs m).portEn n = c.portEn n := Chip.flag_withRegs h _ _ _ (by decide)

theorem Chip.role_withRegs (n : Nat) : (c.withRegs m).role n = c.role n := Chip.fld_withRegs h _ _ _ (by decide)

theorem Chip.portPart_withRegs (n : Nat) : (c.withRegs m).portPart n = c.portPart n := Chip.fld_withRegs h _ _ _ (by decide)

theorem Chip.isFleren_withRegs (n : Nat) : (c.withRegs m).isFleren n = c.isFleren n := by
  simp (disch := decide) only [Chip.isFleren, Chip.portEn_withRegs h, Chip.flag_withRegs h]

theorem Chip.isPcie_withRegs (n : Nat) : (c.withRegs m).isPcie n = c.isPcie n := by
  simp (disch := decide) only [Chip.isPcie, Chip.portEn_withRegs h, Chip.flag_withRegs h]

theorem Chip.upPort?_withRegs (p : Nat) : (c.withRegs m).upPort? p = c.upPort? p := by
  simp only [Chip.upPort?, Chip.isPcie_withRegs h, Chip.role_withRegs h, Chip.portPart_withRegs h]

theorem Chip.downPorts_withRegs (p : Nat) : (c.withRegs m).downPorts p = c.downPorts p := by
  simp only [Chip.downPorts, Chip.isPcie_withRegs h, Chip.role_withRegs h, Chip.portPart_withRegs h]

theorem Chip.fabricMode_withRegs : (c.withRegs m).fabricMode = c.fabricMode := by
  simp only [Chip.fabricMode, Chip.opMode_withRegs h]

theorem Chip.portLanes_withRegs (n : Nat) : (c.withRegs m).portLanes n = c.portLanes n := by
  simp (disch := decide) only [Chip.portLanes, Chip.fld_withRegs h]

theorem Chip.owner?_withRegs : (c.withRegs m).owner? = c.owner? := by
  simp (disch := decide) only [Chip.owner?, Chip.flag_withRegs h, Chip.fld_withRegs h]

theorem Chip.isOwner_withRegs (w : Who) : (c.withRegs m).isOwner w = c.isOwner w := by
  cases w <;> simp (disch := decide) only [Chip.isOwner, Chip.owner?_withRegs h, Chip.lifecycle, Chip.fld_withRegs h]

theorem Chip.keyAt_withRegs (off : Nat) : (c.withRegs m).keyAt off = c.keyAt off := by
  simp (disch := decide) only [Chip.keyAt, Chip.fld_withRegs h]

/-! ### The readings of single registers -/

theorem Chip.lbxStatus_withRegs (n : Nat) : (c.withRegs m).lbxStatus n = c.lbxStatus n := by
  have ready : (c.withRegs m).fwReady n = c.fwReady n := by
    simp (disch := decide) only [Chip.fwReady, Chip.safe, Chip.flag_withRegs h, Chip.upPort?_withRegs h]
    rfl
  simp (disch := decide) only [Chip.lbxStatus, Chip.reg_withRegs h, Chip.owner?_withRegs h, Chip.flag_withRegs h, ready]
  rfl

theorem Chip.laneArmed_withRegs (l : Nat) : (c.withRegs m).laneArmed l = c.laneArmed l := by
  simp (disch := decide) only [Chip.laneArmed, Chip.flag_withRegs h, Chip.portEn_withRegs h, Chip.portLanes_withRegs h]

theorem Chip.lpBudget_withRegs : (c.withRegs m).lpBudget = c.lpBudget := by
  have lanes : (c.withRegs m).armedLanes = c.armedLanes := by
    simp only [Chip.armedLanes, funext (Chip.laneArmed_withRegs h)]
  have ports (n : Nat) : (c.withRegs m).portArmed n = c.portArmed n := by
    simp (disch := decide) only [Chip.portArmed, Chip.flag_withRegs h, Chip.isFleren_withRegs h, Chip.portLanes_withRegs h,
      funext (Chip.laneArmed_withRegs h)]
  simp (disch := decide) only [Chip.lpBudget, Chip.lpLoad, lanes, funext ports, Chip.flag_withRegs h]

theorem Chip.logFull_withRegs : (c.withRegs m).logFull = c.logFull := by
  simp (disch := decide) only [Chip.logFull, Chip.fld_withRegs h]

theorem Chip.configured_withRegs (p : Nat) : (c.withRegs m).configured p = c.configured p := by
  simp (disch := decide) only [Chip.configured, Chip.upPort?_withRegs h, Chip.fabricMode_withRegs h, Chip.flag_withRegs h]

theorem Chip.partRefuses_withRegs (p : Nat) : (c.withRegs m).partRefuses p = c.partRefuses p := by
  simp (disch := decide) only [Chip.partRefuses, Chip.reg_withRegs h]
  rfl

theorem Chip.rdpCount_withRegs (p : Nat) : (c.withRegs m).rdpCount p = c.rdpCount p := by
  simp (disch := decide) only [Chip.rdpCount, Chip.fabricMode_withRegs h, Chip.flag_withRegs h]

theorem Chip.flaconsOf_withRegs (p : Nat) : (c.withRegs m).flaconsOf p = c.flaconsOf p := by
  have counts (e : RegKey × Word) (he : e.1.reg ∈ countRegs) : e.1.reg ≠ .GLB_FLC_A := fun q => absurd (q ▸ he) (by decide)
  unfold Chip.flaconsOf
  rw [← RegFile.filterMap_plain c.regs _ fun e he => by simp [counts e he], ← h,
    RegFile.filterMap_plain m _ fun e he => by simp [counts e he]]
  rfl

theorem Chip.memberLive_withRegs (n : Nat) : (c.withRegs m).memberLive n = c.memberLive n := by
  simp (disch := decide) only [Chip.memberLive, Chip.flUp, Chip.isFleren_withRegs h, Chip.fld_withRegs h, Chip.flag_withRegs h]

theorem Chip.trains_withRegs (n : Nat) : (c.withRegs m).trains n = c.trains n := by
  simp (disch := decide) only [Chip.trains, Chip.tileEn, Chip.portFree, Chip.portHeld, Chip.bitOf, Chip.isPcie_withRegs h,
    Chip.isFleren_withRegs h, Chip.role_withRegs h, Chip.portPart_withRegs h, Chip.opMode_withRegs h, Chip.fld_withRegs h,
    Chip.flag_withRegs h, Chip.reg_withRegs h]
  rfl

theorem Chip.ltssm_withRegs (n : Nat) : (c.withRegs m).ltssm n = c.ltssm n := by
  simp (disch := decide) only [Chip.ltssm, Chip.trains_withRegs h, Chip.fld_withRegs h, Chip.flag_withRegs h]
  rfl

theorem Chip.quadOn_withRegs (t : Nat) : (c.withRegs m).quadOn t = c.quadOn t := by
  simp only [Chip.quadOn, Chip.laneOwner?, Chip.portEn_withRegs h, Chip.portLanes_withRegs h]
  rfl

theorem Chip.gclTicks_withRegs (n b e : Nat) : (c.withRegs m).gclTicks n b e = c.gclTicks n b e := by
  simp (disch := decide) only [Chip.gclTicks, Chip.reg_withRegs h]

theorem Chip.gclFind_withRegs (n b fuel e ph : Nat) : (c.withRegs m).gclFind n b fuel e ph = c.gclFind n b fuel e ph := by
  induction fuel generalizing e ph with
  | zero => rfl
  | succ fuel ih => simp only [Chip.gclFind, Chip.gclTicks_withRegs h, ih]

theorem Chip.gclBase_withRegs (n b : Nat) : (c.withRegs m).gclBase n b = c.gclBase n b := by
  simp (disch := decide) only [Chip.gclBase, Chip.pair, Chip.reg_withRegs h]

theorem Chip.gclNow_withRegs (n : Nat) : (c.withRegs m).gclNow n = c.gclNow n := by
  simp (disch := decide) only [Chip.gclNow, Chip.gclEn, Chip.gclBank, Chip.gclPhase, Chip.gclCycle, Chip.gclLen,
    Chip.gclTicks_withRegs h, Chip.gclFind_withRegs h, Chip.gclBase_withRegs h, Chip.fld_withRegs h, Chip.flag_withRegs h]
  rfl

theorem Chip.jobEngines_withRegs (j : Nat) : (c.withRegs m).jobEngines j = c.jobEngines j := by
  simp (disch := decide) only [Chip.jobEngines, Chip.jfld, Chip.fld_withRegs h]

theorem Chip.jobRunning_withRegs (j : Nat) : (c.withRegs m).jobRunning j = c.jobRunning j := by
  simp (disch := decide) only [Chip.jobRunning, Chip.engState, Chip.jobEngines_withRegs h, Chip.fld_withRegs h]

theorem Chip.jobPending_withRegs (j : Nat) : (c.withRegs m).jobPending j = c.jobPending j := by
  simp (disch := decide) only [Chip.jobPending, Chip.jfld, Chip.fld_withRegs h]
  rfl

theorem Chip.jobOf?_withRegs (e : Nat) : (c.withRegs m).jobOf? e = c.jobOf? e := by
  simp (disch := decide) only [Chip.jobOf?, Chip.jobEn, Chip.jfld, Chip.jobEngines_withRegs h, Chip.fld_withRegs h]

/-- What a register outside the counter units shows. -/
theorem Chip.viewReg_withRegs (k : RegKey) (hk : k.reg.block ≠ .tct) : (c.withRegs m).viewReg k = c.viewReg k := by
  have plain : k.reg ∉ countRegs := fun counts => by
    simp only [countRegs, List.mem_cons, List.not_mem_nil, or_false] at counts
    rcases counts with q | q | q <;> exact hk (q ▸ rfl)
  unfold Chip.viewReg
  simp (disch := decide) only [Chip.get_withRegs h k plain, Chip.lbxStatus_withRegs h, Chip.lpBudget_withRegs h,
    Chip.logFull_withRegs h, Chip.configured_withRegs h, Chip.partRefuses_withRegs h, Chip.downPorts_withRegs h,
    Chip.rdpCount_withRegs h, Chip.flaconsOf_withRegs h, Chip.isFleren_withRegs h, Chip.reg_withRegs h,
    Chip.memberLive_withRegs h, Chip.ltssm_withRegs h, Chip.quadOn_withRegs h, Chip.fld_withRegs h, Chip.gclNow_withRegs h,
    Chip.jobRunning_withRegs h, Chip.jobPending_withRegs h, Chip.jobOf?_withRegs h]
  split
  case h_25 q | h_26 q => rw [q] at hk; exact absurd rfl hk
  all_goals rfl
end
end Sys2Proof.Machine
end

section
/-! SUPPORT. Gates, denials and reads of the register bus (R4, R5, R8, R392, R404, R405, R614, R616). -/

namespace Sys2Proof.Machine

/-! ### Judging an access -/

section
variable {c : Chip} {m : RegFile} (h : m.plain = c.regs.plain)
include h

theorem Chip.judge_withRegs (g : Nat) (x : GateAccess) : (c.withRegs m).judge g x = c.judge g x := by
  have slot (a : Nat) : (c.withRegs m).fixedSlot? g a = c.fixedSlot? g a := by
    simp (disch := decide) only [Chip.fixedSlot?, Chip.fld_withRegs h, Chip.flag_withRegs h, Chip.reg_withRegs h]
    rfl
  have rule : (c.withRegs m).ruleOf? g x = c.ruleOf? g x := by
    simp only [Chip.ruleOf?, Chip.region?, slot]
    rfl
  simp (disch := decide) only [Chip.judge, rule, Chip.lifecycle, Chip.fld_withRegs h]
  rfl

end

/-- Devices that differ in counters of events judge an access alike. -/
theorem Chip.countsTo.judge {c d : Chip} (h : c.countsTo d) (g : Nat) (x : GateAccess) : d.judge g x = c.judge g x := by
  obtain ⟨m, rfl, plain⟩ := h
  exact Chip.judge_withRegs plain g x

theorem Chip.countsTo.keyAt {c d : Chip} (h : c.countsTo d) (off : Nat) : d.keyAt off = c.keyAt off := by
  obtain ⟨m, rfl, plain⟩ := h
  exact Chip.keyAt_withRegs plain off

theorem Chip.countsTo.isOwner {c d : Chip} (h : c.countsTo d) (w : Who) : d.isOwner w = c.isOwner w := by
  obtain ⟨m, rfl, plain⟩ := h
  exact Chip.isOwner_withRegs plain w

theorem Chip.countsTo.get {c d : Chip} (h : c.countsTo d) (k : RegKey) (hk : k.reg ∉ countRegs) : d.regs.get k = c.regs.get k := by
  obtain ⟨m, rfl, plain⟩ := h
  exact Chip.get_withRegs plain k hk

theorem Chip.countsTo.fld {c d : Chip} (h : c.countsTo d) (f : Fld) (i j : Nat) (hf : f.reg ∉ countRegs) :
    d.fld f i j = c.fld f i j := by
  obtain ⟨m, rfl, plain⟩ := h
  exact Chip.fld_withRegs plain f i j hf

theorem Chip.countsTo.viewReg {c d : Chip} (h : c.countsTo d) (k : RegKey) (hk : k.reg.block ≠ .tct) :
    d.viewReg k = c.viewReg k := by
  obtain ⟨m, rfl, plain⟩ := h
  exact Chip.viewReg_withRegs plain k hk

theorem Chip.countsTo.snaps {c d : Chip} (h : c.countsTo d) : d.snaps = c.snaps := by
  obtain ⟨m, rfl, -⟩ := h
  rfl

theorem Chip.countsTo.shown {c d : Chip} (h : c.countsTo d) (k : RegKey) (hk : k.reg.block ≠ .tct) : d.shown k = c.shown k := by
  simp only [Chip.shown, h.snaps, h.viewReg k hk]

theorem Chip.countsTo.frame {c d : Chip} (h : c.countsTo d) : c.frame [] countRegs [] d := by
  refine ⟨fun k b hk _ => by rw [h.get k hk], ?_⟩
  obtain ⟨m, rfl, -⟩ := h
  exact c.partsSame_refl _

/-- A gate that allows an access counts it. -/
theorem Chip.gate_of_judge_none (c : Chip) (g : Nat) (x : GateAccess) (judge : c.judge g x = none) :
    ∃ d, c.countsTo d ∧ c.gate g x = (none, d) := by
  have counts := c.countsTo_pulse 0xC04 0x10 1
  exact ⟨_, counts, by simp only [Chip.gate, counts.judge, judge]⟩

/-- A gate that denies an access counts it and captures it (R405). -/
theorem Chip.gate_of_judge_some (c : Chip) (g : Nat) (x : GateAccess) (r : Nat) (judge : c.judge g x = some r) :
    ∃ d region, c.countsTo d ∧ c.gate g x = (some r, d.capture g r region x) := by
  have counts := c.countsTo_pulse 0xC04 0x10 1
  exact ⟨_, (c.pulse 0xC04 0x10).ruleOf? g x, Chip.countsTo_trans counts (Chip.countsTo_pulse _ 0xC04 0x11 1),
    by simp only [Chip.gate, counts.judge, judge]⟩

/-! ### Denials -/

/-- The registers of a capture but the count, and the count of messages lost (R405, R470). -/
def violRegs : List Reg := [.GAT_VIOL_STATUS, .GAT_VIOL_ADDR_LO, .GAT_VIOL_ADDR_HI, .GAT_VIOL_SRC, .FLT_LOG_LOST]

/-- A capture counts a denial; what it records and reports besides. -/
theorem Chip.capture_frame (c : Chip) (g r : Nat) (region : Option Nat) (x : GateAccess) :
    (c.inc F.GAT_VIOL_COUNT.COUNT).frame [] violRegs [.flt] (c.capture g r region x) := by
  unfold Chip.capture
  generalize c.inc F.GAT_VIOL_COUNT.COUNT = d
  dsimp only
  split
  · exact Chip.frame_trans (Chip.frame_setFld (Chip.frame_refl _ _ _ _) (by decide) (Or.inl (by decide)))
      (Chip.frame_mono (Chip.raiseLimited_frame ..) (by simp) (by decide) (by simp))
  · refine Chip.frame_trans ?_ (Chip.frame_mono (Chip.raise_frame ..) (by simp) (by decide) (by simp))
    refine Chip.frame_flt (Chip.frame_setReg (Chip.frame_setReg (Chip.frame_setReg (Chip.frame_setReg (Chip.frame_refl _ _ _ _)
      (Or.inl ?_)) (Or.inl ?_)) (Or.inl ?_)) (Or.inl ?_)) (by decide)
    all_goals decide

theorem Chip.capture_count (c : Chip) (g r : Nat) (region : Option Nat) (x : GateAccess) :
    (c.capture g r region x).fld F.GAT_VIOL_COUNT.COUNT = c.counted F.GAT_VIOL_COUNT.COUNT := by
  rw [Chip.frame_fld (c.capture_frame g r region x) _ _ _ (by decide) (by simp)]
  exact c.fld_inc_self _ _ _ (by decide)

/-! ### What a report in the AER of a port changes (R95, R623) -/

/-- The parts that a report of an error changes. -/
def aerParts : List Part := [.cfg, .outs]

theorem Chip.setCfg_frame (c : Chip) (f : Fn) (off v : Nat) : c.frame [] [] aerParts (c.setCfg f off v) :=
  Chip.frame_cfg (Chip.frame_refl _ _ _ _) (by decide)

theorem Chip.emit_frame (c : Chip) (o : Out) : c.frame [] [] aerParts (c.emit o) :=
  Chip.frame_outs (Chip.frame_refl _ _ _ _) (by decide)

/-- A step that is taken or not stays in a frame that it stays in when taken. -/
theorem Chip.frame_ite {vals : List FieldVal} {rs : List Reg} {ps : List Part} {a c d : Chip} (p : Prop) [Decidable p]
    (hc : a.frame vals rs ps c) (hd : a.frame vals rs ps d) : a.frame vals rs ps (if p then c else d) := by
  split
  · exact hc
  · exact hd

theorem Chip.aerLog_frame (c : Chip) (n b : Nat) (hdr : Option Packet) : c.frame [] [] aerParts (c.aerLog n b hdr) := by
  unfold Chip.aerLog
  dsimp only
  split
  · exact Chip.frame_refl _ _ _ _
  · have pointed := c.setCfg_frame (.port n) 0x118 (c.cfgAt (.port n) 0x118 / 32 * 32 + b)
    split
    · exact pointed
    · exact Chip.frame_ite _ (Chip.frame_trans pointed (Chip.frame_foldl _ (fun d o => d.setCfg_frame _ _ _) _ _)) pointed

theorem Chip.aerMark_frame (c : Chip) (n b : Nat) (hdr : Option Packet) : c.frame [] [] aerParts (c.aerMark n b hdr) := by
  have put {d : Chip} (h : c.frame [] [] aerParts d) (off k : Nat) : c.frame [] [] aerParts (d.putCfgBit (.port n) off k true) :=
    Chip.frame_trans h (d.setCfg_frame _ _ _)
  have logged := put (Chip.frame_ite (c.aerShown n b (c.aerAdvisory n b hdr)) (c.aerLog_frame n b hdr) (Chip.frame_refl _ _ _ _)) 0x104 b
  have advised := put (Chip.frame_ite (c.aerAdvisory n b hdr) (put logged 0x110 13) logged) 0x78
    (16 + if c.aerAdvisory n b hdr then 0 else if c.cfgBit (.port n) 0x10C b then 2 else 1)
  have noted := Chip.frame_ite (b = aerUr) (put advised 0x78 19) advised
  unfold Chip.aerMark
  exact Chip.frame_ite _ (Chip.frame_trans noted (Chip.emit_frame _ _)) noted

theorem Chip.msixSend_frame (c : Chip) (f : Fn) (v : Nat) : c.frame [] [] aerParts (c.msixSend f v) := by
  have same := Chip.frame_refl [] [] aerParts c
  unfold Chip.msixSend
  split
  · refine Chip.frame_ite _ (c.aerMark_frame _ _ _) ?_
    cases f <;> simp only [Chip.emit_frame, same]
  · cases f <;> simp only [Chip.emit_frame, same]

theorem Chip.msix_frame (c : Chip) (f : Fn) (v : Nat) : c.frame [] [] aerParts (c.msix f v) := by
  unfold Chip.msix
  exact Chip.frame_ite _ (Chip.frame_refl _ _ _ _) (Chip.frame_ite _ (c.setCfg_frame _ _ _) (c.msixSend_frame f v))

theorem Chip.aer_frame (c : Chip) (n b : Nat) (hdr : Option Packet) : c.frame [] [] aerParts (c.aer n b hdr) := by
  unfold Chip.aer
  exact Chip.frame_ite _ (Chip.frame_trans (c.aerMark_frame n b hdr) (Chip.msix_frame _ _ _)) (c.aerMark_frame n b hdr)

/-- Logging a denied request changes no register (R404). -/
theorem Chip.logDenied_frame (c : Chip) (a : Access) (write : Bool) : c.frame [] [] aerParts (c.logDenied a write) := by
  unfold Chip.logDenied
  split
  · exact c.aer_frame _ _ _
  · exact Chip.frame_refl _ _ _ _

end Sys2Proof.Machine
end

section
/-! SUPPORT. Reads of an offset: what is answered, what is cleared, what the snapshots keep (R4, R5, R8, R616, R618). -/

namespace Sys2Proof.Machine

/-! ### Whole registers -/

/-- The whole register is one field, which no write-only or read-clear code governs. -/
def Reg.isWhole (r : Reg) : Bool :=
  match r.fields with
  | [f] => f.hi == 31 && f.lo == 0 && f.acc != .wo && f.acc != .rc
  | _ => false

/-- The LO half of every pair is such a register. -/
theorem Reg.isWhole_of_hiOf (r : Reg) (h : r.hiOf ≠ none) : r.isWhole = true := by
  revert h
  cases r <;> decide

/-- The halves of a pair lie in one block. -/
theorem Reg.block_of_hiOf (r hi : Reg) (h : r.hiOf = some hi) : hi.block = r.block := by
  have same : ∀ q ∈ r.hiOf, q.block = r.block := by cases r <;> decide
  exact same hi h

theorem bits_word (w : Word) : bits w.toNat 31 0 = w.toNat := by
  have := w.isLt
  simp only [bits]
  omega

theorem Reg.readWord_of_isWhole (r : Reg) (h : r.isWhole = true) (w : Word) : r.readWord w.toNat = w.toNat := by
  unfold Reg.isWhole at h
  split at h
  · next f fields =>
    simp only [Bool.and_eq_true, beq_iff_eq, bne_iff_ne] at h
    obtain ⟨⟨⟨hi, lo⟩, wo⟩, -⟩ := h
    simp [Reg.readWord, fields, hi, lo, wo, bits_word]
  · cases h

theorem Reg.clearedWord_of_isWhole (r : Reg) (h : r.isWhole = true) (be v : Nat) : r.clearedWord be v = v := by
  unfold Reg.isWhole at h
  split at h
  · next f fields =>
    simp only [Bool.and_eq_true, bne_iff_ne] at h
    simp [Reg.clearedWord, fields, h.2]
  · cases h

theorem Access.bit_of_full (a : Access) (h : a.full = true) (b : Nat) (hb : b < 4) : bit a.be b = true := by
  have be : a.be % 16 = 15 := by simpa [Access.full] using h
  simp only [bit, beq_iff_eq]
  have place : b = 0 ∨ b = 1 ∨ b = 2 ∨ b = 3 := by omega
  rcases place with rfl | rfl | rfl | rfl <;> omega

/-- The sum over the four bytes of a word. -/
theorem sum_map_range_four (f : Nat → Nat) : ((List.range 4).map f).sum = f 0 + f 1 + f 2 + f 3 := by
  have four : List.range 4 = [0, 1, 2, 3] := by decide
  simp only [four, List.map, List.sum_cons, List.sum_nil]
  omega

/-- All four byte enables return the word. -/
theorem enabledBytes_of_full (a : Access) (h : a.full = true) (w : Word) : enabledBytes a.be w.toNat = w.toNat := by
  have := w.isLt
  simp (disch := decide) only [enabledBytes, sum_map_range_four, a.bit_of_full h, if_true, bits]
  omega

theorem word_toNat (w : Word) : word w.toNat = w := BitVec.eq_of_toNat_eq (Nat.mod_eq_of_lt w.isLt)

/-- What is said of a whole register. -/
theorem Reg.holds_is (r : Reg) (w : Word) (i j : Nat) (c : Chip) : (r.is w i j).holds c ↔ c.regs.get ⟨r, i, j⟩ = w := by
  simp only [FieldVal.holds, Reg.is, Option.some.injEq, forall_eq', Chip.fld, Chip.reg, wget, bits_word, BitVec.toNat_inj]

/-! ### Snapshots (R5, R305) -/

/-- The snapshot of one register. -/
def Chip.snap (c : Chip) (k : RegKey) : Chip := { c with snaps := (k, c.viewReg k) :: c.snaps.filter fun e => e.1 != k }

theorem Chip.takeSnap_eq (c : Chip) (k : RegKey) :
    c.takeSnap k = k.reg.partners.foldl (fun c r => c.snap { k with reg := r }) c := rfl

theorem Chip.takeSnap_frame (c : Chip) (k : RegKey) : c.frame [] [] [.snaps] (c.takeSnap k) := by
  rw [Chip.takeSnap_eq]
  exact Chip.frame_foldl _ (fun d r => Chip.frame_snaps (Chip.frame_refl _ _ _ d) (by decide)) _ _

theorem Chip.find?_snap_self (c : Chip) (k : RegKey) :
    (c.snap k).snaps.find? (fun e => e.1 == k) = some (k, c.viewReg k) := by
  simp [Chip.snap]

/-- The snapshot of one register leaves that of another. -/
theorem Chip.find?_snap_ne (c : Chip) (h k : RegKey) (ne : h ≠ k) :
    (c.snap h).snaps.find? (fun e => e.1 == k) = c.snaps.find? fun e => e.1 == k := by
  have other : (fun e : RegKey × Word => decide ((e.1 != h) = true ∧ (e.1 == k) = true)) = fun e => e.1 == k := by
    funext e
    by_cases same : e.1 = k
    · simp [same, ne.symm]
    · simp [same]
  have apart : (h == k) = false := beq_false_of_ne ne
  simp only [Chip.snap, List.find?_cons, apart, List.find?_filter, other]

/-- What a read of a LO register copies: its HI register, and for TIM_NOW the fraction too. -/
theorem Reg.partners_of_hiOf (r hi : Reg) (h : r.hiOf = some hi) (ts : r ≠ .TIM_TS_LO) :
    r.partners = if r = .TIM_NOW_LO then [.TIM_NOW_HI, .TIM_NOW_FRAC] else [hi] := by
  unfold Reg.partners
  split
  · rfl
  · contradiction
  · next now _ => rw [if_neg now, h]

/-- A read of LO keeps what the HI register shows at that time. -/
theorem Chip.find?_takeSnap_hi (c : Chip) (k : RegKey) (hi : Reg) (h : k.reg.hiOf = some hi) (ts : k.reg ≠ .TIM_TS_LO) :
    (c.takeSnap k).snaps.find? (fun e => e.1 == ⟨hi, k.i, k.j⟩) = some (⟨hi, k.i, k.j⟩, c.viewReg ⟨hi, k.i, k.j⟩) := by
  rw [Chip.takeSnap_eq, Reg.partners_of_hiOf _ _ h ts]
  split
  · next now =>
    have : hi = .TIM_NOW_HI := by rw [now] at h; exact (Option.some.inj h).symm
    subst this
    exact (Chip.find?_snap_ne _ _ _ (by simp)).trans (c.find?_snap_self _)
  · exact c.find?_snap_self _

/-- A read of TIM_NOW_LO keeps what the fraction shows too. -/
theorem Chip.find?_takeSnap_frac (c : Chip) (k : RegKey) (now : k.reg = .TIM_NOW_LO) :
    (c.takeSnap k).snaps.find? (fun e => e.1 == ⟨.TIM_NOW_FRAC, k.i, k.j⟩) =
      some (⟨.TIM_NOW_FRAC, k.i, k.j⟩, c.viewReg ⟨.TIM_NOW_FRAC, k.i, k.j⟩) := by
  rw [Chip.takeSnap_eq, Reg.partners_of_hiOf k.reg .TIM_NOW_HI (now ▸ rfl) (by rw [now]; decide), if_pos now]
  exact Chip.find?_snap_self _ _

/-- A register whose snapshot is kept shows it. -/
theorem Chip.shown_of_find? {c : Chip} {k : RegKey} {w : Word} (h : c.snaps.find? (fun e => e.1 == k) = some (k, w)) :
    c.shown k = w := by
  simp only [Chip.shown, h]

/-! ### A read that passed its gate -/

/-- The device once a requester that may has cleared the RC fields that it read (R8, R618). -/
def Chip.readClears (c : Chip) (a : Access) (k : RegKey) : Chip :=
  if c.isOwner a.who then { c with regs := c.regs.set k (word (k.reg.clearedWord a.be (c.regs.get k).toNat)) } else c

/-- A read of a register without a rule of its own. -/
theorem Chip.regRead_eq (c : Chip) (a : Access) (k : RegKey) (cfg : k.reg ≠ .LPB_CFG_DATA) (ts : k.reg ≠ .TIM_TS_LO) :
    c.regRead a k = (word (enabledBytes a.be (k.reg.readWord (if a.full then c.shown k else c.viewReg k).toNat)),
      (if a.full then c.takeSnap k else c).readClears a k) := by
  simp [Chip.regRead, Chip.readClears, cfg, ts]

/-- The word that a read leaves in its register. -/
def Chip.wordRead (c : Chip) (a : Access) (k : RegKey) : Word :=
  word (if c.isOwner a.who then k.reg.clearedWord a.be (c.regs.get k).toNat else (c.regs.get k).toNat)

theorem Chip.readClears_get (c : Chip) (a : Access) (k k' : RegKey) :
    (c.readClears a k).regs.get k' = if k = k' then c.wordRead a k else c.regs.get k' := by
  unfold Chip.readClears Chip.wordRead
  split
  · exact RegFile.get_set _ _ _ _
  · split
    · next same => rw [same, word_toNat]
    · rfl

theorem Chip.readClears_snaps (c : Chip) (a : Access) (k : RegKey) : (c.readClears a k).snaps = c.snaps := by
  unfold Chip.readClears
  split <;> rfl

theorem Chip.readClears_eq (c : Chip) (a : Access) (k : RegKey) :
    c.readClears a k = { c with regs := (c.readClears a k).regs } := by
  unfold Chip.readClears
  split <;> rfl

/-- The frame of a read: its register, and nothing more where the read clears nothing of it. -/
theorem Chip.readClears_frame (c : Chip) (a : Access) (k : RegKey) (vals : List FieldVal)
    (covered : c.wordRead a k = c.regs.get k ∨ ∃ w, Reg.is k.reg w k.i k.j ∈ vals) :
    c.frame vals [] [] (c.readClears a k) := by
  refine ⟨fun k' b _ out => ?_, ?_⟩
  · rw [Chip.readClears_get]
    split
    · next same =>
      subst same
      obtain keeps | ⟨w, listed⟩ := covered
      · rw [keeps]
      · have high : ¬ b ≤ 31 := fun low => out _ listed ⟨rfl, Nat.zero_le _, low⟩
        rw [BitVec.getLsbD_of_ge _ _ (by omega), BitVec.getLsbD_of_ge _ _ (by omega)]
    · rfl
  · rw [Chip.readClears_eq]
    exact c.partsSame_refl _

/-- A read clears nothing of a register that is one plain field. -/
theorem Chip.wordRead_of_isWhole (c : Chip) (a : Access) (k : RegKey) (h : k.reg.isWhole = true) :
    c.wordRead a k = c.regs.get k := by
  simp only [Chip.wordRead, Reg.clearedWord_of_isWhole _ h, ite_self, word_toNat]

/-! ### Reads of an offset -/

/-- A read of a register that gate 109 allows is answered with its word. -/
theorem Dev.rowRead_reg (d : Dev) (a : Access) (off : Nat) (k : RegKey) (pantry : pantryAt off = none)
    (key : d.chip.keyAt off = some k) (judge : d.chip.judge 109 (d.chip.gateView a off false) = none) :
    ∃ c, d.chip.countsTo c ∧ d.rowRead a off = { d with chip := (c.regRead a k).2.answering [(c.regRead a k).1] } := by
  obtain ⟨c, counts, gate⟩ := d.chip.gate_of_judge_none _ _ judge
  exact ⟨c, counts, by simp [Dev.rowRead, Dev.busRead, pantry, gate, counts.keyAt, key, Dev.onChip]⟩

/-- A read of an offset without a register is answered with 0. -/
theorem Dev.rowRead_hole (d : Dev) (a : Access) (off : Nat) (pantry : pantryAt off = none) (key : d.chip.keyAt off = none)
    (judge : d.chip.judge 109 (d.chip.gateView a off false) = none) :
    ∃ c, d.chip.countsTo c ∧ d.rowRead a off = { d with chip := c.answering [0] } := by
  obtain ⟨c, counts, gate⟩ := d.chip.gate_of_judge_none _ _ judge
  exact ⟨c, counts, by simp [Dev.rowRead, Dev.busRead, pantry, gate, counts.keyAt, key, Dev.onChip]⟩

/-- A read of a Pantry window is answered with the bytes of the Pantry. -/
theorem Dev.rowRead_pantry (d : Dev) (a : Access) (off : Nat) (q : Nat × Nat) (pantry : pantryAt off = some q)
    (judge : d.chip.judge (96 + q.1) (d.chip.gateView a q.2 false) = none) :
    ∃ c, d.chip.countsTo c ∧
      d.rowRead a off = { d with chip := c.answering [word (enabledBytes a.be (leNat (d.mem.pantryRead q.1 q.2 4)))] } := by
  obtain ⟨c, counts, gate⟩ := d.chip.gate_of_judge_none _ _ judge
  exact ⟨c, counts, by simp [Dev.rowRead, Dev.busRead, pantry, Chip.pantryView, gate, Dev.onChip]⟩

/-- The device after a denied read: captured, logged and answered with nothing. -/
def Chip.afterDenied (c : Chip) (a : Access) (g r : Nat) (region : Option Nat) (x : GateAccess) : Chip :=
  ((c.capture g r region x).logDenied a false).answering []

/-- A read that gate 109 denies. -/
theorem Dev.rowRead_denied_reg (d : Dev) (a : Access) (off r : Nat) (pantry : pantryAt off = none)
    (judge : d.chip.judge 109 (d.chip.gateView a off false) = some r) :
    ∃ c region, d.chip.countsTo c ∧
      d.rowRead a off = { d with chip := c.afterDenied a 109 r region (d.chip.gateView a off false) } := by
  obtain ⟨c, region, counts, gate⟩ := d.chip.gate_of_judge_some _ _ r judge
  exact ⟨c, region, counts, by simp [Dev.rowRead, Dev.busRead, pantry, gate, Dev.onChip, Chip.afterDenied]⟩

/-- A read of a Pantry window that its gate denies. -/
theorem Dev.rowRead_denied_pantry (d : Dev) (a : Access) (off r : Nat) (q : Nat × Nat) (pantry : pantryAt off = some q)
    (judge : d.chip.judge (96 + q.1) (d.chip.gateView a q.2 false) = some r) :
    ∃ c region, d.chip.countsTo c ∧
      d.rowRead a off = { d with chip := c.afterDenied a (96 + q.1) r region (d.chip.gateView a q.2 false) } := by
  obtain ⟨c, region, counts, gate⟩ := d.chip.gate_of_judge_some _ _ r judge
  exact ⟨c, region, counts, by simp [Dev.rowRead, Dev.busRead, pantry, Chip.pantryView, gate, Dev.onChip, Chip.afterDenied]⟩

end Sys2Proof.Machine
end

section
/-! SUPPORT. The commands that read an offset, clause by clause of the statement about reads of the register bus. -/

namespace Sys2Proof.Machine

/-! ### Where TIM_NOW_LO lies -/

/-- A register at an offset is one of the CTR_WIN window, or a row of a block places it there. -/
theorem Chip.keyAt_cases (c : Chip) (off : Nat) (k : RegKey) (h : c.keyAt off = some k) :
    (∃ u x, winKey u x = some k) ∨ ∃ b : Blk, ∃ row ∈ b.rows, row.locate off = some k := by
  unfold Chip.keyAt at h
  split at h
  · cases h
  · split at h
    · exact .inl ⟨_, _, h⟩
    · split at h
      · cases h
      · next b _ => exact .inr ⟨b, List.exists_of_findSome?_eq_some h⟩

/-- The window CTR_WIN shows registers of the counter units. -/
theorem winKey_block (u x : Nat) (k : RegKey) (h : winKey u x = some k) : k.reg.block = .tct := by
  unfold winKey at h
  repeat' split at h
  all_goals cases h
  all_goals rfl

/-- A row without levels places one register. -/
theorem AddrRow.locate_flat (row : AddrRow) (off : Nat) (k : RegKey) (flat : row.dims = [])
    (h : row.locate off = some k) : k = ⟨row.reg, row.iOff, 0⟩ := by
  unfold AddrRow.locate at h
  rw [flat] at h
  split at h
  · cases h
  · unfold locateDims at h
    split at h
    · cases h; rfl
    · cases h

theorem AddrRow.locate_reg (row : AddrRow) (off : Nat) (k : RegKey) (h : row.locate off = some k) : k.reg = row.reg := by
  unfold AddrRow.locate at h
  split at h
  · cases h
  · obtain ⟨p, -, rfl⟩ := Option.map_eq_some_iff.mp h
    rfl

/-- TIM_NOW_LO has one row, of one register. -/
theorem Blk.rows_TIM_NOW_LO (b : Blk) : ∀ row ∈ b.rows, row.reg = .TIM_NOW_LO → row.dims = [] ∧ row.iOff = 0 := by
  cases b <;> decide +kernel

theorem Chip.keyAt_TIM_NOW_LO (c : Chip) (off : Nat) (k : RegKey) (h : c.keyAt off = some k) (now : k.reg = .TIM_NOW_LO) :
    k.i = 0 ∧ k.j = 0 := by
  obtain ⟨u, x, win⟩ | ⟨b, row, mem, place⟩ := c.keyAt_cases off k h
  · have block := winKey_block u x k win
    rw [now] at block
    cases block
  · obtain ⟨flat, zero⟩ := b.rows_TIM_NOW_LO row mem ((row.locate_reg off k place).symm.trans now)
    rw [row.locate_flat off k flat place]
    exact ⟨zero, rfl⟩

/-! ### What the commands that read an offset do -/

/-- A read of an offset answers a state whose device is as `Dev.rowRead` says and whose memories and queue are as before. -/
theorem sets_of_rowRead {i : Instr} {a : Access} {off : Nat} {s : State} {c : Chip} {vals : List FieldVal} {ps : List Part}
    {rs : List Reg} {more : Chip → Prop} (run : exec i s = .next (s.onDev fun d => d.rowRead a off)) (up : s.chip.coreUp = true)
    (read : Dev.rowRead { mem := s.mem, chip := s.chip } a off = { mem := s.mem, chip := c })
    (holds : ∀ e ∈ vals, e.holds c) (frame : s.chip.frame vals rs ps c) (rest : more c) : Sets i s vals ps rs more := by
  have result : s.onDev (fun d => d.rowRead a off) = { s with chip := c } := by
    simp only [State.onDev_up _ _ up, State.always, read]
  exact ⟨{ s with chip := c }, run.trans (congrArg _ result), ⟨rfl, rfl, holds, frame⟩, rest⟩

theorem reaches_of_rowRead {i : Instr} {a : Access} {off : Nat} {s : State} {c : Chip} {P : Chip → Prop}
    (run : exec i s = .next (s.onDev fun d => d.rowRead a off)) (up : s.chip.coreUp = true)
    (read : Dev.rowRead { mem := s.mem, chip := s.chip } a off = { mem := s.mem, chip := c }) (h : P c) : Reaches i s P := by
  have result : s.onDev (fun d => d.rowRead a off) = { s with chip := c } := by
    simp only [State.onDev_up _ _ up, State.always, read]
  exact ⟨{ s with chip := c }, run.trans (congrArg _ result), rfl, h⟩

/-- An answer after events that count. -/
theorem Chip.countsTo.frame_answering {c d : Chip} (h : c.countsTo d) (ws : List Word) :
    c.frame [] countRegs [.answer] (d.answering ws) :=
  Chip.frame_answer (Chip.frame_mono h.frame (by simp) (by simp) (by simp)) (by decide)

/-- A register that is not of the counter units is none that events count in. -/
theorem Reg.not_mem_countRegs (r : Reg) (h : r.block ≠ .tct) : r ∉ countRegs := by
  intro counts
  simp only [countRegs, List.mem_cons, List.not_mem_nil, or_false] at counts
  rcases counts with rfl | rfl | rfl <;> exact h rfl

/-- What a denied read leaves: no answer, the snapshots as they were, one more violation (R404, R405). -/
theorem Chip.afterDenied_spec {c d : Chip} (h : c.countsTo d) (a : Access) (g r : Nat) (region : Option Nat) (x : GateAccess) :
    (d.afterDenied a g r region x).answer = [] ∧ (d.afterDenied a g r region x).snaps = c.snaps ∧
      (d.afterDenied a g r region x).fld F.GAT_VIOL_COUNT.COUNT = c.counted F.GAT_VIOL_COUNT.COUNT := by
  have logged := (d.capture g r region x).logDenied_frame a false
  refine ⟨rfl, ?_, ?_⟩
  · obtain ⟨-, -, loggedSnaps, -⟩ := logged
    obtain ⟨-, -, capturedSnaps, -⟩ := d.capture_frame g r region x
    calc (d.afterDenied a g r region x).snaps = (d.capture g r region x).snaps := loggedSnaps (by decide)
      _ = (d.inc F.GAT_VIOL_COUNT.COUNT).snaps := capturedSnaps (by decide)
      _ = c.snaps := h.snaps
  · calc (d.afterDenied a g r region x).fld F.GAT_VIOL_COUNT.COUNT
        = (d.capture g r region x).fld F.GAT_VIOL_COUNT.COUNT := Chip.frame_fld logged _ _ _ (by simp) (by simp)
      _ = d.counted F.GAT_VIOL_COUNT.COUNT := d.capture_count g r region x
      _ = c.counted F.GAT_VIOL_COUNT.COUNT := by simp only [Chip.counted, h.fld F.GAT_VIOL_COUNT.COUNT 0 0 (by decide)]

/-! ### The clauses of the statement -/

section
variable (a : Access) (off : Fin 0x10000000) (s : State) (up : s.chip.coreUp = true)
include up

/-- A read of a register answers its enabled bytes and clears its RC fields for a requester that may. -/
theorem readClear_sets_register (pantry : pantryAt off = none) (k : RegKey) (key : s.chip.keyAt off = some k)
    (judge : s.chip.judge 109 (s.chip.gateView a off false) = none) (cfg : k.reg ≠ .LPB_CFG_DATA) (ts : k.reg ≠ .TIM_TS_LO)
    (alone : k.reg.partners = []) (tct : k.reg.block ≠ .tct) :
    Sets (.readClear a off) s [Reg.is k.reg (s.chip.wordRead a k) k.i k.j] [.answer] countRegs
      (fun c => c.answer = [word (enabledBytes a.be (k.reg.readWord (if a.full then s.chip.shown k else s.chip.viewReg k).toNat))]) := by
  obtain ⟨d, counts, read⟩ := Dev.rowRead_reg { mem := s.mem, chip := s.chip } a off k pantry key judge
  have snapless : (if a.full then d.takeSnap k else d) = d := by
    have same : d.takeSnap k = d := by rw [Chip.takeSnap_eq, alone]; rfl
    rw [same, ite_self]
  rw [d.regRead_eq a k cfg ts, snapless, counts.shown k tct, counts.viewReg k tct] at read
  have left : d.wordRead a k = s.chip.wordRead a k := by
    simp only [Chip.wordRead, counts.isOwner, counts.get k (k.reg.not_mem_countRegs tct)]
  refine sets_of_rowRead rfl up read ?_ ?_ rfl
  · simp only [List.mem_singleton, forall_eq, Reg.holds_is]
    exact (d.readClears_get a k k).trans ((if_pos rfl).trans left)
  · refine Chip.frame_answer (Chip.frame_trans (Chip.frame_mono counts.frame (by simp) (by simp) (by simp)) ?_) (by decide)
    exact Chip.frame_mono (d.readClears_frame a k _ (.inr ⟨_, List.mem_singleton_self _⟩))
      (fun e he => .inr ⟨e, he, rfl, rfl, rfl, Nat.le_refl _, Nat.le_refl _⟩) (by simp) (by simp)

/-- A read of an offset without a register answers 0. -/
theorem readClear_sets_hole (pantry : pantryAt off = none) (key : s.chip.keyAt off = none)
    (judge : s.chip.judge 109 (s.chip.gateView a off false) = none) :
    Sets (.readClear a off) s [] [.answer] countRegs (fun c => c.answer = [0]) := by
  obtain ⟨d, counts, read⟩ := Dev.rowRead_hole { mem := s.mem, chip := s.chip } a off pantry key judge
  exact sets_of_rowRead rfl up read (by simp) (counts.frame_answering _) rfl

/-- A read of a Pantry window answers its enabled bytes. -/
theorem readClear_sets_pantry (q : Nat × Nat) (pantry : pantryAt off = some q)
    (judge : s.chip.judge (96 + q.1) (s.chip.gateView a q.2 false) = none) :
    Sets (.readClear a off) s [] [.answer] countRegs
      (fun c => c.answer = [word (enabledBytes a.be (leNat (s.mem.pantryRead q.1 q.2 4)))]) := by
  obtain ⟨d, counts, read⟩ := Dev.rowRead_pantry { mem := s.mem, chip := s.chip } a off q pantry judge
  exact sets_of_rowRead rfl up read (by simp) (counts.frame_answering _) rfl

/-- A denied read answers nothing, takes no snapshot and is counted. -/
theorem read_reaches_denied (r : Nat)
    (judge : s.chip.judge (match pantryAt off with | some q => 96 + q.1 | none => 109)
      (s.chip.gateView a (match pantryAt off with | some q => q.2 | none => off.val) false) = some r)
    (i : Instr) (run : exec i s = .next (s.onDev fun d => d.rowRead a off)) :
    Reaches i s fun c => c.answer = [] ∧ c.snaps = s.chip.snaps ∧
      c.fld F.GAT_VIOL_COUNT.COUNT = s.chip.counted F.GAT_VIOL_COUNT.COUNT := by
  cases pantry : pantryAt off with
  | none =>
    simp only [pantry] at judge
    obtain ⟨d, region, counts, read⟩ := Dev.rowRead_denied_reg { mem := s.mem, chip := s.chip } a off r pantry judge
    exact reaches_of_rowRead run up read (Chip.afterDenied_spec counts ..)
  | some q =>
    simp only [pantry] at judge
    obtain ⟨d, region, counts, read⟩ := Dev.rowRead_denied_pantry { mem := s.mem, chip := s.chip } a off r q pantry judge
    exact reaches_of_rowRead run up read (Chip.afterDenied_spec counts ..)

/-- A read of the LO half of a pair: what it answers, and that it changes the snapshots alone. -/
theorem pairLoRead_sets (pantry : pantryAt off = none) (k : RegKey) (key : s.chip.keyAt off = some k)
    (judge : s.chip.judge 109 (s.chip.gateView a off false) = none) (ts : k.reg ≠ .TIM_TS_LO) (tct : k.reg.block ≠ .tct)
    (pair : k.reg.hiOf ≠ none) (ps : List Part) (answers : .answer ∈ ps) (snaps : a.full = true → .snaps ∈ ps)
    (more : Chip → Prop)
    (rest : ∀ d : Chip, s.chip.countsTo d →
      more (((if a.full then d.takeSnap k else d).readClears a k).answering
        [word (enabledBytes a.be (k.reg.readWord (if a.full then s.chip.shown k else s.chip.viewReg k).toNat))])) :
    Sets (.pairLoRead a off) s [] ps countRegs more := by
  have cfg : k.reg ≠ .LPB_CFG_DATA := fun q => pair (by rw [q]; rfl)
  obtain ⟨d, counts, read⟩ := Dev.rowRead_reg { mem := s.mem, chip := s.chip } a off k pantry key judge
  rw [d.regRead_eq a k cfg ts, counts.shown k tct, counts.viewReg k tct] at read
  have taken : s.chip.frame [] countRegs ps (if a.full then d.takeSnap k else d) := by
    have counted : s.chip.frame [] countRegs ps d := Chip.frame_mono counts.frame (by simp) (by simp) (by simp)
    split
    · next full =>
      exact Chip.frame_trans counted (Chip.frame_mono (d.takeSnap_frame k) (by simp) (by simp) (by simpa using snaps full))
    · exact counted
  refine sets_of_rowRead rfl up read (by simp) ?_ (rest d counts)
  refine Chip.frame_answer (Chip.frame_trans taken ?_) answers
  exact Chip.frame_mono (Chip.readClears_frame _ a k [] (.inl (Chip.wordRead_of_isWhole _ a k (k.reg.isWhole_of_hiOf pair))))
    (by simp) (by simp) (by simp)

/-- A full read of the LO half answers what the register shows, and its partners show from then on what they showed at the read. -/
theorem pairLoRead_sets_snapshot (pantry : pantryAt off = none) (k : RegKey) (key : s.chip.keyAt off = some k)
    (judge : s.chip.judge 109 (s.chip.gateView a off false) = none) (full : a.full = true) (ts : k.reg ≠ .TIM_TS_LO)
    (tct : k.reg.block ≠ .tct) (hi : Reg) (pair : k.reg.hiOf = some hi) :
    Sets (.pairLoRead a off) s [] [.answer, .snaps] countRegs
      (fun c => c.answer = [s.chip.shown k] ∧ c.shown ⟨hi, k.i, k.j⟩ = s.chip.viewReg ⟨hi, k.i, k.j⟩ ∧
        (k.reg = .TIM_NOW_LO → c.shown ⟨.TIM_NOW_FRAC, 0, 0⟩ = s.chip.viewReg ⟨.TIM_NOW_FRAC, 0, 0⟩)) := by
  have isPair : k.reg.hiOf ≠ none := by simp [pair]
  refine pairLoRead_sets a off s up pantry k key judge ts tct isPair _ (by decide) (by simp) _ fun d counts => ?_
  rw [if_pos full, if_pos full]
  have kept {h : RegKey} {w : Word} (found : (d.takeSnap k).snaps.find? (fun e => e.1 == h) = some (h, w)) (ws : List Word) :
      (((d.takeSnap k).readClears a k).answering ws).shown h = w :=
    Chip.shown_of_find? (by rw [Chip.answering_snaps, Chip.readClears_snaps, found])
  refine ⟨?_, ?_, fun now => ?_⟩
  · rw [Reg.readWord_of_isWhole _ (k.reg.isWhole_of_hiOf isPair), enabledBytes_of_full a full, word_toNat]
    rfl
  · rw [kept (d.find?_takeSnap_hi k hi pair ts)]
    exact counts.viewReg _ (k.reg.block_of_hiOf hi pair ▸ tct)
  · obtain ⟨i0, j0⟩ := s.chip.keyAt_TIM_NOW_LO off k key now
    have frac := d.find?_takeSnap_frac k now
    rw [i0, j0] at frac
    rw [kept frac]
    exact counts.viewReg _ (by decide)

end

/-- Settles O25: a gate changes nothing that a register outside the counter units shows (`Chip.viewReg_withRegs`), so each read
shows what the state before it showed. -/
theorem busReads : Obligations.BusReads := by
  refine ⟨fun a off s up pantry k key judge cfg ts alone tct => ?_, fun a off s up pantry key judge => ?_,
    fun a off s up q pantry judge => ?_, fun a off s up r judge i hi => ?_,
    fun a off s up pantry k key judge full ts tct hi pair => ?_, fun a off s up pantry k key judge notFull ts tct pair => ?_⟩
  · exact readClear_sets_register a off s up pantry k key judge cfg ts alone tct
  · exact readClear_sets_hole a off s up pantry key judge
  · exact readClear_sets_pantry a off s up q pantry judge
  · have run : exec i s = .next (s.onDev fun d => d.rowRead a off) := by
      simp only [List.mem_cons, List.not_mem_nil, or_false] at hi
      rcases hi with rfl | rfl <;> rfl
    exact read_reaches_denied a off s up r judge i run
  · exact pairLoRead_sets_snapshot a off s up pantry k key judge full ts tct hi pair
  · exact pairLoRead_sets a off s up pantry k key judge ts tct pair _ (by decide) (by simp [notFull]) _ fun _ _ => trivial

end Sys2Proof.Machine
end

section
/-! SUPPORT. Two statements of the register bus fail for operands that their hypotheses let in: a colour of more than four bits, and a
configuration address that is no multiple of 4. -/

namespace Sys2Proof.Machine

/-! ### A colour above 15 (R391) runs into the GATE field of the capture (R405) -/

/-- Gate 109 lets no master write. -/
def shutState : State := { chip := { gat := { live := [(⟨.GAT_GATE_DEF, 109, 0⟩, 0)] } } }

/-- Ecseric's access with the standing of a host of colour 1024, of which R391 knows none: bit 10 of the colour lies
above the COLOUR field and on GATE. -/
def wideColour : Access := { who := .fw, st := some { master := .host, colour := 1024 } }

/-- The write of GLB_ID with it is denied, and GATE captures 110. -/
theorem shutState_captures (t : State) (run : exec (.registerWrite wideColour 0 0) shutState = .next t) :
    t.chip.fld F.GAT_VIOL_STATUS.GATE = 110 := by
  cases run
  decide +kernel

/-- Refutes O23: its fourth clause promises that a denied write captures GATE = 109, but nothing bounds the colour of the access
(`Access.wf` is no hypothesis of it), and the fifth bit of a colour and those above lie on DEFAULT, REGION and GATE. -/
theorem not_busWrites : ¬ Obligations.BusWrites := by
  intro h
  obtain ⟨-, -, -, denied, -⟩ := h
  obtain ⟨t, run, -, -, -, -, captured⟩ := denied wideColour 0 0 shutState (by decide +kernel) (by decide +kernel) ⟨.GLB_ID, 0, 0⟩
    (by decide +kernel) (by decide) (by decide +kernel) (by decide +kernel) 1 (by decide +kernel) (by decide) (by decide) (by decide)
    (.registerWrite wideColour 0 0) (List.mem_cons_self ..)
  obtain ⟨gate, -⟩ := captured (by decide +kernel)
  exact absurd ((shutState_captures t run).symm.trans gate) (by decide)

/-! ### A configuration address that is no multiple of 4 cuts the completion in two -/

/-- Port 95 is the upstream port of partition 3 with its link up, and bus 5 its secondary bus, in mode 1. -/
def hostState : State :=
  { chip := { regs := [(⟨.GLB_MODE, 0, 0⟩, 0x9091), (⟨.PRT_PORT_CFG, 95, 0⟩, 0x98060300), (⟨.PRT_LINK_STATUS, 95, 0⟩, 0x811C0400)]
              cfg := [((Fn.port 95).num * 0x4000 + 0x18, 0x060504)] } }

/-- A configuration read of the management function, 126 bytes into the space. -/
def oddRead : Packet := { kind := .cfgRd, idRoute := 0x500, addr := 126, len := 4 }

/-- The answer leaves in two completions of two bytes, cut at 128; the later one stands first. -/
theorem hostState_answers (t : State) (run : exec (.configRequest 3 oddRead) hostState = .next t) :
    ∀ q ∈ ((hostState.chip.newOuts t.chip).filterMap (·.tlpOn 95)).head?, q.data.length = 2 := by
  cases run
  decide +kernel

/-- Refutes O26: its fourth clause promises that the last completion to leave holds the whole register, but nothing makes the address
of the request a multiple of 4, and the completion of a read at 126 is cut at the 128 of Max_Payload_Size. -/
theorem not_pairsAndConfigRequests : ¬ Obligations.PairsAndConfigRequests := by
  intro h
  obtain ⟨-, -, -, read, -⟩ := h
  obtain ⟨t, run, -, q, last, -, -, -, -, data, -⟩ := read 3 oddRead hostState (by decide +kernel) 95 (by decide +kernel)
    (by decide +kernel) rfl rfl rfl rfl (by decide) rfl rfl rfl (by decide +kernel) (by decide +kernel) (by decide +kernel)
    (by decide +kernel) (.mgmt 3) (by decide +kernel)
  have short := hostState_answers t run q last
  rw [data] at short
  exact absurd short (by simp [leBytes])

end Sys2Proof.Machine
end

section
/-! SUPPORT. A statement of the operating modes fails for a port whose lanes do not lie in its own tile (R88). -/

namespace Sys2Proof.Machine

/-! ### A Fleren port that straddles two tiles -/

/-- After reset, in mode 0x9, with tile 1 alone enabled: port 0 of tile 0 is a Fleren port of two lanes from lane 15 of its tile on,
so that its second lane is the first of tile 1, and the reference of tile 0 runs. -/
def straddlingState : State :=
  { chip := { regs := [(⟨.GLB_TILE_EN, 0, 0⟩, 0b10), (⟨.SDS_REF_STATUS, 0, 0⟩, 1), (⟨.PRT_PORT_CFG, 0, 0⟩, 0xC2F00000)] } }

/-- Ecseric's write that enables tile 0 and disables tile 1 stops the lanes of tile 1; then port 0 leaves DISABLED and makes its
second lane ACTIVE again. -/
theorem straddlingState_lane (t : State) (run : exec (.tileEnableWrite { who := .fw } 0b01) straddlingState = .next t) :
    t.chip.laneState 16 = lnActive := by
  cases run
  decide +kernel

/-- Refutes O35: its clause on tiles that a write of GLB_TILE_EN disables promises that their lanes are OFF, but nothing says that
LANE_BASE is a multiple of WIDTH (R88), and a Fleren port of a tile that the same write enables may own a lane of such a tile. -/
theorem not_modesAndQuiesce : ¬ Obligations.ModesAndQuiesce := by
  intro h
  obtain ⟨-, -, -, -, -, -, -, -, -, tiles, -⟩ := h
  obtain ⟨t, run, -, -, -, disabled⟩ := tiles { who := .fw } 0b01 straddlingState straddlingState.chip
    ⟨by decide +kernel, by decide +kernel⟩ (by decide) (by decide +kernel)
  obtain ⟨-, -, lanesOff⟩ := disabled 1 (by decide) (by decide +kernel) (by decide +kernel)
  exact absurd ((straddlingState_lane t run).symm.trans (lanesOff 0 (by decide))) (by decide)

end Sys2Proof.Machine
end

section
/-! SUPPORT. What the readings of the lookup share with a device that differs in counters of events (R570). -/

namespace Sys2Proof.Machine

section
variable {c : Chip} {m : RegFile} (h : m.plain = c.regs.plain)
include h

theorem Chip.isProxy_withRegs (p : Nat) : (c.withRegs m).isProxy p = c.isProxy p := by
  simp (disch := decide) only [Chip.isProxy, Chip.fabricMode_withRegs h, Chip.flag_withRegs h]

theorem Chip.hierPart?_withRegs (n : Nat) : (c.withRegs m).hierPart? n = c.hierPart? n := by
  simp (disch := decide) only [Chip.hierPart?, Chip.role_withRegs h, Chip.portPart_withRegs h, Chip.isProxy_withRegs h,
    Chip.reg_withRegs h]

theorem Chip.portLook_withRegs (n : Nat) (p : Packet) (a : Arr) : (c.withRegs m).portLook n p a = c.portLook n p a := by
  simp (disch := decide) only [Chip.portLook, Chip.hierPart?_withRegs h, Chip.role_withRegs h, Chip.fld_withRegs h]

theorem Chip.rxViol?_withRegs (n : Nat) (p : Packet) : (c.withRegs m).rxViol? n p = c.rxViol? n p := by
  simp only [Chip.rxViol?, Chip.role_withRegs h]
  rfl

theorem Chip.capRule?_withRegs (n : Nat) (p : Packet) : (c.withRegs m).capRule? n p = c.capRule? n p := by
  simp (disch := decide) only [Chip.capRule?, Chip.capMatches, Chip.capWindow, Chip.capFld, Chip.pair, Chip.fld_withRegs h,
    Chip.reg_withRegs h]
  rfl

theorem Chip.liveFlacons_withRegs : (c.withRegs m).liveFlacons = c.liveFlacons := by
  have counts (e : RegKey × Word) (he : e.1.reg ∈ countRegs) : e.1.reg ≠ .GLB_FLC_A := fun q => absurd (q ▸ he) (by decide)
  unfold Chip.liveFlacons
  rw [← RegFile.filterMap_plain c.regs _ fun e he => by simp [counts e he], ← h,
    RegFile.filterMap_plain m _ fun e he => by simp [counts e he]]
  rfl

theorem Chip.cardFlc?_withRegs (n : Nat) (p : Packet) : (c.withRegs m).cardFlc? n p = c.cardFlc? n p := by
  simp (disch := decide) only [Chip.cardFlc?, Chip.flaconMode, Chip.flaconsOn, Chip.opMode_withRegs h, Chip.role_withRegs h,
    Chip.liveFlacons_withRegs h, Chip.fld_withRegs h, Chip.flag_withRegs h]
  rfl

theorem Chip.segWindow?_withRegs (io : Bool) (a : Nat) : (c.withRegs m).segWindow? io a = c.segWindow? io a := by
  simp (disch := decide) only [Chip.segWindow?, Chip.segHbase, Chip.pair, Chip.fld_withRegs h, Chip.flag_withRegs h,
    Chip.reg_withRegs h]

theorem Chip.segAddr_withRegs (w a : Nat) : (c.withRegs m).segAddr w a = c.segAddr w a := by
  simp (disch := decide) only [Chip.segAddr, Chip.fld_withRegs h, Chip.reg_withRegs h]

theorem Chip.segHit_withRegs (q : Option Nat) (p : Packet) : (c.withRegs m).segHit q p = c.segHit q p := by
  simp (disch := decide) only [Chip.segHit, Chip.segOwner, Chip.segWindow?_withRegs h, Chip.fld_withRegs h]
  rfl

theorem Chip.mgmtBar?_withRegs (p a : Nat) : (c.withRegs m).mgmtBar? p a = c.mgmtBar? p a := by
  simp (disch := decide) only [Chip.mgmtBar?, Chip.hasBar4, Chip.bar4Size, Chip.fld_withRegs h, Chip.opMode_withRegs h]
  rfl

theorem Chip.portsOf_withRegs (p : Nat) : (c.withRegs m).portsOf p = c.portsOf p := by
  simp only [Chip.portsOf, Chip.isPcie_withRegs h, Chip.role_withRegs h, Chip.portPart_withRegs h]

theorem Chip.lentPorts_withRegs (q : Nat) : (c.withRegs m).lentPorts q = c.lentPorts q := by
  simp (disch := decide) only [Chip.lentPorts, Chip.isPcie_withRegs h, Chip.role_withRegs h, Chip.reg_withRegs h]

theorem Chip.routeMem_withRegs (p u : Nat) (n : Option Nat) (k : Packet) : (c.withRegs m).routeMem p u n k = c.routeMem p u n k := by
  simp (disch := decide) only [Chip.routeMem, Chip.downPorts_withRegs h, Chip.rdpCount_withRegs h, Chip.mgmtBar?_withRegs h,
    Chip.portsOf_withRegs h, Chip.segHit_withRegs h, Chip.rdpHit, Chip.fld_withRegs h]
  rfl

theorem Chip.routeProxy_withRegs (q : Nat) (n : Option Nat) (k : Packet) : (c.withRegs m).routeProxy q n k = c.routeProxy q n k := by
  simp (disch := decide) only [Chip.routeProxy, Chip.lentPorts_withRegs h, Chip.homeHit, Chip.fld_withRegs h]
  rfl

theorem Chip.resolve_withRegs_of_memWr (q : Nat) (n : Option Nat) (k : Packet) (write : k.kind = .memWr) :
    (c.withRegs m).resolve (some q) n k = c.resolve (some q) n k := by
  simp only [Chip.resolve, write, Chip.isProxy_withRegs h, Chip.upPort?_withRegs h, Chip.routeProxy_withRegs h,
    Chip.routeMem_withRegs h]

theorem Chip.linkLive_withRegs (n : Nat) : (c.withRegs m).linkLive n = c.linkLive n := by
  simp (disch := decide) only [Chip.linkLive, Chip.isFleren_withRegs h, Chip.fld_withRegs h, Chip.flag_withRegs h]
  rfl

theorem Chip.acs_withRegs (n p rid : Nat) (k : Packet) (d : Dest) : (c.withRegs m).acs n p rid k d = c.acs n p rid k d := by
  simp only [Chip.acs, Chip.upPort?_withRegs h, Chip.isPcie_withRegs h, Chip.role_withRegs h]
  rfl

theorem Chip.destViol?_withRegs (k : Packet) (d : Dest) : (c.withRegs m).destViol? k d = c.destViol? k d := by
  simp only [Chip.destViol?, Chip.isPcie_withRegs h]
  rfl

theorem Chip.gateOf?_withRegs (d : Dest) (k : Packet) : (c.withRegs m).gateOf? d k = c.gateOf? d k := by
  simp only [Chip.gateOf?, Chip.isPcie_withRegs h, Chip.role_withRegs h, Chip.segWindow?_withRegs h, Chip.segAddr_withRegs h]

theorem Chip.admitting_withRegs : (c.withRegs m).admitting = c.admitting := by
  simp only [Chip.admitting, Chip.opMode_withRegs h]
  rfl

end

end Sys2Proof.Machine
end

section
/-! SUPPORT. What a packet passes on its way to a destination, in a device that looks alike (Table 5.1). -/

namespace Sys2Proof.Machine

theorem Chip.countsTo.cel {c d : Chip} (h : c.countsTo d) : d.cel = c.cel := by
  obtain ⟨m, rfl, -⟩ := h
  rfl

theorem Chip.countsTo.ns {c d : Chip} (h : c.countsTo d) : d.ns = c.ns := by
  obtain ⟨m, rfl, -⟩ := h
  rfl

/-- The devices differ in their Cellar and in counters of events, and in nothing else. -/
def Chip.looksAs (c d : Chip) : Prop :=
  ∃ (l : CelH) (m : RegFile), d = ({ c with cel := l } : Chip).withRegs m ∧ m.plain = c.regs.plain

theorem Chip.countsTo.looksAs {c d : Chip} (h : c.countsTo d) : c.looksAs d := by
  obtain ⟨m, same, plain⟩ := h
  exact ⟨c.cel, m, same, plain⟩

theorem Chip.looksAs_cel (c : Chip) (l : CelH) : c.looksAs { c with cel := l } := ⟨l, c.regs, rfl, rfl⟩

theorem Chip.looksAs.countsTo {c d e : Chip} (h : c.looksAs d) (g : d.countsTo e) : c.looksAs e := by
  obtain ⟨l, m, rfl, plain⟩ := h
  obtain ⟨f, rfl, same⟩ := g
  exact ⟨l, f, rfl, same.trans plain⟩

/-! ### What a packet passes on its way to a destination -/

/-- A copy that its gate allows changes counters of events alone, here as in a device that looks alike. -/
theorem Chip.looksAs.gateAllows {c d : Chip} (h : c.looksAs d) (t : Dest) (k : Packet) (st : Standing) (rid : Nat) (q : Option Nat)
    (allowed : (c.gateAllows t k st rid q).1 = true) : ∃ e, d.countsTo e ∧ d.gateAllows t k st rid q = (true, e) := by
  have same : d.gateOf? t k = c.gateOf? t k := by
    obtain ⟨l, m, rfl, plain⟩ := h
    exact Chip.gateOf?_withRegs plain t k
  have alike (g : Nat) (x : GateAccess) : d.judge g x = c.judge g x := by
    obtain ⟨l, m, rfl, plain⟩ := h
    exact Chip.judge_withRegs plain g x
  unfold Chip.gateAllows at allowed ⊢
  rw [same]
  cases target : c.gateOf? t k with
  | none => exact ⟨d, d.countsTo_refl, rfl⟩
  | some g =>
    simp only [target] at allowed ⊢
    cases judged : c.judge g.1 ⟨st, g.2, k.gateReads, k.gateWrites, k.isIo, if st.master = .firmware then 0 else rid, q⟩ with
    | none =>
      obtain ⟨e, counts, gate⟩ := d.gate_of_judge_none _ _ ((alike _ _).trans judged)
      exact ⟨e, counts, by rw [gate]⟩
    | some r =>
      obtain ⟨e, region, -, gate⟩ := c.gate_of_judge_some _ _ r judged
      rw [gate] at allowed
      cases allowed

/-- A choice whose first branch has no answer. -/
theorem fst_ite_none {α β : Type} {b : Prop} [Decidable b] {a : α} {f : Option β × α} {u : β}
    (h : (if b then (none, a) else f).1 = some u) : ¬ b ∧ f.1 = some u := by
  split at h
  · cases h
  · next no => exact ⟨no, h⟩

/-- A packet that passes to a destination changes counters of events alone, here as in a device that looks alike. -/
theorem Chip.looksAs.passes {c d : Chip} (h : c.looksAs d) (x : Look) (t u : Dest) (pass : (c.passes x t).1 = some u) :
    ∃ e, d.countsTo e ∧ d.passes x t = (some u, e) := by
  have allow := h.gateAllows u x.pkt x.st x.oRid x.part
  obtain ⟨l, m, rfl, plain⟩ := h
  let c' : Chip := { c with cel := l }
  have bme (f : Fn) : (c'.withRegs m).bme f = c.bme f := rfl
  have isPcie (n : Nat) : (c'.withRegs m).isPcie n = c.isPcie n := Chip.isPcie_withRegs plain n
  have role (n : Nat) : (c'.withRegs m).role n = c.role n := Chip.role_withRegs plain n
  have portPart (n : Nat) : (c'.withRegs m).portPart n = c.portPart n := Chip.portPart_withRegs plain n
  have acs (n p rid : Nat) (k : Packet) (d : Dest) : (c'.withRegs m).acs n p rid k d = c.acs n p rid k d :=
    Chip.acs_withRegs plain n p rid k d
  have destViol (k : Packet) (d : Dest) : (c'.withRegs m).destViol? k d = c.destViol? k d := Chip.destViol?_withRegs plain k d
  have linkLive (n : Nat) : (c'.withRegs m).linkLive n = c.linkLive n := Chip.linkLive_withRegs plain n
  have segment : (c'.withRegs m).flag F.LPB_STATUS.RST_ACTIVE = c.flag F.LPB_STATUS.RST_ACTIVE :=
    Chip.flag_withRegs plain _ _ _ (by decide)
  unfold Chip.passes at pass ⊢
  simp only [c'] at bme isPcie role portPart acs destViol linkLive segment
  simp only [bme, isPcie, role, portPart, acs, destViol, linkLive, segment] at pass ⊢
  split at pass
  · cases pass
  · cases pass
  · cases pass
  next viol =>
  split at pass
  · cases pass
  next v aim =>
  obtain ⟨onCard, pass⟩ := fst_ite_none pass
  rw [if_neg onCard]
  split at pass
  · cases pass
  next onUp =>
  obtain ⟨live, pass⟩ := fst_ite_none pass
  rw [if_neg live]
  split at pass
  next e gate =>
    cases pass
    obtain ⟨e, counts, same⟩ := allow (by rw [gate])
    exact ⟨e, counts, by rw [same]⟩
  next => cases pass

end Sys2Proof.Machine
end

section
/-! SUPPORT. A copy that enters the Cellar at step 8 of the lookup (R188, R189). -/

namespace Sys2Proof.Machine

/-- Access control sends a packet for a port on to that port or up (R118). -/
theorem Chip.acs_port (c : Chip) (n p rid : Nat) (k : Packet) (m : Nat) (u : Dest) (sent : c.acs n p rid k (.port m) = some u) :
    ∃ w, u = .port w := by
  unfold Chip.acs at sent
  cases up : c.upPort? p with
  | none =>
    simp only [up] at sent
    grind
  | some w =>
    simp only [up] at sent
    grind

/-- A packet for a port leaves, when it passes, by a port. -/
theorem Chip.passes_port (c : Chip) (x : Look) (m : Nat) (u : Dest) (pass : (c.passes x (.port m)).1 = some u) :
    ∃ w, u = .port w := by
  unfold Chip.passes at pass
  dsimp only at pass
  split at pass
  · cases pass
  · cases pass
  · cases pass
  split at pass
  · cases pass
  next v aim =>
  have aimed : ∃ w, v = .port w := by
    split at aim
    · exact c.acs_port _ _ _ _ _ _ aim
    · cases aim
      exact ⟨m, rfl⟩
  obtain ⟨-, pass⟩ := fst_ite_none pass
  split at pass
  · cases pass
  obtain ⟨-, pass⟩ := fst_ite_none pass
  split at pass
  · cases pass
    exact aimed
  · cases pass

/-! ### A copy that enters the Cellar -/

/-- The same copy, but for what its entry decides. -/
def Copy.settled (k k' : Copy) : Prop :=
  ∃ charge cells at_ deferred, k' = { k with charge := charge, cells := cells, at_ := at_, deferred := deferred }

/-- A copy enters: it stands in the Cellar or waits, and no other copy and no receive credit changes. -/
def Chip.takes (c c' : Chip) (k : Copy) : Prop :=
  c'.cel.owed = c.cel.owed ∧ ∃ k', k.settled k' ∧
    (c'.cel.copies = c.cel.copies ++ [k'] ∧ c'.cel.waiting = c.cel.waiting ∨
      c'.cel.copies = c.cel.copies ∧ c'.cel.waiting = c.cel.waiting ++ [k'])

/-- The devices hold the same copies and owe the same receive credits. -/
def Chip.holdsAs (c c' : Chip) : Prop :=
  c'.cel.owed = c.cel.owed ∧ c'.cel.copies = c.cel.copies ∧ c'.cel.waiting = c.cel.waiting

theorem Chip.holdsAs_of_cel {c c' : Chip} (h : c'.cel = c.cel) : c.holdsAs c' := by
  unfold Chip.holdsAs
  simp only [h, and_self]

theorem Chip.holdsAs.takes {c d e : Chip} {k : Copy} (h : c.holdsAs d) (t : d.takes e k) : c.takes e k := by
  obtain ⟨owed, copies, waiting⟩ := h
  simpa only [Chip.takes, owed, copies, waiting] using t

/-- What its entry decides does not tell copies apart. -/
theorem Chip.takes_of_settled {c c' : Chip} {k l : Copy} (same : k.settled l) (h : c.takes c' l) : c.takes c' k := by
  obtain ⟨_, _, _, _, rfl⟩ := same
  obtain ⟨owed, k', ⟨charge, cells, at_, deferred, rfl⟩, place⟩ := h
  exact ⟨owed, _, ⟨charge, cells, at_, deferred, rfl⟩, place⟩

theorem Chip.takes_ite {c d e : Chip} {k : Copy} {b : Prop} [Decidable b] (h : c.takes d k) (g : c.takes e k) :
    c.takes (if b then d else e) k := by
  split
  · exact h
  · exact g

theorem Copy.settled_charge (k : Copy) (charge : Charge) : k.settled { k with charge := charge } :=
  ⟨charge, k.cells, k.at_, k.deferred, rfl⟩

theorem Chip.takes_wait (c : Chip) (k : Copy) : c.takes (c.wait k) k :=
  ⟨rfl, k, ⟨k.charge, k.cells, k.at_, k.deferred, rfl⟩, .inr ⟨rfl, rfl⟩⟩

theorem Chip.takes_wait_charge (c : Chip) (k : Copy) (charge : Charge) : c.takes (c.wait { k with charge := charge }) k :=
  Chip.takes_of_settled (k.settled_charge charge) (c.takes_wait _)

theorem Chip.holdsAs_chargeSlots (c : Chip) (k : Copy) : c.holdsAs (c.chargeSlots k) := by
  unfold Chip.chargeSlots
  extract_lets new port
  split
  · exact Chip.holdsAs_of_cel rfl
  · exact ⟨rfl, rfl, rfl⟩

theorem Chip.holdsAs_trans {c d e : Chip} (h : c.holdsAs d) (g : d.holdsAs e) : c.holdsAs e := by
  obtain ⟨owed, copies, waiting⟩ := h
  simpa only [Chip.holdsAs, owed, copies, waiting] using g

theorem Chip.holdsAs_pulse (c : Chip) (u code : Nat) : c.holdsAs (c.pulse u code) :=
  Chip.holdsAs_of_cel (c.countsTo_pulse u code 1).cel

theorem Chip.holdsAs_ite {c d e : Chip} {b : Prop} [Decidable b] (h : c.holdsAs d) (g : c.holdsAs e) :
    c.holdsAs (if b then d else e) := by
  split
  · exact h
  · exact g

theorem Chip.takes_push (c : Chip) (k : Copy) : c.takes (c.push k) k := by
  unfold Chip.push
  extract_lets reserve charged told
  have same : c.holdsAs told := by
    have enter : c.holdsAs charged :=
      Chip.holdsAs_ite (Chip.holdsAs_trans (c.holdsAs_pulse _ _) (Chip.holdsAs_chargeSlots _ _)) (Chip.holdsAs_of_cel rfl)
    exact Chip.holdsAs_ite (Chip.holdsAs_trans enter (charged.holdsAs_pulse _ _)) enter
  refine same.takes ?_
  split
  next at_ d drawn =>
  have cel : d.cel = told.cel := by
    split at drawn
    · cases drawn
      rfl
    · cases drawn
      rfl
  exact ⟨by rw [cel], _, ⟨k.charge, k.cells, at_, k.deferred, rfl⟩, .inl ⟨by rw [cel], by rw [cel]⟩⟩

theorem Chip.takes_push_charge (c : Chip) (k : Copy) (charge : Charge) : c.takes (c.push { k with charge := charge }) k :=
  Chip.takes_of_settled (k.settled_charge charge) (c.takes_push _)

/-- A request that the shared pool has no cell for takes its guarantee or waits (R189). -/
theorem Chip.takes_takeHome (c : Chip) (k : Copy) (request : k.cat ≠ .completion) : c.takes (c.takeHome k) k := by
  unfold Chip.takeHome
  simp only [if_neg request]
  split
  · exact c.takes_push_charge k .slots
  · exact Chip.takes_ite (c.takes_push_charge k .guarantee) (c.takes_wait k)
  · exact c.takes_wait k

/-- A request, the first copy of its packet, that reaches step 8 enters (R188, R189). -/
theorem Chip.takes_takeIn (c : Chip) (k : Copy) (request : k.cat ≠ .completion) (first : k.first = true) :
    c.takes (c.takeIn k) k := by
  unfold Chip.takeIn
  rw [if_pos first]
  split
  · exact c.takes_wait_charge k _
  split
  · exact c.takes_push k
  · exact Chip.takes_ite (c.takes_push_charge k .mgmt) (c.takes_wait k)
  split
  · exact c.takes_takeHome k request
  split
  · exact Chip.takes_of_settled (l := { k with charge := .shared, deferred := false }) ⟨.shared, k.cells, k.at_, false, rfl⟩
      (c.takes_push _)
  rw [if_neg (by simp [first])]
  exact c.takes_takeHome k request

/-- A request, the first copy of its packet, enters (R188, R189). -/
theorem Chip.takes_enqueue (c : Chip) (k : Copy) (request : k.cat ≠ .completion) (first : k.first = true) :
    c.takes (c.enqueue k) k := by
  unfold Chip.enqueue
  rw [if_pos first]
  extract_lets behind
  split
  · exact c.takes_wait_charge k _
  · exact Chip.holdsAs.takes (Chip.holdsAs_ite (Chip.holdsAs_of_cel rfl) (c.holdsAs_pulse _ _)) (Chip.takes_takeIn _ k request first)

theorem Chip.countsTo.firstMeter? {c d : Chip} (h : c.countsTo d) (x : Look) : d.firstMeter? x = c.firstMeter? x := by
  obtain ⟨m, rfl, plain⟩ := h
  simp (disch := decide) only [Chip.firstMeter?, Chip.overhead, Chip.fld_withRegs plain, Chip.flag_withRegs plain]

/-! ### One packet that goes on to one destination -/

/-- The copy for `d` that a packet with one destination makes, before its entry. -/
def Look.single (x : Look) (c : Chip) (d : Dest) (k : Packet) : Copy :=
  { ({ x with pkt := k }).copy (c.cel.nextId + 1) c.cel.nextId d true with seen := c.ns }

theorem Look.single_congr (x : Look) {c e : Chip} (counts : c.countsTo e) (d : Dest) (k : Packet) :
    x.single e d k = x.single c d k := by
  unfold Look.single
  rw [counts.cel, counts.ns]

/-- A copy of a memory write is posted, under a fabric header too. -/
theorem Copy.cat_of_memWr (k : Copy) (write : k.pkt.kind = .memWr) : k.cat = .posted := by
  have posted : k.pkt.cat = .posted := by simp only [Packet.cat, write]
  unfold Copy.cat
  split
  · exact ite_eq_right_iff.2 fun _ => posted
  · exact posted

theorem Chip.takes_place (c : Chip) (x : Look) (d : Dest) (k : Packet) (write : k.kind = .memWr) :
    c.takes (c.place x [(d, k)] true) (x.single c d k) := by
  have enter (l : Copy) (same : (x.single c d k).settled l) (w : l.pkt.kind = .memWr) (first : l.first = true) :
      c.takes ((c.newIds 2).2.enqueue l) (x.single c d k) :=
    Chip.takes_of_settled same
      (Chip.holdsAs.takes (d := (c.newIds 2).2) ⟨rfl, rfl, rfl⟩ (Chip.takes_enqueue _ l (by rw [l.cat_of_memWr w]; decide) first))
  show c.takes ((c.newIds 2).2.enqueue (if (c.newIds 2).2.local? x d true then { x.single c d k with charge := .none, cells := 0 }
    else x.single c d k)) _
  split
  · exact enter _ ⟨_, _, _, _, rfl⟩ write rfl
  · exact enter _ ⟨_, _, _, _, rfl⟩ write rfl

/-- A memory write that passes to its one destination, and that no meter sees, enters (Table 5.1). -/
theorem Chip.takes_toDests (c : Chip) (x : Look) (t d : Dest) (k : Packet) (write : k.kind = .memWr) (admits : c.admitting = true)
    (pass : (c.passes { x with pkt := k } t).1 = some d) (free : c.firstMeter? x = none) :
    c.takes (c.toDests x [(t, k)]) (x.single c d k) := by
  obtain ⟨e, counts, passed⟩ := c.countsTo_refl.looksAs.passes _ _ _ pass
  have free : e.firstMeter? x = none := (counts.firstMeter? x).trans free
  have entered := e.takes_place x d k write
  simp only [Chip.toDests, admits, Bool.not_true, Bool.false_eq_true, if_false, List.foldl_cons, List.foldl_nil, passed, Chip.meter,
    free, List.nil_append]
  rw [x.single_congr counts] at entered
  exact (Chip.holdsAs_of_cel counts.cel).takes entered

end Sys2Proof.Machine
end

section
/-! SUPPORT. Memory writes of PCI Express ports and of engines on their way through the lookup (R174, R187, R372). -/

namespace Sys2Proof.Machine

/-- A memory write is no event message. -/
theorem Packet.isEvent_of_memWr (k : Packet) (write : k.kind = .memWr) : k.isEvent = false := by
  have other : (k.kind == PktKind.msg) = false := by rw [write]; rfl
  rw [Packet.isEvent, other, Bool.false_and, Bool.false_and]

/-- A memory write whose lookup finds one port, outside a multicast group and a window toward the segment, is routed there. -/
theorem Chip.lookReq_of_port (c : Chip) (x : Look) (n q m : Nat) (write : x.pkt.kind = .memWr) (part : x.part = some q)
    (group : c.mcGroup? n x.pkt.addr = none) (refuses : c.partRefuses q = false) (seg : c.segHit (some q) x.pkt = none)
    (hit : c.resolve (some q) (some n) x.pkt = .dests [.port m]) : c.lookReq x (some n) = c.toDests x [(.port m, x.pkt)] := by
  have apart : c.overlaps (some q) x.pkt (.dests [.port m]) = false := by
    show (_ && (c.segHit (some q) x.pkt).isSome && _) = false
    rw [seg, Option.isSome_none, Bool.and_false, Bool.false_and]
  have noGroup (b : Bool) : ((if b then c.mcFn? q (some n) else none).bind fun f => c.mcGroup? f x.pkt.addr) = none := by
    cases b
    · rfl
    · exact group
  unfold Chip.lookReq
  simp only [part, hit, apart, refuses, x.pkt.isEvent_of_memWr write, Bool.false_eq_true, if_false, Bool.false_and, noGroup,
    List.map_cons, List.map_nil]

/-- A packet that no request slot of a card and no message takes is looked up (R263). -/
theorem Chip.portReq_of_memWr (c : Chip) (x : Look) (n : Nat) (write : x.pkt.kind = .memWr) (flacon : c.cardFlc? n x.pkt = none) :
    c.portReq x n = c.lookReq x (some n) := by
  simp only [Chip.portReq, flacon, x.pkt.isEvent_of_memWr write, Bool.false_and, Bool.false_eq_true, if_false]

/-- The device after the events with which a packet of a port begins its lookup. -/
def Chip.arrived (c : Chip) (n : Nat) : Chip := (c.pulse (portUnit n) 0x10).pulse (tileUnit (tileOf n)) 0x10

theorem Chip.countsTo_arrived (c : Chip) (n : Nat) : c.countsTo (c.arrived n) :=
  Chip.countsTo_trans (c.countsTo_pulse _ _ _) (Chip.countsTo_pulse _ _ _ _)

/-- A request of a port without a violation, which no capture takes and which stands behind none, reaches its lookup (Table 5.1). -/
theorem Dev.portIn_of_memWr (d : Dev) (n : Nat) (p : Packet) (a : Arr) (write : p.kind = .memWr)
    (behind : (d.chip.arrived n).capBehind n = false) (viol : (d.chip.arrived n).rxViol? n p = none)
    (capture : (d.chip.arrived n).capRule? n p = none) :
    d.portIn n p a = d.onChip fun c => (c.arrived n).portReq ((c.arrived n).portLook n p a) n := by
  have request : (p.kind == PktKind.cpl) = false := by rw [write]; rfl
  simp only [Chip.arrived] at behind viol capture
  simp only [Dev.portIn, Dev.onChip, Chip.arrived, behind, viol, capture, request, Bool.false_eq_true, if_false]

/-- What a memory write of a port meets on its way to one port: no request slot of a card, no multicast group, no meter, no window
toward the segment, and a partition that takes requests. -/
structure Chip.RoutesTo (c : Chip) (n q m : Nat) (p : Packet) : Prop where
  write : p.kind = .memWr
  flacon : c.cardFlc? n p = none
  group : c.mcGroup? n p.addr = none
  meter : c.fld F.SCH_FLOW_MAP.VALID n p.cls = 0
  admits : c.admitting = true
  part : c.hierPart? n = some q
  accepts : c.partRefuses q = false
  seg : c.segHit (some q) p = none
  hit : c.resolve (some q) (some n) p = .dests [.port m]

theorem Chip.looksAs.routesTo {c e : Chip} (h : c.looksAs e) {n q m : Nat} {p : Packet} (r : c.RoutesTo n q m p) :
    e.RoutesTo n q m p := by
  obtain ⟨l, f, rfl, plain⟩ := h
  exact
    { write := r.write
      flacon := (Chip.cardFlc?_withRegs plain _ _).trans r.flacon
      group := r.group
      meter := (Chip.fld_withRegs plain _ _ _ (by decide)).trans r.meter
      admits := (Chip.admitting_withRegs plain).trans r.admits
      part := (Chip.hierPart?_withRegs plain _).trans r.part
      accepts := (Chip.partRefuses_withRegs plain _).trans r.accepts
      seg := (Chip.segHit_withRegs plain _ _).trans r.seg
      hit := (Chip.resolve_withRegs_of_memWr plain _ _ _ r.write).trans r.hit }

theorem Chip.looksAs.portLook {c e : Chip} (h : c.looksAs e) (n : Nat) (p : Packet) (a : Arr) :
    e.portLook n p a = c.portLook n p a := by
  obtain ⟨l, f, rfl, plain⟩ := h
  exact Chip.portLook_withRegs plain n p a

/-- A memory write of a port that passes to the port of its address enters. -/
theorem Chip.takes_portReq (c : Chip) (n q m : Nat) (p : Packet) (a : Arr) (d : Dest) (r : c.RoutesTo n q m p)
    (pass : (c.passes (c.portLook n p a) (.port m)).1 = some d) :
    c.takes (c.portReq (c.portLook n p a) n) ((c.portLook n p a).single c d { p with fab := none }) := by
  have part : (c.portLook n p a).part = some q := r.part
  have free : c.firstMeter? (c.portLook n p a) = none := by
    have request : p.kind ≠ .cpl := by rw [r.write]; decide
    have unmapped : c.flag F.SCH_FLOW_MAP.VALID n p.cls = false := by rw [Chip.flag, r.meter]; rfl
    simp only [Chip.firstMeter?, Chip.portLook, if_neg request, unmapped, Bool.false_eq_true, if_false]
  rw [c.portReq_of_memWr _ n r.write r.flacon, c.lookReq_of_port _ n q m r.write part r.group r.accepts r.seg r.hit]
  exact c.takes_toDests _ _ _ _ r.write r.admits pass free

/-! ### Receive credits and Ecseric's own copies -/

/-- While no copy is for the device itself, it takes none. -/
theorem Dev.ownRun_of_none (d : Dev) (others : ∀ k ∈ d.chip.cel.copies, k.dest ≠ .mgmt) : d.ownRun = d := by
  have empty : (d.chip.cel.copies.filter fun k => k.dest == .mgmt && k.charge == .none) = [] := by
    simp +contextual [List.filter_eq_nil_iff, others]
  simp only [Dev.ownRun, empty, List.filter_nil, List.foldl_nil]

/-- The receive credits that stay owed are those that a packet still holds (R187). -/
theorem Chip.returnCredits_owed (c : Chip) : c.returnCredits.cel.owed = c.cel.owed.filter fun e => c.holdsCredits e.rx := by
  simp only [Chip.returnCredits, List.partition_eq_filter_filter]
  rfl

theorem Chip.holdsCredits_returnCredits (c : Chip) (rx : Nat) : c.returnCredits.holdsCredits rx = c.holdsCredits rx := rfl

theorem Chip.returnCredits_copies (c : Chip) : c.returnCredits.cel.copies = c.cel.copies := rfl

theorem Chip.returnCredits_waiting (c : Chip) : c.returnCredits.cel.waiting = c.cel.waiting := rfl

/-- No copy in the Cellar is for the device itself. -/
def Chip.ownless (c : Chip) : Prop := ∀ k ∈ c.cel.copies, k.dest ≠ .mgmt

theorem Chip.ownless_of_all {c : Chip} (h : (c.cel.copies.all fun k => k.dest != .mgmt) = true) : c.ownless := by
  simpa only [Chip.ownless, List.all_eq_true, bne_iff_ne] using h

/-- A copy that is not for the device itself leaves a Cellar without copies for the device itself. -/
theorem Chip.takes.ownless {c c' : Chip} {k : Copy} (h : c.takes c' k) (others : c.ownless) (other : k.dest ≠ .mgmt) :
    c'.ownless := by
  obtain ⟨-, k', ⟨_, _, _, _, rfl⟩, ⟨copies, -⟩ | ⟨copies, -⟩⟩ := h
  · intro w hw
    rw [copies, List.mem_append, List.mem_singleton] at hw
    rcases hw with old | rfl
    · exact others w old
    · exact other
  · rwa [Chip.ownless, copies]

/-- The copy that entered is held. -/
theorem Chip.takes.held {c c' : Chip} {k : Copy} (h : c.takes c' k) :
    ∃ k', k.settled k' ∧ (k' ∈ c'.cel.copies ∨ k' ∈ c'.cel.waiting) := by
  obtain ⟨-, k', same, ⟨copies, -⟩ | ⟨-, waiting⟩⟩ := h
  · exact ⟨k', same, .inl (by simp [copies])⟩
  · exact ⟨k', same, .inr (by simp [waiting])⟩

/-- A packet holds its receive credits while a copy of it waits, or stands in the Cellar on its port's guarantee (R187). -/
theorem Chip.holdsCredits_of_copy (c : Chip) (k : Copy) (rx : Nat) (its : k.rx = some rx)
    (held : k ∈ c.cel.copies ∨ k ∈ c.cel.waiting) (charge : k.charge = .guarantee) : c.holdsCredits rx = true := by
  unfold Chip.holdsCredits
  rcases held with here | waits
  · have stands : (c.cel.copies.any fun k => k.rx == some rx && (k.charge == .guarantee || !k.whole)) = true :=
      List.any_eq_true.2 ⟨k, here, by simp [its, charge]⟩
    simp only [stands, Bool.or_true]
  · have stands : (c.cel.waiting.any fun k => k.rx == some rx) = true := List.any_eq_true.2 ⟨k, waits, by simp [its]⟩
    simp only [stands, Bool.true_or]

/-- A posted memory write of a PCI Express port enters for the port of its address (R174, R187, R188). -/
theorem Dev.pcieIn_of_memWr (d : Dev) (n q m : Nat) (p : Packet) (whole : Bool) (u : Dest) (r : d.chip.RoutesTo n q m p)
    (captures : d.chip.cel.capWaiting = []) (viol : d.chip.rxViol? n p = none) (capture : d.chip.capRule? n p = none)
    (own : d.chip.ownless)
    (pass : (d.chip.passes (d.chip.portLook n p { stamp := d.chip.ns, whole, rx := some d.chip.cel.nextId }) (.port m)).1 = some u) :
    let c := (d.pcieIn n p whole).chip
    ∃ k ∈ c.cel.copies ++ c.cel.waiting,
      k.rx = some d.chip.cel.nextId ∧ k.dest = u ∧ k.pkt = { p with fab := none } ∧ k.src = .port n ∧ k.part = some q ∧
        k.stamp = d.chip.ns ∧ k.whole = whole ∧
        (k.charge = .guarantee → ⟨d.chip.cel.nextId, n, .posted, divUp p.data.length 16⟩ ∈ c.cel.owed) ∧
        ∀ e ∈ c.cel.owed, c.holdsCredits e.rx = true := by
  let a : Arr := { stamp := d.chip.ns, whole, rx := some d.chip.cel.nextId }
  let x := d.chip.portLook n p a
  let c₁ := (d.chip.takeCredits n p).2
  let c₂ := c₁.arrived n
  have counts : c₁.countsTo c₂ := c₁.countsTo_arrived n
  have alike : d.chip.looksAs c₂ := (d.chip.looksAs_cel c₁.cel).countsTo counts
  have look : c₂.portLook n p a = x := alike.portLook n p a
  have entry : c₂.capBehind n = false ∧ c₂.rxViol? n p = none ∧ c₂.capRule? n p = none := by
    refine ⟨?_, ?_⟩
    · have captures : c₂.cel.capWaiting = [] := by rw [counts.cel]; exact captures
      rw [Chip.capBehind, captures, List.any_nil]
    · obtain ⟨l, f, same, plain⟩ := alike
      rw [same]
      exact ⟨(Chip.rxViol?_withRegs plain n p).trans viol, (Chip.capRule?_withRegs plain n p).trans capture⟩
  obtain ⟨behind, viol, capture⟩ := entry
  obtain ⟨e, -, passed⟩ := alike.passes _ _ _ pass
  have entered : c₂.takes (c₂.portReq x n) (x.single c₂ u { p with fab := none }) := by
    have pass : (c₂.passes x (.port m)).1 = some u := by rw [passed]
    rw [← look] at pass ⊢
    exact c₂.takes_portReq n q m p a u (alike.routesTo r) pass
  obtain ⟨w, rfl⟩ := d.chip.passes_port _ _ _ pass
  have own : (c₂.portReq x n).ownless := by
    refine entered.ownless ?_ (by simp [Look.single, Look.copy])
    unfold Chip.ownless
    rw [counts.cel]
    exact own
  have run : (d.pcieIn n p whole).chip = (c₂.portReq x n).returnCredits := by
    have enter := Dev.portIn_of_memWr { d with chip := c₁ } n p a r.write behind viol capture
    have idle := Dev.ownRun_of_none { d with chip := c₂.portReq (c₂.portLook n p a) n } (by rw [look]; exact own)
    show (((Dev.portIn { d with chip := c₁ } n p a).ownRun).onChip Chip.returnCredits).chip = _
    rw [enter, ← look]
    exact congrArg (fun d => (d.onChip Chip.returnCredits).chip) idle
  obtain ⟨k, ⟨charge, cells, at_, deferred, same⟩, held⟩ := entered.held
  have owed : (c₂.portReq x n).cel.owed =
      d.chip.cel.owed ++ [⟨d.chip.cel.nextId, n, .posted, divUp p.data.length 16⟩] := by
    have cat : p.cat = .posted := by simp only [Packet.cat, r.write]
    obtain ⟨owed, -⟩ := entered
    rw [owed, counts.cel, ← cat]
    rfl
  rw [run]
  refine ⟨k, List.mem_append.2 held, by rw [same]; rfl, by rw [same]; rfl, by rw [same]; rfl, by rw [same]; rfl, ?_, by rw [same]; rfl,
    by rw [same]; rfl, fun guarantee => ?_, fun e he => ?_⟩
  · rw [same]
    exact r.part
  · rw [Chip.returnCredits_owed, List.mem_filter]
    exact ⟨by simp [owed], Chip.holdsCredits_of_copy _ k _ (by rw [same]; rfl) held guarantee⟩
  · rw [Chip.returnCredits_owed, List.mem_filter] at he
    exact he.2

/-! ### Writes of engines -/

/-- An engine whose bus is on, with nothing before it, sends a write to a Pantry at once (R372). -/
theorem Chip.engineSend_of_idle (c : Chip) (e j w : Nat) (p : Packet) (bus : c.windowOff j w = false)
    (pantry : c.fld F.ACD_DST_A.KIND (j / 32) w = 1) (waits : c.engWaits e = false) (idle : (c.eng e).out = []) :
    c.engineSend e j w p = c.engineEnter e j w p := by
  have off : c.busOff (c.windowPart j w) = false := (Bool.or_eq_false_iff.1 bus).1
  have kind : c.flag F.ACD_DST_A.KIND (j / 32) w = true := by rw [Chip.flag, pantry]; rfl
  have held : c.outHeld e { job := j, win := w, pkt := some p } = false := by
    simp only [Chip.outHeld, waits, Chip.outOff, off, kind, Bool.not_true, Bool.false_and, Bool.or_self]
  simp only [Chip.engineSend, Chip.engineOut, idle, held, List.isEmpty_nil, Bool.not_false, Bool.and_self, if_true, Chip.outGo]

/-- What a write of an engine meets on its way to a Pantry: a window that names the Pantry, no meter, and a partition that takes
requests. -/
structure Chip.WritesTo (c : Chip) (e j w t : Nat) (p : Packet) : Prop where
  write : p.kind = .memWr
  kind : c.fld F.ACD_DST_A.KIND (j / 32) w = 1
  tile : c.fld F.ACD_DST_A.TILE (j / 32) w = t
  meter : c.fld F.ACD_DST_A.METER_VALID (j / 32) w = 0
  admits : c.admitting = true
  accepts : ∀ q : Nat, (c.engineLook e j w p).part = some q → c.partRefuses q = false

/-- A write of an engine for a Pantry goes on to it (R372). -/
theorem Chip.engineEnter_of_writesTo (c : Chip) (e j w t : Nat) (p : Packet) (r : c.WritesTo e j w t p) :
    c.engineEnter e j w p = (c.pulse (tileUnit (e / 128)) 0x10).toDests (c.engineLook e j w p)
      [(.pantry t, { (c.engineLook e j w p).pkt with addr := p.addr % pantrySize })] := by
  have counts := c.countsTo_pulse (tileUnit (e / 128)) 0x10 1
  have kind : (c.pulse (tileUnit (e / 128)) 0x10).flag F.ACD_DST_A.KIND (j / 32) w = true := by
    rw [Chip.flag, counts.fld _ _ _ (by decide), r.kind]
    rfl
  have accepts (q : Nat) (part : (c.engineLook e j w p).part = some q) : (c.pulse (tileUnit (e / 128)) 0x10).partRefuses q = false := by
    obtain ⟨m, same, plain⟩ := counts
    rw [same, Chip.partRefuses_withRegs plain]
    exact r.accepts q part
  unfold Chip.engineEnter
  simp only [kind, counts.fld F.ACD_DST_A.TILE (j / 32) w (by decide), r.tile, if_true]
  cases part : (c.engineLook e j w p).part with
  | none => rfl
  | some q => simp only [accepts q part, Bool.false_eq_true, if_false]

/-- A write of an engine that passes to a Pantry enters for it (R372). -/
theorem Chip.takes_engineEnter (c : Chip) (e j w t : Nat) (p : Packet) (r : c.WritesTo e j w t p)
    (pass : (c.passes { c.engineLook e j w p with pkt := { (c.engineLook e j w p).pkt with addr := p.addr % pantrySize } }
      (.pantry t)).1 = some (.pantry t)) :
    c.takes (c.engineEnter e j w p)
      ((c.engineLook e j w p).single c (.pantry t) { (c.engineLook e j w p).pkt with addr := p.addr % pantrySize }) := by
  have counts := c.countsTo_pulse (tileUnit (e / 128)) 0x10 1
  have admits : (c.pulse (tileUnit (e / 128)) 0x10).admitting = true := by
    obtain ⟨m, same, plain⟩ := counts
    rw [same, Chip.admitting_withRegs plain, r.admits]
  have free : (c.pulse (tileUnit (e / 128)) 0x10).firstMeter? (c.engineLook e j w p) = none := by
    have unmetered : c.flag F.ACD_DST_A.METER_VALID (j / 32) w = false := by rw [Chip.flag, r.meter]; rfl
    rw [counts.firstMeter?]
    simp only [Chip.firstMeter?, Chip.engineLook, unmetered, Bool.false_and, Bool.false_eq_true, if_false, Option.map_none, ite_self]
  obtain ⟨f, -, passed⟩ := counts.looksAs.passes _ _ _ pass
  have entered := (c.pulse (tileUnit (e / 128)) 0x10).takes_toDests (c.engineLook e j w p) (.pantry t) (.pantry t)
    { (c.engineLook e j w p).pkt with addr := p.addr % pantrySize } r.write admits (by rw [passed]) free
  rw [c.engineEnter_of_writesTo e j w t p r]
  rw [(c.engineLook e j w p).single_congr counts] at entered
  exact (Chip.holdsAs_of_cel counts.cel).takes entered

end Sys2Proof.Machine
end

section
/-! SUPPORT. Packets that enter: engines that wait, firmware that stalls, ports that find a violation (R372, R121, Table 3.9). -/

namespace Sys2Proof.Machine

theorem Dev.enginePacket_of_write (d : Dev) (e j w : Nat) (p : Packet) (job : d.chip.jobOf? e = some j) (write : p.kind = .memWr)
    (bus : d.chip.windowOff j w = false) (own : (d.chip.engineSend e j w p).ownless) :
    d.enginePacket e w p = { d with chip := d.chip.engineSend e j w p } := by
  have idle := Dev.ownRun_of_none { d with chip := d.chip.engineSend e j w p } own
  simp only [Dev.enginePacket, job, write, bus, Bool.not_false, decide_true, Bool.and_self, if_true]
  exact idle

/-- A write of an engine to a Pantry, with nothing before it, enters for that Pantry with the class of its window (R372). -/
theorem Dev.enginePacket_enters (d : Dev) (e j w t : Nat) (p : Packet) (r : d.chip.WritesTo e j w t p) (job : d.chip.jobOf? e = some j)
    (bus : d.chip.windowOff j w = false) (waits : d.chip.engWaits e = false) (idle : (d.chip.eng e).out = []) (own : d.chip.ownless)
    (pass : (d.chip.passes { d.chip.engineLook e j w p with
      pkt := { (d.chip.engineLook e j w p).pkt with addr := p.addr % pantrySize } } (.pantry t)).1 = some (.pantry t)) :
    let c := (d.enginePacket e w p).chip
    ∃ k ∈ c.cel.copies ++ c.cel.waiting,
      k.id = d.chip.cel.nextId + 1 ∧ k.dest = .pantry t ∧ k.pkt.data = p.data ∧ k.pkt.addr = p.addr % pantrySize ∧
        k.src = .engine e ∧ k.pkt.cls = d.chip.fld F.ACD_DST_A.CLASS (j / 32) w := by
  have entered := d.chip.takes_engineEnter e j w t p r pass
  rw [← d.chip.engineSend_of_idle e j w p bus r.kind waits idle] at entered
  have own := entered.ownless own (by simp [Look.single, Look.copy])
  rw [d.enginePacket_of_write e j w p job r.write bus own]
  obtain ⟨k, ⟨_, _, _, _, rfl⟩, held⟩ := entered.held
  exact ⟨_, List.mem_append.2 held, rfl, rfl, rfl, rfl, rfl, rfl⟩

/-- A request of an engine that stands behind another of its requests waits there (R372). -/
theorem Chip.engineSend_of_waiting (c : Chip) (e j w : Nat) (p : Packet) (behind : c.engWaits e = true ∨ (c.eng e).out ≠ []) :
    c.engineSend e j w p = c.updEng e fun h => { h with out := h.out ++ [{ job := j, win := w, pkt := some p }] } := by
  have held : ¬ ((c.eng e).out.isEmpty && !c.outHeld e { job := j, win := w, pkt := some p }) = true := by
    rcases behind with waits | busy
    · simp [Chip.outHeld, waits]
    · simp [busy]
  exact if_neg held

theorem Chip.eng_updEng (c : Chip) (e k : Nat) (f : EngH → EngH) : (c.updEng e f).eng k = if e = k then f (c.eng e) else c.eng k := by
  simp only [Chip.eng, Chip.updEng, Table.get_set]

theorem Chip.updEng_frame (c : Chip) (e : Nat) (f : EngH → EngH) : c.frame [] [] [.acd] (c.updEng e f) :=
  Chip.frame_acd (Chip.frame_refl _ _ _ _) (by decide)

/-! ### Requests of firmware that stall -/

/-- The requests `ps` stall in partition `q`, after those that did before, and nothing else changes (R121). -/
def Chip.stalls (c c' : Chip) (q : Nat) (ps : List Packet) : Prop :=
  c.frame [] [] [.parts] c' ∧ (c'.part q).stalled.map (·.pkt) = (c.part q).stalled.map (·.pkt) ++ ps ∧
    ∀ r : Nat, r ≠ q → c'.part r = c.part r

theorem Chip.stalls_refl (c : Chip) (q : Nat) : c.stalls c q [] := ⟨Chip.frame_refl _ _ _ _, by simp, fun _ _ => rfl⟩

theorem Chip.stalls_trans {a b c : Chip} {q : Nat} {ps qs : List Packet} (h : a.stalls b q ps) (g : b.stalls c q qs) :
    a.stalls c q (ps ++ qs) := by
  obtain ⟨frame, stalled, other⟩ := h
  obtain ⟨frame', stalled', other'⟩ := g
  exact ⟨Chip.frame_trans frame frame', by rw [stalled', stalled, List.append_assoc], fun r hr => (other' r hr).trans (other r hr)⟩

/-- A request stalls in its partition, where a request of the device stands from then on behind it. -/
theorem Chip.stall_stalls (c : Chip) (k : Copy) (q : Nat) (part : k.part = some q) :
    c.stalls (c.stall k) q [k.pkt] ∧ (c.stall k).masterHeld (some q) = true := by
  have own : (c.stall k).part q = { c.part q with stalled := (c.part q).stalled ++ [k] } := by simp [Chip.stall, part]
  refine ⟨⟨Chip.frame_parts (Chip.frame_refl _ _ _ _) (by decide), by simp [own], fun r hr => ?_⟩, ?_⟩
  · simp [Chip.stall, part, Ne.symm hr]
  · simp [Chip.masterHeld, own]

/-- A request of firmware in a partition whose requests are held stalls (R121). -/
theorem Dev.firmwareOne_of_held (d : Dev) (q : Nat) (p : Packet) (kind : p.kind ≠ .cpl) (held : d.chip.masterHeld (some q) = true) :
    ∃ c, d.firmwareOne (some q) p = { d with chip := c } ∧ d.chip.stalls c q [p] ∧ c.masterHeld (some q) = true := by
  let again : Copy :=
    { id := 0, pid := 0, pkt := p, src := .firmware, part := some q, dest := .mgmt, stamp := d.chip.ns, cells := 0, charge := .none }
  refine ⟨_, ?_, d.chip.stall_stalls again q rfl⟩
  simp only [Dev.firmwareOne, if_neg kind, held, Bool.true_or, if_true]
  rfl

theorem Dev.firmware_foldl_of_held (ps : List Packet) (d : Dev) (q : Nat) (kinds : ∀ p ∈ ps, p.kind ≠ .cpl)
    (held : d.chip.masterHeld (some q) = true) :
    ∃ c, ps.foldl (fun d k => d.firmwareOne (some q) k) d = { d with chip := c } ∧ d.chip.stalls c q ps := by
  induction ps generalizing d with
  | nil => exact ⟨d.chip, rfl, d.chip.stalls_refl q⟩
  | cons p ps ih =>
    obtain ⟨c, one, stalled, held⟩ := d.firmwareOne_of_held q p (kinds p (by simp)) held
    obtain ⟨c', rest, stalled'⟩ := ih { d with chip := c } (fun p hp => kinds p (by simp [hp])) held
    exact ⟨c', by rw [List.foldl_cons, one, rest], Chip.stalls_trans stalled stalled'⟩

/-- The pieces of a request are requests of its kind. -/
theorem Packet.kind_of_mem_cut (p k : Packet) (m : Nat) (piece : k ∈ p.cut m) : k.kind = p.kind := by
  unfold Packet.cut at piece
  split at piece
  · obtain ⟨q, -, rfl⟩ := List.mem_map.1 piece
    rfl
  · obtain ⟨q, -, rfl⟩ := List.mem_map.1 piece
    rfl
  · rw [List.mem_singleton.1 piece]

/-- A request of firmware in a partition without Bus Master Enable, or behind older ones that stalled, stalls (R120, R121). -/
theorem Dev.firmwarePacket_stalls (d : Dev) (q : Nat) (p : Packet) (kind : p.kind ≠ .cpl)
    (held : d.chip.bme (.mgmt q) = false ∧ d.chip.partRefuses q = false ∨ (d.chip.part q).stalled ≠ []) :
    ∃ c, d.firmwarePacket (some q) p = { d with chip := c } ∧
      d.chip.stalls c q (p.cut (d.chip.ownSize (some q) (p.kind == .memRd))) := by
  refine Dev.firmware_foldl_of_held _ d q (fun k hk => by rw [p.kind_of_mem_cut k _ hk]; exact kind) ?_
  rcases held with ⟨bme, takes⟩ | stalled
  · simp [Chip.masterHeld, Chip.busOff, bme, takes]
  · simp [Chip.masterHeld, stalled]

/-! ### What a PCI Express port does with a packet before the lookup -/

/-- The registers and the parts of the device that a violation of a partner reaches after it is noted (R570, R470). -/
def violationRegs : List Reg := countRegs ++ faultRegs

def violationParts : List Part := .flt :: aerParts

/-- A violation of a partner is noted at its port; the rest is an event, an error at the port, and a message. -/
theorem Chip.violation_frame (c : Chip) (n code : Nat) :
    ((c.setFld F.PRT_VIOL_LAST.CODE code n).inc F.PRT_VIOL_COUNT.COUNT n).frame [] violationRegs violationParts (c.violation n code) := by
  let noted := (c.setFld F.PRT_VIOL_LAST.CODE code n).inc F.PRT_VIOL_COUNT.COUNT n
  have widen {rs : List Reg} {ps : List Part} {a b : Chip} (h : a.frame [] rs ps b) (hr : ∀ r ∈ rs, r ∈ violationRegs)
      (hp : ∀ p ∈ ps, p ∈ violationParts) : a.frame [] violationRegs violationParts b := Chip.frame_mono h (by simp) hr hp
  have event : noted.frame [] violationRegs violationParts (noted.pulse (portUnit n) 0x1F) :=
    widen (noted.pulse_frame _ _ _) (by decide) (by decide)
  have error (b : Nat) : noted.frame [] violationRegs violationParts ((noted.pulse (portUnit n) 0x1F).aer n b none) :=
    Chip.frame_trans event (widen (Chip.aer_frame _ _ _ _) (by decide) (by decide))
  unfold Chip.violation
  refine Chip.frame_trans ?_ (widen (Chip.raiseViol_frame _ _ _ _ _) (by decide) (by decide))
  refine Chip.frame_ite _ ?_ event
  split
  · exact error _
  · exact event

/-- A change that does not reach the Cellar leaves it as it is. -/
theorem Chip.frame_cel_same {vals : List FieldVal} {rs : List Reg} {ps : List Part} {a b : Chip} (h : a.frame vals rs ps b)
    (m : .cel ∉ ps) : b.cel = a.cel := by
  obtain ⟨-, -, -, -, -, -, -, -, cel, -⟩ := h
  exact cel m

/-- A violation of a partner is counted, its code is kept, and the Cellar stays as it is (Table 3.9). -/
theorem Chip.violation_noted (c : Chip) (n code : Nat) (fits : code < 2 ^ (F.PRT_VIOL_LAST.CODE.hi + 1 - F.PRT_VIOL_LAST.CODE.lo)) :
    (c.violation n code).fld F.PRT_VIOL_LAST.CODE n = code ∧
      (c.violation n code).fld F.PRT_VIOL_COUNT.COUNT n = c.counted F.PRT_VIOL_COUNT.COUNT n ∧ (c.violation n code).cel = c.cel := by
  have frame := c.violation_frame n code
  have cellar := Chip.frame_cel_same frame (by decide)
  refine ⟨?_, ?_, cellar⟩
  · rw [Chip.frame_fld frame F.PRT_VIOL_LAST.CODE n 0 (by decide) (by simp)]
    exact (Chip.fld_setFld_apart _ F.PRT_VIOL_COUNT.COUNT _ _ _ _ _ _ (by decide) (by decide)).trans
      (Chip.fld_setFld_fits _ _ _ _ _ (by decide) fits)
  · rw [Chip.frame_fld frame F.PRT_VIOL_COUNT.COUNT n 0 (by decide) (by simp), Chip.fld_inc_self _ _ _ _ (by decide)]
    simp only [Chip.counted, Chip.fld_setFld_apart c F.PRT_VIOL_LAST.CODE F.PRT_VIOL_COUNT.COUNT code n 0 n 0 (by decide) (by decide)]

/-- A flow control error is a violation, and the link goes into Recovery (Table 3.9). -/
theorem Chip.flowControl_noted (c : Chip) (n : Nat) :
    let c' := (c.violation n 0x02).setFld F.PRT_LINK_STATUS.LTSSM 5 n
    c'.fld F.PRT_VIOL_LAST.CODE n = 2 ∧ c'.fld F.PRT_VIOL_COUNT.COUNT n = c.counted F.PRT_VIOL_COUNT.COUNT n ∧
      c'.fld F.PRT_LINK_STATUS.LTSSM n = 5 ∧ c'.cel = c.cel := by
  obtain ⟨code, count, cellar⟩ := c.violation_noted n 2 (by decide)
  exact ⟨(Chip.fld_setFld_apart _ _ _ _ _ _ _ _ (by decide) (by decide)).trans code,
    (Chip.fld_setFld_apart _ _ _ _ _ _ _ _ (by decide) (by decide)).trans count,
    Chip.fld_setFld_fits _ _ _ _ _ (by decide) (by decide),
    (Chip.setFld_cel _ _ _ _ _).trans cellar⟩

/-- What a PCI Express port with a live link does with a packet. -/
theorem Dev.portPacket_of_live (d : Dev) (n : Nat) (p : Packet) (whole : Bool) (pcie : d.chip.isPcie n = true)
    (live : d.chip.linkLive n = true) :
    d.portPacket n p whole .accepted = d.pcieIn n p whole ∧
      d.portPacket n p whole .flowControl = (d.onChip fun c => (c.violation n 0x02).setFld F.PRT_LINK_STATUS.LTSSM 5 n) ∧
      d.portPacket n p whole .overflow = d.onChip fun c => c.violation n 0x03 := by
  simp only [Dev.portPacket, pcie, live, Bool.and_self, if_true, and_self]

/-- The link of a Fleren port that is up is live. -/
theorem Chip.linkLive_of_flUp (c : Chip) (n : Nat) (fleren : c.isFleren n = true) (up : c.flUp n = true) : c.linkLive n = true := by
  simp only [Chip.flUp, fleren, Bool.true_and, Bool.or_eq_true, beq_iff_eq] at up
  simp only [Chip.linkLive, fleren, if_true, Bool.and_eq_true, decide_eq_true_eq]
  omega

/-- A port whose link is not up, or that is disabled, takes no packet in. -/
theorem Dev.portPacket_of_down (d : Dev) (n : Nat) (p : Packet) (whole : Bool) (rx : RxState)
    (down : d.chip.linkLive n = false ∨ d.chip.portEn n = false) : d.portPacket n p whole rx = d := by
  have pcie : (d.chip.isPcie n && d.chip.linkLive n) = false := by
    rcases down with down | down
    · rw [down, Bool.and_false]
    · simp [Chip.isPcie, down]
  have fleren : (d.chip.isFleren n && d.chip.flUp n) = false := by
    rcases down with down | down
    · refine Bool.eq_false_iff.2 fun both => ?_
      obtain ⟨fleren, up⟩ := Bool.and_eq_true_iff.1 both
      rw [d.chip.linkLive_of_flUp n fleren up] at down
      cases down
    · simp [Chip.isFleren, down]
  simp only [Dev.portPacket, pcie, fleren, Bool.false_eq_true, if_false]

/-! ### Packets that enter -/

/-- A command whose effect is one on the device, with the core domain running, reaches what that effect gives. -/
theorem reaches_of_onDev {i : Instr} {s : State} {f : Dev → Dev} {d : Dev} {P : Chip → Prop} (up : s.chip.coreUp = true)
    (run : exec i s = .next (s.onDev f)) (effect : f { mem := s.mem, chip := s.chip } = d) (h : P d.chip) : Reaches i s P := by
  rw [State.onDev_up _ _ up] at run
  refine ⟨_, run, rfl, ?_⟩
  rwa [State.always, effect]

theorem sets_of_onDev {i : Instr} {s : State} {f : Dev → Dev} {c : Chip} {ps : List Part} {more : Chip → Prop}
    (up : s.chip.coreUp = true) (run : exec i s = .next (s.onDev f)) (h : f { mem := s.mem, chip := s.chip } = { mem := s.mem, chip := c })
    (frame : s.chip.frame [] [] ps c) (m : more c) : Sets i s [] ps [] more := by
  rw [State.onDev_up _ _ up] at run
  have next : s.always f = { s with chip := c } := by rw [State.always, h]
  exact ⟨_, run, next ▸ ⟨⟨rfl, rfl, by simp, frame⟩, m⟩⟩

/-- An effect that leaves the device as it is leaves the state as it is. -/
theorem State.onDev_of_same (s : State) (f : Dev → Dev) (same : f { mem := s.mem, chip := s.chip } = { mem := s.mem, chip := s.chip }) :
    s.onDev f = s := by
  unfold State.onDev
  split
  · simp only [State.always, same]
  · rfl

/-- Settles O53: a write that passes its lookup is one copy, and step 8 writes it to the Cellar or keeps it waiting
(`Chip.takes_enqueue`); the events that count it on its way change nothing that the lookup reads (`Chip.looksAs`). A request that
stands behind another joins a queue of its engine or of its partition, and a violation does not reach the Cellar. -/
theorem packetsEnter : Obligations.PacketsEnter := by
  refine ⟨fun n p whole s up pcie live => ?_, fun n p whole rx s down => ?_,
    fun n p whole s up pcie live captures write viol capture flacon group meter admits own q part accepts seg m _ hit d pass => ?_,
    fun e w p s up write j job bus kind meter admits waits idle own accepts pass => ?_,
    fun e w p s up write own j job bus behind => ?_, fun q p s up kind held => ?_⟩
  · obtain ⟨-, flowControl, overflow⟩ := Dev.portPacket_of_live { mem := s.mem, chip := s.chip } n p whole pcie live
    exact ⟨reaches_of_onDev up rfl flowControl (s.chip.flowControl_noted n),
      reaches_of_onDev up rfl overflow (s.chip.violation_noted n 3 (by decide))⟩
  · exact congrArg Host.Outcome.next (s.onDev_of_same _ (Dev.portPacket_of_down _ n p whole rx down))
  · obtain ⟨accepted, -, -⟩ := Dev.portPacket_of_live { mem := s.mem, chip := s.chip } n p whole pcie live
    exact reaches_of_onDev up rfl accepted (Dev.pcieIn_of_memWr _ n q m p whole d
      ⟨write, flacon, group, meter, admits, part, accepts, seg, hit⟩ captures viol capture (Chip.ownless_of_all own) pass)
  · exact reaches_of_onDev up rfl rfl (Dev.enginePacket_enters { mem := s.mem, chip := s.chip } e j w _ p
      ⟨write, kind, rfl, meter, admits, accepts⟩ job bus waits idle (Chip.ownless_of_all own) pass)
  · have sent := s.chip.engineSend_of_waiting e j w p behind
    refine sets_of_onDev up rfl (Dev.enginePacket_of_write { mem := s.mem, chip := s.chip } e j w p job write bus ?_) ?_ ⟨?_, ?_⟩
    all_goals simp only [sent]
    · exact Chip.ownless_of_all own
    · exact s.chip.updEng_frame _ _
    · simp only [Chip.eng_updEng, if_true]
    · exact fun k other => by simp only [Chip.eng_updEng, if_neg (Ne.symm other)]
  · obtain ⟨c, run, frame, stalled, others⟩ := Dev.firmwarePacket_stalls { mem := s.mem, chip := s.chip } q p kind held
    exact sets_of_onDev up rfl run frame ⟨stalled, others⟩

end Sys2Proof.Machine
end

section
/-! SUPPORT. A statement of the Cellar fails for a completion that touches a parcel's cell which nothing has charged yet (R191). -/

namespace Sys2Proof.Machine

/-! ### A completion that waits and touches a parcel's cell -/

/-- A completion of the device for port 95, of one cell of its own, that touches the parcel cell 5 as well. -/
def touchingCompletion : Copy :=
  { id := 1, pid := 1, pkt := { kind := .cpl, len := 4, data := [1, 2, 3, 4] }, src := .device, part := none, dest := .port 95,
    stamp := 0, cells := 1, touch := [5], charge := .shared }

/-- It alone waits at step 8, and the shared pool has room. -/
def touchingState : State := { chip := { cel := { waiting := [touchingCompletion], sharedSize := 1000 } } }

/-- As it enters the shared pool, the parcel cell that it touches is charged there (R191). -/
theorem touchingState_charges (t : State) (run : exec .admissionRetry touchingState = .next t) :
    t.chip.cel.charged.map (·.cell) = [5] := by
  cases run
  decide +kernel

/-- Refutes O54: its second clause promises that of the Cellar only the copies, those that wait and the credits owed change, but
nothing says that the completion touches no parcel's cell, and one that does charges it to the shared pool (R191). -/
theorem not_cellarRetriesAndTicks : ¬ Obligations.CellarRetriesAndTicks := by
  intro h
  obtain ⟨-, completion, -⟩ := h
  obtain ⟨admitted, -⟩ := completion touchingState (by decide +kernel) (by decide) (by decide) (by decide) rfl touchingCompletion
    rfl rfl (by decide) rfl (by decide)
  obtain ⟨t, run, -, cellar, -⟩ := admitted (by decide +kernel) (by decide +kernel) rfl rfl (by decide) rfl rfl (by decide) rfl
  have uncharged : t.chip.cel.charged = [] := by rw [cellar]; rfl
  have charged := touchingState_charges t run
  rw [uncharged] at charged
  exact absurd charged (by decide)

end Sys2Proof.Machine
end

section
/-! SUPPORT. The statement of the Flacons fails for a squash whose completion meets an older one of its path at step 8 (R205). -/

namespace Sys2Proof.Machine

/-! ### The completion of a squash behind one that waits -/

/-- The request that Flacon 0 still owes: it came in by port 95, the upstream port of partition 3. -/
def owedRequest : FlcReq :=
  { flc := 0, newRid := 0x600, newTag := 1, origRid := 0x100, origTag := 7, tagPart := 3, backPart := 3, src := .port 95, len := 4 }

/-- An older completion of the device for port 95, of the same class. -/
def olderCompletion : Copy :=
  { id := 1, pid := 1, pkt := { kind := .cpl, rid := 0x100, tag := 6, status := .ur, hdrBytes := 12 }, src := .device, part := some 3,
    dest := .port 95, stamp := 0, cells := 1, charge := .shared, oRid := 0x100, oTag := 6 }

/-- Flacon 0 drains in mode 0x3, with the link of port 95 up; the Cellar is empty and its shared pool has room, but the older
completion still waits at step 8. -/
def drainingState : State :=
  { chip := { regs := [(⟨.GLB_MODE, 0, 0⟩, 0x9033), (⟨.GLB_FLC_A, 0, 0⟩, 0x40180300), (⟨.PRT_PORT_CFG, 95, 0⟩, 0x98060300),
                (⟨.PRT_LINK_STATUS, 95, 0⟩, 0x811C0400)]
              flcReqs := [owedRequest]
              cel := { waiting := [olderCompletion], nextId := 2, sharedSize := 1000 } } }

/-- At the limit of the drain the completion of the squash joins the older one at step 8 (R205), and no copy is in the Cellar. -/
theorem drainingState_waits (t : State) (run : exec (.drainLimitExpiry 0) drainingState = .next t) :
    t.chip.cel.copies = [] ∧ t.chip.cel.waiting.map (·.oTag) = [6, 7] := by
  cases run
  decide +kernel

/-- Refutes O34: its clause on the limit of a drain promises that the completion of the request owed is a copy in the Cellar, but
nothing says that no older completion of the device for its port and class waits at step 8, and none passes that one (R205). -/
theorem not_flaconCommandsAndEnds : ¬ Obligations.FlaconCommandsAndEnds := by
  intro h
  obtain ⟨-, -, -, -, -, -, -, limit, -⟩ := h
  obtain ⟨t, run, -, -, k, held, -⟩ := limit 0 drainingState (by decide +kernel) (by decide +kernel) (by decide +kernel) rfl (by decide)
    owedRequest (List.mem_singleton_self _) rfl rfl 95 rfl (by decide +kernel) (by decide +kernel)
  obtain ⟨empty, -⟩ := drainingState_waits t run
  exact List.not_mem_nil (empty ▸ held)

end Sys2Proof.Machine
end
